-- ==== Sys2Proof/Word.lean ====
section
/-! DEFINITION. The word types of the FY6420 and their plainest arithmetic (R1, R2). -/

namespace Sys2Proof

/-- A byte. -/
abbrev Byte := BitVec 8
/-- A host-visible register, 16 bits wide. -/
abbrev HWord := BitVec 16
/-- A Canter register or process-image word. -/
abbrev W32 := BitVec 32
/-- A Canter accumulator. -/
abbrev W64 := BitVec 64

/-- Core CC0 to CC3. -/
abbrev CoreId := Fin 4
/-- Group G0 to G7. -/
abbrev GroupId := Fin 8
/-- Channel CH00 to CH63. -/
abbrev ChanId := Fin 64
/-- Ethernet port P0 to P2. -/
abbrev PortId := Fin 3
/-- CRC context 0 to 3. -/
abbrev CtxId := Fin 4

/-- Sparse contents keyed by number: strictly rising keys, no entry equal to the default
(the default is a function given to the operations of Machine/Sparse.lean). -/
abbrev Sparse (w : Nat) := List (Nat × BitVec w)

/-- Byte memory: an unlisted address reads as `Config.memDefault`. -/
abbrev Mem := Sparse 8

/-- One bit from a Boolean. -/
abbrev bit (b : Bool) : BitVec 1 := BitVec.ofBool b

end Sys2Proof
end

