-- ==== Sys2Proof/Syntax.lean ====
section
/-! DEFINITION. The commands of the FY6420 block: one constructor of `Instr` for each row of
spec/opcode_table.json, with the operands the rules give it. -/

namespace Sys2Proof

/-- Lane roles of a group (R104). -/
inductive Role | a | b | s
  deriving DecidableEq, Repr

/-- Who makes a register access, with the authority it carries (R263, R277): an untagged or tagged
host-port frame, an acyclic Xiram message of a session, Malkait firmware, a Canter core. -/
inductive Access
  | hostUntagged
  | hostTagged (sid : Fin 16)
  | xiram (sid : Fin 16)
  | groom
  | core (c : CoreId)
  deriving DecidableEq, Repr

/-- Interfaces of messages (R282). -/
inductive Iface | eth | udp | host
  deriving DecidableEq, Repr

/-- RR format less the operation (R189): `md` is fn[10:6]. -/
structure RR where
  rd : BitVec 5
  rs1 : BitVec 5
  rs2 : BitVec 5
  md : BitVec 5
  deriving DecidableEq, Repr

/-- RI format (R189). -/
structure RI where
  rd : BitVec 5
  rs1 : BitVec 5
  imm : BitVec 16
  deriving DecidableEq, Repr

/-- M format (R189, R200). -/
structure MF where
  rt : BitVec 5
  ab : BitVec 3
  am : BitVec 2
  sz : BitVec 3
  disp : BitVec 13
  deriving DecidableEq, Repr

/-- X format (R189, R202): `lo` is bits 10:0. -/
structure XF where
  ra : BitVec 5
  rb : BitVec 5
  rc : BitVec 5
  lo : BitVec 11
  deriving DecidableEq, Repr

/-- Fields of a SYSCALL word beside its service number (R202): all must be 0. -/
structure SvcF where
  ra : BitVec 5
  rb : BitVec 5
  rc : BitVec 5
  hi : BitVec 3
  deriving DecidableEq, Repr

/-- What the environment shows at a frame tick (R32): network time `t`, the ended frame's length `dt` in ns of the
local time base, whether the tick sits on a source instant (R30), L+g in mV, mean output current of each channel in
mA (R68), die temperature of each group in 0.0001 °C (R132), which outputs are in current limit (R159), which mode-11
stages cannot drive their target (R158), and the voltage at each channel's track-and-hold in counts (R83). -/
structure TickIn where
  t : Nat
  dt : Nat
  onSource : Bool
  lplus : List HWord
  iload : List Int
  temp : List Int
  limited : BitVec 64
  compliance : BitVec 64
  sample : List Int
  deriving DecidableEq, Repr

/-- What the power-up environment shows to BOOT (R389, R390, R397): strap levels, strap resistances in ohm (none for
open), verdicts of the boot checks, the verdicts on the signatures of each program image and of the certificates stored
with the images and the manifest (R262), what each powered group reports, whether the network source is valid. -/
structure BootIn where
  bootsel : Bool
  xpMode : Bool
  claimN : Bool
  strapA : Option Nat
  strapB : Option Nat
  firmwareOk : Bool
  manifestOk : Bool
  switchOk : Bool
  farrierOk : Bool
  imageSigOk : List Bool
  imageCertOk : List Bool
  manifestCertOk : Bool
  groupBankOk : BitVec 8
  linkMinor : List (Option Nat)
  factoryBad : List (Nat × Nat)
  settingsReadable : Bool
  timeValid : Bool
  t : Nat
  deriving DecidableEq, Repr

/-- One conversion as the converter delivers it (R131): the raw code `q` of the quantity the entry senses, or, where it converts a
held value, what the converter adds to the held sample times its gain (R83); whether the sample fell within 100 µs of an excitation start (R92) or beyond the common-mode span (R87), and the time since the
role's previous sample instant in ns (R116). -/
structure ConvIn where
  q : Int
  excRecent : Bool
  commonMode : Bool
  sinceNs : Nat
  deriving DecidableEq, Repr

/-- What an IN_XFER brings (R35, R39, R177, R252): link errors, echo mismatches, dissipation reports, die
temperatures in 0.01 °C for the cold junctions (R93). -/
structure InXferIn where
  linkErr : BitVec 8
  chanMismatch : BitVec 64
  groupMismatch : BitVec 8
  power : List (Option Int)
  dieTemp : List Int
  deriving DecidableEq, Repr

/-- What a RECORD shows before the message in it (R268): SID, sequence number, the tag verdict of the GCM engine. -/
structure RecIn where
  sid : Fin 16
  seq : BitVec 64
  tagOk : Bool
  deriving DecidableEq, Repr

/-- Header of an acyclic message (R302) with its carrier and arrival time. `formatOk` stands for its layout and reserved bits,
`size` for its length in bytes; `rxFull` for an acyclic frame that arrives while 64 are held (R305). `port` is the port it arrives
on, `typ` its Ethertype or UDP destination port, `ip` its destination address and `frag` a fragmented datagram. `msg` is its MSG
field, that of the message in it for a RECORD. `inRec` is the record a message came in that R303 lists as plain. -/
structure MsgCtx where
  iface : Iface
  peer : Nat
  ver : BitVec 8
  domain : BitVec 16
  txid : BitVec 32
  formatOk : Bool
  t : Nat
  rxFull : Bool := false
  port : PortId := 0
  typ : HWord := 0x88B5
  ip : W32 := 0
  frag : Bool := false
  size : Nat := 16
  msg : HWord := 0x0001
  inRec : Option RecIn := none
  deriving DecidableEq, Repr

/-- A RECORD (R268): its message context, SID, sequence number and the tag verdict of the GCM engine. `bare` says that the
message came outside a record, without a session (R274). -/
structure RecCtx where
  msg : MsgCtx
  sid : Fin 16
  seq : BitVec 64
  tagOk : Bool
  bare : Bool := false
  deriving DecidableEq, Repr

/-- Carrier of an update message (R364, R390): a record of a session, or the mailbox in recovery. -/
inductive UpdCtx
  | session (r : RecCtx)
  | recovery (m : MsgCtx)
  deriving DecidableEq, Repr

/-- A signed command as it arrives (R275), less its signature. -/
structure SignedMsg where
  code : BitVec 16
  cmdSeq : BitVec 32
  signer : BitVec 64
  payload : List Byte
  deriving DecidableEq, Repr

/-- A host-port frame less its CMD (R308, R309): header fields, EXT, HCRC, payload area, trailer, the engine's verdict
on a session tag, the count it was made for and its session, the rising edges received, and the instant HP_CS_N rises. -/
structure HpFrame where
  addr : BitVec 16
  cnt : BitVec 6
  seq : BitVec 4
  tag : Bool
  rsv : Bool
  ext : Byte
  hcrc : Byte
  payload : List Byte
  trailer : BitVec 32
  tagOk : Bool
  tagCnt : Nat
  sid : Fin 16
  t : Nat
  deriving DecidableEq, Repr

/-- A segment of a carriage as it travels (R293): its header, `res` the four reserved bytes, then ciphertext and tag. -/
structure SegIn where
  addr : BitVec 8
  flags : BitVec 8
  len : BitVec 16
  res : BitVec 32 := 0
  seq : BitVec 64
  data : List Byte
  tag : BitVec 128
  deriving DecidableEq, Repr

/-- A carriage (R292), with the verdict on its FCS. -/
structure Carriage where
  da : BitVec 48
  sa : BitVec 48
  pcp : BitVec 3
  vid : BitVec 12
  rtag : BitVec 16
  etype : BitVec 16
  kind : Byte
  flags : BitVec 8
  domain : BitVec 16
  ring : BitVec 8
  cidx : Nat
  k : Nat
  firstPos : Nat
  frm : BitVec 48
  fcsOk : Bool
  segs : List SegIn
  deriving DecidableEq, Repr

/-- Header of a gPTP Sync (R288): domainNumber and logMessageInterval. -/
structure SyncHdr where
  dom : Nat
  logInt : Int
  deriving DecidableEq, Repr

/-- A port at a network time. -/
structure PortTime where
  p : PortId
  t : Nat
  deriving DecidableEq, Repr

/-- The current that the load of an output asks for, in mA (R159). -/
structure LoadIn where
  ch : ChanId
  ma : Nat
  deriving DecidableEq, Repr

/-- The end of a service (R212): whether a record it served had an uncorrectable word (R336), and network time. -/
structure ServiceEnd where
  ecc : Bool
  t : Nat
  deriving DecidableEq, Repr

/-- Verdicts on the signatures of an unlock response (R284): its certificate's and its own. -/
structure UnlockSigs where
  cert : Bool
  own : Bool
  deriving DecidableEq, Repr

/-- A register write (R4): the value, and the bits that a hardware event sets in the cycle of the write. -/
structure WriteIn where
  v : HWord
  same : HWord
  deriving DecidableEq, Repr

/-- A gPTP Announce message (R288): the grandmaster's priority1, clockClass, clockAccuracy, variance, priority2 and
identity, stepsRemoved, and the sending port: clock identity, then port number. -/
structure AnnIn where
  prio1 : Byte
  cls : Byte
  acc : Byte
  var : BitVec 16
  prio2 : Byte
  gmId : BitVec 64
  steps : Nat
  src : BitVec 80
  deriving DecidableEq, Repr

/-- A non-Xiram Ethernet frame (R286): addresses, IEEE 802.1Q tag if any, length in bytes, FCS verdict. -/
structure EthFrame where
  da : BitVec 48
  sa : BitVec 48
  tag : Option (BitVec 3 × BitVec 12)
  len : Nat
  fcsOk : Bool
  t : Nat
  deriving DecidableEq, Repr

/-- A completed eFlash write (R141, R236, R376): one sector of the committed-set record (`last` for its last sector),
or an NV store of a core. -/
inductive FlashJob
  | record (last : Bool)
  | nvStore (c : CoreId)
  deriving DecidableEq, Repr

/-- What a line fill ended with (R323, R324): 16 bytes, or the ready timeout. -/
inductive FillResult
  | line (bytes : List Byte)
  | timeout
  deriving DecidableEq, Repr

/-- The requester of a line fill (R323). -/
inductive FillReq
  | groom
  | core (c : CoreId)
  deriving DecidableEq, Repr

/-- One Farrier scrub or verify pass (R337, R339): corrected and uncorrectable errors, margin rewrites, factory
blocks that fail, and a core window. -/
structure ScrubIn where
  corrected : Nat
  uncorrected : Nat
  rewritten : Nat
  factoryBad : List (Nat × Nat)
  deriving DecidableEq, Repr

/-- The commands of the block, in the order of spec/opcode_table.json. -/
inductive Instr
  | powerOnReset
  | brownout
  | porstNAssert (width : Nat)
  | resetRelease (b : BootIn)
  | bootEnd (i : TickIn) (dur : Nat)
  | recoveryReset
  | sysRst (acc : Access) (v : HWord)
  | resetCommand
  | hardReset
  | frameTick (i : TickIn)
  | syncInEdge (t width : Nat) (rising : Bool)
  | holdoverEntry (t : Nat)
  | gptpSyncRx (p : PortId) (t : Nat) (offset : Int) (x : SyncHdr)
  | gptpSyncTx (x : PortTime)
  | gptpPdelay (p : PortId) (delay : Nat) (corr : Int)
  | gptpAnnounce (p : PortId) (t dom : Nat) (a : AnnIn)
  | laneStart (slot : BitVec 8)
  | entryEnd (g : GroupId) (r : Role)
  | resultWrite (g : GroupId) (r : Role) (x : ConvIn)
  | inXfer (slot : BitVec 8)
  | inXferEnd (slot : BitVec 8) (x : InXferIn)
  | cfgmmSet (g : GroupId)
  | cfgResend (g : GroupId)
  | taskRel (slot : BitVec 8)
  | taskStart (c : CoreId)
  | outXfer (slot : BitVec 8)
  | outXferEnd (slot : BitVec 8)
  | outApply (slot : BitVec 8)
  | channelApply (ch : ChanId)
  | xiSend (slot : BitVec 8)
  | xiDeadline (slot : BitVec 8)
  | bgOpen (slot : BitVec 8)
  | bgClose (slot : BitVec 8)
  | bgTaskStart (c : CoreId)
  | commitKey (acc : Access)
  | discardKey (acc : Access)
  | commitCmd (sigOk : Bool) (t : Nat)
  | commitChecks (t : Nat)
  | groupPortionAck (g : GroupId) (t : Nat)
  | commitLinkTimeout (g : GroupId)
  | commitSwitch (t : Nat)
  | eflashWriteDone (j : FlashJob)
  | modeChange (t : Nat)
  | modeSet (sigOk : Bool) (t : Nat)
  | force (sigOk : Bool) (t : Nat)
  | freeze (sigOk : Bool) (t : Nat)
  | activate (sigOk : Bool) (t : Nat)
  | keyDrop (sigOk : Bool) (t : Nat)
  | epochRaise (sigOk : Bool) (t : Nat)
  | hpTrust (sigOk : Bool) (t : Nat)
  | signed (r : RecCtx) (m : SignedMsg)
  | diRawChange (ch : ChanId) (raw : Bool) (t : Nat)
  | diFilterChange (ch : ChanId) (t : Nat)
  | freqGateEnd (ch : ChanId)
  | chCntclr (acc : Access) (ch : ChanId) (v : HWord)
  | counterClear (ch : ChanId)
  | testPulseStart (ch : ChanId) (light : Bool)
  | testPulseEnd (ch : ChanId) (ma t : Nat)
  | crossSample (ch : ChanId) (light : Bool) (before after : BitVec 64)
  | suspect (ch : ChanId)
  | stuckTestEnd (ch : ChanId) (rawStill : Bool)
  | openLoad (ch : ChanId)
  | wireBreak (ch : ChanId)
  | wireBreakClear (ch : ChanId)
  | currentLimit (x : LoadIn)
  | thermalShutdown (ch : ChanId) (inductive_ : Bool)
  | thermalRetry (ch : ChanId)
  | thermClear (ch : ChanId)
  | groupOvercurrent (g : GroupId) (ma : List Nat)
  | demagEnd (ch : ChanId)
  | aoRampdownEnd (ch : ChanId)
  | dischargeEnd (ch : ChanId)
  | queuedRequestApply (ch : ChanId)
  | sensePathOpen (ch : ChanId)
  | sensePathReclose (ch : ChanId)
  | sensePathCheck (ch : ChanId) (below : Bool)
  | scanEnd (g : GroupId)
  | scanModeExit (g : GroupId)
  | interleaveSample (g : GroupId) (j : Nat) (x : ConvIn)
  | cnvResRead (acc : Access) (g : GroupId) (r : Role) (e : Fin 16) (wide : Bool)
  | sweepEnd (g : GroupId) (corr : List W32)
  | overlapEnd (g : GroupId)
  | lpwarn (g : GroupId) (mv : HWord)
  | lpwarnEnd (g : GroupId) (mv : HWord)
  | uvoff (g : GroupId) (mv : HWord)
  | overvoltage (g : GroupId) (mv : HWord)
  | fieldUnpowered (g : GroupId)
  | supplyRestored (g : GroupId) (fbs : Option Nat) (mv : HWord)
  | heartbeat (g : GroupId)
  | holdEntry (g : GroupId)
  | holdTimeout (g : GroupId)
  | linkLoss (g : GroupId)
  | ihlileLinkUp (g : GroupId) (minor : Nat) (imageOk : Bool)
  | groupFwLoaded (g : GroupId)
  | chFltclr (acc : Access) (ch : ChanId) (v : HWord)
  | grpFltclr (acc : Access) (g : GroupId) (v : HWord)
  | faultClearApply
  | leaveGrant (slot : Fin 96)
  | leaseEnd (slot : Fin 96)
  | reinsDeny (slot : Fin 96)
  | add (c : CoreId) (f : RR)
  | addc (c : CoreId) (f : RR)
  | sub (c : CoreId) (f : RR)
  | subc (c : CoreId) (f : RR)
  | cmp (c : CoreId) (f : RR)
  | andOp (c : CoreId) (f : RR)
  | orOp (c : CoreId) (f : RR)
  | xorOp (c : CoreId) (f : RR)
  | andn (c : CoreId) (f : RR)
  | sll (c : CoreId) (f : RR)
  | srl (c : CoreId) (f : RR)
  | sra (c : CoreId) (f : RR)
  | ror (c : CoreId) (f : RR)
  | min (c : CoreId) (f : RR)
  | max (c : CoreId) (f : RR)
  | minu (c : CoreId) (f : RR)
  | maxu (c : CoreId) (f : RR)
  | abs (c : CoreId) (f : RR)
  | clz (c : CoreId) (f : RR)
  | sextb (c : CoreId) (f : RR)
  | sexth (c : CoreId) (f : RR)
  | zextb (c : CoreId) (f : RR)
  | zexth (c : CoreId) (f : RR)
  | mov (c : CoreId) (f : RR)
  | sel (c : CoreId) (f : RR)
  | mul (c : CoreId) (f : RR)
  | mulh (c : CoreId) (f : RR)
  | mulhu (c : CoreId) (f : RR)
  | div (c : CoreId) (f : RR)
  | divu (c : CoreId) (f : RR)
  | rem (c : CoreId) (f : RR)
  | remu (c : CoreId) (f : RR)
  | qadd (c : CoreId) (f : RR)
  | qsub (c : CoreId) (f : RR)
  | qneg (c : CoreId) (f : RR)
  | qabs (c : CoreId) (f : RR)
  | qmul (c : CoreId) (f : RR)
  | qadd2 (c : CoreId) (f : RR)
  | qsub2 (c : CoreId) (f : RR)
  | qmul2 (c : CoreId) (f : RR)
  | qshl (c : CoreId) (f : RR)
  | fadd (c : CoreId) (f : RR)
  | fsub (c : CoreId) (f : RR)
  | fmul (c : CoreId) (f : RR)
  | fma (c : CoreId) (f : RR)
  | fms (c : CoreId) (f : RR)
  | fneg (c : CoreId) (f : RR)
  | fabs (c : CoreId) (f : RR)
  | fcmp (c : CoreId) (f : RR)
  | itof (c : CoreId) (f : RR)
  | ftoi (c : CoreId) (f : RR)
  | mac (c : CoreId) (f : RR)
  | msu (c : CoreId) (f : RR)
  | mac2 (c : CoreId) (f : RR)
  | mclr (c : CoreId) (f : RR)
  | mtm (c : CoreId) (f : RR)
  | mfm (c : CoreId) (f : RR)
  | mfmh (c : CoreId) (f : RR)
  | mfml (c : CoreId) (f : RR)
  | jr (c : CoreId) (f : RR)
  | callr (c : CoreId) (f : RR)
  | addi (c : CoreId) (f : RI)
  | andi (c : CoreId) (f : RI)
  | ori (c : CoreId) (f : RI)
  | xori (c : CoreId) (f : RI)
  | cmpi (c : CoreId) (f : RI)
  | li (c : CoreId) (f : RI)
  | lui (c : CoreId) (f : RI)
  | slli (c : CoreId) (f : RI)
  | srli (c : CoreId) (f : RI)
  | srai (c : CoreId) (f : RI)
  | bcc (c : CoreId) (f : RI)
  | jump (c : CoreId) (off : BitVec 26)
  | call (c : CoreId) (off : BitVec 26)
  | ld (c : CoreId) (f : MF)
  | st (c : CoreId) (f : MF)
  | budget (c : CoreId)
  | pin (c : CoreId) (f : XF)
  | pout (c : CoreId) (f : XF)
  | pids (c : CoreId) (f : XF)
  | ramp (c : CoreId) (f : XF)
  | limitOp (c : CoreId) (f : XF)
  | tickwait (c : CoreId) (f : XF)
  | checkin (c : CoreId) (f : XF)
  | leave (c : CoreId) (f : XF)
  | leaveQuery (c : CoreId) (f : XF)
  | evraise (c : CoreId) (f : XF)
  | endTask (c : CoreId) (f : XF)
  | svcNop (c : CoreId) (f : SvcF)
  | svcNettime (c : CoreId) (f : SvcF)
  | svcFrmno (c : CoreId) (f : SvcF)
  | svcJournal (c : CoreId) (f : SvcF)
  | svcDevinfo (c : CoreId) (f : SvcF)
  | svcXiSend (c : CoreId) (f : SvcF)
  | svcXiRecv (c : CoreId) (f : SvcF)
  | svcLogRead (c : CoreId) (f : SvcF)
  | svcNvRead (c : CoreId) (f : SvcF)
  | svcNvWrite (c : CoreId) (f : SvcF)
  | svcUnassigned (c : CoreId) (svc : BitVec 8) (f : SvcF)
  | serviceComplete (c : CoreId) (e : ServiceEnd)
  | evtRecclr (acc : Access) (v : HWord)
  | eventMsg
  | hello (m : MsgCtx) (majors : BitVec 16) (minors : List Byte)
  | idRead (m : MsgCtx)
  | certLoad (m : MsgCtx) (cert : List Byte) (sigOk : Bool)
  | sessInit (m : MsgCtx) (body : List Byte)
  | sessFin (m : MsgCtx) (body : List Byte) (sigOk zZero : Bool)
  | sessClose (r : RecCtx)
  | handshakeTimeout (sid : Fin 16) (t : Nat)
  | sessionIdle (sid : Fin 16) (t : Nat)
  | sessionLoss
  | peerContextEnd (iface : Iface) (peer t : Nat)
  | claim (m : MsgCtx) (body : List Byte) (sigOk : Bool)
  | transfer (m : MsgCtx) (body : List Byte) (sigOk : Bool)
  | regRead (r : RecCtx) (addr count : HWord)
  | regWrite (r : RecCtx) (addr count : HWord) (vals : List HWord)
  | logRead (r : RecCtx) (buf : Byte) (count : HWord) (first : W32) (ecc : Bool)
  | eventSub (r : RecCtx) (mask : BitVec 128)
  | cyclicBind (r : RecCtx)
  | cyclicUnbind (r : RecCtx)
  | app (r : RecCtx) (core : Byte) (len : HWord) (data : List Byte)
  | arpRequest (p : PortId) (ip : W32) (mac : BitVec 48)
  | icmpEcho (p : PortId) (ip : W32) (frag : Bool) (data : List Byte)
  | ethFrameForward (p : PortId) (f : EthFrame)
  | macAgeing (mac : BitVec 48) (vid : BitVec 12) (t : Nat)
  | gateEntryEnd (p : PortId)
  | portLinkChange (p : PortId) (up spd : Bool)
  | feedRx (p : PortId) (x : Carriage)
  | trainLaunch
  | carriageRx (p : PortId) (x : Carriage) (delayed : Bool)
  | segmentVerified (g : SegIn) (dir2 : Bool) (t : Nat)
  | trainReturn (t : Nat)
  | ringOpen (p : PortId)
  | ringClose
  | hpNop (cmd : BitVec 4) (f : HpFrame)
  | hpRead (f : HpFrame)
  | hpReadFixed (f : HpFrame)
  | hpWrite (f : HpFrame)
  | hpWriteFixed (f : HpFrame)
  | hpFrameDiscard (edges : Nat) (notReady : Bool) (t : Nat)
  | hpReplyReady
  | hpLen (acc : Access) (v : HWord)
  | secMbin (acc : Access) (v : HWord)
  | mailboxSend (acc : Access) (v : HWord)
  | mailboxClear (acc : Access) (v : HWord)
  | mailboxReply
  | mailboxOutRead (acc : Access)
  | xpStart (acc : Access) (v : HWord)
  | xpReadyResume
  | xpReadyTimeout (rx : List Bool)
  | xpTransferDone (rx : List Bool)
  | xipLineFill (q : FillReq) (addr : W32)
  | xipFillDone (res : FillResult)
  | crcCfg (acc : Access) (x : CtxId) (v : HWord)
  | crcDin8 (acc : Access) (x : CtxId) (v : HWord)
  | crcDin16 (acc : Access) (x : CtxId) (v : HWord)
  | crcRunSave (acc : Access) (x : CtxId)
  | crcRunRestore (acc : Access) (x : CtxId) (v : HWord)
  | frameRecord
  | waveBlockWrite (g : GroupId)
  | logWfarm (acc : Access) (v : HWord)
  | waveCaptureStop
  | telemetryRecord (t : Nat) (temps : List Int) (sups : List HWord)
  | tempWarn (die : Fin 10) (passed : Bool)
  | supplyWarn (sup : Fin 4) (out_ : Bool)
  | sramScrubDone (x : ScrubIn)
  | logbookScrubDone (x : ScrubIn)
  | eflashVerifyDone (x : ScrubIn)
  | backgroundStarved (code : Fin 6)
  | frzSnap (acc : Access) (v : HWord)
  | snapshotWrite
  | wdtServe (acc : Access) (v : HWord) (cyc : Nat)
  | watchdogExpiry
  | tallyPeriodEnd
  | freezeNRequest
  | jtagFreeze
  | freezeStop (t : Nat)
  | frzRead (n : Nat)
  | jtagIdcode
  | jtagUnlockChal
  | jtagUnlockResp (resp : List Byte) (x : UnlockSigs)
  | jtagUnlockStat
  | updateBegin (r : RecCtx)
  | manifest (u : UpdCtx) (body : List Byte) (osigOk msigOk : Bool)
  | chunk (u : UpdCtx) (entry : Byte) (len : HWord) (offset : W32) (data : List Byte)
  | chunkWritten (hashOk imgSigOk : Bool)
  | groupImageAck (g : GroupId) (ok : Bool)
  | groupImageTimeout (g : GroupId)
  | updateAbort (r : RecCtx)
  | updateStatus (u : UpdCtx)
  | updateLockTimeout (t : Nat)
  | activateMarker
  | trialChecks
  | healthConfirm (r : RecCtx)
  | updHealth (acc : Access) (v : HWord)
  | confirmation
  | updateRevert (r : RecCtx)
  | updRevert (acc : Access) (v : HWord)
  | trialTimeout (t : Nat)
  | revertMarker
  | calUserReset (acc : Access) (v : HWord)
  | calDataWrite (acc : Access) (v : HWord)
  | registerWrite (acc : Access) (addr : HWord) (w : WriteIn)
  | inrushWindowEnd (ch : ChanId)
  | pwmTransition (ch : ChanId)
  | ovc (g : GroupId) (above : Bool)
  | readWithSnapshot (acc : Access) (addr : HWord)
  deriving DecidableEq, Repr

end Sys2Proof
end

