-- ==== Sys2Proof/Decode.lean ====
section
/-! DEFINITION. The words the table spells: spec/opcode_table.json gives bits to no row, so no word of it spells a command. The
words of a Canter core's program, which chapter 08 encodes, spell the commands of that core (R189, R192 to R199, R202). -/

namespace Sys2Proof

/-- The command a word of the table's bits spells: none, because no row of the table has bits. -/
def decodeTableWord (_nbits _w : Nat) : Option Instr := none

/-! ### Fields (R189, R202) -/

/-- Bits 31:26. -/
def majorOf (w : BitVec 32) : Nat := (w.extractLsb' 26 6).toNat
/-- RR format. -/
def rrOf (w : BitVec 32) : RR :=
  { rd := w.extractLsb' 21 5, rs1 := w.extractLsb' 16 5, rs2 := w.extractLsb' 11 5, md := w.extractLsb' 6 5 }
/-- RI format. -/
def riOf (w : BitVec 32) : RI := { rd := w.extractLsb' 21 5, rs1 := w.extractLsb' 16 5, imm := w.extractLsb' 0 16 }
/-- M format. -/
def mfOf (w : BitVec 32) : MF :=
  { rt := w.extractLsb' 21 5, ab := w.extractLsb' 18 3, am := w.extractLsb' 16 2, sz := w.extractLsb' 13 3
    disp := w.extractLsb' 0 13 }
/-- X format. -/
def xfOf (w : BitVec 32) : XF :=
  { ra := w.extractLsb' 21 5, rb := w.extractLsb' 16 5, rc := w.extractLsb' 11 5, lo := w.extractLsb' 0 11 }
/-- The fields of a SYSCALL word beside its service number. -/
def svcOf (w : BitVec 32) : SvcF :=
  { ra := w.extractLsb' 21 5, rb := w.extractLsb' 16 5, rc := w.extractLsb' 11 5, hi := w.extractLsb' 8 3 }

/-! ### Operations of the RR groups, by fn[5:0] -/

/-- Major 0x00 (R193). -/
def aluOps : List (Nat × (CoreId → RR → Instr)) :=
  [(0x01, .add), (0x02, .addc), (0x03, .sub), (0x04, .subc), (0x05, .cmp), (0x06, .andOp), (0x07, .orOp), (0x08, .xorOp),
   (0x09, .andn), (0x0A, .sll), (0x0B, .srl), (0x0C, .sra), (0x0D, .ror), (0x0E, .min), (0x0F, .max), (0x10, .minu),
   (0x11, .maxu), (0x12, .abs), (0x13, .clz), (0x14, .sextb), (0x15, .sexth), (0x16, .zextb), (0x17, .zexth), (0x18, .mov),
   (0x19, .sel)]
/-- Major 0x01 (R194). -/
def mulOps : List (Nat × (CoreId → RR → Instr)) :=
  [(0x01, .mul), (0x02, .mulh), (0x03, .mulhu), (0x04, .div), (0x05, .divu), (0x06, .rem), (0x07, .remu)]
/-- Major 0x02 (R195). -/
def qOps : List (Nat × (CoreId → RR → Instr)) :=
  [(0x01, .qadd), (0x02, .qsub), (0x03, .qneg), (0x04, .qabs), (0x05, .qmul), (0x06, .qadd2), (0x07, .qsub2), (0x08, .qmul2),
   (0x09, .qshl)]
/-- Major 0x03 (R196). -/
def fpOps : List (Nat × (CoreId → RR → Instr)) :=
  [(0x01, .fadd), (0x02, .fsub), (0x03, .fmul), (0x04, .fma), (0x05, .fms), (0x06, .fneg), (0x07, .fabs), (0x08, .fcmp),
   (0x09, .itof), (0x0A, .ftoi)]
/-- Major 0x04 (R197). -/
def macOps : List (Nat × (CoreId → RR → Instr)) :=
  [(0x01, .mac), (0x02, .msu), (0x03, .mac2), (0x04, .mclr), (0x05, .mtm), (0x06, .mfm), (0x07, .mfmh), (0x08, .mfml)]
/-- Major 0x05 (R199). -/
def jumpOps : List (Nat × (CoreId → RR → Instr)) := [(0x01, .jr), (0x02, .callr)]
/-- The RR groups by major opcode (R192). -/
def rrGroups : List (Nat × List (Nat × (CoreId → RR → Instr))) :=
  [(0x00, aluOps), (0x01, mulOps), (0x02, qOps), (0x03, fpOps), (0x04, macOps), (0x05, jumpOps)]

/-! ### The other formats, by major opcode (R192, R198, R202) -/

/-- RI format (R198). -/
def riOps : List (Nat × (CoreId → RI → Instr)) :=
  [(0x08, .addi), (0x09, .andi), (0x0A, .ori), (0x0B, .xori), (0x0C, .cmpi), (0x0D, .li), (0x0E, .lui), (0x0F, .slli),
   (0x10, .srli), (0x11, .srai), (0x12, .bcc)]
/-- J format (R198). -/
def jOps : List (Nat × (CoreId → BitVec 26 → Instr)) := [(0x18, .jump), (0x19, .call)]
/-- M format (R200). -/
def mOps : List (Nat × (CoreId → MF → Instr)) := [(0x20, .ld), (0x21, .st)]
/-- X format but for SYSCALL (R202); LEAVE with OPT[0] at 1 is a query (R210). -/
def xOps (f : XF) : List (Nat × (CoreId → XF → Instr)) :=
  [(0x30, .pin), (0x31, .pout), (0x32, .pids), (0x33, .ramp), (0x34, .limitOp), (0x35, .tickwait), (0x36, .checkin),
   (0x37, if f.lo.getLsbD 0 then .leaveQuery else .leave), (0x38, .evraise), (0x3A, .endTask)]
/-- Services by number (R236). -/
def svcOps : List (Nat × (CoreId → SvcF → Instr)) :=
  [(0x00, .svcNop), (0x01, .svcNettime), (0x02, .svcFrmno), (0x03, .svcJournal), (0x04, .svcDevinfo), (0x10, .svcXiSend),
   (0x11, .svcXiRecv), (0x12, .svcLogRead), (0x13, .svcNvRead), (0x14, .svcNvWrite)]

/-- SYSCALL, major 0x39: its service in bits 7:0 (R202). -/
def decodeSvc (c : CoreId) (w : BitVec 32) : Instr :=
  match svcOps.lookup (w.setWidth 8).toNat with
  | some g => g c (svcOf w)
  | none => .svcUnassigned c (w.setWidth 8) (svcOf w)

/-- The command a word of a core's program spells (R189, R192): none for an unassigned major opcode or operation (R190). A field
that is illegal in its instruction is left to that instruction, which raises ILLEGAL for it. -/
def decodeCanter (c : CoreId) (w : BitVec 32) : Option Instr :=
  let m := majorOf w
  if m < 0x08 then (rrGroups.lookup m).bind fun l => (l.lookup (w.setWidth 6).toNat).map fun g => g c (rrOf w)
  else if m < 0x18 then (riOps.lookup m).map fun g => g c (riOf w)
  else if m < 0x20 then (jOps.lookup m).map fun g => g c (w.setWidth 26)
  else if m < 0x30 then (mOps.lookup m).map fun g => g c (mfOf w)
  else if m = 0x39 then some (decodeSvc c w)
  else ((xOps (xfOf w)).lookup m).map fun g => g c (xfOf w)

end Sys2Proof
end

