-- ==== Sys2Proof/Machine/Flags.lean ====
section
/-! DEFINITION. The flags of a Canter core (R182): Z, N, C, V, S in bits 0 to 4 of st, and every flag computation. -/

namespace Sys2Proof.Machine

/-- The five flags. -/
abbrev Flags := BitVec 5

/-- The flags as a word, from Z, N, C, V, S. -/
def mkFlags (z n c v s : Bool) : Flags := bit s ++ bit v ++ bit c ++ bit n ++ bit z
/-- The flags one by one. -/
def flZ (f : Flags) : Bool := f.getLsbD 0
def flN (f : Flags) : Bool := f.getLsbD 1
def flC (f : Flags) : Bool := f.getLsbD 2
def flV (f : Flags) : Bool := f.getLsbD 3
def flS (f : Flags) : Bool := f.getLsbD 4

/-- Z and N from a result; C, V and S unchanged (R193). -/
def flagsZN (f : Flags) (r : W32) : Flags := mkFlags (r = 0) r.msb (flC f) (flV f) (flS f)
/-- Z, N, C and V; S unchanged (R182). -/
def flagsZNCV (f : Flags) (r : W32) (c v : Bool) : Flags := mkFlags (r = 0) r.msb c v (flS f)
/-- S set where `b`; S is never cleared (R182). -/
def flagsS (f : Flags) (b : Bool) : Flags := mkFlags (flZ f) (flN f) (flC f) (flV f) (flS f || b)
/-- Z alone. -/
def flagsZ (f : Flags) (z : Bool) : Flags := mkFlags z (flN f) (flC f) (flV f) (flS f)
/-- Z, N and C (R206, R207). -/
def flagsZNC (f : Flags) (r : W32) (c : Bool) : Flags := mkFlags (r = 0) r.msb c (flV f) (flS f)

/-- Sum with carry in: the result, the carry out of bit 31 and the signed overflow (R182). -/
def addC (x y : W32) (c : Bool) : W32 × Bool × Bool :=
  let n := x.toNat + y.toNat + c.toNat
  let i := x.toInt + y.toInt + c.toNat
  let r := BitVec.ofNat 32 n
  (r, decide (2 ^ 32 ≤ n), decide (r.toInt ≠ i))
/-- Difference with borrow in `b`: the result, C = no borrow, and the signed overflow (R182). -/
def subB (x y : W32) (b : Bool) : W32 × Bool × Bool :=
  let i := x.toInt - y.toInt - b.toNat
  let r := BitVec.ofInt 32 i
  (r, decide (y.toNat + b.toNat ≤ x.toNat), decide (r.toInt ≠ i))

/-- The conditions of Bcc and SEL (R191); code 0xF is SS. -/
def condHolds (f : Flags) (cc : BitVec 4) : Bool :=
  match cc.toNat with
  | 0 => flZ f
  | 1 => !flZ f
  | 2 => flN f != flV f
  | 3 => flN f == flV f
  | 4 => !flC f
  | 5 => flC f
  | 6 => flN f
  | 7 => !flN f
  | 8 => flV f
  | 9 => !flV f
  | 10 => !flZ f && flN f == flV f
  | 11 => flZ f || flN f != flV f
  | 12 => flC f && !flZ f
  | 13 => !flC f || flZ f
  | 14 => true
  | _ => flS f

/-- Clamp to the signed range of `w` bits, and whether that changed the value. -/
def satI (w : Nat) (x : Int) : Int × Bool :=
  let lo : Int := -(2 ^ (w - 1))
  let hi : Int := 2 ^ (w - 1) - 1
  if x < lo then (lo, true) else if hi < x then (hi, true) else (x, false)

/-- Clamp to 32 bits. -/
def sat32 (x : Int) : W32 × Bool := (BitVec.ofInt 32 (satI 32 x).1, (satI 32 x).2)
/-- Clamp to 64 bits. -/
def sat64 (x : Int) : W64 × Bool := (BitVec.ofInt 64 (satI 64 x).1, (satI 64 x).2)
/-- Clamp to 16 bits. -/
def sat16 (x : Int) : BitVec 16 × Bool := (BitVec.ofInt 16 (satI 16 x).1, (satI 16 x).2)

end Sys2Proof.Machine
end

