-- ==== Sys2Proof/Config.lean ====
section
/-! DEFINITION. What one device fixes and what the spec leaves open (free values): opaque constants, so that no proof
can see a value of them. Each is named in the assumption log. -/

namespace Sys2Proof

/-- SHA-512 of a byte string (R224, R256, R265): the hash engine's function, not computed here (log entry 10). -/
opaque Config.sha512 : List Byte → BitVec 512

/-- Ed25519 signature by the device identity key over a digest (R265; log entry 10). -/
opaque Config.signIdentity : BitVec 512 → BitVec 512

/-- The n-th random value the device draws (R265 EPK_D and NONCE_D, R284 challenge): a free value (log entry 5). -/
opaque Config.random : Nat → BitVec 256

/-- IEC 60584-1 EMF, in counts of 20 nV, of a thermocouple type at a temperature in 0.01 °C (R94; log entry 11). -/
opaque Config.thermocoupleEmf : BitVec 3 → Int → Int

/-- IEC 60751 temperature in 0.01 °C of a platinum resistor of 100 Ω or 1,000 Ω at a resistance in mΩ (R93; log
entry 11). -/
opaque Config.rtdTemperature : Bool → Int → Int

/-- The IDCODE the TAP returns (R354): no value is given (log entry 13). -/
opaque Config.idcode : W32

/-- The serial number in the device certificate (R256; log entry 13). -/
opaque Config.serialNumber : W32

/-- Key identifier of the Malkait device authority, SIGNER of the device certificate (R256; log entry 13). -/
opaque Config.authorityId : BitVec 64

/-- The Ed25519 signature of the Malkait device authority over a digest (R256, R261; log entry 13). -/
opaque Config.signAuthority : BitVec 512 → BitVec 512

/-- The gPTP clock identity of the device (R288; log entry 62). -/
opaque Config.clockId : BitVec 64

/-- clockAccuracy of the device as a grandmaster (R288; log entry 62). -/
opaque Config.clockAccuracy : Byte

/-- offsetScaledLogVariance of the device as a grandmaster (R288; log entry 62). -/
opaque Config.clockVariance : BitVec 16

/-- priority2 of the device as a grandmaster (R288; log entry 62). -/
opaque Config.priority2 : Byte

/-- The X25519 public key of a private key (R265; log entry 10). -/
opaque Config.x25519Public : BitVec 256 → BitVec 256

/-- The X25519 shared secret of a private key and a peer's public key (R266; log entry 10). -/
opaque Config.x25519 : BitVec 256 → BitVec 256 → BitVec 256

/-- HKDF-Extract with SHA-256 of a salt and input keying material (R266; log entry 10). -/
opaque Config.hkdfExtract : List Byte → List Byte → BitVec 256

/-- Byte i of HKDF-Expand with SHA-256 of a pseudorandom key and an info string (R266; log entry 10). -/
opaque Config.hkdfExpand : BitVec 256 → List Byte → Nat → Byte

/-- Byte i of the AES-256-GCM key stream of a key and a nonce: ciphertext is plaintext XOR key stream (R268; log entry 10). -/
opaque Config.gcmStream : List Byte → List Byte → Nat → Byte

/-- The AES-256-GCM tag of a key, a nonce, additional data and a ciphertext (R268, R273, R279; log entry 10). -/
opaque Config.gcmTag : List Byte → List Byte → List Byte → List Byte → BitVec 128

/-- Whether a quotient that lies exactly between two units is rounded up: the spec says only "rounded to the nearest
unit" (R64, R65; log entry 21). -/
opaque Config.tieUp : Nat → Nat → Bool

/-- Whether the load of a channel carries 1 mA or more from a turn-on until the next tick measures it: the spec gives no rule
for it (R73, R179; log entry 61). Free per channel and turn-on. -/
opaque Config.loadCarries : Nat → Nat → Bool

/-- What an unlisted byte of any memory reads as (log entry 2). -/
def Config.memDefault (_ : Nat) : Byte := 0

/-- A value of a service result register the spec does not state (log entry 14): free per draw. -/
opaque Config.freeWord : Nat → W32

end Sys2Proof
end

