-- ==== Sys2Proof/Machine/Sparse.lean ====
section
/-! DEFINITION. Sparse contents: strictly rising keys, no entry equal to what an unlisted key reads as. -/

namespace Sys2Proof.Machine

/-- Read key `k`; an unlisted key reads as `d k`. -/
def spGet {w : Nat} (d : Nat → BitVec w) : Sparse w → Nat → BitVec w
  | [], k => d k
  | (a, v) :: t, k => if a = k then v else spGet d t k

/-- Remove key `k`. -/
def spDel {w : Nat} : Sparse w → Nat → Sparse w
  | [], _ => []
  | (a, v) :: t, k => if a = k then t else (a, v) :: spDel t k

/-- Insert or replace key `k`, keeping the keys rising. -/
def spIns {w : Nat} : Sparse w → Nat → BitVec w → Sparse w
  | [], k, x => [(k, x)]
  | (a, v) :: t, k, x =>
    if k < a then (k, x) :: (a, v) :: t else if a = k then (k, x) :: t else (a, v) :: spIns t k x

/-- Write `x` at key `k`: writing the default removes the entry. -/
def spPut {w : Nat} (d : Nat → BitVec w) (m : Sparse w) (k : Nat) (x : BitVec w) : Sparse w :=
  if x = d k then spDel m k else spIns m k x

/-- Keys rise strictly above `lo` and no entry equals its default. -/
def spWfFrom {w : Nat} (d : Nat → BitVec w) : Nat → Sparse w → Bool
  | _, [] => true
  | lo, (a, v) :: t => decide (lo ≤ a) && decide (v ≠ d a) && spWfFrom d (a + 1) t

/-- The canonical form. -/
def spWf {w : Nat} (d : Nat → BitVec w) (m : Sparse w) : Bool := spWfFrom d 0 m

end Sys2Proof.Machine
end

