-- ==== Sys2Proof/Machine/State.lean ====
section
/-! DEFINITION. The state of the FY6420 block: every register, buffer, counter, mode and pin state the spec gives it,
as plain data, the queue of waiting commands, and the state after reset. -/

namespace Sys2Proof.Machine

/-- Reasons the machine stops. -/
inductive Fault
  /-- PORST_N held low between 100 ns and 1 µs (R385: "the outcome is not defined"). Raised by PORST_N_ASSERT. Safe: the
  model stops where the hardware does something the spec does not say. -/
  | undefinedPulse
  deriving DecidableEq, Repr

/-- Reasons the model gives a command no meaning. -/
inductive Refusal
  /-- A command whose meaning is not written. Raised only by refused arms of `exec`. Safe: nothing is claimed. -/
  | notModelled (mnemonic : String)
  deriving DecidableEq, Repr

/-- Operating modes (R25); OFF is not a value of SYS_MODE. -/
inductive Mode | off | boot | commission | run | degraded | safe | frozen | trial
  deriving DecidableEq, Repr

/-- A configuration set: every CM value (R6), keyed by address, and the tables reached through an index register:
Gait slots (R33, R34), gate-control entries keyed 64·port + entry (R290), CAL tables 3 and 4 (R137). -/
structure CfgSet where
  regs : Sparse 16
  gaitOfs : Sparse 16
  gaitAct : Sparse 16
  gclGate : Sparse 16
  gclInt : Sparse 32
  trim : Sparse 32
  ulin : Sparse 32
  deriving DecidableEq, Repr

/-- The staged set, the active set, and the committed set stored in eFlash with its record (R8, R141). `writing` is the
set whose record is being written, `wrote` its sectors written so far, and `leave` says that the next sector has its leave. -/
structure Cfg where
  active : CfgSet
  staged : CfgSet
  committed : Option CfgSet
  writing : Option CfgSet
  wrote : Nat
  leave : Bool
  deriving DecidableEq, Repr

/-- SYS block: mode, stopped cores, reset cause, straps, boot outcome (R25, R217, R386, R389, R397). -/
structure Sys where
  mode : Mode
  prevMode : Mode
  degMask : BitVec 8
  modeReq : Option Mode
  safeReq : Bool
  stopped : BitVec 4
  stopReq : BitVec 4
  hist : BitVec 7
  cause : BitVec 4
  strapBad : Bool
  bootsel : Bool
  xpMode : Bool
  claimN : Bool
  addr : BitVec 6
  recov : Bool
  swFail : Bool
  farFail : Bool
  imgFail : Bool
  grpFail : BitVec 8
  bootTime : HWord
  bootReady : Bool
  rstReq : Bool
  hrtRun : Bool
  deriving DecidableEq, Repr

/-- A signed command (R276). `gone` says that a raise of the epoch removed its key. -/
structure QCmd where
  sid : Fin 16
  iface : Iface
  peer : Nat
  txid : BitVec 32
  m : SignedMsg
  gone : Bool
  deriving DecidableEq, Repr

/-- What waits for the Ed25519 engine (R276): a signed command, or a certificate with the verdict on its signature. -/
inductive QItem
  | cmd (q : QCmd)
  | cert (m : MsgCtx) (cert : List Byte) (sigOk : Bool)
  deriving DecidableEq, Repr

/-- Stage of a COMMIT (stages 2 to 6 of "From staging to the switch tick"). -/
inductive CmtPhase | idle | requested | portions | accepted
  deriving DecidableEq, Repr

/-- COMMIT state (R19 to R22) with the report registers of its checks (R45, R245, R301). `frames` counts the frames since
the first transfer of each group's portion (R20); `answer` is the signed command that waits for its response (R276). -/
structure Commit where
  phase : CmtPhase
  badKey : Bool
  src : BitVec 2
  cause : Byte
  frm : BitVec 48
  acked : BitVec 8
  frames : Vector (Option Nat) 8
  acceptT : Nat
  answer : Option QCmd
  gaitErr0 : HWord
  gaitErr1 : HWord
  chkErr : HWord
  fitErr : HWord
  deriving DecidableEq, Repr

/-- Tick generator, frame numbers and overruns (R28 to R32, R46 to R48). `inNo` is FRM_NO of the tick whose inputs the
latest IN_XFER placed (R294); `validT` is the instant of the source's latest valid time information (R30). `xiHeld` says
that the inbound segment's words were kept at the latest XI_DEADLINE (R38), and `edgeFrom` is the tick of a switch after which
the first SYNC_IN edge is still awaited (R49). -/
structure Frm where
  no : BitVec 48
  prev : BitVec 48
  tickT : Nat
  syncErr : Bool
  slew : Bool
  holdover : Bool
  srcAct : BitVec 2
  run : Byte
  ovrCnt : HWord
  ovrInfo : HWord
  overrun : Bool
  ovrXfer : Bool
  linkEv : Bool
  lastEdgeT : Option Nat
  validT : Nat
  bgOpen : Bool
  xiLate : Bool
  xiHeld : Bool
  edgeFrom : Option Nat
  srcValid : Bool
  inNo : BitVec 48
  deriving DecidableEq, Repr

/-- What a Canter core is doing (R213, R217, R218, R228). -/
inductive Run
  | idle
  | fg (task : BitVec 4) (slot : BitVec 8)
  | bg (task : BitVec 4)
  | nmi
  | halted
  deriving DecidableEq, Repr

/-- A suspended background task's registers (R184). -/
structure BgCtx where
  task : BitVec 4
  d : Vector W32 16
  a : Vector W32 8
  m : Vector W64 4
  st : BitVec 5
  pc : W32
  deriving DecidableEq, Repr

/-- A Groom core service in progress (R212, R236). -/
structure SvcWait where
  num : Byte
  d0 : W32
  d1 : W32
  d2 : W32
  d3 : W32
  granted : Bool
  denied : Bool
  written : Bool
  deriving DecidableEq, Repr

/-- A Canter core: registers (R180), scoreboard (R185), dispatch (R41), exception record (R216), its event copy
(R239), its check-in and release counts (R345), its message queue (R306), its line buffer (R323), its memories (R187) and
its persistent store (R236). Scoreboard times are cycles since the latest tick. -/
structure Core where
  d : Vector W32 16
  a : Vector W32 8
  m : Vector W64 4
  st : BitVec 5
  pc : W32
  run : Run
  queue : List (BitVec 4 × BitVec 8)
  freeAt : Nat
  ready : Vector Nat 32
  readyFl : Nat
  macReady : Vector Nat 4
  macFl : Nat
  startAt : Nat
  tw : Bool
  susp : Option BgCtx
  svc : Option SvcWait
  nmiSeen : Bool
  cause : BitVec 4
  xtask : BitVec 4
  xbg : Bool
  bus : BitVec 4
  xpc : W32
  xaddr : W32
  xfrm : HWord
  cnt : HWord
  dlv : BitVec 128
  bgReady : BitVec 16
  bgAgain : BitVec 16
  checkins : Vector Nat 16
  releases : Vector Nat 16
  bgMon : Bool
  inbox : List (List Byte)
  lineBuf : Option (W32 × List Byte)
  imem : Mem
  dmem : Mem
  nv : Mem
  nvNext : Option Mem
  deriving DecidableEq, Repr

/-- A task of a loaded image (R222). -/
structure Task where
  core : CoreId
  index : BitVec 4
  bg : Bool
  k : Nat
  phase : Nat
  slot : BitVec 8
  bgpri : Nat
  entry : W32
  stack : W32
  budget : Nat
  tally : Nat
  start : Option (Fin 128)
  deriving DecidableEq, Repr

/-- Loaded images (R225): tasks, NMI entries, served cores, SYS_IMG_STAT. -/
structure Img where
  tasks : List Task
  nmi : Vector W32 4
  loaded : BitVec 4
  statIndex : Byte
  statCause : BitVec 4
  deriving DecidableEq, Repr

/-- One reading in an averaging window (R117): the corrected value, the sign of its over-range if any, RCV. -/
structure Reading where
  val : Int
  ovr : Option Bool
  rcv : Bool
  deriving DecidableEq, Repr

/-- A lane role's run state, results and status (R104 to R118). `t` is the time at which its next entry starts. -/
structure Lane where
  running : Bool
  entry : Nat
  t : Nat
  done : BitVec 16
  beyond : Bool
  res : Vector W32 16
  new : BitVec 16
  lost : BitVec 16
  ovr : BitVec 16
  rcv : BitVec 16
  win : Vector (List Reading) 16
  stage1 : Vector Int 16
  code : Vector (BitVec 24) 16
  deriving DecidableEq, Repr

/-- Rotation state of a group's calibration (R143 to R151). `onTarget` counts the restarts since the target was
chosen; `sweepT` is the grant tick of the sweep. -/
structure Rot where
  step : BitVec 3
  target : BitVec 2
  restarts : Byte
  onTarget : Nat
  sweepT : Nat
  frames : Nat
  rotCnt : HWord
  misCnt : HWord
  rms : HWord
  sumSq : Nat
  pairs : Nat
  fails : Nat
  other : Bool
  restart : Bool
  deriving DecidableEq, Repr

/-- Field supply states of GRP_SUPPLY (R166). -/
inductive Supply | unpowered | startup | normal | uvoff | overvoltage | recovery | selfFailed
  deriving DecidableEq, Repr

/-- Input words of a group on their way to the core die (R35). -/
structure Tx where
  words : Vector W32 8
  recs : Vector (Vector (BitVec 64) 4) 8
  deriving DecidableEq, Repr

/-- A group die: its portion of the active set, lanes, supply, HOLD, echo, transfers (R104 to R128, R166 to R177). -/
structure Grp where
  portion : CfgSet
  portionNext : Option CfgSet
  resend : Bool
  mmFrames : Nat
  grpMm : Bool
  cfgmm : Bool
  conv : Vector (BitVec 2) 3
  shadow : BitVec 2
  lanes : Vector Lane 3
  scan : Bool
  selfChk : Bool
  scanFail : Bool
  scanOk : Bool
  scans : Nat
  exitReq : Bool
  ilv : Bool
  trackShort : Bool
  rot : Rot
  supply : Supply
  lpwarn : Bool
  lplus : HWord
  strapBad : Bool
  fbs : BitVec 3
  hold : Bool
  holdDone : Bool
  hbRun : Nat
  hbFrm : Option (BitVec 48)
  heard : Bool
  holdSeen : Bool
  selfFail : Bool
  link : Bool
  restWait : Bool
  ovc : Bool
  rstRec : Bool
  temp : Int
  tx : Option Tx
  xfer : Option (BitVec 8)
  xferNew : Bool
  bankOk : Bool
  imgAck : Bool
  fltClr : Bool
  deriving DecidableEq, Repr

/-- A request queued behind a running shutdown (R179); `enter` says that the switch changes the channel's mode. -/
inductive QReq
  | value (w : W32)
  | safe
  | switch (enter : Bool)
  deriving DecidableEq, Repr

/-- Digital input side of a channel (R55 to R66). -/
structure ChDi where
  raw : Bool
  tRaw : Nat
  tPh : Nat
  state : Bool
  fcnt : Nat
  count : W32
  wrap : Bool
  clrReq : Bool
  edges : List (BitVec 64)
  nEdges : Nat
  lastEdge : Option Nat
  period : Option Nat
  gateOn : Bool
  gateFirst : Option Nat
  gateLast : Nat
  gateM : Nat
  freq : Option Nat
  value : BitVec 23
  valOk : Bool
  valOvr : Bool
  snapState : Bool
  snapRaw : Bool
  snapEdges : Byte
  snapRecs : Vector (BitVec 64) 4
  deriving DecidableEq, Repr

/-- Output side of a channel at its group die (R67 to R79, R96 to R103). Applied values are output words: `applied` is in force,
`want` was applied last by an apply instant or a safe value, `last` by an apply instant since the channel entered its mode
(R171). `qual` is the quality as of the latest apply instant (R67), `dac` the DAC code (R98, R133), `carry` says that the load
carries 1 mA or more (R73), `onNew` that the output was turned on in the running frame, `turns` counts turn-ons, and `armT` is
the apply instant of an armed channel (R50). -/
structure ChDo where
  xfer : W32
  next : Option W32
  applied : W32
  started : Bool
  held : Bool
  clamped : Bool
  subst : Bool
  off : Bool
  stageOn : Bool
  leave : Bool
  granted : Bool
  ramp : Bool
  inrush : Bool
  pwmHigh : Bool
  pwmLow : Nat
  pulse : Option Bool
  pulseT : Nat
  accepted : Bool
  keep : Bool
  armed : Option Bool
  armT : Nat
  force : Option W32
  iload : Int
  want : W32
  last : Option W32
  qual : Byte
  dac : Int
  carry : Bool
  onNew : Bool
  turns : Nat
  deriving DecidableEq, Repr

/-- Faults and shutdowns of a channel (R152 to R165, R179). `darkWait` marks the positions in the group whose dark pulse a
suspect channel still waits for (R162). -/
structure ChFlt where
  cfgmm : Bool
  cross : Bool
  stuck : Bool
  therm : Bool
  limit : Bool
  opn : Bool
  suspect : Bool
  darkWait : BitVec 8
  unsafe_ : Bool
  seen : Byte
  clrReq : Bool
  crossSeen : Bool
  tripped : Bool
  busy : BitVec 2
  queued : Option QReq
  mm : Bool
  mmFrames : Nat
  wbOpen : Bool
  deriving DecidableEq, Repr

/-- Analog input side of a channel (R83, R86, R89 to R95, R103, R111). `shown` says that the word has taken a result since the
channel entered its mode and range, `sample` is the voltage its track-and-hold holds, in counts, `trackFrom` the instant from
which it tracks again, and `heldEnd` says that an entry of the running frame that converts it has ended. -/
structure ChAi where
  has : Bool
  fresh : Bool
  settle : Bool
  val : BitVec 24
  ovr : Bool
  rcv : Bool
  cal : Bool
  exc : Bool
  excLeave : Bool
  senseOpen : Bool
  senseTrial : Bool
  ovldev : Bool
  short : Bool
  cjfb : Bool
  cjt : HWord
  shown : Bool
  sample : Int
  trackFrom : Nat
  heldEnd : Bool
  deriving DecidableEq, Repr

/-- A channel. -/
structure Chan where
  di : ChDi
  out : ChDo
  flt : ChFlt
  ai : ChAi
  deriving DecidableEq, Repr

/-- The process image (R230, R235). `last` holds each input word as its group die last formed it: what a kept word keeps
(R39, R86, R168). -/
structure Pimg where
  inw : Vector W32 64
  last : Vector W32 64
  outw : Vector W32 64
  stat : Vector W32 64
  sys : Vector W32 4
  recs : Vector (Vector (BitVec 64) 4) 64
  deriving DecidableEq, Repr

/-- A snapshot: the register that captured it, the selection it was taken under, its words, its status bits. -/
structure Snap where
  base : Nat
  key : Nat
  words : List HWord
  stat : BitVec 4
  deriving DecidableEq, Repr

/-- A reader's own index registers and snapshot buffer (R431). -/
structure Rdr where
  gaitIdx : HWord
  calSel : HWord
  calIdx : HWord
  calLo : HWord
  calMiss : Bool
  evtSel : HWord
  xpBufIdx : HWord
  gclIdx : HWord
  cnvMiss : Bool
  snap : Option Snap
  deriving DecidableEq, Repr

/-- One event's record (R238). -/
structure EvRec where
  count : HWord
  payload : W32
  frm : HWord
  deriving DecidableEq, Repr

/-- A raise waiting for the XI route (R239, R306). -/
structure EvXi where
  ev : Fin 128
  merged : Nat
  payload : W32
  frm : BitVec 48
  t : Nat
  deriving DecidableEq, Repr

/-- Event system (R238 to R240). `groom` counts deliveries to owner handlers. -/
structure Evt where
  recs : Vector EvRec 128
  pend : BitVec 128
  irq : BitVec 128
  mask : BitVec 128
  xi : List EvXi
  groom : List (Nat × Fin 128)
  deriving DecidableEq, Repr

/-- Watchdog (R341 to R344): it has counted since `start` in ns while it runs, and `cnt` is the count of a stopped one. ON,
WIN and HRT are fuses. -/
structure Wdt where
  run : Bool
  start : Nat
  cnt : W32
  fired : Bool
  causeV : Bool
  foreign : Bool
  fuseOn : Bool
  fuseWin : BitVec 2
  fuseHrt : BitVec 2
  deriving DecidableEq, Repr

/-- Tally (R345 to R348). -/
structure Tal where
  miss : Vector HWord 4
  extra : Vector HWord 4
  last0 : HWord
  last1 : HWord
  run : Byte
  mmCnt : HWord
  started : Bool
  deriving DecidableEq, Repr

/-- Freeze (R349 to R358). -/
structure Frz where
  req : Bool
  src : BitVec 3
  lastValid : Bool
  lastSrc : BitVec 3
  snapReq : Bool
  before : Mode
  deriving DecidableEq, Repr

/-- What a leave request starts (R246, R254). -/
inductive ReqOp
  | turnOn (ch : ChanId)
  | aoEnable (ch : ChanId)
  | excite (ch : ChanId)
  | atomSet (set : Fin 8)
  | sweep (g : GroupId)
  | handover (g : GroupId)
  | record
  | refresh
  | nvWrite (c : CoreId)
  | burst
  | burstMaint
  | readOut
  | chunk
  | reserve
  | progChannel (ch : ChanId)
  | progSet (set : Fin 8)
  | charge (ch : ChanId)
  deriving DecidableEq, Repr

/-- Status of a request slot (R255). -/
inductive ReqSt | free | pending | granted | ended | failed
  deriving DecidableEq, Repr

/-- A request slot of the Reins (R248 to R255): costs in mW on each group budget and on the device budget. `members` are the
channels a set request names, as it was formed (R251), and `used` those that have turned on under a prepared lease (R254). -/
structure Slot where
  st : ReqSt
  gen : Byte
  op : ReqOp
  cls : BitVec 2
  gcost : Vector Nat 8
  dcost : Nat
  frames : Nat
  order : Nat
  deferrals : Byte
  left : Nat
  grantable : Bool
  deny : Bool
  due : Bool
  adapt : Bool
  members : BitVec 64
  used : BitVec 64
  deriving DecidableEq, Repr

/-- The Reins (R242 to R255). `rest` holds live leases that no slot shows: those whose slot a newer request has taken, and
charges without a request (R247). -/
structure Pgv where
  slots : Vector Slot 96
  rest : List Slot
  seq : Nat
  wait : List ReqOp
  s : Vector Int 8
  power : Vector (Option Int) 8
  gload : Vector HWord 8
  gcorr : Vector HWord 8
  dload : HWord
  denyCnt : HWord
  conflictCnt : HWord
  conflictLast : HWord
  excess : BitVec 9
  recWait : Nat
  retry : List ReqOp
  deriving DecidableEq, Repr

/-- A cached delegated key (R262), most recently used first in the cache, with the certificate that carried it. -/
structure Key where
  kid : BitVec 64
  perm : BitVec 9
  domain : HWord
  epoch : W32
  cert : List Byte
  deriving DecidableEq, Repr

/-- State of a session identifier (R265 to R272). -/
inductive SessSt | free | hs | live
  deriving DecidableEq, Repr

/-- A session (R265 to R279): H is `hi` = H + 1, so 0 before the first record. `th` is TH2 in handshake and the transcript hash
TH once live; `eph` is the device's ephemeral private key, erased when the session becomes live, and `okm` its four keys and four
IVs in the order of R266. -/
structure Sess where
  st : SessSt
  iface : Iface
  peer : Nat
  kid : BitVec 64
  hi : Nat
  mask : BitVec 64
  cmdSeq : BitVec 32
  sendSeq : BitVec 64
  lastT : Nat
  init : List Byte
  resp : List Byte
  th : BitVec 512
  eph : BitVec 256
  okm : List Byte
  evMask : BitVec 128
  tagCnt : Nat
  tagSend : Nat
  minor : Nat
  deriving DecidableEq, Repr

/-- A peer context (R304). -/
structure Peer where
  iface : Iface
  peer : Nat
  ver : Byte
  t : Nat
  deriving DecidableEq, Repr

/-- The Bridle (R256 to R284). `fuses` holds the root keys of each generation, `roots` the key identifiers of the highest one.
`mbMsg` is the mailbox message in process, and `mbTaken` says that its processing has begun (R278). -/
structure Sec where
  gen : Option (Fin 4)
  fuses : Vector (List (BitVec 256)) 4
  roots : List (BitVec 64)
  claimPin : Bool
  epoch : W32
  hpTrust : Bool
  dbgUnlk : Bool
  dbgBlock : Bool
  dbgFails : Nat
  dbgLast : Bool
  challenge : BitVec 256
  idKey : BitVec 256
  refuseCnt : HWord
  refuseIf : BitVec 2
  refuseCause : Byte
  evAt : Vector (Option Nat) 4
  plainAt : Vector (List Nat) 4
  cache : List Key
  sess : Vector Sess 16
  lossAt : Option Nat
  sigQ : List QItem
  bound : Option (Fin 16)
  boundSeq : Option (BitVec 64)
  cycSend : BitVec 64
  peers : List Peer
  mbIn : List Byte
  mbBusy : Bool
  mbMsg : List Byte
  mbTaken : Bool
  mbReply : List Byte
  mbOut : List Byte
  draws : Nat
  verifT : List Nat
  deriving DecidableEq, Repr

/-- How an acyclic frame of the device travels (R302): its IEEE 802.1Q tag, and its Ethertype or UDP source port. -/
structure MsgTag where
  pcp : BitVec 3
  vid : BitVec 12
  typ : HWord
  deriving DecidableEq, Repr

/-- A frame received on P0 or P1 that a tapped P2 copies (R287), beside those the switch forwards. -/
inductive Tapped
  | carriage (x : Carriage)
  | gptp (port : PortId)
  | arp (ip : W32) (mac : BitVec 48)
  | icmp (ip : W32) (data : List Byte)
  | message (m : MsgCtx)
  deriving DecidableEq, Repr

/-- A reply, message or frame the device has sent out; `tag` is that of a frame on the network. -/
inductive Sent
  | response (iface : Iface) (peer : Nat) (sid : Option (Fin 16)) (msg : HWord) (txid : BitVec 32) (body : List Byte)
      (tag : Option MsgTag)
  | refuse (iface : Iface) (peer : Nat) (sid : Option (Fin 16)) (txid : BitVec 32) (cause : Byte) (tag : Option MsgTag)
  | event (sid : Fin 16) (body : List Byte) (tag : Option MsgTag)
  | app (sid : Fin 16) (body : List Byte) (tag : Option MsgTag)
  | tapped (x : Tapped)
  | hpReply (bytes : List Byte)
  | xpCommand (dev : BitVec 4) (bits : Nat) (bytes : List Byte)
  | ethOut (port : PortId) (f : EthFrame) (vid : BitVec 12) (untagged : Bool)
  | arp (port : PortId) (mac : BitVec 48)
  | icmp (port : PortId) (data : List Byte)
  | gptpSync (port : PortId) (dom : Nat) (logInt : Int)
  | gptpFollowUp (port : PortId) (dom origin : Nat)
  | carriage (port : PortId) (bytes : List Byte) (fcsOk : Bool)
  | chall (v : BitVec 256)
  | tdo (bytes : List Byte)
  deriving DecidableEq, Repr

/-- A port of the switch (R285 to R290): its link, measured delay in ns, gate-control entry, the frames that wait for their
gates (each with its VID and whether it leaves untagged), the best Announce received and the time of its latest Sync. -/
structure Port where
  link : Bool
  spd : Bool
  fcsErr : Bool
  dly : Nat
  gate : Nat
  waiting : List (EthFrame × BitVec 12 × Bool)
  ann : Option AnnIn
  syncT : Nat
  deriving DecidableEq, Repr

/-- Network, time and the summation train (R285 to R306). In the running frame: `xiSent` XI_SEND has passed, `xiPast`
XI_DEADLINE has passed, `xiDone` the device's segment has been verified. `verifyQ` holds the device's segments in verification,
each with the direction of its copy. `launched` is the latest train, with its FRM; `out` says that its return is still due,
`launchRed` that both directions were launched, `clearT` its ring-clear time; `ret` holds what has come back of it, `missPort`
the port of the latest copy that did not. `prevRing` is the set whose ring layout trains launched before
a switch tick keep (R296). -/
structure Net where
  ports : Vector Port 3
  mac : BitVec 48
  table : List (BitVec 48 × BitVec 12 × PortId × Nat)
  gm : Bool
  synced : Bool
  role : BitVec 6
  offset : HWord
  syncLog : Option Int
  gmId : Option (BitVec 64)
  verif : Bool
  dir : Bool
  turned : Bool
  delayed : Bool
  noReturn : Bool
  feedLate : Bool
  segErr : HWord
  rxDrop : HWord
  repl : Option SegIn
  verified : Option (BitVec 48 × List W32)
  verifyQ : List (SegIn × Bool)
  feed : List Carriage
  feedFrm : Option (BitVec 48)
  feedMac : BitVec 48
  feedPort : PortId
  launched : Option (BitVec 48 × List Carriage)
  out : Bool
  launchRed : Bool
  clearT : Nat
  missPort : PortId
  ret : List Carriage
  xiSent : Bool
  xiPast : Bool
  xiDone : Bool
  missRun : Nat
  backRun : Nat
  prevRing : Option CfgSet
  deriving DecidableEq, Repr

/-- Host port (R307 to R316): frame length, pending length, error state and the reply prepared. -/
structure Hp where
  len : HWord
  lenNext : Option HWord
  stat : BitVec 5
  bits : HWord
  frmErr : HWord
  crcErr : HWord
  ready : Bool
  reply : List Byte
  deriving DecidableEq, Repr

/-- A transfer on the expansion port (R318, R325). One started behind line fills waits for `ahead` of them after the one that runs;
`rdy` is RDYEN at its start (R319). -/
structure XpJob where
  dev : BitVec 4
  bits : Nat
  start : Nat
  txCrc : Option CtxId
  rxCrc : Option CtxId
  started : Bool
  ahead : Nat
  rdy : Bool
  deriving DecidableEq, Repr

/-- Expansion port (R318 to R324). -/
structure Xp where
  len : HWord
  crcStart : HWord
  done : Bool
  timeout : Bool
  crcErr : Bool
  cmdErr : Bool
  xipErr : Bool
  dev : BitVec 4
  buf : Vector HWord 256
  errCnt : HWord
  job : Option XpJob
  fill : Option (FillReq × W32)
  fillRdy : Bool
  fillWait : List (FillReq × W32)
  groomLine : Option (W32 × List Byte)
  deriving DecidableEq, Repr

/-- A check-value context (R325 to R327). -/
structure Crc where
  poly : BitVec 2
  run : W32
  latch : HWord
  held : Bool
  deriving DecidableEq, Repr

/-- A Logbook ring buffer (R328, R329). `lapped` says that it has overwritten a record since it was emptied; `place` is the place
of the record that `next` numbers. -/
structure LogBuf where
  wrapped : Bool
  eccErr : Bool
  armed : Bool
  trigd : Bool
  next : W32
  old : W32
  place : Nat
  lapped : Bool
  deriving DecidableEq, Repr

/-- Samples of one interleaved group not yet in a block (R332). -/
structure Wave where
  frm : W32
  j : HWord
  samples : List W32
  deriving DecidableEq, Repr

/-- A LOG_READ whose response is held for leave (R335). -/
structure LogWait where
  r : RecCtx
  buf : Fin 5
  count : HWord
  first : W32
  ecc : Bool
  deriving DecidableEq, Repr

/-- Logbook controller (R328 to R336). -/
structure Log where
  bufs : Vector LogBuf 5
  mem : Mem
  wave : Vector Wave 8
  trigFrm : Option Nat
  served : Nat
  heldRead : Bool
  waitReads : List LogWait
  journal : List (List Byte)
  crcStat : Bool
  deriving DecidableEq, Repr

/-- Farrier and telemetry (R334 to R340). `recErase` and `nvErase` count the sectors erased for records and for the NV store of
each core (R339). -/
structure Far where
  lapse : BitVec 6
  starved : BitVec 6
  ecc : HWord
  flRef : HWord
  recErase : Nat
  nvErase : Vector Nat 4
  temps : Vector HWord 10
  sups : Vector HWord 4
  tempWarn : BitVec 10
  supWarn : BitVec 4
  linkErr : Vector HWord 8
  link100 : Vector HWord 8
  ofsChange : Vector HWord 24
  deriving DecidableEq, Repr

/-- Calibration storage (R137 to R143): factory tables 0, 1, 2, 6 and lane correction (table 5) as differences from
their nominal values, keyed 65,536·table + index; failed factory blocks. `atTest` is the lane correction stored in the group
dies at test. -/
structure Cal where
  tables : Sparse 32
  atTest : Sparse 32
  bad : List (Nat × Nat)
  persist : Bool
  restored : Bool
  badIdx : Bool
  rdOnly : Bool
  factErr : Bool
  badKey : Bool
  deriving DecidableEq, Repr

/-- A manifest entry (R360). -/
structure MfEntry where
  typ : Byte
  index : Byte
  compId : W32
  compVer : W32
  length : Nat
  hash : BitVec 512
  deriving DecidableEq, Repr

/-- A manifest (R359), with the certificate of its signer where that is a delegated key (R262). -/
structure Manifest where
  signer : BitVec 64
  release : W32
  csig : Bool
  entries : List MfEntry
  bytes : List Byte
  cert : Option (List Byte)
  deriving DecidableEq, Repr

/-- An image in a bank (R362), with the certificate of its signer where that is a delegated key (R262). -/
structure Image where
  hash : BitVec 512
  bytes : List Byte
  cert : Option (List Byte)
  ok : Bool
  deriving DecidableEq, Repr

/-- Update states of UPD_STAT (R363). -/
inductive UpdSt | idle | locked | staged | activating | trial | reverting
  deriving DecidableEq, Repr

/-- Field update (R359 to R381). `lockOpen` says that the lock holder's session is still open (R363), `parts` holds the
bytes of entries in transfer, `store` the staged images that have been verified (R365), `imgWait` the entry whose image the
group dies check. -/
structure Upd where
  st : UpdSt
  lock : Option (Fin 16)
  lockOpen : Bool
  lockT : Nat
  checks : Bool
  trialEnd : Nat
  outcome : BitVec 4
  reason : BitVec 4
  bank : BitVec 6
  trialFlag : Bool
  linkVer : Vector (Option Nat) 8
  active : Option Manifest
  staged : Option Manifest
  old : Option Manifest
  images : List Image
  oldImages : List Image
  store : List Image
  parts : List (Nat × List Byte)
  writing : Option (UpdCtx × Nat × List Byte)
  leave : Bool
  imgWait : Option Nat
  confReq : Bool
  revert : Option (BitVec 4)
  actMode : Mode
  acceptT : Nat
  migrated : Bool
  deriving DecidableEq, Repr

/-- The state of the block. `now` is network time in ns as of the latest timed command; `sent` is what the device has
sent out, latest first; `pending` is the queue of waiting commands. -/
structure State where
  now : Nat
  sys : Sys
  cfg : Cfg
  cmt : Commit
  frm : Frm
  core : Vector Core 4
  img : Img
  grp : Vector Grp 8
  ch : Vector Chan 64
  pi : Pimg
  rdr : Vector Rdr 7
  evt : Evt
  wdt : Wdt
  tal : Tal
  frz : Frz
  pgv : Pgv
  sec : Sec
  net : Net
  hp : Hp
  xp : Xp
  crc : Vector Crc 4
  log : Log
  far : Far
  cal : Cal
  upd : Upd
  sram : Mem
  eflash : Mem
  sent : List Sent
  pending : List Instr
  deriving DecidableEq, Repr

/-- The empty configuration set: every value at its Reset column (R8). -/
def CfgSet.none : CfgSet where
  regs := []
  gaitOfs := []
  gaitAct := []
  gclGate := []
  gclInt := []
  trim := []
  ulin := []

/-- A core after reset (R387); general registers at 0 (log entry 4). -/
def Core.reset : Core where
  d := .replicate 16 0
  a := .replicate 8 0
  m := .replicate 4 0
  st := 0
  pc := 0
  run := .idle
  queue := []
  freeAt := 0
  ready := .replicate 32 0
  readyFl := 0
  macReady := .replicate 4 0
  macFl := 0
  startAt := 0
  tw := false
  susp := none
  svc := none
  nmiSeen := false
  cause := 0
  xtask := 0
  xbg := false
  bus := 0
  xpc := 0
  xaddr := 0
  xfrm := 0
  cnt := 0
  dlv := 0
  bgReady := 0
  bgAgain := 0
  checkins := .replicate 16 0
  releases := .replicate 16 0
  bgMon := false
  inbox := []
  lineBuf := none
  imem := []
  dmem := []
  nv := []
  nvNext := none

/-- A lane with no result. -/
def Lane.reset : Lane where
  running := false
  entry := 0
  t := 0
  done := 0
  beyond := false
  res := .replicate 16 0
  new := 0
  lost := 0
  ovr := 0
  rcv := 0
  win := .replicate 16 []
  stage1 := .replicate 16 0
  code := .replicate 16 0

/-- A rotation that has not begun. -/
def Rot.reset : Rot where
  step := 0
  target := 0
  restarts := 0
  onTarget := 0
  sweepT := 0
  frames := 0
  rotCnt := 0
  misCnt := 0
  rms := 0
  sumSq := 0
  pairs := 0
  fails := 0
  other := false
  restart := false

/-- A group die with no field power (R10). -/
def Grp.reset : Grp where
  portion := .none
  portionNext := none
  resend := false
  mmFrames := 0
  grpMm := false
  cfgmm := false
  conv := #v[0, 1, 2]
  shadow := 0
  lanes := .replicate 3 .reset
  scan := true
  selfChk := false
  scanFail := false
  scanOk := false
  scans := 0
  exitReq := false
  ilv := false
  trackShort := false
  rot := .reset
  supply := .unpowered
  lpwarn := false
  lplus := 0
  strapBad := false
  fbs := 7
  hold := false
  holdDone := false
  hbRun := 0
  hbFrm := none
  heard := false
  holdSeen := false
  selfFail := false
  link := false
  restWait := false
  ovc := false
  rstRec := false
  temp := 0
  tx := none
  xfer := none
  xferNew := false
  bankOk := true
  imgAck := false
  fltClr := false

/-- A channel with no field power. -/
def Chan.reset : Chan where
  di := { raw := false, tRaw := 0, tPh := 0, state := false, fcnt := 0, count := 0, wrap := false, clrReq := false,
          edges := [], nEdges := 0, lastEdge := none, period := none, gateOn := false, gateFirst := none,
          gateLast := 0, gateM := 0, freq := none, value := 0, valOk := false, valOvr := false,
          snapState := false, snapRaw := false, snapEdges := 0, snapRecs := .replicate 4 0 }
  out := { xfer := 0, next := none, applied := 0, started := false, held := false, clamped := false,
           subst := true, off := true, stageOn := false, leave := false, granted := false, ramp := false,
           inrush := false, pwmHigh := false, pwmLow := 0, pulse := none, pulseT := 0, accepted := false, keep := false,
           armed := none, armT := 0, force := none, iload := 0, want := 0, last := none, qual := 0x40, dac := 0,
           carry := false, onNew := false, turns := 0 }
  flt := { cfgmm := false, cross := false, stuck := false, therm := false, limit := false, opn := false,
           suspect := false, darkWait := 0, unsafe_ := false, seen := 0, clrReq := false, crossSeen := false, tripped := false,
           busy := 0, queued := none, mm := false, mmFrames := 0, wbOpen := false }
  ai := { has := false, fresh := false, settle := false, val := 0, ovr := false, rcv := false, cal := false,
          exc := false, excLeave := false, senseOpen := false, senseTrial := false, ovldev := false, short := false, cjfb := false,
          cjt := 0, shown := false, sample := 0, trackFrom := 0, heldEnd := false }

/-- A free slot of the Reins. -/
def Slot.reset : Slot where
  st := .free
  gen := 0
  op := .reserve
  cls := 0
  gcost := .replicate 8 0
  dcost := 0
  frames := 0
  order := 0
  deferrals := 0
  left := 0
  grantable := false
  deny := false
  due := false
  adapt := false
  members := 0
  used := 0

/-- A free session identifier. -/
def Sess.reset : Sess where
  st := .free
  iface := .eth
  peer := 0
  kid := 0
  hi := 0
  mask := 0
  cmdSeq := 0
  sendSeq := 0
  lastT := 0
  init := []
  resp := []
  th := 0
  eph := 0
  okm := []
  evMask := 0
  tagCnt := 0
  tagSend := 0
  minor := 0

/-- A reader's own registers after reset. -/
def Rdr.reset : Rdr where
  gaitIdx := 0
  calSel := 0
  calIdx := 0
  calLo := 0
  calMiss := false
  evtSel := 0
  xpBufIdx := 0
  gclIdx := 0
  cnvMiss := false
  snap := none

/-- The machine right after the power-on reset, before the last reset source releases (R384, R387): mode BOOT, cause POR,
every register at its Reset column, every field side unpowered. Values the spec does not give are named in the
log (entries 2 to 7, 12). -/
def State.reset : State where
  now := 0
  sys := { mode := .boot, prevMode := .boot, degMask := 0, modeReq := none, safeReq := false, stopped := 0,
           stopReq := 0, hist := 1, cause := 1, strapBad := false, bootsel := true, xpMode := true, claimN := true,
           addr := 0, recov := false, swFail := false, farFail := false, imgFail := false, grpFail := 0,
           bootTime := 0, bootReady := false, rstReq := false, hrtRun := false }
  cfg := { active := .none, staged := .none, committed := none, writing := none, wrote := 0, leave := false }
  cmt := { phase := .idle, badKey := false, src := 0, cause := 0, frm := 0, acked := 0,
           frames := .replicate 8 none, acceptT := 0, answer := none, gaitErr0 := 0, gaitErr1 := 0, chkErr := 0, fitErr := 0 }
  frm := { no := 0, prev := 0, tickT := 0, syncErr := false, slew := false, holdover := false, srcAct := 2, run := 0,
           ovrCnt := 0, ovrInfo := 0, overrun := false, ovrXfer := false, linkEv := false, lastEdgeT := none, validT := 0, bgOpen := false, xiLate := false,
           xiHeld := false, edgeFrom := none,
           srcValid := false, inNo := 0 }
  core := .replicate 4 .reset
  img := { tasks := [], nmi := .replicate 4 0xFFFFFFFF, loaded := 0, statIndex := 0, statCause := 0 }
  grp := .replicate 8 .reset
  ch := .replicate 64 .reset
  pi := { inw := .replicate 64 0, last := .replicate 64 0, outw := .replicate 64 0, stat := .replicate 64 0, sys := .replicate 4 0,
          recs := .replicate 64 (.replicate 4 0) }
  rdr := .replicate 7 .reset
  evt := { recs := .replicate 128 { count := 0, payload := 0, frm := 0 }, pend := 0, irq := 0, mask := 0, xi := [],
           groom := [] }
  wdt := { run := false, start := 0, cnt := 0, fired := false, causeV := false, foreign := false, fuseOn := false, fuseWin := 0,
           fuseHrt := 0 }
  tal := { miss := .replicate 4 0, extra := .replicate 4 0, last0 := 0, last1 := 0, run := 0, mmCnt := 0,
           started := false }
  frz := { req := false, src := 0, lastValid := false, lastSrc := 0, snapReq := false, before := .boot }
  pgv := { slots := .replicate 96 .reset, rest := [], seq := 0, wait := [], s := .replicate 8 0, power := .replicate 8 none,
           gload := .replicate 8 0, gcorr := .replicate 8 0, dload := 0, denyCnt := 0, conflictCnt := 0,
           conflictLast := 0, excess := 0, recWait := 0, retry := [] }
  sec := { gen := none, fuses := .replicate 4 [], roots := [], claimPin := false, epoch := 0, hpTrust := false, dbgUnlk := false,
           dbgBlock := false, dbgFails := 0, dbgLast := false, challenge := 0, idKey := 0, refuseCnt := 0,
           refuseIf := 0, refuseCause := 0, evAt := .replicate 4 none, plainAt := .replicate 4 [], cache := [],
           sess := .replicate 16 .reset, lossAt := none, sigQ := [], bound := none, boundSeq := none, cycSend := 0,
           peers := [], mbIn := [], mbBusy := false, mbMsg := [], mbTaken := false, mbReply := [], mbOut := [], draws := 0, verifT := [] }
  net := { ports := .replicate 3 { link := false, spd := false, fcsErr := false, dly := 0, gate := 0, waiting := [], ann := none, syncT := 0 },
           mac := 0, table := [], gm := false, synced := false, role := 0, offset := 0, syncLog := none, gmId := none,
           verif := false, dir := false, turned := false, delayed := false, noReturn := false, feedLate := false,
           segErr := 0, rxDrop := 0, repl := none, verified := none, feed := [], feedFrm := none,
           feedMac := 0, feedPort := 0, launched := none, out := false, launchRed := false, clearT := 0, missPort := 0, verifyQ := [],
           ret := [], xiSent := false, xiPast := false, xiDone := false, missRun := 0, backRun := 0,
           prevRing := none }
  hp := { len := 0x0240, lenNext := none, stat := 0, bits := 0, frmErr := 0, crcErr := 0, ready := false, reply := [] }
  xp := { len := 8, crcStart := 0, done := false, timeout := false, crcErr := false, cmdErr := false, xipErr := false,
          dev := 0, buf := .replicate 256 0, errCnt := 0, job := none, fill := none, fillRdy := false, fillWait := [],
          groomLine := none }
  crc := #v[{ poly := 1, run := 0xFFFFFFFF, latch := 0, held := true },
            { poly := 1, run := 0xFFFFFFFF, latch := 0, held := true },
            { poly := 1, run := 0xFFFFFFFF, latch := 0, held := false },
            { poly := 1, run := 0xFFFFFFFF, latch := 0, held := false }]
  log := { bufs := .replicate 5 { wrapped := false, eccErr := false, armed := false, trigd := false, next := 0,
                                  old := 0, place := 0, lapped := false },
           mem := [], wave := .replicate 8 { frm := 0, j := 0, samples := [] }, trigFrm := none,
           served := 0, heldRead := false, waitReads := [], journal := [], crcStat := false }
  far := { lapse := 0, starved := 0, ecc := 0, flRef := 0, recErase := 0, nvErase := .replicate 4 0, temps := .replicate 10 0,
           sups := .replicate 4 0, tempWarn := 0, supWarn := 0, linkErr := .replicate 8 0, link100 := .replicate 8 0,
           ofsChange := .replicate 24 0 }
  cal := { tables := [], atTest := [], bad := [], persist := false, restored := false, badIdx := false, rdOnly := false,
           factErr := false, badKey := false }
  upd := { st := .idle, lock := none, lockOpen := false, lockT := 0, checks := false, trialEnd := 0, outcome := 0, reason := 0, bank := 0,
           trialFlag := false, linkVer := .replicate 8 none, active := none, staged := none, old := none, images := [],
           oldImages := [], store := [], parts := [], writing := none, leave := false, imgWait := none, confReq := false,
           revert := none, actMode := .boot, acceptT := 0, migrated := false }
  sram := []
  eflash := []
  sent := []
  pending := []

end Sys2Proof.Machine
end

