-- ==== Sys2Proof/Machine/RegMap.lean ====
section
/-! DEFINITION. The register map (spec/20_register_index.md): which addresses hold CM fields, their writable bits, their
Reset values, and which addresses are implemented. -/

namespace Sys2Proof.Machine

/-- Offset of an address within the repeated block that holds it. -/
def inBlock (a base size count : Nat) : Bool := decide (base ≤ a) && decide (a < base + size * count)

/-- CM bits and Reset value of a register below 0x1000 (system, frame, events, supervision, Reins, Bridle, update,
ports, network, Logbook). -/
def cmLow (a : Nat) : HWord × HWord :=
  if a = 0x0008 then (0xE000, 0x2000)
  else if a = 0x0060 then (0x000F, 0)
  else if a = 0x0100 then (0x0077, 0x0012)
  else if a = 0x0101 then (0xFFFF, 0xE848)
  else if a = 0x0102 then (0x001F, 1)
  else if a = 0x0103 then (0xFFFF, 0)
  else if a = 0x0104 then (0x001F, 0)
  else if a = 0x0109 then (0x00FF, 3)
  else if a = 0x0110 then (0x01FF, 6)
  else if a = 0x0112 then (0xFFFF, 0)
  else if a = 0x0113 then (0xFFFF, 0)
  else if inBlock a 0x0200 1 128 then (0xC07F, 0)
  else if a = 0x0300 then (0xF01F, 0x001C)
  else if a = 0x0310 then (0xCF0F, 0x0100)
  else if a = 0x0320 then (0xC000, 0x8000)
  else if inBlock a 0x0400 1 8 then (0xFFFF, 0x05DC)
  else if a = 0x0408 then (0xFFFF, 0x2EE0)
  else if a = 0x0409 then (0x00FF, 8)
  else if inBlock a 0x0440 1 32 then (0xFFFF, 0)
  else if a = 0x0505 then (0xFFFF, 0x0064)
  else if a = 0x0506 then (0x03FF, 0x0032)
  else if a = 0x0601 then (0x8000, 0)
  else if a = 0x0602 then (0x0FFF, 0x0078)
  else if a = 0x0780 then (0x80FF, 4)
  else if a = 0x0781 then (0xE000, 0x4000)
  else if a = 0x0782 then (0xFFFF, 0)
  else if a = 0x0783 then (0xFFFF, 0)
  else if a = 0x0784 then (0xFFFF, 0x0100)
  else if inBlock a 0x0790 2 15 then (if a % 2 = 0 then (0xFFFF, 0x0101) else (0xFF80, 0x0200))
  else if inBlock a 0x0800 1 3 then (0xFFFF, 0x8001)
  else if a = 0x0808 then (0xFFFF, 0x88B5)
  else if a = 0x0809 then (0xFFFF, 0x88B5)
  else if inBlock a 0x080A 1 3 then (0xFFFF, 0)
  else if a = 0x080D then (0xFC7F, 0)
  else if a = 0x080E then (0xFFFF, 0)
  else if a = 0x080F then (0x001F, 0)
  else if a = 0x0810 then (0xFFFF, 0x0064)
  else if a = 0x0811 then (0xEFFF, 0xE000)
  else if inBlock a 0x0814 1 8 then (0xFFFF, 0)
  else if a = 0x0830 then (0xFFFF, 0x00F8)
  else if a = 0x0833 then (0x0007, 3)
  else if inBlock a 0x0840 1 64 then (0xFFFF, 0)
  else if inBlock a 0x0880 1 3 then (0x807F, 0)
  else if a = 0x0884 then (0x00FF, 0x00FF)
  else if a = 0x0885 then (0xFFFF, 0)
  else if a = 0x0886 then (0x001F, 0)
  else if inBlock a 0x0900 2 64 then (if a % 2 = 0 then (0x0FFF, 0) else (0x0077, 0))
  else if inBlock a 0x0C00 8 5 then
    (let b := (a - 0x0C00) / 8
     let o := (a - 0x0C00) % 8
     if o = 0 then (0x07FF, if b = 3 then 0x010 else if b = 4 then 0x020 else 0)
     else if o = 1 then (0x07FF, if b = 1 ∨ b = 3 then 0x010 else if b = 4 then 0x001 else 0)
     else if o = 2 then (0x0001, 0) else (0, 0))
  else if a = 0x0C28 then (0x000F, 0)
  else if inBlock a 0x0C2C 1 8 then (0xFFFF, 0)
  else if a = 0x0C34 then (0xFFFF, 0)
  else if a = 0x0C36 then (0xFFFF, 0x0064)
  else if a = 0x0C40 then (0x007F, 0x000A)
  else (0, 0)

/-- CM bits and Reset value at offset `o` of a group's block (lanes included). -/
def cmGrp (o : Nat) : HWord × HWord :=
  if o = 0x10 then (0xFFFF, 0x0BFF)
  else if o = 0x11 then (0x8707, 0)
  else if o = 0x14 ∨ o = 0x15 then (0x001F, 0)
  else if o = 0x26 then (0x8007, 4)
  else if inBlock o 0x40 1 16 || inBlock o 0x80 1 16 then (0x07FE, 0)
  else if inBlock o 0x70 1 16 || inBlock o 0xB0 1 16 then (0xFFFF, 1)
  else (0, 0)

/-- CM bits and Reset value at offset `o` of a channel's block. -/
def cmCh (o : Nat) : HWord × HWord :=
  if o = 0x00 then (0x00FF, 0)
  else if o = 0x01 then (0x0007, 0)
  else if o = 0x04 then (0xFFFF, 0)
  else if o = 0x05 then (0x8700, 0x0300)
  else if o = 0x06 then (0xFFFF, 0x0EA6)
  else if o = 0x07 then (0xFCF0, 0x0400)
  else if o = 0x0C then (0xFFFF, 0)
  else if o = 0x0D then (0x181F, 0x000A)
  else if o = 0x0E then (0xFFFF, 0x30D4)
  else if o = 0x0F then (0x0007, 0)
  else if o = 0x10 then (0xDFFF, 0x0A64)
  else if o = 0x11 then (0xF800, 0x1000)
  else if o = 0x12 then (0xF87F, 0x9000)
  else if o = 0x13 then (0xC000, 0)
  else if o = 0x14 then (0xFFFF, 0)
  else if o = 0x17 then (0xC0FF, 0)
  else if o = 0x18 then (0xFFFF, 0)
  else if o = 0x19 then (0xE700, 0x0400)
  else (0, 0)

/-- CM bits and Reset value of a CAL register. -/
def cmCal (a : Nat) : HWord × HWord :=
  if a = 0x3002 ∨ a = 0x3003 then (0xFFFF, 0)
  else if a = 0x3006 then (0x03FF, 0x0040)
  else if a = 0x3007 then (0x00FF, 0x0010)
  else if inBlock a 0x3010 1 32 then (0xFFFF, 0)
  else (0, 0)

/-- CM bits and Reset value of the register at an address (R6, R8); no CM bit where it has no CM field. -/
def cmInfo (a : Nat) : HWord × HWord :=
  if a < 0x1000 then cmLow a
  else if a < 0x1800 then cmGrp (a % 0x100)
  else if a < 0x2000 then (0, 0)
  else if a < 0x3000 then cmCh (a % 0x40)
  else if a < 0x3800 then cmCal a
  else (0, 0)

/-- The writable CM bits of an address. -/
def cmMask (a : Nat) : HWord := (cmInfo a).1

/-- The Reset value of an address's CM fields. -/
def cmReset (a : Nat) : HWord := (cmInfo a).2

/-- An address with a CM field. -/
def isCm (a : Nat) : Bool := decide (cmMask a ≠ 0)

/-- An STG view (R429): 0x4000 + a for a below 0x3800 with a CM field. -/
def isStg (a : Nat) : Bool := decide (0x4000 ≤ a) && decide (a < 0x7800) && isCm (a - 0x4000)

/-- A CM register or an STG view: the writes R6 and R22 govern. -/
def isCmWrite (a : Nat) : Bool := isCm a || isStg a

/-- The process-image mirror (R430). -/
def isMirror (a : Nat) : Bool := inBlock a 0x5800 1 0x600

/-- Registers without a CM field, below 0x1000. -/
def plainLow (a : Nat) : Bool :=
  inBlock a 0x0004 1 7 || inBlock a 0x0010 1 5 || inBlock a 0x0020 1 5 ||
  (inBlock a 0x0040 8 4 && decide (a % 8 ≠ 7)) || decide (a = 0x0061) ||
  inBlock a 0x0105 1 4 || decide (a = 0x010A) || decide (a = 0x010B) || decide (a = 0x0111) ||
  decide (a = 0x0114) || decide (a = 0x0115) || inBlock a 0x0280 1 30 || inBlock a 0x0301 1 5 ||
  inBlock a 0x0311 1 12 || decide (a = 0x0321) || decide (a = 0x0322) || decide (a = 0x040A) ||
  inBlock a 0x0420 1 21 || inBlock a 0x0500 1 5 || decide (a = 0x0507) || inBlock a 0x0510 1 48 ||
  inBlock a 0x0580 1 4 || decide (a = 0x0600) || inBlock a 0x0603 1 8 || inBlock a 0x0610 1 8 ||
  inBlock a 0x0700 1 6 || inBlock a 0x0785 1 7 || (inBlock a 0x07C0 8 4 && decide (a % 8 ≠ 7)) ||
  decide (a = 0x07E0) || inBlock a 0x0804 1 3 || inBlock a 0x0820 1 3 || inBlock a 0x0824 1 4 ||
  decide (a = 0x0831) || decide (a = 0x0832) || inBlock a 0x0834 1 3 || decide (a = 0x0883) ||
  inBlock a 0x0C00 8 5 || decide (a = 0x0C35) || inBlock a 0x0C41 1 4 || inBlock a 0x0C80 1 10 ||
  inBlock a 0x0C90 1 4 || inBlock a 0x0C98 1 8

/-- Registers without a CM field in the group, channel and CAL blocks. -/
def plainHigh (a : Nat) : Bool :=
  if a < 0x1800 then
    (let o := a % 0x100
     inBlock o 0x12 1 2 || inBlock o 0x16 1 16 || inBlock o 0x27 1 3 || inBlock o 0x50 1 32 || inBlock o 0x90 1 32 ||
     inBlock o 0xC0 1 64)
  else if 0x2000 ≤ a ∧ a < 0x3000 then
    (let o := a % 0x40
     inBlock o 0x08 1 4 || inBlock o 0x15 1 2 || inBlock o 0x1A 1 4)
  else inBlock a 0x3000 1 6 || inBlock a 0x3040 4 8

/-- An implemented address; every other is a hole (R314, spec/20_register_index.md). -/
def isReg (a : Nat) : Bool :=
  isCm a || isStg a || isMirror a || (if a < 0x1000 then plainLow a else plainHigh a)

/-- Reset contents of the Gait table's offsets (spec/02_frame_and_gait.md). -/
def gaitOfsReset (k : Nat) : HWord :=
  if k = 2 then 125 else if k = 3 ∨ k = 4 then 61250 else if k = 5 then 62375 else 0

/-- Reset contents of the Gait table's actions. -/
def gaitActReset (k : Nat) : HWord :=
  if k = 0 then 0x50FF else if k = 1 then 0x13FF else if k = 2 then 0x8000 else if k = 3 then 0x20FF
  else if k = 4 then 0x40FF else if k = 5 then 0x9000 else 0

/-- Identity of a table-3 entry (R135). -/
def trimReset (k : Nat) : W32 := if k % 2 = 0 then 0 else 0x40000000

/-- Identity of a table-4 entry (R135): −6,200,000 + 400,000·k. -/
def ulinReset (k : Nat) : W32 := BitVec.ofInt 32 (-6200000 + 400000 * (k % 32 : Nat))

/-- Read a CM register of a set. -/
def CfgSet.reg (c : CfgSet) (a : Nat) : HWord := spGet cmReset c.regs a
/-- Write the CM bits of a register of a set (R5, R6). -/
def CfgSet.setReg (c : CfgSet) (a : Nat) (v : HWord) : CfgSet :=
  { c with regs := spPut cmReset c.regs a (v &&& cmMask a) }
/-- GAIT_OFS of a slot. -/
def CfgSet.ofs (c : CfgSet) (k : Nat) : HWord := spGet gaitOfsReset c.gaitOfs k
/-- GAIT_ACT of a slot. -/
def CfgSet.act (c : CfgSet) (k : Nat) : HWord := spGet gaitActReset c.gaitAct k
/-- NET_GCL_GATE of an entry. -/
def CfgSet.gate (c : CfgSet) (k : Nat) : HWord := spGet (fun _ => 0x00FF) c.gclGate k
/-- NET_GCL_INT of an entry, 21 bits. -/
def CfgSet.gint (c : CfgSet) (k : Nat) : W32 := spGet (fun _ => 0) c.gclInt k
/-- CAL table 3. -/
def CfgSet.t3 (c : CfgSet) (k : Nat) : W32 := spGet trimReset c.trim k
/-- CAL table 4. -/
def CfgSet.t4 (c : CfgSet) (k : Nat) : W32 := spGet ulinReset c.ulin k

/-- Every store of a set is in canonical form. -/
def CfgSet.wf (c : CfgSet) : Bool :=
  spWf cmReset c.regs && spWf gaitOfsReset c.gaitOfs && spWf gaitActReset c.gaitAct &&
  spWf (fun _ => (0x00FF : HWord)) c.gclGate && spWf (fun _ => (0 : W32)) c.gclInt && spWf trimReset c.trim &&
  spWf ulinReset c.ulin

/-- Address of channel `n`'s register at offset `o` (R14). -/
def chAddr (n : Nat) (o : Nat) : Nat := 0x2000 + n * 0x40 + o
/-- Address of group `g`'s register at offset `o`. -/
def grpAddr (g : Nat) (o : Nat) : Nat := 0x1000 + g * 0x100 + o

/-- A bit field of a register. -/
def fld (v : HWord) (hi lo : Nat) : Nat := (v.toNat >>> lo) % 2 ^ (hi + 1 - lo)

/-- Two 16-bit halves as one number. -/
def pair (lo hi : HWord) : Nat := lo.toNat + 65536 * hi.toNat

end Sys2Proof.Machine
end

