-- ==== Sys2Proof/Machine/Ops.lean ====
section
/-! DEFINITION. Shared operations over the state: access to cores, groups and channels, byte strings, memories, Logbook
buffers, raising an event (R238), refusing (R281 to R283) and answering a message. -/

namespace Sys2Proof.Machine

/-! ### Access -/

/-- Change one core. -/
def modCore (s : State) (c : CoreId) (f : Core → Core) : State := { s with core := s.core.set c (f s.core[c]) }
/-- Change one group. -/
def modGrp (s : State) (g : GroupId) (f : Grp → Grp) : State := { s with grp := s.grp.set g (f s.grp[g]) }
/-- Change one channel. -/
def modCh (s : State) (n : ChanId) (f : Chan → Chan) : State := { s with ch := s.ch.set n (f s.ch[n]) }
/-- Change a channel's digital input side. -/
def modDi (s : State) (n : ChanId) (f : ChDi → ChDi) : State := modCh s n fun x => { x with di := f x.di }
/-- Change a channel's output side. -/
def modOut (s : State) (n : ChanId) (f : ChDo → ChDo) : State := modCh s n fun x => { x with out := f x.out }
/-- Change a channel's faults. -/
def modFlt (s : State) (n : ChanId) (f : ChFlt → ChFlt) : State := modCh s n fun x => { x with flt := f x.flt }
/-- Change a channel's analog input side. -/
def modAi (s : State) (n : ChanId) (f : ChAi → ChAi) : State := modCh s n fun x => { x with ai := f x.ai }
/-- Change one reader's own registers. -/
def modRdr (s : State) (r : Fin 7) (f : Rdr → Rdr) : State := { s with rdr := s.rdr.set r (f s.rdr[r]) }
/-- Change one session. -/
def modSess (s : State) (i : Fin 16) (f : Sess → Sess) : State :=
  { s with sec := { s.sec with sess := s.sec.sess.set i (f s.sec.sess[i]) } }
/-- Change one request slot. -/
def modSlot (s : State) (i : Fin 96) (f : Slot → Slot) : State :=
  { s with pgv := { s.pgv with slots := s.pgv.slots.set i (f s.pgv.slots[i]) } }
/-- Change one port. -/
def modPort (s : State) (p : PortId) (f : Port → Port) : State :=
  { s with net := { s.net with ports := s.net.ports.set p (f s.net.ports[p]) } }
/-- Change one Logbook buffer. -/
def modBuf (s : State) (b : Fin 5) (f : LogBuf → LogBuf) : State :=
  { s with log := { s.log with bufs := s.log.bufs.set b (f s.log.bufs[b]) } }
/-- Change one check-value context. -/
def modCrc (s : State) (x : CtxId) (f : Crc → Crc) : State := { s with crc := s.crc.set x (f s.crc[x]) }

/-- The group of a channel (R14: n / 8). -/
def chGroup (n : ChanId) : GroupId := ⟨n.val / 8, by have := n.isLt; omega⟩
/-- The position of a channel in its group (R14: n mod 8). -/
def chPos (n : ChanId) : Fin 8 := ⟨n.val % 8, by omega⟩
/-- Channel 8g + p. -/
def grpCh (g : GroupId) (p : Fin 8) : ChanId := ⟨8 * g.val + p.val, by have := g.isLt; have := p.isLt; omega⟩

/-- Every group, in order. -/
def groups : List GroupId := List.finRange 8
/-- Every channel, in order. -/
def channels : List ChanId := List.finRange 64
/-- Every core, in order. -/
def cores : List CoreId := List.finRange 4
/-- The channels of a group, in order. -/
def chansOf (g : GroupId) : List ChanId := (List.finRange 8).map (grpCh g)

/-- Act on each element of a list, in order. -/
def each {α : Type} (l : List α) (f : α → State → State) (s : State) : State := l.foldl (fun s x => f x s) s

/-- An active CM register (R6). -/
def act (s : State) (a : Nat) : HWord := s.cfg.active.reg a
/-- An active channel register. -/
def chA (s : State) (n : ChanId) (o : Nat) : HWord := act s (chAddr n.val o)
/-- A channel register as its group die's portion holds it. -/
def chG (s : State) (n : ChanId) (o : Nat) : HWord := s.grp[chGroup n].portion.reg (chAddr n.val o)
/-- A group register as the group die's portion holds it. -/
def grpG (s : State) (g : GroupId) (o : Nat) : HWord := s.grp[g].portion.reg (grpAddr g.val o)
/-- Active CH_MODE.MODE. -/
def modeA (s : State) (n : ChanId) : Nat := fld (chA s n 0) 3 0
/-- CH_MODE.MODE in force at the group die. -/
def modeG (s : State) (n : ChanId) : Nat := fld (chG s n 0) 3 0
/-- Active CH_MODE.WRITER (R53). -/
def writerA (s : State) (n : ChanId) : Nat := fld (chA s n 0) 6 4
/-- A mode with an output (R53). -/
def isOutMode (m : Nat) : Bool := m = 3 || m = 4 || m = 5 || m = 10 || m = 11
/-- An analog mode. -/
def isAnMode (m : Nat) : Bool := decide (6 ≤ m) && decide (m ≤ 11)
/-- An active Gait slot's action (R34). -/
def slotAct (s : State) (k : BitVec 8) : Nat := fld (s.cfg.active.act k.toNat) 15 12
/-- An active Gait slot's argument. -/
def slotArg (s : State) (k : BitVec 8) : Nat := fld (s.cfg.active.act k.toNat) 11 0
/-- A slot in use with a given action: the slot exists (index below GAIT_LEN) and holds the action. -/
def slotIs (s : State) (k : BitVec 8) (a : Nat) : Bool :=
  decide (k.toNat < fld (act s 0x0110) 8 0) && decide (slotAct s k = a)
/-- The groups a slot's mask names. -/
def slotGroups (s : State) (k : BitVec 8) : List GroupId := groups.filter fun g => (slotArg s k).testBit g.val
/-- The frame period in ns (R28): 8 ns × FRM_PERIOD. -/
def period (c : CfgSet) : Nat := 8 * (pair (c.reg 0x0101) (c.reg 0x0102))
/-- The time of a slot in ns (R33): OFS × 8 ns × 2^SCALE. -/
def slotTime (c : CfgSet) (k : Nat) : Nat := (c.ofs k).toNat * 8 * 2 ^ fld (c.reg 0x0100) 6 4
/-- Network time at a slot of the running frame, unless it is later already (R33; log entry 3). -/
def atSlot (k : BitVec 8) (s : State) : State := { s with now := max s.now (s.frm.tickT + slotTime s.cfg.active k.toNat) }

/-! ### Numbers and bytes -/

/-- Increment saturating at 0xFFFF. -/
def inc16 (v : HWord) : HWord := if v = 0xFFFF then v else v + 1
/-- Increment saturating at 0xFF. -/
def inc8 (v : Byte) : Byte := if v = 0xFF then v else v + 1
/-- Add saturating at 0xFFFF. -/
def add16 (v : HWord) (n : Nat) : HWord := BitVec.ofNat 16 (min 0xFFFF (v.toNat + n))
/-- A natural number saturating at 0xFFFF. -/
def sat16u (n : Nat) : HWord := BitVec.ofNat 16 (min 0xFFFF n)
/-- Set a bit of a vector. -/
def setBit {w : Nat} (v : BitVec w) (i : Nat) (b : Bool) : BitVec w :=
  if b then v ||| (1#w <<< i) else v &&& ~~~(1#w <<< i)

/-- `n` bytes of a number, least significant first (R2). -/
def leBytes : Nat → Nat → List Byte
  | 0, _ => []
  | n + 1, v => BitVec.ofNat 8 v :: leBytes n (v / 256)
/-- `n` bytes of a number, most significant first (R2). -/
def beBytes (n v : Nat) : List Byte := (leBytes n v).reverse
/-- The number of a little-endian byte string. -/
def ofLe : List Byte → Nat
  | [] => 0
  | b :: t => b.toNat + 256 * ofLe t
/-- The number of a big-endian byte string. -/
def ofBe (l : List Byte) : Nat := ofLe l.reverse
/-- `n` bytes of a string from offset `o`. -/
def slice (l : List Byte) (o n : Nat) : List Byte := (l.drop o).take n
/-- The first 8 bytes of SHA-512 of a key (R220, R256, R257). -/
def keyId (key : List Byte) : BitVec 64 := (Config.sha512 key).extractLsb' 448 64
/-- DEVID (R256). -/
def devId (s : State) : BitVec 64 := keyId (beBytes 32 s.sec.idKey.toNat)

/-- Read one byte of a memory. -/
def memGet (m : Mem) (a : Nat) : Byte := spGet Config.memDefault m a
/-- Write one byte of a memory. -/
def memPut (m : Mem) (a : Nat) (b : Byte) : Mem := spPut Config.memDefault m a b
/-- Read `n` bytes from `a`. -/
def memGets (m : Mem) (a : Nat) : Nat → List Byte
  | 0 => []
  | n + 1 => memGet m a :: memGets m (a + 1) n
/-- Write a byte string at `a`. -/
def memPuts (m : Mem) (a : Nat) : List Byte → Mem
  | [] => m
  | b :: t => memPuts (memPut m a b) (a + 1) t

/-! ### Modes -/

/-- SYS_MODE.MODE code (R25). -/
def modeCode : Mode → BitVec 4
  | .off => 0
  | .boot => 1
  | .commission => 2
  | .run => 3
  | .degraded => 4
  | .safe => 5
  | .frozen => 6
  | .trial => 7
/-- SYS_MODE. -/
def sysModeReg (s : State) : HWord := s.sys.degMask ++ (0#4) ++ modeCode s.sys.mode
/-- Modes in which foreground tasks are released (R227). -/
def fgMode (m : Mode) : Bool := m = .run || m = .degraded || m = .trial
/-- Modes in which background tasks run (R227). -/
def bgMode (m : Mode) : Bool := fgMode m || m = .commission || m = .safe

/-- FRM_OVR_INFO, FRM_STAT and SYS_CMT_STAT as registers. -/
def frmStatReg (s : State) : HWord :=
  (0#7) ++ bit s.frm.syncErr ++ (0#4) ++ bit s.frm.slew ++ bit s.frm.holdover ++ s.frm.srcAct
def cmtPend (s : State) : Bool := s.cmt.phase ≠ .idle
def cmtStatReg (s : State) : HWord := bit (cmtPend s) ++ bit s.cmt.badKey ++ s.cmt.src ++ (0#4) ++ s.cmt.cause
/-- FRM_OVR_LIMIT: RUN above the active LIMIT. -/
def ovrLimitReg (s : State) : HWord := s.frm.run ++ (act s 0x0109).setWidth 8

/-! ### Logbook buffers (R328, R329) -/

/-- Record size of a buffer: W words of buffer 0 come from the active channel selections (R330). -/
def countBits (c : CfgSet) (a n : Nat) : Nat :=
  ((List.range n).map fun w => ((List.range 16).filter fun b => (c.reg (a + w)).getLsbD b).length).sum
def recSize (c : CfgSet) (b : Nat) : Nat :=
  if b = 0 then 4 + 4 * (countBits c 0x0C2C 4 + countBits c 0x0C30 4)
  else if b = 1 then 32 else if b = 2 then 1024 else if b = 3 then 256 else 8460
def bufBase (c : CfgSet) (b : Nat) : Nat := fld (c.reg (0x0C00 + 8 * b)) 10 0
def bufSize (c : CfgSet) (b : Nat) : Nat := fld (c.reg (0x0C01 + 8 * b)) 10 0
def bufStop (c : CfgSet) (b : Nat) : Bool := (c.reg (0x0C02 + 8 * b)).getLsbD 0
/-- Records the buffer holds. -/
def bufCap (c : CfgSet) (b : Nat) : Nat := 65536 * bufSize c b / recSize c b
/-- Byte address of a record: the places follow one another around the region, across the 32-bit end of the index too (R329; log
entry 15). -/
def recAddr (s : State) (b : Fin 5) (idx : Nat) : Nat :=
  let c := s.cfg.active
  let l := s.log.bufs[b]
  let cap := max 1 (bufCap c b.val)
  65536 * bufBase c b.val + (l.place + cap - (l.next - BitVec.ofNat 32 idx).toNat % cap) % cap * recSize c b.val
/-- The buffer is full. -/
def bufFull (s : State) (b : Fin 5) : Bool :=
  decide (bufCap s.cfg.active b.val ≤ (s.log.bufs[b].next - s.log.bufs[b].old).toNat)

/-- Write one record; the Boolean says that LOG_WRAP is due (R329). -/
def logPut (s : State) (b : Fin 5) (bytes : List Byte) : State × Bool :=
  let c := s.cfg.active
  let l := s.log.bufs[b]
  if bufCap c b.val = 0 then (s, false)
  else if bufFull s b && bufStop c b.val then (s, false)
  else
    let full := bufFull s b
    let l' := { l with next := l.next + 1, place := (l.place + 1) % max 1 (bufCap c b.val), old := if full then l.old + 1 else l.old,
                       wrapped := l.wrapped || full, lapped := l.lapped || full }
    let s' := modBuf s b fun _ => l'
    ({ s' with log := { s'.log with mem := memPuts s'.log.mem (recAddr s b l.next.toNat) bytes } },
      full && !l.lapped)

/-! ### Events (R238 to R240) -/

/-- EVT_CFG of an event. -/
def evCfg (s : State) (e : Fin 128) : HWord := act s (0x0200 + e.val)

/-- The journal entry of an event (R331). -/
def evEntry (s : State) (e : Fin 128) (payload : W32) : List Byte :=
  leBytes 8 s.now ++ [1, BitVec.ofNat 8 e.val] ++ leBytes 2 0 ++ leBytes 4 s.frm.no.toNat ++ leBytes 4 payload.toNat ++
    leBytes 12 0

/-- Write a journal entry, and keep it in the core die's own copy of the latest 128 (R331, R356). -/
def journal (s : State) (entry : List Byte) : State × Bool :=
  let (s', w) := logPut s 1 entry
  ({ s' with log := { s'.log with journal := (entry :: s'.log.journal).take 128 } }, w)

/-- Make ready the background tasks of a core that start on an event (R229, R239). -/
def deliverCore (e : Fin 128) (c : CoreId) (s : State) : State :=
  if (evCfg s e).getLsbD c.val then
    modCore s c fun k =>
      let mine := (s.img.tasks.filter fun t => t.core = c && t.bg && t.start = some e).map (·.index)
      let busy := fun (i : BitVec 4) => k.bgReady.getLsbD i.toNat || k.run = .bg i ||
        (match k.susp with | some x => x.task = i | none => false)
      { k with
        dlv := setBit k.dlv e.val true
        bgReady := mine.foldl (fun v i => if busy i then v else setBit v i.toNat true) k.bgReady
        bgAgain := mine.foldl (fun v i => if busy i then setBit v i.toNat true else v) k.bgAgain }
  else s

/-- Queue a raise for the XI route, merging raises of one frame (R239). -/
def queueXi (l : List EvXi) (e : Fin 128) (payload : W32) (no : BitVec 48) (t : Nat) : List EvXi :=
  if l.any fun x => x.ev = e ∧ x.frm = no then
    l.map fun x => if x.ev = e ∧ x.frm = no then { x with merged := x.merged + 1, payload := payload, frm := no, t := t } else x
  else l ++ [{ ev := e, merged := 1, payload := payload, frm := no, t := t }]

/-- Priority of an event. -/
def evPri (s : State) (e : Fin 128) : Nat := fld (evCfg s e) 15 14
/-- Delivery order of the raises of one cycle (R239): ascending PRI, then event number. -/
def evLe (s : State) (a b : Fin 128) : Bool :=
  decide (evPri s a < evPri s b) || (decide (evPri s a = evPri s b) && decide (a ≤ b))
/-- Pass an event to the Groom core: raises of the same core cycle are put in their delivery order (R239). -/
def toGroom (s : State) (e : Fin 128) : List (Nat × Fin 128) :=
  let k := s.now / 2
  let l := s.evt.groom
  l.filter (fun x => decide (x.1 ≠ k) || evLe s x.2 e) ++ [(k, e)] ++ l.filter (fun x => decide (x.1 = k) && !evLe s x.2 e)

/-- Delivery to every route EVT_CFG names, unless masked (R239). -/
def deliver (e : Fin 128) (payload : W32) (s : State) : State :=
  if s.evt.mask.getLsbD e.val then s
  else
    let s1 := each cores (deliverCore e) s
    let cfg := evCfg s e
    { s1 with evt := { s1.evt with
        groom := if cfg.getLsbD 4 then toGroom s1 e else s1.evt.groom
        irq := if cfg.getLsbD 5 then setBit s1.evt.irq e.val true else s1.evt.irq
        xi := if cfg.getLsbD 6 then queueXi s1.evt.xi e payload s.frm.no s.now else s1.evt.xi } }

/-- Record, journal, pend and deliver one raise (R238), and start a triggered capture (R333). -/
def raiseOne (e : Fin 128) (payload : W32) (s : State) : State × Bool :=
  let r := s.evt.recs[e]
  let s1 : State := { s with evt := { s.evt with
    recs := s.evt.recs.set e { count := inc16 r.count, payload := payload, frm := s.frm.no.setWidth 16 } } }
  let (s2, w) := journal s1 (evEntry s1 e payload)
  let s3 : State := { s2 with evt := { s2.evt with pend := setBit s2.evt.pend e.val true } }
  let s4 := deliver e payload s3
  let wf := act s4 0x0C34
  let s5 := if wf.getLsbD 15 && decide (fld wf 14 8 = e.val) && s4.log.bufs[2].armed && s4.log.trigFrm.isNone then
      { s4 with log := { s4.log with trigFrm := some ((act s4 0x0C36).toNat + 1) } } else s4
  (s5, w)

/-- EV121, LOG_WRAP. -/
def evLogWrap : Fin 128 := 121

/-- Raise an event (R238). The journal entry may itself be the first overwrite of buffer 1, which raises LOG_WRAP. -/
def raise (e : Fin 128) (payload : W32) (s : State) : State :=
  let (s1, w) := raiseOne e payload s
  if w then (raiseOne evLogWrap 1 s1).1 else s1

/-- Write a Logbook record, raising LOG_WRAP at the first overwrite (R329). -/
def record (b : Fin 5) (bytes : List Byte) (s : State) : State :=
  let (s1, w) := logPut s b bytes
  if w then raise evLogWrap (BitVec.ofNat 32 b.val) s1 else s1

/-! ### Refusals and replies (R281 to R283, R302, R303) -/

/-- Interface codes of R282. -/
def ifEth : Fin 4 := 0
def ifSeg : Fin 4 := 1
def ifHost : Fin 4 := 2
def ifJtag : Fin 4 := 3
def ifCode : Iface → Fin 4
  | .eth => ifEth
  | .udp => ifEth
  | .host => ifHost

/-- BRIDLE_REFUSE was raised for the interface less than 100 ms ago (R283). -/
def raisedRecently (s : State) (i : Fin 4) : Bool :=
  match s.sec.evAt[i] with
  | some t => decide (s.now < t + 100000000)
  | none => false

/-- Count a refusal, record it, and raise BRIDLE_REFUSE at most once in 100 ms per interface (R281, R283). -/
def refuse (i : Fin 4) (cause : Byte) (s : State) : State :=
  let s1 : State := { s with sec := { s.sec with
    refuseCnt := inc16 s.sec.refuseCnt, refuseIf := BitVec.ofNat 2 i.val, refuseCause := cause } }
  if raisedRecently s i = true then s1
  else raise 73 (BitVec.ofNat 32 (256 * i.val + cause.toNat))
    { s1 with sec := { s1.sec with evAt := s1.sec.evAt.set i (some s.now) } }

/-- Header of an acyclic message (R302). -/
def msgHeader (m : MsgCtx) (msg : HWord) (resp : Bool) (len : Nat) : List Byte :=
  [0x20, m.ver] ++ beBytes 2 msg.toNat ++ beBytes 2 m.domain.toNat ++ [if resp then 1 else 0, 0] ++
    beBytes 4 m.txid.toNat ++ beBytes 2 len ++ [0, 0]

/-- Bytes XORed pairwise. -/
def xorBytes (a b : List Byte) : List Byte := (a.zip b).map fun p => p.1 ^^^ p.2
/-- The nonce of a direction and a sequence number: IV XOR (four zero bytes, then SEQ) (R268, R273). -/
def nonceOf (iv : List Byte) (seq : BitVec 64) : List Byte := xorBytes iv ([0, 0, 0, 0] ++ beBytes 8 seq.toNat)
/-- AES-256-GCM ciphertext of a plaintext, and the plaintext of a ciphertext. -/
def gcmText (key nonce l : List Byte) : List Byte := l.zipIdx.map fun p => p.1 ^^^ Config.gcmStream key nonce p.2

/-- The keys and IVs of a session by their place in R266: 0 acyclic to the device, 1 acyclic from it, 2 cyclic to it, 3 cyclic
from it. -/
def sessKey (x : Sess) (k : Nat) : List Byte := slice x.okm (32 * k) 32
/-- The IV of a direction. -/
def sessIv (x : Sess) (k : Nat) : List Byte := slice x.okm (128 + 12 * k) 12

/-- "Fyrnoari session v1" in ASCII (R266). -/
def hkdfInfo : List Byte :=
  [0x46, 0x79, 0x72, 0x6E, 0x6F, 0x61, 0x72, 0x69, 0x20, 0x73, 0x65, 0x73, 0x73, 0x69, 0x6F, 0x6E, 0x20, 0x76, 0x31]
/-- OKM of a session (R266): 176 bytes from its transcript hash and the shared secret. -/
def sessOkm (th : BitVec 512) (z : BitVec 256) : List Byte :=
  (List.range 176).map (Config.hkdfExpand (Config.hkdfExtract (beBytes 64 th.toNat) (beBytes 32 z.toNat)) hkdfInfo)

/-- The bytes of a record the device sends in a session (R268): under KA_d2c, with the first 12 bytes as additional data. -/
def recordBytes (s : State) (sid : Fin 16) (inner : List Byte) : List Byte :=
  let x := s.sec.sess[sid]
  let head := [BitVec.ofNat 8 sid.val, 0, 0, 0] ++ beBytes 8 x.sendSeq.toNat
  let nonce := nonceOf (sessIv x 1) x.sendSeq
  let text := gcmText (sessKey x 1) nonce inner
  head ++ text ++ beBytes 16 (Config.gcmTag (sessKey x 1) nonce head text).toNat

/-- Permissions of a key (R257, R263): every permission for an owner root, else those of its cache entry. -/
def isRoot (s : State) (kid : BitVec 64) : Bool := s.sec.gen.isSome && s.sec.roots.contains kid
def findKey (s : State) (kid : BitVec 64) : Option Key := s.sec.cache.find? fun k => k.kid = kid
def permOf (s : State) (kid : BitVec 64) : BitVec 9 :=
  if isRoot s kid then 0x1FF else match findKey s kid with
    | some k => k.perm
    | none => 0
/-- A session whose next record would carry the SEQ that is never sent (R268). -/
def isSpent (s : State) (i : Fin 16) : Bool := s.sec.sess[i].sendSeq = 0xFFFFFFFFFFFFFFFF
/-- A live session. -/
def isLive (s : State) (i : Fin 16) : Bool := s.sec.sess[i].st = .live && !isSpent s i
/-- A live session whose key holds a permission. -/
def sessPerm (s : State) (i : Fin 16) (p : Nat) : Bool := isLive s i && (permOf s s.sec.sess[i].kid).getLsbD p
/-- Live sessions. -/
def liveCount (s : State) : Nat := ((List.finRange 16).filter fun i => isLive s i).length

/-- Close a session (R270 to R272): its keys and counters go, the binding and its queued commands with it; the loss timer
starts when the last live session closes. -/
def closeSess (i : Fin 16) (s : State) : State :=
  let live := decide ((s.sec.sess[i]).st = .live)
  let s1 := modSess s i fun _ => Sess.reset
  let s2 : State := { s1 with
    sec := { s1.sec with
      bound := if s1.sec.bound = some i then none else s1.sec.bound
      boundSeq := if s1.sec.bound = some i then none else s1.sec.boundSeq
      sigQ := s1.sec.sigQ.filter fun x => match x with
        | .cmd q => q.sid ≠ i
        | .cert _ _ _ => true }
    cmt := { s1.cmt with answer := s1.cmt.answer.filter fun q => q.sid ≠ i }
    upd := { s1.upd with lockOpen := s1.upd.lockOpen && decide (s1.upd.lock ≠ some i) } }
  if live ∧ liveCount s2 = 0 then { s2 with sec := { s2.sec with lossAt := some s2.now } } else s2

/-- The device's own send counter advances with every record it sends (R281); the session closes before the SEQ that is never
sent is reached (R268). -/
def bumpSend (sid : Option (Fin 16)) (s : State) : State :=
  match sid with
  | some i =>
    let s1 := modSess s i fun x => { x with sendSeq := x.sendSeq + 1 }
    if isSpent s1 i then closeSess i s1 else s1
  | none => s

/-- How the device's acyclic frames travel (R302): the VID of NET_SUMVLAN and PCP 4, with NET_ETYPE, or from NET_UDP_PORT. -/
def msgTag (s : State) (i : Iface) : Option MsgTag :=
  let vid := (act s 0x0811).setWidth 12
  match i with
  | .eth => some { pcp := 4, vid := vid, typ := act s 0x0808 }
  | .udp => some { pcp := 4, vid := vid, typ := act s 0x0809 }
  | .host => none

/-- Send a message to a peer: on the network at once; for the mailbox as the reply to be placed (R278). -/
def reply (m : MsgCtx) (sid : Option (Fin 16)) (msg : HWord) (body : List Byte) (s : State) : State :=
  let s1 : State := { s with sent := .response m.iface m.peer sid msg m.txid body (msgTag s m.iface) :: s.sent }
  let bytes := match sid with
    | some i => let r := recordBytes s i (beBytes 2 msg.toNat ++ body); msgHeader m 0x0003 true r.length ++ r
    | none => msgHeader m msg true body.length ++ body
  bumpSend sid (if m.iface = .host then { s1 with sec := { s1.sec with mbReply := bytes } } else s1)

/-- Times of unprotected refusals in the latest 100 ms. -/
def recentPlain (s : State) (i : Fin 4) : List Nat := s.sec.plainAt[i].filter fun t => decide (s.now < t + 100000000)

/-- Refuse a message (R281, R282): counted, recorded, answered with the cause byte; unprotected REFUSE messages are
limited to 64 in any 100 ms for each interface. In the mailbox the outbound buffer holds the cause byte alone, which is no
record. -/
def refuseMsg (m : MsgCtx) (sid : Option (Fin 16)) (cause : Byte) (s : State) : State :=
  let i := ifCode m.iface
  let s1 := refuse i cause s
  if m.iface = .host then
    { s1 with sec := { s1.sec with mbReply := [cause] }, sent := .refuse m.iface m.peer sid m.txid cause (msgTag s m.iface) :: s1.sent }
  else match sid with
    | some _ => bumpSend sid { s1 with sent := .refuse m.iface m.peer sid m.txid cause (msgTag s m.iface) :: s1.sent }
    | none =>
      let recent := recentPlain s1 i
      if decide (64 ≤ recent.length) then { s1 with sec := { s1.sec with plainAt := s1.sec.plainAt.set i recent } }
      else { s1 with sec := { s1.sec with plainAt := s1.sec.plainAt.set i (s1.now :: recent) },
                     sent := .refuse m.iface m.peer none m.txid cause (msgTag s m.iface) :: s1.sent }

/-- Causes of R281. -/
def cFormat : Byte := 0x01
def cVersion : Byte := 0x02
def cNoSession : Byte := 0x03
def cTag : Byte := 0x04
def cReplay : Byte := 0x05
def cKey : Byte := 0x06
def cEpoch : Byte := 0x07
def cSignature : Byte := 0x08
def cPermission : Byte := 0x09
def cDevice : Byte := 0x0A
def cBusy : Byte := 0x0B
def cHandshake : Byte := 0x0C
def cClaim : Byte := 0x0D
def cPending : Byte := 0x0E
def cBound : Byte := 0x0F
def cUpdBusy : Byte := 0x10
def cOwner : Byte := 0x11

/-- The reader of an access (R431): host port, Xiram, Groom core, CC0 to CC3. -/
def rdrOf : Access → Fin 7
  | .hostUntagged => 0
  | .hostTagged _ => 0
  | .xiram _ => 1
  | .groom => 2
  | .core c => ⟨3 + c.val, by have := c.isLt; omega⟩

/-- The interface code a refused access is reported under. -/
def accIf : Access → Fin 4
  | .xiram _ => ifEth
  | _ => ifHost

/-- The next random draw (log entry 5). -/
def draw (s : State) : BitVec 256 × State :=
  (Config.random s.sec.draws, { s with sec := { s.sec with draws := s.sec.draws + 1 } })

end Sys2Proof.Machine
end

