-- ==== Sys2Proof/Machine/Operands.lean ====
section
/-! DEFINITION. Register operands of the Canter instructions: what a field names, reads and writes (R180, R181), and the
core windows of an address (R187). -/

namespace Sys2Proof.Machine

/-- A field that names m0 to m3. -/
def isM (f : BitVec 5) : Bool := decide (24 ≤ f.toNat) && decide (f.toNat ≤ 27)
/-- A field that names a0 to a7. -/
def isA (f : BitVec 5) : Bool := decide (16 ≤ f.toNat) && decide (f.toNat ≤ 23)
/-- Index of an accumulator. -/
def mIdx (f : BitVec 5) : Fin 4 := ⟨f.toNat % 4, by omega⟩
/-- The a register of a 3-bit field, as an operand field. -/
def aField (ab : BitVec 3) : BitVec 5 := 0b10#2 ++ ab
/-- The operand field of st. -/
def stField : BitVec 5 := 28
/-- The operand field of the zero register. -/
def zeroField : BitVec 5 := 31

/-- Read a register operand at issue cycle `cyc` (R180): st, tk, cy and zero have their own values; an m register has no
value here. -/
def rdReg (s : State) (c : CoreId) (f : BitVec 5) (cyc : Nat) : W32 :=
  let k := s.core[c]
  let n := f.toNat
  if h : n < 16 then k.d[n]
  else if h : n < 24 then k.a[n - 16]
  else if n = 28 then k.st.setWidth 32
  else if n = 29 then s.frm.no.setWidth 32
  else if n = 30 then BitVec.ofNat 32 (min 0xFFFFFFFF cyc)
  else 0

/-- Read an accumulator. -/
def rdM (s : State) (c : CoreId) (f : BitVec 5) : W64 := (s.core[c]).m[mIdx f]

/-- Write a register operand of a core (R180): st takes bits 4:0; writes to tk, cy and zero are discarded. -/
def Core.wr (k : Core) (f : BitVec 5) (v : W32) : Core :=
  let n := f.toNat
  if h : n < 16 then { k with d := k.d.set n v }
  else if h : n < 24 then { k with a := k.a.set (n - 16) v }
  else if n = 28 then { k with st := v.setWidth 5 }
  else k

/-- Write a register operand. -/
def wrReg (c : CoreId) (f : BitVec 5) (v : W32) (s : State) : State := modCore s c fun k => k.wr f v
/-- Write an accumulator. -/
def wrM (c : CoreId) (f : BitVec 5) (v : W64) (s : State) : State :=
  modCore s c fun k => { k with m := k.m.set (mIdx f) v }
/-- Write the flags. -/
def wrFlags (c : CoreId) (f : Flags) (s : State) : State := modCore s c fun k => { k with st := f }

/-- Write a result and the flags it gives: where the destination is st, the value replaces the flags (R182). -/
def wrResult (c : CoreId) (rd : BitVec 5) (v : W32) (f : Flags) (s : State) : State := wrReg c rd v (wrFlags c f s)

/-- Windows of a core address (R187). -/
inductive Window | imem | dmem | sram | pimage | regs | logbook | xip | eflash | unmapped
  deriving DecidableEq, Repr

/-- The window of an address. -/
def window (a : W32) : Window :=
  let n := a.toNat
  if n < 0x20000 then .imem
  else if n < 0x10000000 then .unmapped
  else if n < 0x10020000 then .dmem
  else if n < 0x20000000 then .unmapped
  else if n < 0x20200000 then .sram
  else if n < 0x30000000 then .unmapped
  else if n < 0x30000C00 then .pimage
  else if n < 0x40000000 then .unmapped
  else if n < 0x40010000 then .regs
  else if n < 0x50000000 then .unmapped
  else if n < 0x54000000 then .logbook
  else if n < 0x60000000 then .unmapped
  else if n < 0x64000000 then .xip
  else if n < 0x70000000 then .unmapped
  else if n < 0x70800000 then .eflash
  else .unmapped

end Sys2Proof.Machine
end

