-- ==== Sys2Proof/Machine/Trigger.lean ====
section
/-! DEFINITION. Shared consequences: whether the core die runs, changes of mode (R25 to R27), triggers of SAFE and of a
revert (R26, R375), overrun frames (R46 to R48). -/

namespace Sys2Proof.Machine

/-- The core die's clocks run and reset has been released. -/
def coreOn (s : State) : Bool := s.sys.bootReady && decide (s.sys.mode ≠ .off) && decide (s.sys.mode ≠ .frozen)

/-- An effect of the running core die; nothing happens while its clocks are stopped or it is in reset (R351, R387). -/
def onCore (f : State → State) (s : State) : State := if coreOn s then f s else s

/-- The core die runs and BOOT has ended. -/
def inService (s : State) : Bool := coreOn s && decide (s.sys.mode ≠ .boot)

/-- An effect that needs the end of BOOT. -/
def afterBoot (f : State → State) (s : State) : State := if inService s then f s else s

/-- Change the mode (R25): MODE_CHANGE is raised, DEGMASK reads 0 outside DEGRADED, leaving COMMISSION releases every
force (R392), entry into SAFE asks for a snapshot (R358), and a period outside the modes of background tasks is not
compared for them (R346). -/
def changeMode (m : Mode) (mask : BitVec 8) (s : State) : State :=
  if s.sys.mode = m then { s with sys := { s.sys with degMask := if m = .degraded then mask else 0 } }
  else
    let old := s.sys.mode
    let s1 : State := { s with
      sys := { s.sys with mode := m, prevMode := old, degMask := if m = .degraded then mask else 0 }
      frz := { s.frz with snapReq := s.frz.snapReq || decide (m = .safe) }
      core := s.core.map fun k => { k with bgMon := k.bgMon && bgMode m } }
    let s2 := if old = .commission then
        each channels (fun n s => modOut s n fun o => { o with force := none }) s1 else s1
    raise 79 (BitVec.ofNat 32 (65536 * (modeCode old).toNat + (sysModeReg s2).toNat)) s2

/-- A trigger of R26 or R348: the mode changes to SAFE at the next tick, from RUN or DEGRADED. -/
def safeTrigger (s : State) : State :=
  if s.sys.mode = .run || s.sys.mode = .degraded then { s with sys := { s.sys with safeReq := true } } else s

/-- A revert trigger (R375): the first one in a trial starts the revert. -/
def trialFail (reason : BitVec 4) (s : State) : State :=
  if s.upd.st = .trial then
    { s with upd := { s.upd with st := .reverting, revert := some reason, acceptT := s.now, confReq := false } }
  else s

/-- An overrun frame (R46, R48): counted and raised once for the frame, with its first cause; at the limit the mode
changes to SAFE, and in TRIAL the trial reverts with reason OVERRUN. A task overrun (kinds 1 and 2) stops the frame's
later transfers (R47). -/
def frameOverrun (kind : BitVec 2) (core : BitVec 2) (grp : BitVec 3) (slot : BitVec 8) (s : State) : State :=
  if !fgMode s.sys.mode then s
  else if s.frm.overrun then { s with frm := { s.frm with ovrXfer := s.frm.ovrXfer || decide (kind ≠ 3) } }
  else
    let info : HWord := kind ++ core ++ (0#1) ++ grp ++ slot
    let s1 : State := { s with frm := { s.frm with
      overrun := true, ovrXfer := decide (kind ≠ 3), ovrCnt := inc16 s.frm.ovrCnt, ovrInfo := info, run := inc8 s.frm.run } }
    let s2 := raise 64 (info.setWidth 32) s1
    if fld (act s2 0x0109) 7 0 ≤ s2.frm.run.toNat then
      (if s2.sys.mode = .trial then trialFail 4 s2 else safeTrigger s2) else s2

/-! ### Responses to signed commands and the end of a COMMIT's checks -/

/-- The message context of a queued signed command. -/
def cmdCtx (s : State) (q : QCmd) : MsgCtx :=
  { iface := q.iface, peer := q.peer, ver := 0x12, domain := act s 0x080C, txid := q.txid, formatOk := true, t := s.now }

/-- The response of a signed command (R276, R303): one status byte (log entry 22); none once its session has closed. -/
def answerCmd (q : QCmd) (st : Byte) (s : State) : State :=
  if isLive s q.sid then reply (cmdCtx s q) (some q.sid) 0x0102 [st] s else s

/-- Refuse a signed command in its session (R281). -/
def refuseCmd (q : QCmd) (cause : Byte) (s : State) : State :=
  refuseMsg (cmdCtx s q) (if isLive s q.sid then some q.sid else none) cause s

/-- The response of the COMMIT in progress, if a command waits for it (R276). -/
def answerCommit (cause : Byte) (s : State) : State :=
  let s1 : State := { s with cmt := { s.cmt with answer := none } }
  match s.cmt.answer with
  | some q => answerCmd q cause s1
  | none => s1

/-- A COMMIT is refused (R19, R20): nothing changes in any die, and COMMIT_REFUSED is raised. -/
def refuseCommit (cause : Byte) (s : State) : State :=
  raise 81 (cause.setWidth 32) (answerCommit cause { s with
    cmt := { s.cmt with phase := .idle, cause := cause }
    grp := s.grp.map fun x => { x with portionNext := none } })

/-- Every powered group has acknowledged its portion (stage 5). -/
def allAcked (s : State) : Bool := groups.all fun g => decide (s.grp[g].supply = .unpowered) || s.cmt.acked.getLsbD g.val

/-- The COMMIT is accepted once every powered group die has acknowledged its portion (R19 stage 5, R23). -/
def acceptIfDone (t : Nat) (s : State) : State :=
  if s.cmt.phase = .portions && allAcked s then
    answerCommit 0 { s with cmt := { s.cmt with phase := .accepted, acceptT := t } }
  else s

end Sys2Proof.Machine
end

