-- ==== Sys2Proof/Machine/Canter.lean ====
section
/-! DEFINITION. How a Canter core runs one instruction: issue and latency (R185), budget (R215), exceptions (R214 to
R218), the end of a task (R213). -/

namespace Sys2Proof.Machine

/-- What an instruction reads and writes, for R185: source registers, destination registers with their latency, the
flags, and the accumulator of a MAC-class instruction (R197). -/
structure Shape where
  src : List (BitVec 5)
  dst : List (BitVec 5 × Nat)
  readFl : Bool
  flL : Option Nat
  macD : Option (BitVec 5)
  tw : Bool := false

/-- What an instruction does once its operands are ready: its effect, its jump target if any and its issue cost; or the
exception it raises. -/
inductive Eff
  | ok (s : State) (target : Option W32) (i : Nat)
  | trap (cause bus : BitVec 4) (addr : W32)

/-- The cycle from which a register operand can be used. -/
def Core.readyAt (k : Core) (f : BitVec 5) : Nat :=
  if f.toNat < 28 then k.ready[f.toNat] else if f.toNat = 28 then k.readyFl else 0

/-- Issue cycle (R185): the previous instruction's issue plus its cost, and every register and flag ready. A MAC-class
instruction does not wait for an earlier one of its class into the same accumulator, nor for its S flag (R197). -/
def issueAt (k : Core) (sh : Shape) : Nat :=
  let t := (sh.src ++ sh.dst.map (·.1)).foldl (fun t f => max t (k.readyAt f)) k.freeAt
  match sh.macD with
  | some m => max (max t k.macReady[mIdx m]) k.macFl
  | none => if sh.readFl || sh.flL.isSome then max t k.readyFl else t

/-- A destination is ready `l` cycles after the issue. -/
def Core.setReady (k : Core) (t : Nat) (f : BitVec 5) (l : Nat) : Core :=
  if f.toNat < 28 then
    let k1 := { k with ready := k.ready.set f.toNat (t + l) }
    if isM f then { k1 with macReady := k1.macReady.set (mIdx f) (t + l) } else k1
  else if f.toNat = 28 then { k with readyFl := t + l, macFl := t + l }
  else k

/-- The scoreboard after an instruction that issued at `t` with cost `i`. -/
def Core.retire (k : Core) (sh : Shape) (t i : Nat) : Core :=
  let k1 := sh.dst.foldl (fun k d => k.setReady t d.1 d.2) { k with freeAt := t + i }
  let k2 := match sh.flL with
    | some l => { k1 with readyFl := t + l, macFl := t + l }
    | none => k1
  match sh.macD with
  | some m => { k2 with ready := k2.ready.set (24 + (mIdx m).val) (t + 2), readyFl := t + 2 }
  | none => k2

/-- The core runs a foreground task, its NMI handler, or a background task that waits for no service (R212, R228). -/
def canRun (s : State) (c : CoreId) : Bool :=
  coreOn s &&
    (match (s.core[c]).run with
     | .fg _ _ => true
     | .bg _ => (s.core[c]).svc.isNone
     | .nmi => true
     | _ => false)

/-- A background task is running on the core. -/
def inBg (s : State) (c : CoreId) : Bool := match (s.core[c]).run with
  | .bg _ => true
  | _ => false

/-- Fetch regions (R188): instruction memory, and the XIP window for background tasks. -/
def fetchOk (s : State) (c : CoreId) (pc : W32) : Bool :=
  window pc = .imem || (window pc = .xip && inBg s c)

/-- A task of the loaded images. -/
def findTask (s : State) (c : CoreId) (i : BitVec 4) : Option Task :=
  s.img.tasks.find? fun t => t.core = c && t.index = i

/-- The declared budget of the running foreground task (R215). -/
def budgetOf (s : State) (c : CoreId) : Option Nat :=
  match (s.core[c]).run with
  | .fg i _ => (findTask s c i).map (·.budget)
  | _ => none

/-- An instruction issuing at `t` with cost `i` would pass the budget (R215). -/
def exceeds (s : State) (c : CoreId) (t i : Nat) : Bool :=
  match budgetOf s c with
  | some b => decide (b < (t - (s.core[c]).startAt) + i)
  | none => false

/-- SYS_CXc_CAUSE. -/
def Core.causeReg (k : Core) : HWord := k.cause ++ k.xtask ++ bit k.xbg ++ (0#3) ++ k.bus

/-- The task a core runs, and whether it is a background task. -/
def Core.taskId (k : Core) : BitVec 4 × Bool := match k.run with
  | .fg i _ => (i, false)
  | .bg i => (i, true)
  | _ => (k.xtask, k.xbg)

/-- The task of a core ends (R213, R229): a background task delivered to while it ran is ready once more. -/
def Core.endTask (k : Core) : Core := match k.run with
  | .bg i => { k with run := .idle, bgReady := if k.bgAgain.getLsbD i.toNat then setBit k.bgReady i.toNat true
                                              else k.bgReady,
                      bgAgain := setBit k.bgAgain i.toNat false }
  | .fg _ _ => { k with run := .idle }
  | .nmi => { k with run := .halted }
  | r => { k with run := r }

/-- A core halts (R218): cause 0x6, counted, no CANTER_EXC. -/
def haltCore (c : CoreId) (s : State) : State :=
  modCore s c fun k => { k with run := .halted, cause := 6, bus := 0, xpc := k.pc, xaddr := 0,
                                xfrm := s.frm.no.setWidth 16, cnt := inc16 k.cnt }

/-- A core takes an exception with cause 0x1 to 0x4 at cycle `t` (R216, R217). In the NMI handler it halts (R218). -/
def takeExc (c : CoreId) (cause bus : BitVec 4) (addr : W32) (t : Nat) (s : State) : State :=
  let k := s.core[c]
  if k.run = .nmi then haltCore c s
  else
    let s1 := modCore s c fun k =>
      { k with cause := cause, bus := if cause = 3 then bus else 0, xtask := k.taskId.1, xbg := k.taskId.2, xpc := k.pc,
               xaddr := if cause = 2 ∨ cause = 3 then addr else 0, xfrm := s.frm.no.setWidth 16, cnt := inc16 k.cnt }
    let s2 := modCore (raise 69 (BitVec.ofNat 32 (65536 * c.val + (s1.core[c]).causeReg.toNat)) s1) c fun k =>
      { k.endTask with freeAt := t + 4 }
    let s3 : State := if (act s2 0x0060).getLsbD c.val then
        { s2 with sys := { s2.sys with stopReq := setBit s2.sys.stopReq c.val true } } else s2
    match cause, k.run with
    | 4, .fg _ slot => frameOverrun 2 (BitVec.ofNat 2 c.val) 0 slot s3
    | _, _ => s3

/-- The cycle of the running frame that network time shows. -/
def cycleNow (s : State) : Nat := (s.now - s.frm.tickT + 1) / 2

/-- The state at a cycle of the frame: network time goes with it. -/
def atCycle (t : Nat) (s : State) : State := { s with now := max s.now (s.frm.tickT + 2 * t) }

/-- The budget exception (R215): at the issue cycle `t`, or at the budget's end if a stall reaches it first. -/
def budgetExc (c : CoreId) (t : Nat) (s : State) : State :=
  let at_ := min t ((s.core[c]).startAt + (budgetOf s c).getD 0)
  takeExc c 4 0 0 at_ (atCycle at_ s)

/-- An exception of the instruction at cycle `t`; the budget exception comes first exactly when t ≥ B (R215). -/
def trapAt (c : CoreId) (cause bus : BitVec 4) (addr : W32) (t : Nat) (s : State) : State :=
  if exceeds s c t 1 then budgetExc c t s else takeExc c cause bus addr t (atCycle t s)

/-- Run one instruction on a core. Nothing happens where the core runs no task. -/
def canter (c : CoreId) (legal : Bool) (sh : Shape) (eff : Nat → State → Eff) (s : State) : State :=
  if !canRun s c then s
  else
    let k := s.core[c]
    if !fetchOk s c k.pc then trapAt c 3 2 k.pc k.freeAt s
    else if !legal then trapAt c 1 0 0 k.freeAt s
    else match eff (issueAt k sh) (atCycle (issueAt k sh) s) with
      | .trap cause bus addr => trapAt c cause bus addr (issueAt k sh) s
      | .ok s1 target i =>
        if exceeds s c (issueAt k sh) i then budgetExc c (issueAt k sh) s
        else modCore s1 c fun k1 =>
          { k1.retire sh (issueAt k sh) i with pc := target.getD (k.pc + 4), tw := sh.tw }

/-- A word that decodes to no instruction (R190): the illegal opcode exception. -/
def illegalWord (c : CoreId) (s : State) : State :=
  canter c false { src := [], dst := [], readFl := false, flL := none, macD := none } (fun _ s => .ok s none 1) s

end Sys2Proof.Machine
end

