-- ==== Sys2Proof/Machine/CalTables.lean ====
section
/-! DEFINITION. The factory and lane tables of calibration (R137, R139, R143), rounding and segments (R129, R131), and the DAC
code of an analog output (R133). -/

namespace Sys2Proof.Machine

/-- A quotient rounded to the nearest, halves away from zero (R117, R129). -/
def roundAway (n : Int) (d : Nat) : Int :=
  let q : Int := ((2 * n.natAbs + d) / (2 * d) : Nat)
  if n < 0 then -q else q

/-- Index of the segment that holds `x`, with `seg` wide segments from `base`, clamped to `top`. -/
def segment (x base : Int) (seg top : Nat) : Nat := min top ((x - base) / (seg : Int)).toNat

/-- Index of a lane-correction value in CAL table 5 (R137). -/
def laneCorrIdx (g : GroupId) (c : BitVec 2) (gain w : Nat) : Nat := ((3 * g.val + c.toNat) * 8 + gain) * 18 + w

/-- Nominal lane correction: OFS 0, GN 2^30 / G, LIN 0 (R131). -/
def laneNominal (i : Nat) : W32 := if i % 18 = 1 then BitVec.ofNat 32 (2 ^ 30 / 2 ^ (i / 18 % 8)) else 0

/-- Nominal contents of the factory and lane tables (log entry 12): the difference stored is from these. -/
def calNominal (k : Nat) : W32 :=
  let t := k / 65536
  let i := k % 65536
  if t = 0 then
    (let r := i / 32 % 8
     let e := i % 32
     if r < 6 then BitVec.ofInt 32 (-6200000 + 400000 * (e : Int))
     else if e < 16 then BitVec.ofInt 32 (-6000000 + 800000 * (e : Int))
     else BitVec.ofInt 32 (((-6000000 + 800000 * ((e : Int) - 16)) * 131072) / 5250000))
  else if t = 2 then
    (match i % 4 with
     | 0 => 1000
     | 1 => 800
     | 2 => 760
     | _ => 600)
  else if t = 5 then laneNominal i
  else if t = 6 then (if i % 2 = 1 then 0x40000000 else 0)
  else 0

/-- Read a factory or lane table. -/
def calGet (s : State) (t i : Nat) : W32 := spGet calNominal s.cal.tables (65536 * t + i)
/-- Write a table entry. -/
def calPut (t i : Nat) (v : W32) (s : State) : State :=
  { s with cal := { s.cal with tables := spPut calNominal s.cal.tables (65536 * t + i) v } }

/-- The DAC code of an applied count in mode 10 or 11 (R133): p is exact, held 10^13 times its value. -/
def dacCode (s : State) (n : ChanId) (a : Int) : Int :=
  let r := if modeG s n = 10 then 6 else 7
  let c := (s.grp[chGroup n]).portion
  let i := (8 * n.val + r) * 2
  let dT := (s.grp[chGroup n]).temp - 250000
  let u := roundAway (a * ((c.t3 (i + 1)).toNat : Int) + (c.t3 i).toInt * 2 ^ 30) (2 ^ 30)
  let p : Int := u * 10 ^ 13 + (calGet s 1 i).toInt * dT * 10 ^ 6 + u * (calGet s 1 (i + 1)).toInt * dT
  let v := fun (k : Nat) => (calGet s 0 ((8 * n.val + r) * 32 + 16 + k)).toInt
  let k := segment p (-6000000 * 10 ^ 13) (800000 * 10 ^ 13) 14
  let xk : Int := (-6000000 + 800000 * (k : Int)) * 10 ^ 13
  let y : Int := v k * (800000 * 10 ^ 13) + (v (k + 1) - v k) * (p - xk)
  max (-131072) (min (roundAway y (800000 * 10 ^ 13)) 131071)

end Sys2Proof.Machine
end

