-- ==== Sys2Proof/Machine/Reins.lean ====
section
/-! DEFINITION. The Reins (spec/10_reins_power_governor.md): loads, requests, grants, leases and conflicts. -/

namespace Sys2Proof.Machine

/-- Steady-state cost of a channel's mode in mW (R244). -/
def steadyCost (c : CfgSet) (n : ChanId) : Nat :=
  match fld (c.reg (chAddr n.val 0)) 3 0 with
  | 0 => 0
  | 1 => 60
  | 2 => 60
  | 3 => 60
  | 4 => 50
  | 5 => 50
  | 6 => 15
  | 7 => if (c.reg (chAddr n.val 0x11)).getLsbD 11 then 150 else 15
  | 8 => 25
  | 9 => 15
  | 10 => 120
  | 11 => 300
  | _ => 0

/-- Estimate of a group with no lease (R243). -/
def baseLoad (c : CfgSet) (g : GroupId) : Nat := 250 + ((chansOf g).map (steadyCost c)).sum

/-- A lease that still counts at this tick: granted and not run out (R248 step 1). -/
def liveLease (x : Slot) : Bool := x.st = .granted && !x.due
/-- Every slot. -/
def slotIds : List (Fin 96) := List.finRange 96
/-- Live leases of a group, in mW. -/
def leaseG (s : State) (g : GroupId) : Nat :=
  (slotIds.map fun i => if liveLease s.pgv.slots[i] then (s.pgv.slots[i]).gcost[g] else 0).sum +
    (s.pgv.rest.map fun x => x.gcost[g]).sum
/-- Live leases drawn on the device budget alone, in mW (log entry 16). -/
def leaseD (s : State) : Nat :=
  (slotIds.map fun i => if liveLease s.pgv.slots[i] then (s.pgv.slots[i]).dcost else 0).sum
/-- E_g (R243). -/
def estG (s : State) (g : GroupId) : Nat := baseLoad s.cfg.active g + leaseG s g
/-- corr_g = max(0, s_g) (R252). -/
def corrG (s : State) (g : GroupId) : Nat := (s.pgv.s[g]).toNat
/-- load_g (R243). -/
def loadG (s : State) (g : GroupId) : Nat := estG s g + corrG s g
/-- load_D (R243). -/
def loadD (s : State) : Nat := 2500 + (groups.map (loadG s)).sum + leaseD s
/-- Group and device budgets (R242). -/
def budG (s : State) (g : GroupId) : Nat := (act s (0x0400 + g.val)).toNat
def budD (s : State) : Nat := (act s 0x0408).toNat

/-- Cost of a request on the device budget: its group costs and its device-only cost. -/
def devCost (x : Slot) : Nat := (groups.map fun g => x.gcost[g]).sum + x.dcost

/-- Frames of a duration T in ns (R246). -/
def framesOf (s : State) (t : Nat) : Nat := max 1 ((t + period s.cfg.active - 1) / max 1 (period s.cfg.active))

/-- Cost in mW, duration in ns and class of a device request (R246). The Boolean says that a group pays. -/
def opCost (s : State) : ReqOp → Nat × Nat × BitVec 2
  | .turnOn n =>
    (400, (match fld (chA s n 0x0D) 12 11 with | 1 => 5000000 | 2 => 10000000 | _ => 20000000), 1)
  | .aoEnable _ => (250, 2000000, 1)
  | .excite _ => (40, 1000000, 1)
  | .sweep _ => (120, 1200000000, 2)
  | .handover _ => (100, 1, 2)
  | .record => (350, 25000000, 2)
  | .refresh => (350, 25000000, 2)
  | .nvWrite _ => (350, 25000000, 2)
  | .chunk => (350, 25000000, 2)
  | .burst => (400, 10000000, 1)
  | .burstMaint => (400, 10000000, 2)
  | .readOut => (300, 50000000, 2)
  | .atomSet _ => (0, 1, 1)
  | .reserve => (0, 1, 0)
  | .progChannel _ => (0, 1, 1)
  | .progSet _ => (0, 1, 1)
  | .charge _ => (0, 1, 0)

/-- The group a device request draws on, if any. -/
def opGroup : ReqOp → Option GroupId
  | .turnOn n => some (chGroup n)
  | .aoEnable n => some (chGroup n)
  | .excite n => some (chGroup n)
  | .sweep g => some g
  | .handover g => some g
  | _ => none

/-- Group costs with one group paying. -/
def payG (g : Option GroupId) (mw : Nat) : Vector Nat 8 :=
  match g with
  | some g => (Vector.replicate 8 0).set g mw
  | none => Vector.replicate 8 0

/-- A slot in use. -/
def slotBusy (x : Slot) : Bool := x.st = .pending || x.st = .granted

/-- A live lease whose slot a newer request takes lives on (R249). -/
def keepLease (i : Fin 96) (s : State) : State :=
  if liveLease s.pgv.slots[i] then { s with pgv := { s.pgv with rest := s.pgv.rest ++ [s.pgv.slots[i]] } } else s

/-- Put a request into a slot (R255): a new generation, pending, in order of arrival. -/
def openSlot (i : Fin 96) (op : ReqOp) (cls : BitVec 2) (gc : Vector Nat 8) (dc frames : Nat) (members : BitVec 64)
    (s : State) : State :=
  let s1 := modSlot (keepLease i s) i fun x =>
    { x with st := .pending, gen := x.gen + 1, op := op, cls := cls, gcost := gc, dcost := dc, frames := frames,
             order := s.pgv.seq, deferrals := 0, left := 0, grantable := false, deny := false, due := false,
             adapt := false, members := members, used := 0 }
  { s1 with pgv := { s1.pgv with seq := s1.pgv.seq + 1 } }

/-- Open a slot for a device request at its cost of R246. -/
def openOp (i : Fin 96) (op : ReqOp) (s : State) : State :=
  let (mw, t, cls) := opCost s op
  openSlot i op cls (payG (opGroup op) mw) (if (opGroup op).isNone then mw else 0) (framesOf s t) 0 s

/-- The slot of a channel (R255). -/
def chSlot (n : ChanId) : Fin 96 := ⟨n.val, by have := n.isLt; omega⟩
/-- The shared slots 0x40 to 0x5F (R255). -/
def sharedSlots : List (Fin 96) := slotIds.filter fun i => decide (64 ≤ i.val)
/-- The lowest shared slot not in use (log entry 17). -/
def freeShared (s : State) : Option (Fin 96) := sharedSlots.find? fun i => !slotBusy s.pgv.slots[i]

/-- A request of the Groom core, or of a group's rotation: it takes a free shared slot, or waits for one (R255). -/
def groomReq (op : ReqOp) (s : State) : State :=
  match freeShared s with
  | some i => openOp i op s
  | none => { s with pgv := { s.pgv with wait := s.pgv.wait ++ [op] } }

/-- At the instant a slot frees, a waiting request takes it (R255). -/
def serveWait (s : State) : State :=
  match s.pgv.wait, freeShared s with
  | op :: t, some i => openOp i op { s with pgv := { s.pgv with wait := t } }
  | _, _ => s

/-- A request of this operation is pending or waiting. -/
def reqPending (s : State) (op : ReqOp) : Bool :=
  (slotIds.any fun i => decide (s.pgv.slots[i].st = .pending ∧ s.pgv.slots[i].op = op)) || s.pgv.wait.contains op
/-- A lease of this operation is live. -/
def leaseLive (s : State) (op : ReqOp) : Bool :=
  slotIds.any fun i => decide (s.pgv.slots[i].st = .granted ∧ s.pgv.slots[i].op = op)

/-- The atomic set a channel in mode 3 or 11 is marked in (R251). -/
def inSet (c : CfgSet) (k : Fin 8) (n : ChanId) : Bool :=
  let m := fld (c.reg (chAddr n.val 0)) 3 0
  (m = 3 || m = 11) && (c.reg (0x0440 + 4 * k.val + n.val / 16)).getLsbD (n.val % 16)
def setOf (s : State) (n : ChanId) : Option (Fin 8) := (List.finRange 8).find? fun k => inSet s.cfg.active k n

/-- A pending request of an atomic set, as it was formed (R251). -/
def setPending (s : State) (k : Fin 8) : Option (Fin 96) :=
  slotIds.find? fun i => decide (s.pgv.slots[i].st = .pending ∧ s.pgv.slots[i].op = .atomSet k)
/-- A pending set request has the channel among its members. -/
def memberPending (s : State) (n : ChanId) : Bool :=
  slotIds.any fun i => s.pgv.slots[i].st = .pending && s.pgv.slots[i].members.getLsbD n.val &&
    (match s.pgv.slots[i].op with | .atomSet _ => true | _ => false)

/-- A channel joins the pending request of its set: a member already in it adds no cost (R251). -/
def joinSet (i : Fin 96) (n : ChanId) (mw frames : Nat) (s : State) : State :=
  modSlot s i fun x =>
    if x.members.getLsbD n.val then x
    else { x with gcost := x.gcost.set (chGroup n) (x.gcost[chGroup n] + mw), frames := max x.frames frames
                  members := setBit x.members n.val true }

/-- A channel asks for leave (R72, R92, R101), alone or through its atomic set (R251): a set request already pending
takes it in. While another request is pending in the channel's slot it asks later. -/
def askLeave (n : ChanId) (op : ReqOp) (s : State) : State :=
  let free := decide (s.pgv.slots[chSlot n].st ≠ .pending)
  let alone := if free then openOp (chSlot n) op s else s
  match op, setOf s n with
  | .excite _, _ => alone
  | _, none => alone
  | _, some k =>
    let (mw, t, _) := opCost s op
    match setPending s k with
    | some i => joinSet i n mw (framesOf s t) s
    | none =>
      if free then
        openSlot (chSlot n) (.atomSet k) 1 (payG (some (chGroup n)) mw) 0 (framesOf s t) (setBit 0 n.val true) s
      else s

/-- Count and record a conflict (R253). -/
def conflict (kind : Nat) (g : Option GroupId) (s : State) : State :=
  let last : HWord := BitVec.ofNat 4 kind ++ bit g.isNone ++ BitVec.ofNat 3 ((g.map (·.val)).getD 0) ++
    s.frm.no.setWidth 8
  raise 89 (BitVec.ofNat 32 kind)
    { s with pgv := { s.pgv with conflictCnt := inc16 s.pgv.conflictCnt, conflictLast := last } }

/-- A charge without leave (R247): a lease at once, beside the slots of requests, whether or not it fits; above its budget it
is conflict kind 5. -/
def chargeLease (n : ChanId) (s : State) : State :=
  let (mw, t, _) := opCost s (.turnOn n)
  let x : Slot :=
    { Slot.reset with st := .granted, op := .charge n, cls := 1, gcost := payG (some (chGroup n)) mw
                      frames := framesOf s t, left := framesOf s t }
  let s1 : State := { s with pgv := { s.pgv with rest := s.pgv.rest ++ [x] } }
  if decide (budG s1 (chGroup n) < loadG s1 (chGroup n)) then conflict 5 (some (chGroup n)) s1
  else if decide (budD s1 < loadD s1) then conflict 5 none s1 else s1

/-- An operation of one channel alone. -/
def ownOp (n : ChanId) (op : ReqOp) : Bool :=
  op = .turnOn n || op = .aoEnable n || op = .excite n || op = .progChannel n || op = .charge n

/-- Withdraw a channel's own pending requests, without REINS_DENY, in its slot or a program's (R253, R255). -/
def withdraw (n : ChanId) (s : State) : State :=
  each slotIds (fun i s =>
    let x := s.pgv.slots[i]
    if x.st = .pending && ownOp n x.op then
      serveWait (modSlot s i fun x => { x with st := .ended, grantable := false, deny := false })
    else s) s

/-- A channel's own leases end at the next tick once their operation is switched off (R248). A lease a program has prepared
and that no turn-on has used is not one. -/
def endLease (n : ChanId) (s : State) : State :=
  let mine := fun (x : Slot) => x.st = .granted && ownOp n x.op && decide (x.op ≠ .progChannel n)
  let s1 := each slotIds (fun i s => if mine s.pgv.slots[i] then modSlot s i fun x => { x with left := 0 } else s) s
  { s1 with pgv := { s1.pgv with rest := s1.pgv.rest.map fun x => if mine x then { x with left := 0 } else x } }

/-- A protection action ends every lease of the channel alone, a prepared one too (R253). -/
def endOwn (n : ChanId) (s : State) : State :=
  each slotIds (fun i s =>
    if s.pgv.slots[i].st = .granted && s.pgv.slots[i].op = .progChannel n then modSlot s i fun x => { x with left := 0 }
    else s) (endLease n s)

/-- A request or lease of the channel alone, or one of a set it belongs to. -/
def concerns (n : ChanId) (x : Slot) : Bool := slotBusy x && (ownOp n x.op || x.members.getLsbD n.val)

/-- Protection acts on a channel with a live lease or a pending request (R253 kind 1): its own request is withdrawn and its own
lease ends; a member of a set stays in it. -/
def protectConflict (n : ChanId) (s : State) : State :=
  if (slotIds.any fun i => concerns n s.pgv.slots[i]) || s.pgv.rest.any (concerns n) then
    conflict 1 (some (chGroup n)) (endOwn n (withdraw n s))
  else s

/-- Loads as the examination of one tick sees them: they grow as requests are granted; `blocked` marks budgets (8 is
the device). -/
structure Exam where
  g : Vector Nat 8
  d : Nat
  blocked : BitVec 9

/-- A group out of service (GRP_FAULT.OOS): out of its supply range until its start-up or recovery ends (R168, R394). -/
def oos (x : Grp) : Bool :=
  x.supply = .unpowered || x.supply = .startup || x.supply = .uvoff || x.supply = .overvoltage || x.supply = .recovery ||
  x.supply = .selfFailed || x.selfFail || x.link || x.cfgmm

/-- Examine one pending request (R248). -/
def examine (i : Fin 96) (p : State × Exam) : State × Exam :=
  let (s, e) := p
  let x := s.pgv.slots[i]
  let overG := groups.filter fun g => decide (0 < x.gcost[g]) && decide (budG s g < e.g[g] + x.gcost[g])
  let overD := decide (0 < devCost x) && decide (budD s < e.d + devCost x)
  let hitG := groups.any fun g => decide (0 < x.gcost[g]) && e.blocked.getLsbD g.val
  let hitD := decide (0 < devCost x) && e.blocked.getLsbD 8
  let out := channels.any fun n => x.members.getLsbD n.val && oos s.grp[chGroup n]
  if overG.isEmpty && !overD && !hitG && !hitD && !out then
    (modSlot s i fun x => { x with grantable := true },
     { e with g := Vector.ofFn fun g => e.g[g] + x.gcost[g], d := e.d + devCost x })
  else
    let blocked := overG.foldl (fun b g => setBit b g.val true) (if overD then setBit e.blocked 8 true else e.blocked)
    let n := inc8 x.deferrals
    let fits0 := (groups.all fun g =>
        decide (x.gcost[g] = 0) || decide (e.g[g] + x.gcost[g] ≤ budG s g + corrG s g)) &&
      decide (e.d + devCost x ≤ budD s + (groups.map (corrG s)).sum) && !out
    let adaptNow := fits0 && !hitG && !hitD && !x.adapt
    let s1 := modSlot s i fun x =>
      { x with grantable := false, deferrals := n, deny := decide (fld (act s 0x0409) 7 0 ≤ n.toNat), adapt := x.adapt || adaptNow }
    (if adaptNow then conflict 2 (if overG.isEmpty then none else overG.head?) s1 else s1, { e with blocked := blocked })

/-- Pending slots in class order, then order of arrival (R248). -/
def examOrder (s : State) : List (Fin 96) :=
  (slotIds.filter fun i => s.pgv.slots[i].st = .pending).mergeSort fun i j =>
    let x := s.pgv.slots[i]
    let y := s.pgv.slots[j]
    decide (x.cls < y.cls) || (x.cls = y.cls && decide (x.order ≤ y.order))

/-- Leases that no slot shows run out at the tick. -/
def ageRest (s : State) : State :=
  { s with pgv := { s.pgv with rest := (s.pgv.rest.filter fun x => decide (1 < x.left)).map fun x =>
      { x with left := x.left - 1 } } }

/-- Step 1 of R248: leases whose duration has run out are due to end. A sweep's lease ends with its sweep, at the first
tick 1.2 s after its grant (R144). -/
def ageLeases (s0 : State) : State :=
  let s := ageRest s0
  each slotIds (fun i s =>
    let x := s.pgv.slots[i]
    if x.st = .granted then
      (match x.op with
       | .sweep g =>
         let r := s.grp[g].rot
         modSlot s i fun x =>
           { x with left := x.left - 1
                    due := if r.step = 2 then decide (r.sweepT + 1200000000 ≤ s.now) else decide (x.left ≤ 1) }
       | _ => modSlot s i fun x => { x with left := x.left - 1, due := decide (x.left ≤ 1) })
    else s) s

/-- Step 2 of R248: the measured correction (R252). -/
def updateCorr (s : State) : State :=
  each groups (fun g s =>
    let v : Int :=
      if s.grp[g].supply = .unpowered then 0
      else match s.pgv.power[g] with
        | some p => s.pgv.s[g] + Int.tdiv (p - estG s g - s.pgv.s[g]) 16
        | none => s.pgv.s[g]
    { s with pgv := { s.pgv with s := s.pgv.s.set g v, power := s.pgv.power.set g none } }) s

/-- Kind 3 of R253: a load above its budget with no lease to end, once for each episode. -/
def overCheck (s : State) : State :=
  let one := fun (b : Nat) (load bud lease : Nat) (g : Option GroupId) (s : State) =>
    if decide (load ≤ bud) then { s with pgv := { s.pgv with excess := setBit s.pgv.excess b false } }
    else if decide (lease = 0) && !s.pgv.excess.getLsbD b then
      conflict 3 g { s with pgv := { s.pgv with excess := setBit s.pgv.excess b true } }
    else s
  let s1 := each groups (fun g s => one g.val (loadG s g) (budG s g) (leaseG s g) (some g) s) s
  one 8 (loadD s1) (budD s1) (leaseD s1 + (groups.map (leaseG s1)).sum) none s1

/-- The load registers (R243), updated at each tick. -/
def loadRegs (s : State) : State :=
  { s with pgv := { s.pgv with
      gload := Vector.ofFn fun g => BitVec.ofNat 16 (estG s g)
      gcorr := Vector.ofFn fun g => BitVec.ofNat 16 (corrG s g)
      dload := sat16u (loadD s) } }

/-- What the Reins do at a tick (R248): leases run out, the correction is updated, requests are examined. -/
def reinsTick (s : State) : State :=
  let s1 := updateCorr (ageLeases s)
  let e : Exam := { g := Vector.ofFn fun g => loadG s1 g, d := loadD s1, blocked := 0 }
  loadRegs (overCheck ((examOrder s1).foldl (fun p i => examine i p) (s1, e)).1)

/-- The request handle (R255): generation and slot. -/
def handle (s : State) (i : Fin 96) : W32 := BitVec.ofNat 32 (256 * s.pgv.slots[i].gen.toNat + i.val)

end Sys2Proof.Machine
end

