-- ==== Sys2Proof/Machine/Output.lean ====
section
/-! DEFINITION. The output side of a channel at its group die: who controls it, safe values (R171, R172), apply instants
(R50, R69 to R76, R96 to R102), protective switch-off, quality of an output word (R233). -/

namespace Sys2Proof.Machine

/-- The part of an output word that a mode uses (R67, R96). -/
def outBits (m : Nat) (w : W32) : W32 :=
  if m = 3 ∨ m = 4 then w &&& 0x80000000 else if m = 5 then w &&& 0xFFFF0000 else w &&& 0xFFFFFF00

/-- The writer of a channel is none, or a stopped core (R18, R217). -/
def writerNone (s : State) (n : ChanId) : Bool :=
  let w := writerA s n
  w = 0 || (decide (1 ≤ w ∧ w ≤ 4) && s.sys.stopped.getLsbD (w - 1))

/-- The group die keeps its outputs off: not powered and checked, never heard from the core die, or waiting for a group
fault clear (R10, R25, R168 to R170). -/
def groupOff (x : Grp) : Bool := decide (x.supply ≠ .normal) || x.restWait || !x.heard

/-- A forced channel (R276). -/
def forced (s : State) (n : ChanId) : Bool := s.sys.mode = .commission && (s.ch[n]).out.force.isSome

/-- The safe value of a channel is in force (R172). In HOLD the group die alone decides (R174). -/
def safeInForce (s : State) (n : ChanId) : Bool :=
  let x := s.grp[chGroup n]
  x.holdDone || (s.ch[n]).flt.cfgmm ||
    (!x.hold && (s.sys.mode = .safe || (s.sys.mode = .commission && !forced s n) ||
      s.sys.degMask.getLsbD (chGroup n).val || writerNone s n))

/-- An analog value as an output word. -/
def aoWord (i : Int) : W32 := BitVec.ofInt 24 i ++ (0#8)
/-- The analog value of an output word. -/
def aoVal (w : W32) : Int := (w.extractLsb' 8 24).toInt

/-- Clamp an analog target to the span (R97). -/
def aoClamp (m span : Nat) (x : Int) : Int :=
  let lo : Int := if m = 10 ∧ span = 0 then -5250000 else 0
  let hi : Int := if m = 10 then 5250000 else 5000000
  max lo (min x hi)

/-- The span bit of a channel as its group die holds it. -/
def spanG (s : State) (n : ChanId) : Nat := fld (chG s n 0x13) 15 15
/-- Inrush class at the group die (R71). -/
def inrushG (s : State) (n : ChanId) : Nat := fld (chG s n 0x0D) 12 11

/-- CODE of a channel (R171). -/
def safeCode (s : State) (n : ChanId) : BitVec 24 := (chG s n 0x17).setWidth 8 ++ chG s n 0x18

/-- The selected safe value as an output word; none for HOLD-LAST (R171). -/
def safeWord (s : State) (n : ChanId) : Option W32 :=
  let m := modeG s n
  match fld (chG s n 0x17) 15 14 with
  | 0 => some 0
  | 1 => some (if m = 5 then 0xFFFF0000 else 0x80000000)
  | 2 => none
  | _ => some (if m = 5 then (safeCode s n).setWidth 16 ++ (0#16) else aoWord (aoClamp m (spanG s n) (safeCode s n).toInt))

/-- The safe value to apply: HOLD-LAST is the value of the latest apply instant since the channel entered its mode, else the
mode's start value (R171). -/
def safeValue (s : State) (n : ChanId) : W32 := (safeWord s n).getD (((s.ch[n]).out.last).getD 0)

/-- A running shutdown (R179). -/
def busy (s : State) (n : ChanId) : Bool := (s.ch[n]).flt.busy ≠ 0

/-- Switched off by a protection that a retry or a fault clear ends: thermal shutdown, cross-connection. -/
def heldOff (s : State) (n : ChanId) : Bool :=
  let f := (s.ch[n]).flt
  (f.therm && (s.ch[n]).out.off) || f.tripped

/-- The shutdown that a turn-off starts (R179): demagnetisation of a load of 1 mA or more in mode 3. -/
def shutdownOf (s : State) (n : ChanId) : BitVec 2 :=
  if modeG s n = 3 && (s.ch[n]).out.applied.msb && (s.ch[n]).out.carry then 1 else 0

/-- A running test pulse ends now, before its width (R78, R79). -/
def endPulse (now : Nat) (o : ChDo) : ChDo := { o with pulse := none, pulseT := if o.pulse.isSome then now else o.pulseT }

/-- PWM high phase of a duty in units of 8 ns, of a period of P units (R75): short phases are left out. -/
def pwmHighOf (s : State) (n : ChanId) (duty : Nat) : Nat :=
  let p := (chG s n 0x0E).toNat * 2 ^ fld (chG s n 0x0F) 2 0
  let h := if duty = 0xFFFF then p else duty * p / 65536
  if h * 8 < 1000 then 0 else if (p - h) * 8 < 1000 then p else h

/-- What a turn-on of a mode-3 output does to the knowledge of its load current: free until the next tick (log entry 61). -/
def turnedOn (n : ChanId) (o : ChDo) : ChDo :=
  { o with turns := o.turns + 1, onNew := true, carry := Config.loadCarries n.val o.turns }

/-- Set the applied word of a channel; a PWM period starts (R76), a changed state ends a test pulse (R79), ON ends a suspicion
(R162), and the DAC takes its code (R98, R133). -/
def setApplied (n : ChanId) (w : W32) (s : State) : State :=
  let m := modeG s n
  let s1 := if (m = 3 ∨ m = 4) ∧ w.msb then modFlt s n fun f => { f with suspect := false } else s
  modOut s1 n fun o0 =>
    let o1 := if outBits m o0.applied = outBits m w then o0 else endPulse s.now o0
    let o := if m = 3 ∧ w.msb ∧ !o0.applied.msb then turnedOn n o1 else o1
    { o with applied := w, want := w, started := true, off := false,
             dac := if m = 10 ∨ m = 11 then dacCode s n (aoVal w) else o.dac,
             pwmHigh := m = 5 && decide (0 < pwmHighOf s n (w.toNat / 65536)),
             pwmLow := if m = 5 then (chG s n 0x0E).toNat * 2 ^ fld (chG s n 0x0F) 2 0 -
                 pwmHighOf s n (w.toNat / 65536) else 0 }

/-- Start a running shutdown. -/
def startBusy (n : ChanId) (k : BitVec 2) (s : State) : State :=
  if k = 0 then s else modFlt s n fun f => { f with busy := k }

/-- The request queued after a further one (R179): a later request replaces it, save that a switch stays (log entry
18). -/
def laterReq : Option QReq → QReq → QReq
  | some (.switch e), .switch e' => .switch (e || e')
  | some (.switch e), _ => .switch e
  | _, q => q

/-- Queue a request behind a running shutdown (R179). -/
def queueReq (n : ChanId) (q : QReq) (s : State) : State :=
  modOut (modFlt s n fun f => { f with queued := some (laterReq f.queued q) }) n fun o => { o with held := true }

/-- Quality of the output as it stands (R233): VALID says that the applied value is the value written. -/
def outQual (s : State) (n : ChanId) : Byte :=
  let m := modeA s n
  if !isOutMode m then 0
  else
    let o := (s.ch[n]).out
    let f := (s.ch[n]).flt
    let subst := o.subst || writerNone s n || groupOff s.grp[chGroup n] || f.tripped
    let valid := !subst && !o.held && !o.clamped && !o.off && decide (outBits m o.applied = outBits m s.pi.outw[n])
    (0#1) ++ bit subst ++ bit o.held ++ bit (f.limit || f.therm || f.suspect || f.stuck || f.cross) ++ bit f.opn ++
      (0#1) ++ bit o.clamped ++ bit valid

/-- Keep the quality of the output as applied at this apply instant (R67, R233). -/
def latchQual (n : ChanId) (s : State) : State := modOut s n fun o => { o with qual := outQual s n }

/-- Switch an output off without leave, in a mode with an output (R159, R167, R174): the value goes to 0, a mode-11
stage opens at once, mode-3 demagnetisation runs. Its lease ends (R248). -/
def switchOff (n : ChanId) (s : State) : State :=
  let m := modeG s n
  if !isOutMode m then s
  else
    let k := shutdownOf s n
    let s1 := startBusy n k (modOut s n fun o =>
      { endPulse s.now o with
               applied := 0, off := true, stageOn := false, ramp := false, inrush := false
               pwmHigh := false, pwmLow := 0, armed := none, clamped := false
               dac := if m = 10 ∨ m = 11 then dacCode s n 0 else o.dac })
    latchQual n (onCore (endLease n) s1)

/-- Put a safe value into force (R171, R172): a turn-on with an inrush class is charged without leave (R247), OFF of mode 11
ramps down (R101), and another target of mode 11 closes the stage. -/
def putSafe (n : ChanId) (w : W32) (s : State) : State :=
  let m := modeG s n
  let o := (s.ch[n]).out
  let sel := fld (chG s n 0x17) 15 14
  if m = 11 ∧ sel = 0 then
    (if o.stageOn then endLease n (startBusy n 2 (setApplied n 0 s)) else setApplied n 0 s)
  else if m = 11 then modOut (setApplied n w s) n fun x => { x with stageOn := decide (sel ≠ 2) || o.stageOn || decide (w ≠ 0) }
  else if m = 3 ∧ w.msb ∧ !o.applied.msb then
    (if inrushG s n = 0 then setApplied n w s
     else chargeLease n (modOut (setApplied n w s) n fun x => { x with inrush := true }))
  else if m = 3 ∧ !w.msb then
    (if o.applied.msb then endLease n (startBusy n (shutdownOf s n) (setApplied n w s)) else setApplied n w s)
  else setApplied n w s

/-- Apply the safe value of a channel (R171, R172): at the tick, without CH_OUTDLY and without the ramp. -/
def applySafe (n : ChanId) (s : State) : State :=
  if !isOutMode (modeG s n) then s
  else
    let s1 := modOut s n fun o => { endPulse s.now o with
      subst := true, held := false, ramp := false, clamped := false, armed := none }
    latchQual n (
      if groupOff s.grp[chGroup n] then modOut s1 n fun o => { o with off := true }
      else if busy s n then queueReq n .safe s1
      else if heldOff s n then s1
      else putSafe n (safeValue s n) s1)

/-- A safe value in force is not applied yet, or what held the output off has ended since. A group die in HOLD decides
alone (R174). -/
def safeDue (s : State) (n : ChanId) : Bool :=
  let o := (s.ch[n]).out
  let x := s.grp[chGroup n]
  safeInForce s n && !x.hold && (!o.subst || (o.off && !groupOff x))

/-- Apply the safe value on every channel of a list where it is due. -/
def refreshSafe (l : List ChanId) (s : State) : State := each l (fun n s => if safeDue s n then applySafe n s else s) s

/-- One ramp step (R100). -/
def rampStep (s : State) (n : ChanId) (a w : Int) : Int :=
  let r := chG s n 0x14
  let step : Int := fld r 11 0 * 2 ^ fld r 15 12
  if fld r 11 0 = 0 || decide ((w - a).natAbs ≤ step.natAbs) then w else if a < w then a + step else a - step

/-- Ask for the leave of a turn-on or enable, once (R72, R101). -/
def askOnce (n : ChanId) (op : ReqOp) (s : State) : State :=
  let s1 := modOut s n fun o => { o with held := true, leave := true }
  if (s.ch[n]).out.leave then s1 else askLeave n op s1

/-- A prepared lease of a program for the turn-on of a channel (R254): alone or through its set. -/
def prepared (s : State) (n : ChanId) : Option (Fin 96) :=
  slotIds.find? fun i =>
    let x := s.pgv.slots[i]
    liveLease x && (x.op = .progChannel n || (x.members.getLsbD n.val && !x.used.getLsbD n.val &&
      (match x.op with | .progSet _ => true | _ => false)))

/-- A turn-on uses the prepared lease, which then runs for the class duration from that turn-on (R254). A set's lease stays the
set's, and notes the member that has used it. -/
def usePrepared (i : Fin 96) (n : ChanId) (op : ReqOp) (s : State) : State :=
  let (_, t, _) := opCost s op
  modSlot s i fun x =>
    { x with op := if x.op = .progChannel n then op else x.op, left := framesOf s t, frames := framesOf s t
             used := setBit x.used n.val true }

/-- Apply a value the writer or a force gives: leave-gated where R72 and R101 say so, ramped and clamped where R97 and
R100 say so. `move` is false where the instant keeps the previous words. -/
def applyValue (n : ChanId) (w : W32) (move : Bool) (s : State) : State :=
  let m := modeG s n
  let o := (s.ch[n]).out
  let live := fun (s : State) => modOut s n fun o => { o with subst := false, held := !move, clamped := false }
  if m = 3 then
    (if w.msb && !o.applied.msb then
      (if inrushG s n = 0 then setApplied n 0x80000000 (live s)
       else if o.granted then
         setApplied n 0x80000000 (modOut (live s) n fun o => { o with granted := false, leave := false, inrush := true })
       else match prepared s n with
         | some i => setApplied n 0x80000000 (modOut (live (usePrepared i n (.turnOn n) s)) n fun o =>
             { o with leave := false, inrush := true })
         | none => askOnce n (.turnOn n) (modOut (live s) n fun o => { o with off := false }))
     else if w.msb then setApplied n 0x80000000 (live s)
     else
      let s1 := startBusy n (shutdownOf s n) (setApplied n 0 (modOut (live s) n fun o =>
        { o with granted := false, leave := o.leave && !o.granted, inrush := false }))
      if o.applied.msb then endLease n s1 else s1)
  else if m = 4 then setApplied n (w &&& 0x80000000) (live s)
  else if m = 5 then setApplied n (w &&& 0xFFFF0000) (live s)
  else if m = 10 ∨ m = 11 then
    (let target := aoClamp m (spanG s n) (aoVal w)
     let go := fun (a : Int) (s : State) =>
       let a' := if move then rampStep s n a target else a
       modOut (setApplied n (aoWord a') (live s)) n fun o =>
         { o with ramp := decide (a' ≠ target), clamped := decide (target ≠ aoVal w) }
     if m = 10 ∨ o.stageOn then go (aoVal o.applied) s
     else if o.granted then go 0 (modOut s n fun o => { o with granted := false, leave := false, stageOn := true })
     else match prepared s n with
       | some i => go 0 (modOut (usePrepared i n (.aoEnable n) s) n fun o => { o with leave := false, stageOn := true })
       | none => askOnce n (.aoEnable n) (modOut (live s) n fun o => { o with off := false }))
  else s

/-- The value applied at an apply instant is what HOLD-LAST keeps (R171). -/
def noteLast (n : ChanId) (s : State) : State := modOut s n fun o => { o with last := some o.applied }

/-- An output value at an apply instant while a shutdown runs (R179): one that would switch the function on again is queued, and
an OFF takes the place of a queued value. -/
def valueBehind (n : ChanId) (w : W32) (s : State) : State :=
  if modeG s n = 3 ∧ !w.msb then
    (match (s.ch[n]).flt.queued with
     | some (.value _) => modOut (modFlt s n fun f => { f with queued := none }) n fun o => { o with held := false }
     | _ => s)
  else queueReq n (.value w) s

/-- What an apply instant applies to a channel (R37, R50): `fresh` says that a transfer completed for it. -/
def applyAt (n : ChanId) (fresh : Bool) (s : State) : State :=
  let x := s.grp[chGroup n]
  let o := (s.ch[n]).out
  if groupOff x || x.hold || safeInForce s n then s
  else
    let w := if forced s n then o.force.getD 0 else o.xfer
    let move := forced s n || (fresh && !o.keep)
    if busy s n then (if move then valueBehind n w s else s)
    else if heldOff s n then s
    else noteLast n (applyValue n w move s)

/-- An apply instant of a channel: its value, then the quality that a read shows (R67). -/
def applyCh (n : ChanId) (fresh : Bool) (s : State) : State :=
  if isOutMode (modeG s n) then latchQual n (applyAt n fresh s) else s

/-- The switch at a group die of a channel whose mode or settings change: a running shutdown starts where R179 names one,
and the new function waits behind it. -/
def leaveMode (n : ChanId) (old : CfgSet) (s : State) : State :=
  let m := fld (old.reg (chAddr n.val 0)) 3 0
  let o := (s.ch[n]).out
  let k : BitVec 2 :=
    if m = 3 ∧ o.applied.msb ∧ o.carry then 1
    else if m = 11 ∧ o.stageOn then 2
    else if (m = 8 ∧ (s.ch[n]).ai.exc) ∨ (m = 7 ∧ (old.reg (chAddr n.val 0x11)).getLsbD 11 ∧
        (decide (modeG s n ≠ 7) || !(chG s n 0x11).getLsbD 11)) then 3 else 0
  endLease n (withdraw n (startBusy n k (modOut (modAi s n fun a => { a with exc := false, excLeave := false }) n fun o =>
    { endPulse s.now o with leave := false, granted := false, inrush := false })))

/-- Filter top of a channel at its group die. -/
def topG (s : State) (n : ChanId) : Nat := (chG s n 0x06).toNat

/-- A channel in mode 11 whose writer has control asks for the enable of its stage (R101): when it enters the mode, and when a safe
value ends. -/
def askStage (n : ChanId) (s : State) : State :=
  let x := s.grp[chGroup n]
  if modeG s n = 11 && !(s.ch[n]).out.stageOn && !groupOff x && !x.hold && !safeInForce s n && !heldOff s n && !busy s n &&
      (prepared s n).isNone then latchQual n (askOnce n (.aoEnable n) (modOut s n fun o => { o with subst := false, off := false }))
  else s

/-- Entry of the function that the portion names (R59, R62, R102, R103): outputs start at their start value, inputs have
no result, the counter is cleared; mode 8 asks for its excitation (R92), mode 11 for its stage (R101). The word of the switch frame
shows the state at entry. DESIGN CHOICE (log entry 60): a channel that enters mode 3, 4 or 5 keeps its filtered state, and its
count clamped to the new TOP. -/
def enterMode (n : ChanId) (old : CfgSet) (s : State) : State :=
  let m := modeG s n
  let om := fld (old.reg (chAddr n.val 0)) 3 0
  let s1 := modCh s n fun x =>
    { x with
      di := { x.di with
        state := if (m = 1 ∨ m = 2) ∧ om ≠ 1 ∧ om ≠ 2 then x.di.raw else x.di.state
        tPh := if 1 ≤ om ∧ om ≤ 5 then x.di.tPh else s.frm.tickT
        fcnt := if (m = 1 ∨ m = 2) ∧ om ≠ 1 ∧ om ≠ 2 then (if x.di.raw then topG s n else 0) else min x.di.fcnt (topG s n)
        count := if m = 2 ∧ om ≠ 2 then 0 else x.di.count
        snapState := (m = 1 ∨ m = 2) && (if om ≠ 1 ∧ om ≠ 2 then x.di.raw else x.di.snapState)
        snapRaw := if m = om then x.di.snapRaw else x.di.raw
        snapEdges := if om = 1 ∨ om = 2 then x.di.snapEdges else 0
        snapRecs := if om = 1 ∨ om = 2 then x.di.snapRecs else .replicate 4 0
        clrReq := false, lastEdge := none, period := none, gateOn := false, gateFirst := none, gateLast := 0,
        gateM := 0, freq := none, value := 0, valOk := false, valOvr := false }
      out := { x.out with applied := 0, started := false, held := false, clamped := false, off := false, stageOn := false,
                          leave := false, granted := false, ramp := false, inrush := false, pwmHigh := false,
                          pwmLow := 0, pulse := none, armed := none, subst := false, want := 0, last := none
                          dac := if m = 10 ∨ m = 11 then dacCode s n 0 else x.out.dac }
      ai := { x.ai with has := false, shown := false, fresh := false, val := 0, ovr := false, rcv := false, cal := false, exc := false,
                        senseOpen := false, senseTrial := false, cjfb := false, excLeave := false }
      flt := { x.flt with suspect := false, darkWait := 0, limit := false, opn := false, wbOpen := false, queued := none
                          seen := x.flt.seen &&& 0xF8 } }
  let s2 := if m = 8 ∧ s.grp[chGroup n].supply = .normal then
      askLeave n (.excite n) (modAi s1 n fun a => { a with excLeave := true }) else s1
  latchQual n (askStage n (refreshSafe [n] s2))

/-- The quality byte of an output word (R67): as at the latest apply instant of its group die, which an unpowered one has no
longer. -/
def shownQual (s : State) (n : ChanId) : Byte :=
  if !isOutMode (modeA s n) then 0
  else if s.grp[chGroup n].supply = .unpowered then outQual s n else (s.ch[n]).out.qual

/-- An output word as a read of the process image gives it (R67, R96). -/
def outWord (s : State) (n : ChanId) : W32 := (s.pi.outw[n]).extractLsb' 8 24 ++ shownQual s n

/-! ### Fault and busy registers -/

/-- CH_FAULT (R152). -/
def chFaultReg (f : ChFlt) : HWord :=
  bit f.unsafe_ ++ bit f.cfgmm ++ bit f.cross ++ bit f.stuck ++ bit f.therm ++ bit f.limit ++ bit f.opn ++
    bit f.suspect ++ (0#8)
/-- Bits 15:8 of CH_FAULT. -/
def faultBits (f : ChFlt) : Byte := (chFaultReg f).extractLsb' 8 8
/-- CH_BUSY (R179). -/
def chBusyReg (f : ChFlt) : HWord := bit (f.busy ≠ 0) ++ bit f.queued.isSome ++ f.busy ++ (0#12)

/-- A turn-on, an enable or an excitation waits for leave (R72, R92, R101). -/
def waitsLeave (x : Chan) : Bool := x.ai.excLeave || (x.out.leave && !x.out.granted)

/-- The status word of a channel (R234). -/
def statusWord (s : State) (n : ChanId) : W32 :=
  let x := s.ch[n]
  let leave := waitsLeave x
  faultBits x.flt ++ bit (x.flt.busy ≠ 0) ++ bit x.flt.queued.isSome ++ bit leave ++ bit x.out.ramp ++ (0#16) ++
    BitVec.ofNat 4 (modeA s n)

/-- A held CH_FAULT bit: THERM with RETRY 0, STUCK, CROSS, CFGMM (R152). -/
def heldFault (s : State) (n : ChanId) : Bool :=
  let f := (s.ch[n]).flt
  f.stuck || f.cross || f.cfgmm || (f.therm && decide (fld (chG s n 0x19) 10 8 = 0))

/-- GRP_FAULT. -/
def grpFaultReg (s : State) (g : GroupId) : HWord :=
  let x := s.grp[g]
  let chf : Byte := BitVec.ofNat 8 ((chansOf g).foldl
    (fun a n => a + if heldFault s n then 2 ^ (chPos n).val else 0) 0)
  let low := bit (oos x) ++ bit x.holdSeen ++ bit x.selfFail ++ bit x.cfgmm ++ bit x.link ++ bit x.restWait ++
    bit x.ovc ++ chf
  bit (low ≠ 0) ++ low

/-- The safe value of a channel could not be reached (R173). -/
def unsafeNow (s : State) (n : ChanId) : Bool :=
  let m := modeG s n
  let f := (s.ch[n]).flt
  let x := s.grp[chGroup n]
  let sel := fld (chG s n 0x17) 15 14
  let on := sel = 1 || (sel = 3 && safeCode s n ≠ 0)
  isOutMode m &&
    ((f.stuck && !(sel = 1)) ||
      ((f.therm || f.limit || (f.opn && m = 11) || x.supply = .uvoff || x.supply = .overvoltage ||
        x.supply = .unpowered) && on) ||
      (f.cfgmm && decide (chG s n 0x17 ≠ chA s n 0x17 ∨ chG s n 0x18 ≠ chA s n 0x18)))

end Sys2Proof.Machine
end

