-- ==== Sys2Proof/Machine/Logbook.lean ====
section
/-! DEFINITION. The Logbook (R328 to R336): frame records, waveform blocks, telemetry, read-out; Farrier warnings. -/

namespace Sys2Proof.Machine

/-! ### Read-out (R335) -/

/-- Records `first` to `first + count - 1` as stored. -/
def logBytes (s : State) (b : Fin 5) (first count : Nat) : List Byte :=
  (List.range count).flatMap fun i => memGets s.log.mem (recAddr s b (first + i)) (recSize s.cfg.active b.val)

/-- What a read-out gets: GAP, the first record, and the number of records, at most `cap`. Where the 32-bit index has passed its
end between OLD and NEXT, an index that is not held counts as older (log entry 15). -/
def logSpan (s : State) (b : Fin 5) (first count cap : Nat) : Bool × Nat × Nat :=
  let l := s.log.bufs[b]
  let f : W32 := BitVec.ofNat 32 first
  let held := (l.next - l.old).toNat
  let inside := decide ((f - l.old).toNat < held)
  let gap := !inside && (decide (l.next < l.old) || decide (f < l.old))
  (gap, if gap then l.old.toNat else first,
   min (min count cap) (if inside then (l.next - f).toNat else if gap then held else 0))

/-- The Groom core asks for leave for each 1 MiB it serves, and holds the next response until the grant (R335). -/
def serveBytes (n : Nat) (s : State) : State :=
  let t := s.log.served + n
  if t < 1048576 then { s with log := { s.log with served := t } }
  else groomReq .readOut { s with log := { s.log with served := t - 1048576, heldRead := true } }

/-! ### Frame records (R330) -/

/-- Channels a selection marks, in ascending order. -/
def marked (c : CfgSet) (base : Nat) : List ChanId :=
  channels.filter fun n => (c.reg (base + n.val / 16)).getLsbD (n.val % 16)

/-- The record of the frame that ended. -/
def frameBytes (s : State) : List Byte :=
  leBytes 4 s.frm.prev.toNat ++
    (marked s.cfg.active 0x0C2C).flatMap (fun n => leBytes 4 (s.pi.inw[n]).toNat) ++
    (marked s.cfg.active 0x0C30).flatMap (fun n => leBytes 4 (outWord s n).toNat)

/-- FRAME_RECORD (R330): at the ticks where FRM_NO mod 2^DIV is 0. -/
def execFrameRecord (s : State) : Host.Outcome State Fault Refusal :=
  .next (afterBoot (fun s =>
    if s.frm.no.toNat % 2 ^ fld (act s 0x0C28) 3 0 = 0 then record 0 (frameBytes s) s else s) s)

/-- A record of buffer `b` with an uncorrectable error has been served (R336). -/
def eccServed (b : Fin 5) (s : State) : State :=
  raise 115 1 (modBuf s b fun l => { l with eccErr := true })

/-! ### Waveform capture (R332, R333) -/

/-- Capture of a group runs: selected and interleaving, and continuous or armed. -/
def capturing (s : State) (g : GroupId) : Bool :=
  let w := act s 0x0C34
  w.getLsbD g.val && (s.grp[g]).ilv && (!w.getLsbD 15 || s.log.bufs[2].armed)

/-- Write the block of a group: 254 samples, unused slots 0. -/
def putBlock (g : GroupId) (s : State) : State :=
  let w := s.log.wave[g]
  let n := w.samples.length
  let bytes := leBytes 4 w.frm.toNat ++ [BitVec.ofNat 8 g.val, BitVec.ofNat 8 n] ++ leBytes 2 w.j.toNat ++
    w.samples.flatMap (fun x => leBytes 4 x.toNat) ++ leBytes (4 * (254 - n)) 0
  record 2 bytes { s with log := { s.log with wave := s.log.wave.set g { frm := 0, j := 0, samples := [] } } }

/-- Add a sample to a group's block; a full block is written first. -/
def addSample (g : GroupId) (j : Nat) (x : W32) (s : State) : State :=
  if !capturing s g then s
  else
    let s1 := if 254 ≤ (s.log.wave[g]).samples.length then putBlock g s else s
    let w := s1.log.wave[g]
    let w' : Wave := if w.samples.isEmpty then { frm := s.frm.no.setWidth 32, j := BitVec.ofNat 16 j, samples := [x] }
      else { w with samples := w.samples ++ [x] }
    { s1 with log := { s1.log with wave := s1.log.wave.set g w' } }

/-- WAVE_BLOCK_WRITE (R332): a block of 254 samples, or what is held when capture has stopped. -/
def execWaveBlockWrite (g : GroupId) (s : State) : Host.Outcome State Fault Refusal :=
  .next (onCore (fun s =>
    let n := (s.log.wave[g]).samples.length
    if 254 ≤ n || (decide (0 < n) && !capturing s g) then putBlock g s else s) s)

/-- WAVE_CAPTURE_STOP (R333): POST frames after the trigger. -/
def execWaveCaptureStop (s : State) : Host.Outcome State Fault Refusal :=
  .next (onCore (fun s =>
    if s.log.trigFrm = some 0 then
      modBuf { s with log := { s.log with trigFrm := none } } 2 fun l => { l with armed := false, trigd := true }
    else s) s)

/-! ### Telemetry (R334) -/

/-- Two bytes of a signed value. -/
def le2 (i : Int) : List Byte := leBytes 2 (BitVec.ofInt 16 i).toNat

/-- The telemetry record. -/
def telemBytes (s : State) : List Byte :=
  leBytes 8 s.now ++ leBytes 4 s.frm.no.toNat ++ leBytes 4 0 ++
    s.far.temps.toList.flatMap (fun x => leBytes 2 x.toNat) ++
    s.far.sups.toList.flatMap (fun x => leBytes 2 x.toNat) ++
    groups.flatMap (fun g => leBytes 2 (s.grp[g]).lplus.toNat) ++
    s.far.link100.toList.flatMap (fun x => leBytes 2 x.toNat) ++
    s.far.ofsChange.toList.flatMap (fun x => leBytes 2 x.toNat) ++
    channels.flatMap (fun n => le2 (if 3 ≤ modeA s n ∧ modeA s n ≤ 5 then (s.ch[n]).out.iload else 0)) ++ leBytes 4 0

/-- End of a lapse of a Farrier guarantee (R340). -/
def jobDone (code : Nat) (s : State) : State :=
  { s with far := { s.far with starved := setBit s.far.starved code false } }

/-- TELEMETRY_RECORD (R334). -/
def execTelemetryRecord (t : Nat) (temps : List Int) (sups : List HWord) (s : State) :
    Host.Outcome State Fault Refusal :=
  .next (afterBoot (fun s =>
    let s1 : State := { s with now := max s.now t, far := { s.far with
      temps := Vector.ofFn fun i => BitVec.ofInt 16 (temps.getD i.val 0)
      sups := Vector.ofFn fun i => sups.getD i.val 0 } }
    let s2 := record 3 (telemBytes s1) s1
    jobDone 5 { s2 with far := { s2.far with link100 := .replicate 8 0 } }) s)

/-- TEMP_WARN (R334): once for each episode. -/
def execTempWarn (die : Fin 10) (passed : Bool) (s : State) : Host.Outcome State Fault Refusal :=
  .next (onCore (fun s =>
    let s1 : State := { s with far := { s.far with tempWarn := setBit s.far.tempWarn die.val passed } }
    if passed && !s.far.tempWarn.getLsbD die.val then raise 116 (BitVec.ofNat 32 die.val) s1 else s1) s)

/-- SUPPLY_WARN (R334): supply codes in the order of R334, VIN first (log entry 19). -/
def execSupplyWarn (sup : Fin 4) (out_ : Bool) (s : State) : Host.Outcome State Fault Refusal :=
  .next (onCore (fun s =>
    let s1 : State := { s with far := { s.far with supWarn := setBit s.far.supWarn sup.val out_ } }
    if out_ && !s.far.supWarn.getLsbD sup.val then raise 117 (BitVec.ofNat 32 sup.val) s1 else s1) s)

/-- BACKGROUND_STARVED (R340): once for each episode. -/
def execBackgroundStarved (code : Fin 6) (s : State) : Host.Outcome State Fault Refusal :=
  .next (onCore (fun s =>
    if code = 0 || s.far.starved.getLsbD code.val then s
    else raise 90 (BitVec.ofNat 32 code.val)
      { s with far := { s.far with starved := setBit s.far.starved code.val true,
                                   lapse := setBit s.far.lapse code.val true } }) s)

end Sys2Proof.Machine
end

