-- ==== Sys2Proof/Machine/Digital.lean ====
section
/-! DEFINITION. Digital channels at their group die (spec/03_digital_channels.md): comparator and filter (R57 to R60),
edges, counter, period and frequency (R51, R61 to R66), test pulses and what they find (R77 to R79, R162 to R165). -/

namespace Sys2Proof.Machine

/-- Network time advances to `t`. -/
def atTime (t : Nat) (s : State) : State := { s with now := max s.now t }

/-- Raise an event while the core die runs. -/
def raiseOn (e : Fin 128) (payload : W32) (s : State) : State := onCore (raise e payload) s

/-- The summary event of a channel. -/
def chEvent (n : ChanId) : Fin 128 := ⟨n.val, by have := n.isLt; omega⟩

/-- Raise the summary event of a channel: its payload is CH_FAULT (R153, R238). -/
def raiseSum (n : ChanId) (s : State) : State := raiseOn (chEvent n) ((chFaultReg (s.ch[n]).flt).setWidth 32) s

/-- The group die of a channel runs. -/
def alive (s : State) (g : GroupId) : Bool := decide (s.grp[g].supply ≠ .unpowered)

/-- A digital mode (R52). -/
def isDigMode (m : Nat) : Bool := decide (1 ≤ m) && decide (m ≤ 5)

/-! ### Filter -/

/-- Filter clock period in ns (R57). -/
def filtT (s : State) (n : ChanId) : Nat := 100 * 2 ^ fld (chG s n 5) 10 8

/-- The filter count `k` samples after it was `c`, while RAW is `raw`. -/
def fcntAfter (raw : Bool) (top c k : Nat) : Nat := if raw then min (c + k) top else c - k

/-- The filter count at time `t` (R57, R58). -/
def fcntAt (s : State) (n : ChanId) (t : Nat) : Nat :=
  let d := (s.ch[n]).di
  fcntAfter d.raw (topG s n) d.fcnt ((t - d.tPh) / filtT s n)

/-- DI_RAW_CHANGE (R55, R58): timestamped; the filter clock restarts its phase. The comparator follows its terminal in every
mode; the filter runs in the digital modes. -/
def execDiRawChange (ch : ChanId) (raw : Bool) (t : Nat) (s : State) : Host.Outcome State Fault Refusal :=
  .next (
    if alive s (chGroup ch) && decide ((s.ch[ch]).di.raw ≠ raw) then
      modDi (atTime t s) ch fun d =>
        if isDigMode (modeG s ch) then { d with raw := raw, tRaw := t, tPh := t, fcnt := fcntAt s ch t }
        else { d with raw := raw, tRaw := t }
    else s)

/-- The instant at which the filtered state changes (R58): at a sample, so at least T_f after the phase began even where a new
TOP has clamped the count to it (R59). -/
def edgeTime (s : State) (n : ChanId) : Nat :=
  let d := (s.ch[n]).di
  d.tPh + max 1 (if d.raw then topG s n - d.fcnt else d.fcnt) * filtT s n

/-- INV of a channel in mode 1 or 2 (R60). -/
def invG (s : State) (n : ChanId) : Bool := (modeG s n = 1 || modeG s n = 2) && (chG s n 0).getLsbD 7

/-- A quotient rounded to the nearest unit; a tie is free (log entry 21). -/
def nearest (a b : Nat) : Nat :=
  if 2 * (a % b) < b then a / b else if b < 2 * (a % b) then a / b + 1 else a / b + (Config.tieUp a b).toNat

/-- Record an edge of the window: the first four carry a timestamp (R51). -/
def noteEdge (rise : Bool) (t : Nat) (d : ChDi) : ChDi :=
  { d with nEdges := d.nEdges + 1,
           edges := if d.edges.length < 4 then d.edges ++ [bit rise ++ BitVec.ofNat 63 t] else d.edges }

/-- Count an edge (R62): the counter wraps and sets WRAP. -/
def countEdge (d : ChDi) : ChDi := { d with count := d.count + 1, wrap := d.wrap || d.count = 0xFFFFFFFF }

/-- An edge of the measuring polarity (R64, R65). -/
def measEdge (t : Nat) (d : ChDi) : ChDi :=
  { d with period := d.lastEdge.map fun u => t - u, lastEdge := some t,
           gateM := if d.gateOn then d.gateM + 1 else d.gateM,
           gateFirst := if d.gateOn then some (d.gateFirst.getD t) else d.gateFirst, gateLast := t }

/-- What the input modes do with an edge of the reported state. -/
def inputEdge (m edge : Nat) (rise : Bool) (t : Nat) (d : ChDi) : ChDi :=
  if m = 1 then noteEdge rise t d
  else if m = 2 then
    let d1 := noteEdge rise t d
    let d2 := if edge = 2 || (edge = 0 && rise) || (edge = 1 && !rise) then countEdge d1 else d1
    if (edge = 1) = !rise then measEdge t d2 else d2
  else d

/-- DI_FILTER_CHANGE (R57, R58, R60, R62): the filtered state takes the raw state at the computed instant. -/
def execDiFilterChange (ch : ChanId) (t : Nat) (s : State) : Host.Outcome State Fault Refusal :=
  .next (
    let d := (s.ch[ch]).di
    let te := edgeTime s ch
    if isDigMode (modeG s ch) && alive s (chGroup ch) && decide (d.raw ≠ d.state) && decide (te ≤ t) then
      modDi (atTime t s) ch fun d =>
        inputEdge (modeG s ch) (fld (chG s ch 7) 15 14) (d.raw != invG s ch) te
          { d with state := d.raw, fcnt := if d.raw then topG s ch else 0, tPh := te }
    else s)

/-! ### Counter, period, frequency -/

/-- Unit of the period in ns (R64). -/
def punit (s : State) (n : ChanId) : Nat :=
  match fld (chG s n 7) 11 10 with
  | 0 => 1
  | 1 => 100
  | _ => 10000

/-- The period as VALUE, VALID, OVR at time `t` (R64). -/
def periodValue (s : State) (n : ChanId) (t : Nat) : BitVec 23 × Bool × Bool :=
  let d := (s.ch[n]).di
  let big := 0x7FFFFF * punit s n
  match d.period with
  | none => (0, false, false)
  | some p =>
    if big < p ∨ big < t - d.lastEdge.getD t then (0x7FFFFF, true, true)
    else (BitVec.ofNat 23 (nearest p (punit s n)), true, false)

/-- The frequency as VALUE, VALID, OVR (R65). -/
def freqValue (d : ChDi) : BitVec 23 × Bool × Bool :=
  match d.freq with
  | none => (0, false, false)
  | some f => if 0x7FFFFF < f then (0x7FFFFF, true, true) else (BitVec.ofNat 23 f, true, false)

/-- VALUE of a mode-2 word at a tick (R63). -/
def cntValue (s : State) (n : ChanId) (t : Nat) : BitVec 23 × Bool × Bool :=
  match fld (chG s n 7) 13 12 with
  | 0 => ((s.ch[n]).di.count.setWidth 23, true, false)
  | 1 => periodValue s n t
  | _ => freqValue (s.ch[n]).di

/-- 10 · f of a gate, rounded (R65): (m − 1) / (t_m − t_1) in Hz. -/
def gateFreq (d : ChDi) : Nat :=
  let dt := d.gateLast - d.gateFirst.getD 0
  if d.gateM < 2 then 0 else if dt = 0 then 0x800000 else nearest ((d.gateM - 1) * 10000000000) dt

/-- FREQ_GATE_END (R65): at a tick where FRM_NO mod 2^GATE is 0 the gate's value is taken and the next gate begins. -/
def execFreqGateEnd (ch : ChanId) (s : State) : Host.Outcome State Fault Refusal :=
  .next (
    if decide (modeG s ch = 2) && alive s (chGroup ch) &&
        decide (s.frm.no.toNat % 2 ^ fld (chG s ch 7) 7 4 = 0) then
      modDi s ch fun d =>
        let f := if d.gateOn then some (gateFreq d) else d.freq
        let d1 := { d with freq := f, gateOn := true, gateM := 0, gateFirst := none }
        if fld (chG s ch 7) 13 12 = 2 then
          { d1 with value := (freqValue d1).1, valOk := (freqValue d1).2.1, valOvr := (freqValue d1).2.2 }
        else d1
    else s)

/-- COUNTER_CLEAR (R66): a requested clear takes place after the tick's word is formed. -/
def execCounterClear (ch : ChanId) (s : State) : Host.Outcome State Fault Refusal :=
  .next (if (s.ch[ch]).di.clrReq then modDi s ch fun d => { d with count := 0, clrReq := false } else s)

/-! ### Test pulses -/

/-- R78 prevents a test pulse. -/
def noPulse (s : State) (n : ChanId) : Bool :=
  let x := s.ch[n]
  x.flt.limit || x.flt.therm || decide (x.flt.busy ≠ 0) || x.out.leave || s.grp[chGroup n].hold

/-- A test pulse runs in the group (R338). -/
def pulseIn (s : State) (g : GroupId) : Bool := (chansOf g).any fun n => (s.ch[n]).out.pulse.isSome

/-- TEST_PULSE_START (R77, R78): dark while ON, light while OFF. -/
def execTestPulseStart (ch : ChanId) (light : Bool) (s : State) : Host.Outcome State Fault Refusal :=
  .next (
    let enabled := (chG s ch 0x10).getLsbD (if light then 14 else 15)
    if decide (modeG s ch = 3) && decide (s.grp[chGroup ch].supply = .normal) && enabled && !noPulse s ch &&
        !pulseIn s (chGroup ch) && decide ((s.ch[ch]).out.applied.msb ≠ light) then
      modOut s ch fun o => { o with pulse := some light }
    else s)

/-- STUCK is set and STUCK_ON raised (R163). -/
def setStuck (n : ChanId) (s : State) : State :=
  let s1 := modFlt s n fun f => { f with stuck := true, suspect := false }
  if (s.ch[n]).flt.stuck then s1 else raiseOn 93 (BitVec.ofNat 32 n.val) s1

/-- A dark pulse of a channel has run: the suspects of its group no longer wait for it (R162 step 1). -/
def darkSeen (n : ChanId) (s : State) : State :=
  each (chansOf (chGroup n)) (fun b s => modFlt s b fun f => { f with darkWait := setBit f.darkWait (chPos n).val false }) s

/-- TEST_PULSE_END (R77, R158, R162, R163): `ma` is the output current at the end of the pulse. -/
def execTestPulseEnd (ch : ChanId) (ma t : Nat) (s : State) : Host.Outcome State Fault Refusal :=
  .next (match (s.ch[ch]).out.pulse with
    | none => s
    | some light =>
      let s1 := modOut (atTime t s) ch fun o => { o with pulse := none, pulseT := t }
      let s2 := if light then modFlt s1 ch fun f => { f with opn := decide (ma < 2) }
        else if (s.ch[ch]).di.raw then setStuck ch (darkSeen ch s1) else darkSeen ch s1
      onCore (jobDone 4) s2)

/-- The other mode-3 channels of a group that are OFF (R164). -/
def offMates (s : State) (n : ChanId) : List ChanId :=
  (chansOf (chGroup n)).filter fun b => b ≠ n && decide (modeG s b = 3) && !(s.ch[b]).out.applied.msb

/-- Two channels are cross-connected (R164). -/
def setCross (a b : ChanId) (s : State) : State :=
  let mark := fun (n : ChanId) (s : State) =>
    modFlt s n fun f => { f with cross := true, crossSeen := true, suspect := false }
  let s1 := mark b (mark a s)
  if (s.ch[a]).flt.cross && (s.ch[b]).flt.cross then s1
  else raiseOn 94 (BitVec.ofNat 32 (256 * a.val + b.val)) s1

/-- CROSS_SAMPLE (R164): RAW of the other channels 1 µs before and 20 µs after a pulse's end. -/
def execCrossSample (ch : ChanId) (light : Bool) (before after : BitVec 64) (s : State) :
    Host.Outcome State Fault Refusal :=
  .next (
    if decide (modeG s ch = 3) && alive s (chGroup ch) then
      each (offMates s ch) (fun b s =>
        if before.getLsbD b.val = light && after.getLsbD b.val = !light then setCross ch b s else s) s
    else s)

/-- The mode-3 channels of the group, by position, that are ON with DARK_EN at 1 (R162 step 1). -/
def darkMates (s : State) (n : ChanId) : BitVec 8 :=
  ((chansOf (chGroup n)).filter fun b => b ≠ n && decide (modeG s b = 3) && (s.ch[b]).out.applied.msb &&
    (chG s b 0x10).getLsbD 15).foldl (fun v b => setBit v (chPos b).val true) 0

/-- SUSPECT (R162): RAW at 1 for 1 ms while OFF. The channel waits for a dark pulse of each other channel that is ON with
DARK_EN. -/
def execSuspect (ch : ChanId) (s : State) : Host.Outcome State Fault Refusal :=
  .next (
    let x := s.ch[ch]
    if decide (modeG s ch = 3) && alive s (chGroup ch) && !x.out.applied.msb && decide (x.flt.busy = 0) && x.di.raw &&
        !x.flt.suspect then
      modFlt s ch fun f => { f with suspect := true, darkWait := darkMates s ch }
    else s)

/-- A suspect channel still waits for a dark pulse of a channel that is ON with DARK_EN (R162 step 1). -/
def darkOwed (s : State) (n : ChanId) : Bool := decide ((s.ch[n]).flt.darkWait &&& darkMates s n ≠ 0)

/-- STUCK_TEST_END (R162 step 2): the sink test, which follows step 1, ends with RAW still 1, or not. -/
def execStuckTestEnd (ch : ChanId) (rawStill : Bool) (s : State) : Host.Outcome State Fault Refusal :=
  .next (
    if !(s.ch[ch]).flt.suspect || darkOwed s ch then s
    else if rawStill then setStuck ch s
    else modFlt s ch fun f => { f with suspect := false })

/-! ### Inrush window and PWM -/

/-- INRUSH_WINDOW_END (R71): ILIM applies again. -/
def execInrushWindowEnd (ch : ChanId) (s : State) : Host.Outcome State Fault Refusal :=
  .next (if (s.ch[ch]).out.inrush then modOut s ch fun o => { o with inrush := false } else s)

/-- PWM_TRANSITION (R75, R76): the high phase ends, or the next period starts with its high phase; a phase left out has no
transition. -/
def execPwmTransition (ch : ChanId) (s : State) : Host.Outcome State Fault Refusal :=
  .next (
    let o := (s.ch[ch]).out
    if decide (modeG s ch = 5) && o.started && !o.off then
      (if o.pwmHigh then modOut s ch fun o => { o with pwmHigh := decide (o.pwmLow = 0) }
       else modOut s ch fun o => { o with pwmHigh := decide (0 < pwmHighOf s ch (o.applied.toNat / 65536)) })
    else s)

end Sys2Proof.Machine
end

