-- ==== Sys2Proof/Machine/Access.lean ====
section
/-! DEFINITION. Authority over register accesses (R17, R22, R263, R277, R433). -/

namespace Sys2Proof.Machine

/-- SEC_MBIN and SEC_MBCTL. -/
def isMailboxReg (a : Nat) : Bool := decide (a = 0x0580) || decide (a = 0x0581)
/-- The SEC block. -/
def isSecBlock (a : Nat) : Bool := decide (0x0500 ≤ a) && decide (a ≤ 0x05FF)
/-- A fault-clear register (R156). -/
def isFltClr (a : Nat) : Bool :=
  (decide (0x1000 ≤ a) && decide (a < 0x1800) && decide (a % 0x100 = 0x29)) ||
  (decide (0x2000 ≤ a) && decide (a < 0x3000) && decide (a % 0x40 = 0x1B))
/-- Registers whose write by a Canter core raises a bus fault (R17, R156, R187). -/
def coreForbidden (a : Nat) : Bool := isCmWrite a || decide (a = 0x0010) || isFltClr a

/-- A live host-port session. -/
def liveHost (s : State) (i : Fin 16) : Bool := isLive s i && decide ((s.sec.sess[i]).iface = .host)

/-- The permission `p` of an access (R263, R277): the refusal cause when it is missing. -/
def permCause (s : State) (acc : Access) (p : Nat) : Option Byte :=
  match acc with
  | .hostUntagged => if s.sec.hpTrust then none else some cNoSession
  | .hostTagged i => if !liveHost s i then some cTag else if sessPerm s i p then none else some cPermission
  | .xiram i => if !isLive s i then some cNoSession else if sessPerm s i p then none else some cPermission
  | .groom => none
  | .core _ => none

/-- A session of the access that is no longer live. -/
def sessCause (s : State) (acc : Access) : Option Byte :=
  match acc with
  | .hostTagged i => if liveHost s i then none else some cTag
  | .xiram i => if isLive s i then none else some cNoSession
  | _ => none

/-- In recovery the host port serves only the mailbox (R390). -/
def recovOnly (s : State) (acc : Access) (a : Nat) : Bool :=
  s.sys.recov && (acc = .hostUntagged || (match acc with | .hostTagged _ => true | _ => false)) &&
    !(decide (0x0580 ≤ a) && decide (a ≤ 0x0583))

/-- Whether a read is refused, and with which cause (R277). -/
def readCause (s : State) (acc : Access) (a : Nat) : Option Byte :=
  if recovOnly s acc a then some cNoSession
  else match acc with
    | .hostUntagged => if s.sec.hpTrust || decide (a = 4) || isSecBlock a then none else some cNoSession
    | _ => sessCause s acc

/-- Writes that R22 refuses while a COMMIT is pending. -/
def pendCause (s : State) (a : Nat) (v : HWord) : Option Byte :=
  if cmtPend s && (isCmWrite a || decide (a = 0x3005) || (decide (a = 0x0010) && (v = 0xC3A5 || v = 0x3C5A))) then
    some cPending else none

/-- Whether the Bridle refuses a write, and with which cause (R20, R22, R263, R277, R374, R433). -/
def writeCause (s : State) (acc : Access) (a : Nat) (v : HWord) : Option Byte :=
  if recovOnly s acc a then some cNoSession
  else
    let auth : Option Byte :=
      if isMailboxReg a then sessCause s acc
      else if decide (a = 0x0010) && v = 0xC3A5 then
        (match acc with
         | .hostUntagged => if s.sec.hpTrust then none else some cNoSession
         | .core _ => none
         | _ => (sessCause s acc).orElse fun _ => some cPermission)
      else permCause s acc (if a = 0x0603 ∨ a = 0x0604 then 4 else 1)
    match acc with
    | .core _ => none
    | _ => auth.orElse fun _ => pendCause s a v

/-- A forbidden write of a core raises a bus fault with sub-cause 0x3 (R17). -/
def coreBus (c : CoreId) (a : Nat) (s : State) : State :=
  if canRun s c then
    takeExc c 3 3 (BitVec.ofNat 32 (0x40000000 + 2 * a)) (s.core[c]).freeAt (atCycle (s.core[c]).freeAt s)
  else s

/-- A COMMIT key that comes while a COMMIT is pending raises COMMIT_REFUSED with payload 0x01 (R22). -/
def keyWhilePending (a : Nat) (v : HWord) (cause : Byte) (s : State) : State :=
  if a = 0x0010 ∧ v = 0xC3A5 ∧ cause = cPending then raise 81 1 s else s

/-- A register write under its authority: refused and counted (R281), a bus fault of the writing core, or its effect `f`.
The unit that carries the access sends the refusal itself. -/
def guarded (acc : Access) (a : Nat) (v : HWord) (f : State → State) (s : State) : State :=
  onCore (fun s => match acc with
    | .core c => if coreForbidden a then coreBus c a s else f s
    | _ => match writeCause s acc a v with
      | some c => keyWhilePending a v c (refuse (accIf acc) c s)
      | none => f s) s

/-- A register read under its authority. -/
def guardedRead (acc : Access) (a : Nat) (f : State → State) (s : State) : State :=
  onCore (fun s => match readCause s acc a with
    | some c => refuse (accIf acc) c s
    | none => f s) s

end Sys2Proof.Machine
end

