-- ==== Sys2Proof/Machine/Rotation.lean ====
section
/-! DEFINITION. The rotation of a group's converters (R104, R143 to R151): requests, sweep, overlap, match, handover. -/

namespace Sys2Proof.Machine

/-- Change a group's rotation. -/
def modRot (s : State) (g : GroupId) (f : Rot → Rot) : State := modGrp s g fun x => { x with rot := f x.rot }

/-- Withdraw the pending or waiting requests of an operation; a waiting request takes the slot that frees (R255). -/
def dropReq (op : ReqOp) (s : State) : State :=
  serveWait <| each slotIds (fun i s =>
    if s.pgv.slots[i].st = .pending ∧ s.pgv.slots[i].op = op then modSlot s i fun x => { x with st := .ended }
    else s) { s with pgv := { s.pgv with wait := s.pgv.wait.filter fun o => o ≠ op } }

/-- Leases of an operation end at the next tick (R248). -/
def endOp (op : ReqOp) (s : State) : State :=
  each slotIds (fun i s =>
    if s.pgv.slots[i].st = .granted ∧ s.pgv.slots[i].op = op then modSlot s i fun x => { x with left := 0 } else s) s

/-- Step 1 (R144): the converter serving S asks for the leave of a sweep. -/
def askSweep (g : GroupId) (s : State) : State :=
  onCore (groomReq (.sweep g)) (modRot (modGrp s g fun x => { x with shadow := 0 }) g fun r =>
    { r with step := 1, target := if r.target = 0 then 1 else r.target, frames := 0, sumSq := 0, pairs := 0,
             restart := false })

/-- The rotation starts or restarts at step 1, unless it was stopped (R150, R151). -/
def startRot (g : GroupId) (s : State) : State := if s.grp[g].rot.step = 5 then s else askSweep g s

/-- The rotation is suspended (R150): a sweep or overlap in progress is discarded. -/
def suspendRot (g : GroupId) (s : State) : State :=
  let s1 := endOp (.sweep g) (dropReq (.handover g) (dropReq (.sweep g) s))
  modRot (modGrp s1 g fun x => { x with shadow := 0 }) g fun r =>
    if r.step = 5 then r else { r with step := 0, frames := 0, sumSq := 0, pairs := 0, restart := false }

/-- The converter behind a role: 0 A, 1 B, 2 S. -/
def convOf (s : State) (g : GroupId) (r : Fin 3) : BitVec 2 := (s.grp[g]).conv[r]

/-- The lane index of a target code: 1 A, 2 B. -/
def targetRole (t : BitVec 2) : Fin 3 := if t = 2 then 1 else 0

/-- The other active role. -/
def otherTarget (t : BitVec 2) : BitVec 2 := if t = 2 then 1 else 2

/-- S takes a role and the role's converter takes S (R146). -/
def swapConv (g : GroupId) (r : Fin 3) (s : State) : State :=
  modGrp s g fun x => { x with conv := (x.conv.set r x.conv[2]).set 2 x.conv[r] }

/-- The handover (R146): the target changes to the other role, and the retired converter asks for its sweep. -/
def handover (g : GroupId) (s : State) : State :=
  let s1 := swapConv g (targetRole (s.grp[g]).rot.target) s
  askSweep g (modRot s1 g fun r =>
    { r with target := otherTarget r.target, rotCnt := r.rotCnt + 1, fails := 0, restarts := 0, onTarget := 0,
             other := false })

/-- The role S shadows in an overlap: the target, or after three failed matches the other role (R151). -/
def shadowRole (r : Rot) : BitVec 2 := if r.other then otherTarget r.target else r.target

/-- The overlap begins (R144 step 2). S takes over a copy of the sequence, so its readings restart (R105, R117). -/
def beginOverlap (g : GroupId) (s : State) : State :=
  modGrp s g fun x =>
    { x with shadow := shadowRole x.rot,
             lanes := if x.shadow = shadowRole x.rot then x.lanes
               else x.lanes.set 2 { x.lanes[2] with running := false, entry := 0, done := 0, win := .replicate 16 [] },
             rot := { x.rot with step := 3, frames := 0, sumSq := 0, pairs := 0, restart := false } }

/-- The overlap restarts from frame 0 (R148). 64 consecutive restarts on one target change the target, and matches failed
on the first no longer count. -/
def restartOverlap (g : GroupId) (s : State) : State :=
  let r := (s.grp[g]).rot
  if r.step = 3 ∨ r.step = 4 then
    let swap := decide (64 ≤ r.onTarget + 1)
    beginOverlap g (modRot (dropReq (.handover g) s) g fun r =>
      { r with restarts := inc8 r.restarts, target := if swap then otherTarget (shadowRole r) else r.target
               onTarget := if swap then 0 else r.onTarget + 1, fails := if swap then 0 else r.fails
               other := r.other && !swap })
  else s

/-- A lane fault (R151): the rotation stops; the payload names the faulty converter and the group. -/
def laneFault (g : GroupId) (conv : BitVec 2) (s : State) : State :=
  raiseOn 92 (BitVec.ofNat 32 (16 * conv.toNat + g.val))
    (modRot (modGrp s g fun x => { x with shadow := 0 }) g fun r => { r with step := 5 })

/-- The largest n with n² ≤ a, by trial from the top bit. -/
def isqrtBits : Nat → Nat → Nat → Nat
  | 0, _, r => r
  | k + 1, a, r => if (r + 2 ^ k) * (r + 2 ^ k) ≤ a then isqrtBits k a (r + 2 ^ k) else isqrtBits k a r
/-- Square root of a natural number, rounded down (64-bit results). -/
def isqrt (a : Nat) : Nat := isqrtBits 64 a 0

/-- CAL_RMS in units of 0.25 counts: √(16 Σd² / pairs). The spec does not say how it is rounded (log entry 21). -/
def rmsReg (r : Rot) : HWord :=
  if r.pairs = 0 then 0
  else
    let q := isqrt (16 * r.sumSq / r.pairs)
    let exact := decide (q * q * r.pairs = 16 * r.sumSq)
    sat16u (if exact then q else q + (Config.tieUp (16 * r.sumSq) r.pairs).toNat)

/-- The match holds (R145). -/
def matchOk (s : State) (r : Rot) : Bool :=
  let lim := fld (act s 0x3007) 7 0
  decide (16 * r.sumSq ≤ lim * lim * r.pairs)

/-- The target's sequence converts a mode-11 channel (R149). -/
def convertsAo (s : State) (g : GroupId) (t : BitVec 2) : Bool :=
  let o := if t = 2 then 0x80 else 0x40
  (List.range (fld (grpG s g (if t = 2 then 0x15 else 0x14)) 4 0)).any fun i =>
    let e := grpG s g (o + i)
    decide (fld e 10 9 < 2) && decide (modeG s (grpCh g ⟨fld e 8 6 % 8, by omega⟩) = 11)

/-- OVERLAP_END (R145, R146, R149, R151): the match is computed after the last overlap frame. DESIGN CHOICE (log entry 60): the
takeover of R151 asks for no leave, whatever its role converts, and an overlap with the other role that makes no conversions is
a match that holds. -/
def execOverlapEnd (g : GroupId) (s : State) : Host.Outcome State Fault Refusal :=
  .next (
    let r := (s.grp[g]).rot
    if decide (r.step = 3) && !r.restart && decide (fld (act s 0x3006) 9 0 ≤ r.frames) && coreOn s then
      let s1 := if r.pairs = 0 then s else modRot s g fun r => { r with rms := rmsReg r }
      if r.pairs = 0 ∨ matchOk s r then
        (if r.other then
           laneFault g (convOf s g (targetRole r.target)) (modRot (swapConv g (targetRole r.target) s1) g fun r =>
             { r with rotCnt := r.rotCnt + 1 })
         else if convertsAo s g r.target then
           groomReq (.handover g) (modRot s1 g fun r => { r with step := 4, restarts := 0, onTarget := 0 })
         else handover g s1)
      else
        let s2 := modRot s1 g fun r => { r with misCnt := inc16 r.misCnt, fails := r.fails + 1, restarts := 0, onTarget := 0 }
        if r.other then laneFault g (convOf s g 2) s2
        else askSweep g (modRot s2 g fun r => { r with other := decide (3 ≤ r.fails) })
    else s)

/-- The lane corrections of a group return to the values stored in its die at test (R143). -/
def resetLaneCorr (g : GroupId) (s : State) : State :=
  let lo := 5 * 65536 + 432 * g.val
  { s with cal := { s.cal with
      tables := s.cal.tables.filter (fun p => p.1 < lo) ++
        s.cal.atTest.filter (fun p => lo ≤ p.1 ∧ p.1 < lo + 432) ++ s.cal.tables.filter (fun p => lo + 432 ≤ p.1) } }

/-- SWEEP_END (R144): table 5 of the converter serving S takes its new correction, and the overlap begins. -/
def execSweepEnd (g : GroupId) (corr : List W32) (s : State) : Host.Outcome State Fault Refusal :=
  .next (
    if decide ((s.grp[g]).rot.step = 2) && coreOn s then
      let c := convOf s g 2
      let old := calGet s 5 (laneCorrIdx g c 0 0)
      let s1 := each (List.range 144) (fun i s => calPut 5 (laneCorrIdx g c 0 0 + i) (corr.getD i 0) s) s
      let d := 4 * ((corr.getD 0 0).toInt - old.toInt)
      let s2 : State := { s1 with far := { s1.far with ofsChange :=
        if h : 3 * g.val + c.toNat < 24 then s1.far.ofsChange.set (3 * g.val + c.toNat) (BitVec.ofInt 16 d)
        else s1.far.ofsChange } }
      beginOverlap g (endOp (.sweep g) s2)
    else s)

end Sys2Proof.Machine
end

