-- ==== Sys2Proof/Machine/Protect.lean ====
section
/-! DEFINITION. Protection at the group die (spec/07_protection_and_safe_states.md): wire break, open load, limits,
thermal shutdown, running shutdowns and queued requests, the sense path of mode 7, field supply, HOLD, links, fault
clear, configuration mismatch. -/

namespace Sys2Proof.Machine

/-! ### Inputs and outputs -/

/-- The effective hold code (R175). -/
def holdCode (x : Grp) (g : GroupId) : Nat := max (fld (x.portion.reg (grpAddr g.val 0x26)) 2 0) x.fbs.toNat

/-- WBEN of a channel, where it has a meaning (R157). -/
def wbEnabled (s : State) (n : ChanId) : Bool :=
  let m := modeG s n
  (chG s n 0x19).getLsbD 15 && ((m = 1 && (chG s n 5).getLsbD 15) || m = 7 || m = 8 || m = 9)

/-- WIRE_BREAK (R157). -/
def execWireBreak (ch : ChanId) (s : State) : Host.Outcome State Fault Refusal :=
  .next (
    if wbEnabled s ch && alive s (chGroup ch) then modFlt s ch fun f => { f with wbOpen := true, opn := true } else s)

/-- WIRE_BREAK_CLEAR (R157). -/
def execWireBreakClear (ch : ChanId) (s : State) : Host.Outcome State Fault Refusal :=
  .next (
    if (s.ch[ch]).flt.wbOpen && alive s (chGroup ch) then
      modFlt s ch fun f => { f with wbOpen := false, opn := false }
    else s)

/-- OPEN_LOAD (R158): OLON, ON, and less than 2 mA for 10 ms. -/
def execOpenLoad (ch : ChanId) (s : State) : Host.Outcome State Fault Refusal :=
  .next (
    let o := (s.ch[ch]).out
    if decide (modeG s ch = 3) && (chG s ch 0x19).getLsbD 14 && alive s (chGroup ch) && o.applied.msb &&
        decide (o.iload < 2) then modFlt s ch fun f => { f with opn := true } else s)

/-- Protection acts on a channel: a conflict with its request or lease (R253 kind 1). Its own request is withdrawn; a
member of a set request stays in it. -/
def protectCh (n : ChanId) (s : State) : State :=
  let keep := memberPending s n
  modOut (onCore (protectConflict n) s) n fun o => { o with leave := o.leave && keep, granted := false }

/-- The current limit of an output in mA (R70, R71, R74, R99): 2.0 A in a mode-3 inrush window, else 250 + 50 · ILIM there. -/
def limitMa (s : State) (n : ChanId) : Option Nat :=
  match modeG s n with
  | 3 => some (if (s.ch[n]).out.inrush then 2000 else 250 + 50 * fld (chG s n 0x0D) 4 0)
  | 4 => some 300
  | 5 => some 300
  | 10 => some 25
  | _ => none

/-- CURRENT_LIMIT (R159): the load asks for a current that reaches the output's limit; it keeps delivering the limited current. -/
def execCurrentLimit (x : LoadIn) (s : State) : Host.Outcome State Fault Refusal :=
  .next (
    if ((limitMa s x.ch).map fun k => decide (k ≤ x.ma)).getD false && alive s (chGroup x.ch) then
      protectCh x.ch (modFlt s x.ch fun f => { f with limit := true })
    else s)

/-- Switch an output off by thermal shutdown (R159); `k` says that its load must demagnetise. A shutdown that already runs goes
on. -/
def thermOff (n : ChanId) (k : Bool) (s : State) : State :=
  let s1 := switchOff n (protectCh n s)
  modFlt s1 n fun f =>
    { f with therm := true, limit := false
             busy := if busy s n then (s.ch[n]).flt.busy else if k && decide (modeG s n = 3) then 1 else 0 }

/-- THERMAL_SHUTDOWN (R159). -/
def execThermalShutdown (ch : ChanId) (inductive_ : Bool) (s : State) : Host.Outcome State Fault Refusal :=
  .next (
    let m := modeG s ch
    if (m = 3 || m = 4 || m = 5) && alive s (chGroup ch) then thermOff ch inductive_ s else s)

/-- The value a channel would apply if it were not held off: its safe value (R171), in HOLD the value applied last (R174), else
a force or the word its group die received last. -/
def wanted (s : State) (n : ChanId) : W32 :=
  if safeInForce s n then safeValue s n
  else if (s.grp[chGroup n]).hold then (s.ch[n]).out.want
  else if forced s n then ((s.ch[n]).out.force).getD 0 else (s.ch[n]).out.xfer

/-- Hold code 7 keeps every output of a group off (R174). -/
def holdOff (s : State) (g : GroupId) : Bool := s.grp[g].holdDone && decide (holdCode s.grp[g] g = 7)

/-- THERMAL_RETRY (R160): ON again without leave and without the inrush window; the Reins charge its class (R247). -/
def execThermalRetry (ch : ChanId) (s : State) : Host.Outcome State Fault Refusal :=
  .next (
    let f := (s.ch[ch]).flt
    let w := outBits (modeG s ch) (wanted s ch)
    if f.therm && (s.ch[ch]).out.off && decide (fld (chG s ch 0x19) 10 8 ≠ 0) && !busy s ch && !f.tripped &&
        !groupOff s.grp[chGroup ch] && !holdOff s (chGroup ch) && decide (w ≠ 0) then
      let s1 := setApplied ch w s
      let s2 := modOut s1 ch fun o => { o with subst := safeInForce s ch, held := false, inrush := false }
      if modeG s ch = 3 ∧ inrushG s ch ≠ 0 then onCore (chargeLease ch) s2 else s2
    else s)

/-- THERM_CLEAR (R160): on for 100 ms after a retry. -/
def execThermClear (ch : ChanId) (s : State) : Host.Outcome State Fault Refusal :=
  .next (
    if (s.ch[ch]).flt.therm && !(s.ch[ch]).out.off && decide (fld (chG s ch 0x19) 10 8 ≠ 0) then
      modFlt s ch fun f => { f with therm := false } else s)

/-- The output with the highest current, the lowest number on a tie (R161). -/
def highest (s : State) (g : GroupId) (ma : List Nat) : Option ChanId :=
  (((List.finRange 8).filter fun p => isOutMode (modeG s (grpCh g p)) && !(s.ch[grpCh g p]).out.off).foldl
    (fun b p => match b with
      | none => some p
      | some q => if ma.getD q.val 0 < ma.getD p.val 0 then some p else some q) none).map (grpCh g)

/-- GROUP_OVERCURRENT (R161): one output is switched off as by a thermal shutdown. -/
def execGroupOvercurrent (g : GroupId) (ma : List Nat) (s : State) : Host.Outcome State Fault Refusal :=
  .next (
    if alive s g && decide (6000 < (ma.take 8).sum) then
      match highest s g ma with
      | some n => thermOff n (decide (1 ≤ ma.getD (chPos n).val 0)) s
      | none => s
    else s)

/-- OVC (R161): the mean of the totals over 1 s passes 4.0 A, or no longer does. -/
def execOvc (g : GroupId) (above : Bool) (s : State) : Host.Outcome State Fault Refusal :=
  .next (if alive s g then modGrp s g fun x => { x with ovc := above } else s)

/-! ### Running shutdowns (R179) -/

/-- A running shutdown of one kind completes. -/
def endBusy (n : ChanId) (k : BitVec 2) (s : State) : State :=
  if (s.ch[n]).flt.busy = k then modFlt s n fun f => { f with busy := 0 } else s

/-- DEMAG_END (R73). -/
def execDemagEnd (ch : ChanId) (s : State) : Host.Outcome State Fault Refusal := .next (endBusy ch 1 s)
/-- AO_RAMPDOWN_END (R101): the stage opens. -/
def execAoRampdownEnd (ch : ChanId) (s : State) : Host.Outcome State Fault Refusal :=
  .next (
    if (s.ch[ch]).flt.busy = 2 then
      modOut (endBusy ch 2 s) ch fun o => { o with stageOn := false, off := true, applied := 0, ramp := false }
    else s)
/-- DISCHARGE_END. -/
def execDischargeEnd (ch : ChanId) (s : State) : Host.Outcome State Fault Refusal := .next (endBusy ch 3 s)

/-- QUEUED_REQUEST_APPLY (R179): at the first tick after the shutdown; any leave it needs is asked for now. -/
def execQueuedRequestApply (ch : ChanId) (s : State) : Host.Outcome State Fault Refusal :=
  .next (
    if busy s ch then s
    else match (s.ch[ch]).flt.queued with
      | none => s
      | some q =>
        let s1 := modOut (modFlt s ch fun f => { f with queued := none }) ch fun o => { o with held := false }
        match q with
        | .switch e => if e then enterMode ch .none s1 else refreshSafe [ch] s1
        | .safe =>
          if holdOff s1 (chGroup ch) then s1
          else if safeInForce s1 ch || (s1.grp[chGroup ch]).hold then applySafe ch s1 else s1
        | .value w =>
          if groupOff s1.grp[chGroup ch] || (s1.grp[chGroup ch]).hold || safeInForce s1 ch || heldOff s1 ch then s1
          else applyValue ch w true s1)

/-! ### Sense path of mode 7 (R89) -/

/-- The sense path opens: OVLDEV and the channel's summary event. It is no wire break, so CH_FAULT.OPEN stays (R157). -/
def openPath (n : ChanId) (s : State) : State :=
  raiseSum n (modAi s n fun a => { a with senseOpen := true, senseTrial := false, ovldev := true })

/-- SENSE_PATH_OPEN. -/
def execSensePathOpen (ch : ChanId) (s : State) : Host.Outcome State Fault Refusal :=
  .next (if decide (modeG s ch = 7) && alive s (chGroup ch) && !(s.ch[ch]).ai.senseOpen then openPath ch s else s)
/-- SENSE_PATH_RECLOSE: the path closes for 100 µs. -/
def execSensePathReclose (ch : ChanId) (s : State) : Host.Outcome State Fault Refusal :=
  .next (
    if (s.ch[ch]).ai.senseOpen && alive s (chGroup ch) then modAi s ch fun a => { a with senseTrial := true } else s)
/-- SENSE_PATH_CHECK: the path stays closed, or opens again. DESIGN CHOICE (log entry 60): a sample captured while the path was
open, or less than 100 µs after it closed, is delivered as an ordinary result once the path is closed. -/
def execSensePathCheck (ch : ChanId) (below : Bool) (s : State) : Host.Outcome State Fault Refusal :=
  .next (
    if (s.ch[ch]).ai.senseTrial && alive s (chGroup ch) then
      if below then modAi s ch fun a => { a with senseOpen := false, senseTrial := false }
      else openPath ch s
    else s)

/-! ### Field supply (R166 to R169) -/

/-- GRP_SUPPLY.STATE. -/
def supplyCode : Supply → BitVec 3
  | .unpowered => 0
  | .startup => 1
  | .normal => 2
  | .uvoff => 3
  | .overvoltage => 4
  | .recovery => 5
  | .selfFailed => 6

/-- EV096 + g. -/
def evLpwarn (g : GroupId) : Fin 128 := ⟨96 + g.val, by have := g.isLt; omega⟩
/-- EV104 + g. -/
def evLpfail (g : GroupId) : Fin 128 := ⟨104 + g.val, by have := g.isLt; omega⟩

/-- LPWARN: raised once for each episode. -/
def execLpwarn (g : GroupId) (mv : HWord) (s : State) : Host.Outcome State Fault Refusal :=
  .next (
    if alive s g then
      let s1 := modGrp s g fun x => { x with lpwarn := true, lplus := mv }
      if (s.grp[g]).lpwarn then s1 else raiseOn (evLpwarn g) (mv.setWidth 32) s1
    else s)

/-- LPWARN_END: above 18.5 V. -/
def execLpwarnEnd (g : GroupId) (mv : HWord) (s : State) : Host.Outcome State Fault Refusal :=
  .next (
    if alive s g && (s.grp[g]).lpwarn then modGrp s g fun x => { x with lpwarn := false, lplus := mv } else s)

/-- A channel loses its field supply: the output goes off, the excitation ends (R92, R167). -/
def supplyOff (n : ChanId) (s : State) : State :=
  let s1 := switchOff n (protectCh n s)
  modAi (modOut s1 n fun o => { o with subst := true }) n fun a => { a with exc := false, excLeave := false }

/-- The lanes stop, and the rotation with them (R150). -/
def stopLanes (g : GroupId) (s : State) : State :=
  modGrp (suspendRot g s) g fun x =>
    { x with lanes := x.lanes.map fun l => { l with running := false }, selfChk := false, exitReq := false }

/-- The supply leaves its range while the group die runs: outputs off in ascending channel order, LPFAIL raised. -/
def supplyFail (g : GroupId) (st : Supply) (mv : HWord) (s : State) : State :=
  let s1 := each (chansOf g) supplyOff (stopLanes g s)
  raiseOn (evLpfail g) ((supplyCode st).setWidth 32) (modGrp s1 g fun x =>
    { x with supply := st, lplus := mv, restWait := false, rstRec := false })

/-- UVOFF. -/
def execUvoff (g : GroupId) (mv : HWord) (s : State) : Host.Outcome State Fault Refusal :=
  .next (if alive s g && decide ((s.grp[g]).supply ≠ .uvoff) then supplyFail g .uvoff mv s else s)

/-- OVERVOLTAGE. -/
def execOvervoltage (g : GroupId) (mv : HWord) (s : State) : Host.Outcome State Fault Refusal :=
  .next (if alive s g && decide ((s.grp[g]).supply ≠ .overvoltage) then supplyFail g .overvoltage mv s else s)

/-- FIELD_UNPOWERED (R10, R143, R151, R166): the group die stops; converters and lane correction start afresh. A
COMMIT no longer waits for its acknowledgement (R23). -/
def execFieldUnpowered (g : GroupId) (s : State) : Host.Outcome State Fault Refusal :=
  .next (
    if alive s g then
      let s1 := resetLaneCorr g (each (chansOf g) supplyOff (stopLanes g s))
      let s2 := each (chansOf g) (fun n s => modFlt s n fun f =>
        { f with busy := 0, queued := none, suspect := false, limit := false, opn := false, wbOpen := false }) s1
      onCore (acceptIfDone s.now) (modRot (modGrp s2 g fun x =>
        { x with supply := .unpowered, lplus := 0, lpwarn := false, hold := false, holdDone := false, hbRun := 0,
                 hbFrm := none, heard := false, restWait := false, rstRec := false, conv := #v[0, 1, 2],
                 ovc := false, xfer := none, xferNew := false, tx := none, selfFail := false }) g
        fun r => { r with step := 0, fails := 0, other := false })
    else s)

/-- The strap code of a resistance in ohm (R175); the Boolean says that the reading lies outside every band. -/
def fbsCode (r : Option Nat) : BitVec 3 × Bool :=
  match r with
  | none => (6, false)
  | some o =>
    if o ≤ 105 then (7, false)
    else if 2090 ≤ o ∧ o ≤ 2310 then (5, false)
    else if 4465 ≤ o ∧ o ≤ 4935 then (4, false)
    else if 9500 ≤ o ∧ o ≤ 10500 then (3, false)
    else if 20900 ≤ o ∧ o ≤ 23100 then (2, false)
    else if 44650 ≤ o ∧ o ≤ 49350 then (1, false)
    else if 95000 ≤ o ∧ o ≤ 105000 then (0, false)
    else if 470000 < o then (6, false)
    else (7, true)

/-- The group die receives its portion of the active set (R23). -/
def givePortion (g : GroupId) (s : State) : State :=
  modGrp s g fun x => { x with portion := s.cfg.active, portionNext := x.portionNext, resend := false }

/-- A group whose power returns while the portions of a COMMIT are out: the first transfer of its own portion starts its
span (R20, R23). -/
def joinPortions (g : GroupId) (s : State) : State :=
  if s.cmt.phase = .portions then
    { s with cmt := { s.cmt with frames := s.cmt.frames.set g (some 0), acked := setBit s.cmt.acked g.val false } }
  else s

/-- SUPPLY_RESTORED (R169 step 1): a start-up after no power, else a recovery. -/
def execSupplyRestored (g : GroupId) (fbs : Option Nat) (mv : HWord) (s : State) : Host.Outcome State Fault Refusal :=
  .next (
    let x := s.grp[g]
    if x.supply = .unpowered ∨ x.supply = .uvoff ∨ x.supply = .overvoltage then
      let s1 := modGrp s g fun y =>
        { y with supply := if x.supply = .unpowered then .startup else .recovery, lplus := mv,
                 lpwarn := y.lpwarn && decide (mv.toNat ≤ 18500), fbs := (fbsCode fbs).1, strapBad := (fbsCode fbs).2,
                 rstRec := true, scans := 0, scanOk := false, selfChk := false, exitReq := false }
      let s2 := onCore (fun s => joinPortions g (givePortion g s)) s1
      if x.supply = .unpowered then each (chansOf g) (fun n => enterMode n .none) s2 else s2
    else s)

/-! ### HOLD (R174 to R176) -/

/-- The hold behaviour ends the holding: safe values, or every output off for code 7. -/
def endHold (g : GroupId) (s : State) : State :=
  let off := decide (holdCode s.grp[g] g = 7)
  let s1 := modGrp s g fun x => { x with holdDone := true }
  each (chansOf g) (fun n s =>
    if off then modFlt (modOut (switchOff n s) n fun o => { o with subst := true }) n fun f =>
      { f with queued := if f.queued = some .safe then none else f.queued }
    else applySafe n s) s1

/-- Entry into HOLD: test pulses stop, queued output values are discarded. -/
def dropQueued (n : ChanId) (s : State) : State :=
  modFlt (modOut s n fun o => { endPulse s.now o with armed := none }) n fun f =>
    { f with queued := match f.queued with
      | some (.value _) => none
      | q => q }

/-- A group die enters HOLD (R174). -/
def enterHold (g : GroupId) (s : State) : State :=
  let x := s.grp[g]
  if alive s g && x.heard && !x.hold then
    let s1 := each (chansOf g) (fun n s => dropQueued n (protectCh n s)) s
    let s2 := modGrp s1 g fun x => { x with hold := true, holdDone := false, hbRun := 0 }
    if 6 ≤ holdCode x g then endHold g s2 else s2
  else s

/-- HOLD_ENTRY (R174). -/
def execHoldEntry (g : GroupId) (s : State) : Host.Outcome State Fault Refusal := .next (enterHold g s)

/-- HOLD_TIMEOUT (R174): codes 1 to 5. -/
def execHoldTimeout (g : GroupId) (s : State) : Host.Outcome State Fault Refusal :=
  .next (
    let x := s.grp[g]
    if alive s g && x.hold && !x.holdDone && decide (1 ≤ holdCode x g) then endHold g s else s)

/-- GRP_PROT.RESTORE_POL at 1 (AUTO). -/
def restoreAuto (s : State) (g : GroupId) : Bool := (grpG s g 0x26).getLsbD 15

/-- Leaving HOLD (R176): the group die reports it; after safe values or code 7 RESTORE_POL decides. -/
def leaveHold (g : GroupId) (s : State) : State :=
  let done := (s.grp[g]).holdDone
  raiseOn 95 (BitVec.ofNat 32 g.val) (modGrp s g fun x =>
    { x with hold := false, holdDone := false, hbRun := 0, holdSeen := true,
             restWait := x.restWait || (done && !restoreAuto s g), xferNew := false })

/-- HEARTBEAT (R11, R176): one a frame while the core die runs and the watchdog has not fired. -/
def execHeartbeat (g : GroupId) (s : State) : Host.Outcome State Fault Refusal :=
  .next (
    let x := s.grp[g]
    if coreOn s && alive s g && !x.link && !s.wdt.fired && decide (x.hbFrm ≠ some s.frm.no) then
      let run := if x.hbFrm = some (s.frm.no - 1) then x.hbRun + 1 else 1
      let s1 := modGrp s g fun x => { x with hbFrm := some s.frm.no, hbRun := run, heard := true }
      if x.hold && decide (2 ≤ run) then leaveHold g s1 else s1
    else s)

/-! ### Ihlile link (R176, R371, R379) -/

/-- LINK_LOSS: the link has been lost for 3 frames. -/
def execLinkLoss (g : GroupId) (s : State) : Host.Outcome State Fault Refusal :=
  .next (onCore (fun s => if alive s g then modGrp s g fun x => { x with link := true } else s) s)

/-- IHLILE_LINK_UP (R371, R378, R379): the version is agreed; a group die that lacks the active image is loaded through
link major 0 and stays in start-up meanwhile. -/
def execIhlileLinkUp (g : GroupId) (minor : Nat) (imageOk : Bool) (s : State) : Host.Outcome State Fault Refusal :=
  .next (onCore (fun s =>
    if alive s g then
      let s1 := modGrp { s with upd := { s.upd with linkVer := s.upd.linkVer.set g (some (min minor 3)) } } g fun x =>
        { x with link := false, bankOk := imageOk }
      if imageOk then s1
      else modGrp (each (chansOf g) supplyOff (stopLanes g s1)) g fun x => { x with supply := .startup, rstRec := false }
    else s) s)

/-- GROUP_FW_LOADED (R371): loading is complete, and the group leaves start-up through R169. -/
def execGroupFwLoaded (g : GroupId) (s : State) : Host.Outcome State Fault Refusal :=
  .next (onCore (fun s =>
    if alive s g && !(s.grp[g]).bankOk then
      givePortion g (modGrp s g fun x => { x with bankOk := true, rstRec := true, scans := 0, scanOk := false })
    else s) s)

/-! ### Fault clear (R156) -/

/-- A channel fault clear: each held bit whose condition is gone. A bit that a later tick finds set again has changed from 0 to 1
(R153). -/
def clearCh (n : ChanId) (s : State) : State :=
  let x := s.ch[n]
  let quiet := !x.di.raw && !x.out.applied.msb && decide (x.di.tRaw + 1000000 ≤ s.now)
  let crossGone := !x.flt.crossSeen
  let s1 := modFlt s n fun f =>
    { f with clrReq := false
             stuck := f.stuck && !quiet
             cross := f.cross && !crossGone
             tripped := f.tripped && !crossGone
             crossSeen := false
             therm := f.therm && !(decide (fld (chG s n 0x19) 10 8 = 0) && x.out.off && decide (f.busy = 0))
             cfgmm := f.cfgmm && (f.mm || s.grp[chGroup n].grpMm) }
  modFlt s1 n fun f => { f with seen := f.seen &&& faultBits f }

/-- A group fault clear: HOLDSEEN, RESTWAIT and a group-level mismatch that is gone; it restarts a failed self-check
(R170). -/
def clearGrp (g : GroupId) (s : State) : State :=
  modGrp s g fun x =>
    let again := decide (x.supply = .selfFailed)
    { x with fltClr := false, holdSeen := false, restWait := false, cfgmm := x.cfgmm && x.grpMm
             supply := if again then .recovery else x.supply
             rstRec := x.rstRec || again
             scans := if again then 0 else x.scans
             scanOk := x.scanOk && !again
             selfFail := false }

/-- FAULT_CLEAR_APPLY (R156): every accepted fault clear takes effect at this tick; a safe value that the faults had held
off is applied. -/
def execFaultClearApply (s : State) : Host.Outcome State Fault Refusal :=
  .next (onCore (fun s =>
    let s1 := each channels (fun n s => if (s.ch[n]).flt.clrReq then clearCh n s else s) s
    each channels askStage
      (refreshSafe channels (each groups (fun g s => if (s.grp[g]).fltClr then clearGrp g s else s) s1))) s)

/-! ### Configuration mismatch (R177) -/

/-- The mismatching frames that set CFGMM: the first and the three after it. -/
def mmLimit : Nat := 4

/-- The group-level settings have mismatched up to the third frame after the first mismatch. -/
def grpLate (s : State) (g : GroupId) : Bool := decide (mmLimit ≤ (s.grp[g]).mmFrames)
/-- A channel's settings have. -/
def chLate (s : State) (n : ChanId) : Bool := decide (mmLimit ≤ (s.ch[n]).flt.mmFrames)

/-- CFGMM_SET: an echo still differs in the third frame after its first mismatch. -/
def execCfgmmSet (g : GroupId) (s : State) : Host.Outcome State Fault Refusal :=
  .next (onCore (fun s =>
    let all := grpLate s g
    let s1 := modGrp s g fun x => { x with cfgmm := x.cfgmm || all }
    let s2 := each (chansOf g) (fun n s =>
      if all || chLate s n then modFlt s n fun f => { f with cfgmm := true } else s) s1
    refreshSafe (chansOf g) s2) s)

/-- CFG_RESEND: every 1,024 frames while CFGMM is set. -/
def execCfgResend (g : GroupId) (s : State) : Host.Outcome State Fault Refusal :=
  .next (onCore (fun s =>
    if (s.grp[g]).cfgmm || (chansOf g).any fun n => (s.ch[n]).flt.cfgmm then
      modGrp s g fun x => { x with resend := true } else s) s)

end Sys2Proof.Machine
end

