-- ==== Sys2Proof/Machine/Lanes.lean ====
section
/-! DEFINITION. Converter lanes (spec/05_converter_lanes.md) and the correction chain (R129 to R136): entries, readings,
averaging, results and status, scan-mask mode and the self-check, interleave. -/

namespace Sys2Proof.Machine

/-! ### The correction chain -/

/-- Stage 1, lane correction (R131). -/
def stage1 (s : State) (g : GroupId) (c : BitVec 2) (gain : Nat) (q : Int) : Int :=
  let v := fun (w : Nat) => calGet s 5 (laneCorrIdx g c gain w)
  let j := segment q (-7500000) 1000000 14
  let a := (v (2 + j)).toInt
  let b := (v (3 + j)).toInt
  let qj : Int := -7500000 + 1000000 * (j : Int)
  roundAway ((q - (v 0).toInt) * ((v 1).toNat : Int) * 1000000 + (a * 1000000 + (b - a) * (q - qj)) * 2 ^ 30)
    (2 ^ 30 * 1000000)

/-- Stage 2 of a channel on range `r` at die temperature `temp` in 0.0001 °C (R132); readback of ranges 6 and 7 has no
temperature term (R133). -/
def stage2 (s : State) (n : ChanId) (r : Nat) (temp x : Int) : Int :=
  let v := fun (k : Nat) => (calGet s 0 ((8 * n.val + r) * 32 + k)).toInt
  if r < 6 then
    let k := segment x (-6200000) 400000 30
    let xk : Int := -6200000 + 400000 * (k : Int)
    let y := v k * 400000 + (v (k + 1) - v k) * (x - xk)
    let tco := (calGet s 1 ((8 * n.val + r) * 2)).toInt
    let tcg := (calGet s 1 ((8 * n.val + r) * 2 + 1)).toInt
    let dT := temp - 250000
    roundAway (y * 10 ^ 13 - tco * dT * 400000 * 10 ^ 6 - y * tcg * dT) (400000 * 10 ^ 13)
  else
    let k := segment x (-6000000) 800000 14
    let xk : Int := -6000000 + 800000 * (k : Int)
    roundAway (v k * 800000 + (v (k + 1) - v k) * (x - xk)) 800000

/-- Stage 2 of a monitor (R134). -/
def stage2m (s : State) (g : GroupId) (m : Nat) (x : Int) : Int :=
  let i := (8 * g.val + m) * 2
  roundAway (x * ((calGet s 6 (i + 1)).toNat : Int) + (calGet s 6 i).toInt * 2 ^ 30) (2 ^ 30)

/-- Stage 3, user trim (R135). -/
def stage3 (c : CfgSet) (n : ChanId) (r : Nat) (v : Int) : Int :=
  let i := (8 * n.val + r) * 2
  roundAway (v * ((c.t3 (i + 1)).toNat : Int) + (c.t3 i).toInt * 2 ^ 30) (2 ^ 30)

/-- CAL_ULIN_EN of a channel and range. -/
def ulinOn (c : CfgSet) (n : ChanId) (r : Nat) : Bool :=
  (c.reg (0x3010 + (8 * n.val + r) / 16)).getLsbD ((8 * n.val + r) % 16)

/-- Stage 4, user linearisation (R135). -/
def stage4 (c : CfgSet) (n : ChanId) (r : Nat) (u : Int) : Int :=
  let v := fun (k : Nat) => (c.t4 ((8 * n.val + r) * 32 + k)).toInt
  let k := segment u (-6200000) 400000 30
  let xk : Int := -6200000 + 400000 * (k : Int)
  roundAway (v k * 400000 + (v (k + 1) - v k) * (u - xk)) 400000

/-- Rising and falling threshold DAC codes of a channel in 12.5 mV (R136). -/
def thresholds (s : State) (c : CfgSet) (n : ChanId) : Int × Int :=
  let ty := if (c.reg (chAddr n.val 5)).getLsbD 15 then 2 else 0
  let d := c.reg (chAddr n.val 4)
  (((calGet s 2 (4 * n.val + ty)).setWidth 16).toNat + 4 * (d.extractLsb' 8 8).toInt,
   ((calGet s 2 (4 * n.val + ty + 1)).setWidth 16).toNat + 4 * (d.setWidth 8).toInt)

/-! ### Entries -/

/-- What an entry converts. -/
inductive Src
  | chan (n : ChanId) (held : Bool)
  | monitor (m : Nat)
  deriving DecidableEq, Repr

/-- An entry's settings: source, gain code, FMT UNSIGNED, ALIGN LEFT, averaging count, duration in ns (R107). -/
structure Entry where
  src : Src
  dur : Nat
  gain : Nat
  uns : Bool
  left : Bool
  avg : Nat
  deriving DecidableEq, Repr

/-- Index of a role in the lane vectors. -/
def roleIx : Role → Fin 3
  | .a => 0
  | .b => 1
  | .s => 2

/-- Register block of a role: S holds a copy of the sequence it shadows (R105). -/
def roleBase (x : Grp) : Role → Option Nat
  | .a => some 0x40
  | .b => some 0x80
  | .s => if x.shadow = 1 then some 0x40 else if x.shadow = 2 then some 0x80 else none

/-- A group runs its self-check scans: in BOOT, and in start-up and recovery (R122). -/
def checkScan (s : State) (g : GroupId) : Bool :=
  s.sys.mode = .boot || s.grp[g].supply = .startup || s.grp[g].supply = .recovery || s.grp[g].supply = .selfFailed

/-- The scan mask in force (R122). -/
def scanMask (s : State) (g : GroupId) : HWord :=
  if checkScan s g then grpG s g 0x10 ||| 0x0300 else grpG s g 0x10

/-- The enabled sources of a scan, in ascending bit order (R123). -/
def scanList (s : State) (g : GroupId) : List Nat := (List.range 16).filter fun b => (scanMask s g).getLsbD b

/-- Sequence length of a role (R106), or of the scan. DESIGN CHOICE (log entry 60): a scan that runs when a COMMIT changes its
mask goes on under the new mask at once. -/
def laneLen (s : State) (g : GroupId) (r : Role) : Nat :=
  if (s.grp[g]).scan then (scanList s g).length
  else match roleBase s.grp[g] r with
    | some b => min 16 (fld (grpG s g (if b = 0x40 then 0x14 else 0x15)) 4 0)
    | none => 0

/-- A channel of a group from an index. -/
def chanAt (g : GroupId) (i : Nat) : ChanId := grpCh g ⟨i % 8, by omega⟩

/-- Entry `i` of a role (R109, R123). -/
def entryOf (s : State) (g : GroupId) (r : Role) (i : Nat) : Entry :=
  if (s.grp[g]).scan then
    let b := (scanList s g).getD i 0
    { src := if b < 8 then .chan (chanAt g b) false else .monitor (b - 8), dur := 2500, gain := 0, uns := false, left := false,
      avg := 1 }
  else
    let base := (roleBase s.grp[g] r).getD 0x40
    let e := grpG s g (base + i)
    { src := if fld e 10 9 = 2 then .monitor (fld e 8 6) else .chan (chanAt g (fld e 8 6)) (fld e 10 9 = 0)
      dur := if fld e 10 9 = 0 then 1000 else (fld (grpG s g (base + 0x30 + i)) 7 0 + 1) * 250 + 500
      gain := fld e 5 3, uns := e.getLsbD 2, left := e.getLsbD 1
      avg := fld (grpG s g (base + 0x30 + i)) 15 8 + 1 }

/-- The even channel of an odd channel, and the odd channel of an even one. -/
def partner (n : ChanId) : ChanId :=
  if n.val % 2 = 0 then ⟨(n.val + 1) % 64, by omega⟩ else ⟨n.val - 1, by have := n.isLt; omega⟩
/-- WIRE of a channel in mode 8 (R90). -/
def wireOf (c : CfgSet) (n : ChanId) : Nat := fld (c.reg (chAddr n.val 0x11)) 15 14
/-- A channel that is the odd half of a 3-wire or 4-wire pair. -/
def isPartner (c : CfgSet) (n : ChanId) : Bool :=
  decide (n.val % 2 = 1) && decide (fld (c.reg (chAddr (n.val - 1) 0)) 3 0 = 8) &&
    (wireOf c ⟨n.val - 1, by have := n.isLt; omega⟩ = 1 || wireOf c ⟨n.val - 1, by have := n.isLt; omega⟩ = 2)

/-- The range a channel is converted on by a committed sequence (R81, R109). -/
def rangeOf (c : CfgSet) (n : ChanId) : Nat :=
  if isAnMode (fld (c.reg (chAddr n.val 0)) 3 0) then fld (c.reg (chAddr n.val 1)) 2 0
  else if isPartner c n then 5 else 0

/-- The range a channel is converted on in its group (R81, R109, R123): a scan converts the odd channel of a pair as any other
channel in mode 0. -/
def convRange (s : State) (g : GroupId) (n : ChanId) : Nat :=
  if (s.grp[g]).scan && !isAnMode (modeG s n) then 0 else rangeOf (s.grp[g]).portion n

/-- The raw code of a conversion: an entry on a held value converts the sample its channel holds (R83). -/
def rawCode (s : State) (e : Entry) (x : ConvIn) : Int :=
  match e.src with
  | .chan n true => (s.ch[n]).ai.sample * 2 ^ e.gain + x.q
  | _ => x.q

/-- The clamp limit C (R112). -/
def clampC (range : Option Nat) (gain : Nat) : Int :=
  let gf := if range = some 3 then 16 else 1
  (6000000 * min (2 ^ gain) gf / 2 ^ gain : Nat)

/-- The EMF added to a thermocouple reading (R94). -/
def cjEmf (s : State) (n : ChanId) : Int :=
  let j := chG s n 0x12
  if modeG s n = 9 ∧ j.getLsbD 15 then Config.thermocoupleEmf (j.extractLsb' 12 3) (s.ch[n]).ai.cjt.toInt else 0

/-- Stages 1 to 4 of a conversion: the stage-1 value, the value compared with C, and the delivered value. -/
def correct (s : State) (g : GroupId) (r : Role) (e : Entry) (q : Int) : Int × Int × Int :=
  let x := stage1 s g (convOf s g (roleIx r)) e.gain q
  match e.src with
  | .monitor m => let v := stage2m s g m x; (x, v, v)
  | .chan n _ =>
    let c := (s.grp[g]).portion
    let rg := convRange s g n
    let v := stage2 s n rg (s.grp[g]).temp x + cjEmf s n
    if rg < 6 then
      let u := stage3 c n rg v
      (x, u, if ulinOn c n rg then stage4 c n rg u else u)
    else (x, v, v)

/-- The clamp limit of an entry. -/
def entryC (s : State) (g : GroupId) (e : Entry) : Int :=
  match e.src with
  | .monitor _ => clampC none e.gain
  | .chan n _ => clampC (some (convRange s g n)) e.gain

/-- The sign of an over-range (R113, R114). -/
def overOf (uns : Bool) (c r : Int) : Option Bool :=
  if c < r then some true
  else if uns then (if r < -(min 250000 c) then some false else none)
  else if r < -c then some false else none

/-- Code and OVR of a window of readings, the latest first (R113, R114, R117, R130). -/
def deliverCode (uns : Bool) (w : List Reading) : BitVec 24 × Bool :=
  match w.findSome? (·.ovr) with
  | some true => (0x7FFFFF, true)
  | some false => (if uns then 0 else 0x800000, true)
  | none =>
    let m := roundAway ((w.map (·.val)).sum) (max 1 w.length)
    if 8388607 < m then (0x7FFFFF, true)
    else if m < -8388608 then (if uns then 0 else 0x800000, true)
    else (if uns ∧ m < 0 then 0 else BitVec.ofInt 24 m, false)

/-- RCV of a conversion: R92 for both channels of a pair, R111, R116. -/
def convRcv (s : State) (l : Lane) (e : Entry) (x : ConvIn) : Bool :=
  (l.beyond && decide (x.sinceNs < 2000)) ||
    (match e.src with
     | .chan n held => (held && (s.ch[n]).ai.short) || (x.excRecent && (decide (modeG s n = 8) ||
         (!(s.grp[chGroup n]).scan && isPartner (s.grp[chGroup n]).portion n)))
     | .monitor _ => false)

/-- OVR of the common-mode span of mode 6 (R87). -/
def cmOver (s : State) (e : Entry) (x : ConvIn) : Bool :=
  match e.src with
  | .chan n _ => x.commonMode && decide (modeG s n = 6)
  | .monitor _ => false

/-- The reading of a conversion. -/
def readingOf (s : State) (g : GroupId) (r : Role) (l : Lane) (e : Entry) (x : ConvIn) : Reading :=
  let v := correct s g r e (rawCode s e x)
  let o := overOf e.uns (entryC s g e) v.2.1
  { val := v.2.2, ovr := if o.isNone && cmOver s e x then some (decide (0 ≤ v.2.1)) else o, rcv := convRcv s l e x }

/-- The overlap shadows this role, or the role is S (R147). -/
def inOverlap (x : Grp) (r : Role) : Bool :=
  (x.shadow = 1 && (r = .a || r = .s)) || (x.shadow = 2 && (r = .b || r = .s))

/-- A lane after the result of entry `i` (R108, R115 to R118). -/
def laneResult (l : Lane) (i : Fin 16) (e : Entry) (s1 : Int) (c : Int) (v : Int) (rd : Reading) : Lane :=
  let w := (rd :: l.win[i]).take e.avg
  let d := deliverCode e.uns w
  let rcv := w.any (·.rcv)
  { l with
    done := setBit l.done i.val true
    beyond := decide (10 * c < 6 * v.natAbs)
    win := l.win.set i w
    stage1 := l.stage1.set i s1
    code := l.code.set i d.1
    res := l.res.set i (if e.left then d.1 ++ (0#8) else d.1.signExtend 32)
    new := setBit l.new i.val true
    lost := if l.new.getLsbD i.val then setBit l.lost i.val true else l.lost
    ovr := setBit l.ovr i.val d.2
    rcv := setBit l.rcv i.val rcv }

/-- A result reaches its channel's word (R86, R124): roles A and B, in scan-mask mode role A of the analog modes alone; a
mode-8 channel without excitation has no result (R92). -/
def toChannel (s : State) (r : Role) (e : Entry) : Option ChanId :=
  match e.src with
  | .monitor _ => none
  | .chan n _ =>
    let m := modeG s n
    let okRole := if (s.grp[chGroup n]).scan then r = .a && isAnMode m else r ≠ .s
    if okRole && (m ≠ 8 || (s.ch[n]).ai.exc) &&
        (!isPartner (s.grp[chGroup n]).portion n || (s.ch[partner n]).ai.exc) then some n else none

/-- Open-sensor detection of modes 8 and 9 (R157). -/
def openSensor (n : ChanId) (c v : Int) (s : State) : State :=
  if wbEnabled s n && (modeG s n = 8 || modeG s n = 9) then
    if c < v then modFlt s n fun f => { f with wbOpen := true, opn := true }
    else if -c ≤ v then modFlt s n fun f => { f with wbOpen := false, opn := false } else s
  else s

/-- The lane whose results pair with a role's in an overlap frame (R145): S's for the role it shadows, that role's for S. -/
def pairLane (x : Grp) (r : Role) : Option (Fin 3) :=
  if x.shadow = 0 ∨ x.rot.step ≠ 3 then none
  else if r = .s then some (targetRole x.shadow)
  else if roleIx r = targetRole x.shadow then some 2 else none

/-- The sum of the overlap after the stage-1 value `v` of entry `i` of a role (R145): the later of the two results makes the
pair. -/
def countPair (x : Grp) (r : Role) (i : Fin 16) (v : Int) : Rot :=
  match pairLane x r with
  | none => x.rot
  | some o =>
    let d := (v - x.lanes[o].stage1[i]).natAbs
    if x.lanes[o].done.getLsbD i.val then { x.rot with sumSq := x.rot.sumSq + d * d, pairs := x.rot.pairs + 1 } else x.rot

/-- Write a result of entry `i` of a role, whose settings are `e`. -/
def writeEntry (g : GroupId) (r : Role) (i : Fin 16) (e : Entry) (x : ConvIn) (s : State) : State :=
  let l := (s.grp[g]).lanes[roleIx r]
  let v := correct s g r e (rawCode s e x)
  let c := entryC s g e
  let rd := readingOf s g r l e x
  let l1 := laneResult l i e v.1 c v.2.1 rd
  let ovr := l1.ovr.getLsbD i.val
  let ovl := inOverlap s.grp[g] r && !(s.grp[g]).scan
  let s1 := modGrp s g fun y =>
    { y with lanes := y.lanes.set (roleIx r) l1
             rot := { (if ovl then countPair y r i v.1 else y.rot) with restart := y.rot.restart || (ovl && ovr) } }
  match toChannel s r e with
  | none => s1
  | some n =>
    openSensor n c v.2.1 (modAi s1 n fun a =>
      { a with has := true, fresh := true, val := l1.code[i], ovr := ovr, rcv := l1.rcv.getLsbD i.val, cal := ovl })

/-! ### Events of the lanes -/

/-- The interleaved entry: channel 8g + POS, direct, at gain 2^GAIN, SIGNED. -/
def ilvEntry (s : State) (g : GroupId) : Entry :=
  let v := grpG s g 0x11
  { src := .chan (chanAt g (fld v 2 0)) false, dur := 1000, gain := fld v 10 8, uns := false, left := false, avg := 1 }

/-- The end at `t` of an entry that converts a held value: the channel may track again from the last of them (R111). -/
def releaseHold (e : Entry) (t : Nat) (s : State) : State :=
  match e.src with
  | .chan n true => modAi s n fun a => { a with trackFrom := if a.heldEnd then max t a.trackFrom else t, heldEnd := true }
  | _ => s

/-- ENTRY_END (R107, R111): the next entry starts, or the sequence ends. -/
def execEntryEnd (g : GroupId) (r : Role) (s : State) : Host.Outcome State Fault Refusal :=
  .next (
    let l := (s.grp[g]).lanes[roleIx r]
    if alive s g && l.running then
      let e := entryOf s g r l.entry
      let l1 := { l with entry := l.entry + 1, running := decide (l.entry + 1 < laneLen s g r), t := l.t + e.dur }
      releaseHold e (l.t + e.dur) (modGrp s g fun x => { x with lanes := x.lanes.set (roleIx r) l1 })
    else s)

/-- Two results of the same sample have made their pair, so neither pairs again (R145). -/
def clearPair (g : GroupId) (s : State) : State :=
  let t := targetRole (s.grp[g]).shadow
  modGrp s g fun x =>
    if x.lanes[t].done.getLsbD 0 && x.lanes[2].done.getLsbD 0 then
      let off := fun (l : Lane) => { l with done := setBit l.done 0 false }
      { x with lanes := (x.lanes.set t (off x.lanes[t])).set 2 (off x.lanes[2]) }
    else x

/-- S's conversion beside a sample of the interleaved pair (R145): it goes to S's entry 0, and each sample pairs once. -/
def shadowSample (g : GroupId) (x : ConvIn) (s : State) : State :=
  if inOverlap s.grp[g] .s then clearPair g (writeEntry g .s 0 (ilvEntry s g) x s) else s

/-- RESULT_WRITE (R108): the result of the entry that ended last. Under interleave the one result is S's (R145). -/
def execResultWrite (g : GroupId) (r : Role) (x : ConvIn) (s : State) : Host.Outcome State Fault Refusal :=
  .next (
    let l := (s.grp[g]).lanes[roleIx r]
    if alive s g && (s.grp[g]).ilv then (if r = .s then shadowSample g x s else s)
    else if h : 0 < l.entry ∧ l.entry ≤ 16 then
      let i : Fin 16 := ⟨l.entry - 1, by omega⟩
      if alive s g && !(l.done.getLsbD i.val) then writeEntry g r i (entryOf s g r i.val) x s else s
    else s)

/-- Start a lane at entry 0 at time `t`. -/
def startLane (l : Lane) (len t : Nat) : Lane := { l with running := decide (0 < len), entry := 0, done := 0, t := t }

/-- Start a scan on all three roles (R123). -/
def startScan (g : GroupId) (s : State) : State :=
  modGrp s g fun x => { x with lanes := x.lanes.map fun l => startLane l (scanList s g).length s.now }

/-- Position of a source in the scan. -/
def scanPos (s : State) (g : GroupId) (b : Nat) : Nat := (scanList s g).findIdx fun x => x = b

/-- A role's result of a scan source. -/
def scanRes (s : State) (g : GroupId) (r : Fin 3) (b : Nat) : Int :=
  (((s.grp[g]).lanes[r]).code.toList.getD (scanPos s g b) 0).toInt

/-- The limits of the self-check in one scan (R125): GND is monitor 0, REF monitor 1. -/
def scanMeets (s : State) (g : GroupId) : Bool :=
  let roles : List (Fin 3) := [0, 1, 2]
  (roles.all fun r => decide ((scanRes s g r 8).natAbs ≤ 100) && decide ((scanRes s g r 9 - 2500000).natAbs ≤ 1250)) &&
  roles.all fun r => roles.all fun q => decide ((scanRes s g r 9 - scanRes s g q 9).natAbs ≤ 200)

/-- The self-check after a scan: two consecutive good scans pass it, eight without such a pair fail it and leave the group's
outputs off (R125, R170). -/
def selfCheck (g : GroupId) (s : State) : State :=
  let x := s.grp[g]
  let ok := scanMeets s g
  if !x.selfChk then s
  else if ok && x.scanOk then
    modGrp s g fun x => { x with selfChk := false, exitReq := true, scans := x.scans + 1 }
  else if 8 ≤ x.scans + 1 then
    raiseOn 113 (BitVec.ofNat 32 g.val) (each (chansOf g) supplyOff (modGrp s g fun x =>
      { x with selfChk := false, scanFail := true, selfFail := true, supply := .selfFailed, scans := x.scans + 1 }))
  else modGrp s g fun x => { x with scanOk := ok, scans := x.scans + 1 }

/-- SCAN_END (R123): the next scan starts. -/
def execScanEnd (g : GroupId) (s : State) : Host.Outcome State Fault Refusal :=
  .next (
    let x := s.grp[g]
    if alive s g && x.scan && decide (0 < laneLen s g .a) && x.lanes.toList.all (fun l => !l.running) then
      startScan g (selfCheck g s)
    else s)

/-- Lanes leave scan-mask mode at a tick: windows restart, the rotation starts (R117, R123, R150). -/
def leaveScan (g : GroupId) (s : State) : State :=
  startRot g (modGrp s g fun x =>
    { x with scan := false, exitReq := false, ilv := (grpG s g 0x11).getLsbD 15
             lanes := x.lanes.map fun l => { l with running := false, entry := 0, done := 0, win := .replicate 16 [] } })

/-- Lanes enter scan-mask mode at a tick (R122): the rotation is suspended. -/
def enterScan (g : GroupId) (s : State) : State :=
  startScan g (modGrp (suspendRot g s) g fun x => { x with scan := true, ilv := false })

/-- Modes in which lanes run scans whatever the supply does (R122). -/
def scanMode (m : Mode) : Bool := m = .boot || m = .commission

/-- Recovery ends (R169 steps 3 and 4): mode-8 channels ask for their excitation (R92). -/
def endRecovery (g : GroupId) (s : State) : State :=
  let s1 := refreshSafe (chansOf g) (modGrp s g fun x =>
    { x with supply := .normal, selfFail := false, restWait := x.restWait || !restoreAuto s g })
  each (chansOf g) (fun n s =>
    if modeG s n = 8 then askLeave n (.excite n) (modAi s n fun a => { a with excLeave := true, has := false, shown := false }) else askStage n s) s1

/-- SCAN_MODE_EXIT (R169): at the tick after the self-check passes. -/
def execScanModeExit (g : GroupId) (s : State) : Host.Outcome State Fault Refusal :=
  .next (onCore (fun s =>
    let x := s.grp[g]
    if alive s g && x.exitReq then
      let s1 := modGrp s g fun x => { x with exitReq := false }
      let s2 := if x.supply = .startup ∨ x.supply = .recovery ∨ x.supply = .selfFailed then endRecovery g s1 else s1
      if scanMode s.sys.mode || !x.scan then s2 else leaveScan g s2
    else s) s)

/-! ### Interleave (R126 to R128) -/

/-- A failed factory block corrects a channel's values (R139): tables 0 and 1, and the thresholds of digital modes. -/
def factBad (s : State) (n : ChanId) : Bool :=
  let i := 8 * n.val + rangeOf s.cfg.active n
  if isDigMode (modeA s n) then s.cal.bad.contains (2, n.val / 8)
  else s.cal.bad.contains (0, i) || s.cal.bad.contains (1, i / 16)

/-- Quality of a lane result (R231, R232). -/
def resQual (s : State) (n : ChanId) (ovr rcv cal : Bool) : Byte :=
  let opn := (s.ch[n]).flt.opn || (s.ch[n]).ai.senseOpen
  bit cal ++ (0#3) ++ bit opn ++ bit rcv ++ bit ovr ++ bit (!ovr && !opn && !factBad s n)

/-- INTERLEAVE_SAMPLE (R127, R128): even j on role A, odd j on role B; sample 0 is the channel's input word. -/
def execInterleaveSample (g : GroupId) (j : Nat) (x : ConvIn) (s : State) : Host.Outcome State Fault Refusal :=
  .next (
    let y := s.grp[g]
    let r : Role := if j % 2 = 0 then .a else .b
    if alive s g && y.ilv && decide (y.supply = .normal) && decide (j * 500 < period s.cfg.active) then
      let e := ilvEntry s g
      let l := y.lanes[roleIx r]
      let v := correct s g r e x.q
      let c := entryC s g e
      let rd := readingOf s g r l e x
      let d := deliverCode false [rd]
      let ovl := inOverlap y r
      let l1 := { l with beyond := decide (10 * c < 6 * v.2.1.natAbs), stage1 := l.stage1.set 0 v.1
                         done := setBit l.done 0 true }
      let s1 := modGrp s g fun z =>
        { z with lanes := z.lanes.set (roleIx r) l1
                 rot := { (if ovl then countPair z r 0 v.1 else z.rot) with restart := z.rot.restart || (ovl && d.2) } }
      let n := chanAt g (fld (grpG s g 0x11) 2 0)
      let s2 := openSensor n c v.2.1
        (onCore (addSample g j (d.1 ++ resQual s n d.2 rd.rcv ovl)) (if ovl then clearPair g s1 else s1))
      if j = 0 then modAi s2 n fun a => { a with has := true, fresh := true, val := d.1, ovr := d.2, rcv := rd.rcv,
                                                 cal := ovl } else s2
    else s)

end Sys2Proof.Machine
end

