-- ==== Sys2Proof/Machine/Fit.lean ====
section
/-! DEFINITION. The stage-3 checks of a COMMIT over the staged set (R19, R20): VALUE, PAIR, the fit check of R44 with ring
timing (R301), SEQUENCE, REINS (R245) and PROGRAM (R226), and what they report (R45). -/

namespace Sys2Proof.Machine

/-! ### Slots and times -/

/-- A Gait slot: index, action, argument, time in ns. -/
structure GSlot where
  i : Nat
  act : Nat
  arg : Nat
  t : Nat
  deriving DecidableEq, Repr

/-- The slots in use. -/
def slotsOf (c : CfgSet) : List GSlot :=
  (List.range (fld (c.reg 0x0110) 8 0)).map fun k =>
    { i := k, act := fld (c.act k) 15 12, arg := fld (c.act k) 11 0, t := slotTime c k }

/-- Lmin of R44 in units of 0.0001 ns. -/
def lmin4 (c : CfgSet) : Nat := period c * 9995
/-- A time in units of 0.0001 ns. -/
def t4 (t : Nat) : Nat := 10000 * t
/-- A slot of an action whose mask names a group. -/
def GSlot.has (x : GSlot) (a g : Nat) : Bool := decide (x.act = a) && x.arg.testBit g

/-- What a failed row of R44 reports (R45). -/
structure GaitErr where
  kind : Nat
  slot : Option Nat
  group : Nat := 0
  core : Nat := 0
  lane : Nat := 0
  sfrm : Nat := 0
  deriving DecidableEq, Repr

/-- GAIT_ERR0. -/
def GaitErr.reg0 (e : GaitErr) : HWord :=
  BitVec.ofNat 4 e.kind ++ bit e.slot.isNone ++ BitVec.ofNat 3 e.group ++ BitVec.ofNat 8 (e.slot.getD 0)
/-- GAIT_ERR1. -/
def GaitErr.reg1 (e : GaitErr) : HWord :=
  BitVec.ofNat 2 e.core ++ (0#1) ++ BitVec.ofNat 1 e.lane ++ (0#2) ++ BitVec.ofNat 10 e.sfrm

/-- The first element for which `f` answers. -/
def firstOf {α β : Type} (l : List α) (f : α → Option β) : Option β := l.findSome? f

/-! ### VALUE -/

/-- A reserved action code or a nonzero reserved argument bit (R34). -/
def badSlot (x : GSlot) : Bool :=
  match x.act with
  | 1 => decide (x.arg / 1024 ≠ 0)
  | 2 => decide (x.arg / 256 ≠ 0)
  | 3 => decide (x.arg / 16 % 64 ≠ 0)
  | 4 => decide (x.arg / 256 ≠ 0)
  | 5 => decide (x.arg / 256 ≠ 0)
  | a => decide (10 ≤ a) || decide (x.arg ≠ 0)

/-- The VALUE row of R44. -/
def gaitValue (c : CfgSet) : Option GaitErr :=
  let n := fld (c.reg 0x0110) 8 0
  if n = 0 ∨ 256 < n then some { kind := 15, slot := none }
  else if 5 < fld (c.reg 0x0100) 6 4 then some { kind := 15, slot := none }
  else ((slotsOf c).find? badSlot).map fun x => { kind := 15, slot := some x.i }

/-- A field lies in a range. -/
def inR (v lo hi : Nat) : Bool := decide (lo ≤ v) && decide (v ≤ hi)

/-- Frame, supervision, Reins, Bridle, update, expansion-port and Logbook fields (their register tables). -/
def valueSystem (c : CfgSet) : Bool :=
  let p := pair (c.reg 0x0101) (c.reg 0x0102)
  decide (fld (c.reg 0x0100) 1 0 ≠ 3) && inR p 1000 1250000 && decide (pair (c.reg 0x0103) (c.reg 0x0104) < p) &&
  decide (fld (c.reg 0x0300) 14 12 < 6) && inR (fld (c.reg 0x0300) 4 0) 10 30 &&
  decide (fld (c.reg 0x0310) 15 14 < 2) && decide (fld (c.reg 0x0310) 11 8 ≠ 0) &&
  decide (fld (c.reg 0x0310) 3 0 ≤ 10) &&
  groups.all (fun g => inR (c.reg (0x0400 + g.val)).toNat 250 2000) && inR (c.reg 0x0408).toNat 4500 15000 &&
  decide (c.reg 0x0409 ≠ 0) &&
  inR (c.reg 0x0505).toNat 1 6000 && inR (c.reg 0x0506).toNat 1 600 && inR (c.reg 0x0602).toNat 10 3600 &&
  decide (4 ≤ fld (c.reg 0x0780) 7 0) && decide (fld (c.reg 0x0782) 3 0 = 0) && decide (c.reg 0x0784 ≠ 0) &&
  decide (c.reg 0x0109 ≠ 0) && decide (fld (c.reg 0x0C28) 3 0 ≤ 10) && decide (c.reg 0x0C36 ≠ 0) &&
  inR (c.reg 0x0C40).toNat 1 100

/-- A region of the Logbook is enabled while its SIZE is not 0. -/
def valueLog (c : CfgSet) : Bool :=
  let on := (List.range 5).filter fun b => decide (bufSize c b ≠ 0)
  on.all (fun b => decide (bufBase c b + bufSize c b ≤ 1024)) &&
  on.all (fun a => on.all fun b =>
    decide (a = b) || decide (bufBase c a + bufSize c a ≤ bufBase c b) || decide (bufBase c b + bufSize c b ≤ bufBase c a)) &&
  !bufStop c 1 && !bufStop c 4

/-- A channel in mode 3 or 11 is marked in at most one atomic set (R251). -/
def valueAtoms (c : CfgSet) : Bool :=
  channels.all fun n => decide (((List.finRange 8).filter fun k => inSet c k n).length ≤ 1)

/-- Mode of a channel in a set. -/
def modeC (c : CfgSet) (n : ChanId) : Nat := fld (c.reg (chAddr n.val 0)) 3 0

/-- Range codes that a mode accepts (R81). -/
def rangeOk (m r : Nat) : Bool :=
  if m = 6 then decide (r ≤ 3) else if m = 7 then decide (r = 4) else if m = 8 then decide (r = 5)
  else if m = 9 then decide (r = 3) else if m = 10 then decide (r = 6) else if m = 11 then decide (r = 7) else true

/-- Safe values that a mode accepts (R171). -/
def safeOk (m : Nat) (r17 r18 : HWord) : Bool :=
  let sel := fld r17 15 14
  let code := (r17.setWidth 8 ++ r18 : BitVec 24)
  if m = 3 ∨ m = 4 then decide (sel ≠ 3)
  else if m = 5 then decide (sel ≠ 3) || decide (fld r17 7 0 = 0)
  else if m = 10 then decide (sel ≠ 1)
  else if m = 11 then decide (sel ≠ 1) && (decide (sel ≠ 3) || decide (code.toNat ≤ 5000000))
  else decide (sel = 0)

/-- Thresholds in DAC codes of 12.5 mV (R56, R136). -/
def thrOk (s : State) (c : CfgSet) (n : ChanId) : Bool :=
  let (rise, fall) := thresholds s c n
  decide (240 ≤ fall) && decide (rise ≤ 2400) && decide (fall + 40 ≤ rise)

/-- The VALUE conditions of one channel. -/
def valueChan (s : State) (c : CfgSet) (n : ChanId) : Bool :=
  let r := fun (o : Nat) => c.reg (chAddr n.val o)
  let m := modeC c n
  let w := fld (r 0) 6 4
  let cj := fld (r 0x12) 5 0
  decide (m < 12) && decide (w < 6) && (isOutMode m || decide (w = 0)) && rangeOk m (fld (r 1) 2 0) &&
  (!isDigMode m || thrOk s c n) && decide (r 6 ≠ 0) && decide (fld (r 7) 15 14 ≠ 3) && decide (fld (r 7) 13 12 ≠ 3) &&
  decide (fld (r 7) 11 10 ≠ 3) && decide (fld (r 7) 7 4 ≤ 10) && decide (fld (r 0x0D) 4 0 ≤ 25) &&
  (decide (m ≠ 5) || decide (50000 ≤ (r 0x0E).toNat * 2 ^ fld (r 0x0F) 2 0 * 8)) &&
  (!(r 0x10).getLsbD 14 || inR (fld (r 0x10) 12 8) 5 20) && (!(r 0x10).getLsbD 15 || inR (fld (r 0x10) 7 0) 20 200) &&
  (decide (m ≠ 4 ∧ m ≠ 5) || (!(r 0x10).getLsbD 15 && !(r 0x10).getLsbD 14)) &&
  decide (fld (r 0x11) 15 14 ≠ 3) && (decide (n.val % 2 = 0) || decide (fld (r 0x11) 15 14 = 0)) &&
  (decide (m ≠ 9) || !(r 0x12).getLsbD 6 ||
    (decide (cj / 8 = (chGroup n).val) && decide (fld (c.reg (chAddr cj 0)) 3 0 = 8))) &&
  decide (fld (r 0x14) 15 12 ≤ 11) && safeOk m (r 0x17) (r 0x18)

/-- Source, format and acquisition rules of one entry below LEN (R109, R113). -/
def entryOk (c : CfgSet) (g : GroupId) (e x : HWord) : Bool :=
  let k := fld e 10 9
  let n := chanAt g (fld e 8 6)
  let m := modeC c n
  let uns := e.getLsbD 2
  let r := rangeOf c n
  let bipolar := decide (r = 0 ∨ r = 2 ∨ r = 3) || (decide (r = 6) && !(c.reg (chAddr n.val 0x13)).getLsbD 15)
  (decide (k = 0) || decide (fld x 7 0 ≠ 0)) &&
  (if k = 2 then !uns || decide (fld e 8 6 ≠ 0 ∧ fld e 8 6 ≠ 5)
   else (isAnMode m || isPartner c n) && (!uns || !bipolar))

/-- The VALUE conditions of a group: lanes, scan and interleave (R106, R109, R113, R126, R379). -/
def valueGrp (s : State) (c : CfgSet) (g : GroupId) : Bool :=
  let r := fun (o : Nat) => c.reg (grpAddr g.val o)
  let lane := fun (base len : Nat) =>
    decide (len ≤ 16) &&
    (List.range 16).all fun i =>
      decide (fld (r (base + i)) 10 9 ≠ 3) && (decide (len ≤ i) || entryOk c g (r (base + i)) (r (base + 0x30 + i)))
  let la := fld (r 0x14) 4 0
  let lb := fld (r 0x15) 4 0
  lane 0x40 la && lane 0x80 lb &&
  (!(r 0x11).getLsbD 15 ||
    (decide (la = 0 ∧ lb = 0) && decide (pair (c.reg 0x0101) (c.reg 0x0102) % 125 = 0) &&
      (match s.upd.linkVer[g] with
       | some v => decide (3 ≤ v)
       | none => true)))

/-- CAL fields and user tables (R138, CAL_OVERLAP, CAL_MATCH_LIM). -/
def valueCal (c : CfgSet) : Bool :=
  decide (16 ≤ fld (c.reg 0x3006) 9 0) && decide (c.reg 0x3007 ≠ 0) &&
  channels.all (fun n => (List.range 8).all fun r =>
    let k := 8 * n.val + r
    inR ((c.t3 (2 * k)).toInt + 500000).toNat 0 1000000 && decide (-500000 ≤ (c.t3 (2 * k)).toInt) &&
    inR (c.t3 (2 * k + 1)).toNat 0x30000000 0x50000000 &&
    (!ulinOn c n r ||
      (decide (r < 6) && (List.range 31).all fun j =>
        decide (((c.t4 (32 * k + j + 1)).toInt - (c.t4 (32 * k + j)).toInt).natAbs ≤ 4000000))))

/-! ### The ring -/

/-- N of NET_RING. -/
def ringN (c : CfgSet) : Nat := fld (c.reg 0x080D) 6 0
/-- RED of NET_RING. -/
def ringRed (c : CfgSet) : Bool := (c.reg 0x080D).getLsbD 10
/-- ORIG of NET_RING. -/
def ringOrig (c : CfgSet) : Bool := (c.reg 0x080D).getLsbD 11
/-- Device address at a position. -/
def ringAddr (c : CfgSet) (p : Nat) : Nat := fld (c.reg (0x0840 + p)) 15 10
/-- P_p of a position. -/
def ringLen (c : CfgSet) (p : Nat) : Nat := fld (c.reg (0x0840 + p)) 9 0
/-- S_p of a position (R293). -/
def segLen (c : CfgSet) (p : Nat) : Nat := 32 + ringLen c p
/-- The positions at which an address stands. -/
def ringPlaces (c : CfgSet) (a : BitVec 6) : List Nat := (List.range (ringN c)).filter fun p => decide (ringAddr c p = a.toNat)
/-- The device's own position. -/
def ownPos (s : State) (c : CfgSet) : Option Nat := (ringPlaces c s.sys.addr).head?

/-- Positions packed into carriages, each at most 1,476 bytes of segments (R292); `cur` is the carriage being filled,
`len` its bytes. -/
def packFrom (c : CfgSet) : Nat → List Nat → Nat → List Nat → List (List Nat)
  | 0, _, _, cur => if cur.isEmpty then [] else [cur]
  | _ + 1, [], _, cur => if cur.isEmpty then [] else [cur]
  | f + 1, p :: rest, len, cur =>
    if 1476 < len + segLen c p ∧ !cur.isEmpty then cur :: packFrom c f rest (segLen c p) [p]
    else packFrom c f rest (len + segLen c p) (cur ++ [p])
/-- The carriages of a train: the positions of each. -/
def carriages (c : CfgSet) : List (List Nat) := packFrom c (ringN c + 1) (List.range (ringN c)) 0 []
/-- Segment bytes of a carriage. -/
def carBytes (c : CfgSet) (l : List Nat) : Nat := (l.map (segLen c)).sum
/-- W: the wire length of the train (R301). -/
def trainLen (c : CfgSet) : Nat := ((carriages c).map fun l => carBytes c l + 64).sum
/-- x_p: byte offset of a segment from the start of the train (R301). -/
def segOfs (c : CfgSet) (p : Nat) : Nat :=
  (((carriages c).takeWhile fun l => !l.contains p).map fun l => carBytes c l + 64).sum + 48 +
    ((((carriages c).find? fun l => l.contains p).getD []).takeWhile fun q => decide (q ≠ p)).foldl
      (fun n q => n + segLen c q) 0

/-- Marked channels of a map at `base`. -/
def mapped (c : CfgSet) (base : Nat) : List ChanId :=
  channels.filter fun n => (c.reg (base + n.val / 16)).getLsbD (n.val % 16)

/-- The VALUE conditions of the network (R287, R291, R294, R300 and the register tables). -/
def valueNet (s : State) (c : CfgSet) : Bool :=
  let n := ringN c
  let own := ringPlaces c s.sys.addr
  !(c.reg 0x0800).getLsbD 12 && !(c.reg 0x0801).getLsbD 12 &&
  [0x0800, 0x0801, 0x0802].all (fun a => inR (fld (c.reg a) 11 0) 1 4094) &&
  decide (c.reg 0x080C ≠ 0xFFFF) && decide (n ≤ 64) && decide (fld (c.reg 0x0811) 11 0 ≠ 4095) &&
  (List.range 64).all (fun i => decide (fld (c.reg (0x0900 + 2 * i)) 11 0 ≠ 4095)) &&
  (List.finRange 3).all (fun p =>
    let r := c.reg (0x0880 + p.val)
    !r.getLsbD 15 || (inR (fld r 6 0) 1 64 &&
      (List.range (fld r 6 0)).all fun e => decide (c.gint (64 * p.val + e) ≠ 0))) &&
  (mapped c 0x0814 == channels.filter fun k => decide (fld (c.reg (chAddr k.val 0)) 6 4 = 5)) &&
  (decide (n = 0) ||
    (decide (own.length = 1) && (!ringOrig c || decide (own.head? = some 0)) &&
     (List.range n).all (fun p => decide (ringLen c p ≤ 512) && decide (ringLen c p % 4 = 0)) &&
     (decide (n < 2) || decide (fld (c.reg 0x0100) 1 0 = 0)) && (decide (n ≠ 1) || !ringRed c) &&
     decide (4 * (mapped c 0x0814).length ≤ ringLen c (own.headD 0)) &&
     decide (8 + 4 * (mapped c 0x0818).length ≤ ringLen c (own.headD 0))))

/-- Every VALUE condition but the row of R44. -/
def valueRest (s : State) (c : CfgSet) : Bool :=
  valueSystem c && valueLog c && valueAtoms c && channels.all (valueChan s c) && groups.all (valueGrp s c) &&
  valueCal c && valueNet s c

/-! ### PAIR -/

/-- The PAIR check (R90, R126). -/
def pairOk (c : CfgSet) : Bool :=
  channels.all (fun n => decide (n.val % 2 = 1) || decide (modeC c n ≠ 8) ||
    decide (wireOf c n = 0) || decide (modeC c (partner n) = 0)) &&
  groups.all (fun g =>
    let r := c.reg (grpAddr g.val 0x11)
    let m := modeC c (chanAt g (fld r 2 0))
    !r.getLsbD 15 || decide (m = 6 ∨ m = 7 ∨ m = 9))

/-! ### The GAIT rows -/

/-- ORDER: the slot before each. -/
def rowOrder (l : List GSlot) : Option GaitErr :=
  ((l.zip (l.drop 1)).find? fun p => decide (p.2.t < p.1.t)).map fun p => { kind := 1, slot := some p.2.i }

/-- RANGE. -/
def rowRange (c : CfgSet) (l : List GSlot) : Option GaitErr :=
  (l.find? fun x => decide (lmin4 c ≤ t4 x.t)).map fun x => { kind := 2, slot := some x.i }

/-- The deadline of a TASK_REL slot (R40). -/
def deadC (l : List GSlot) (x : GSlot) : Option GSlot := l.find? fun y => decide (x.i < y.i) && decide (y.act = 4)

/-- NO_DEADLINE. -/
def rowDead (l : List GSlot) : Option GaitErr :=
  (l.find? fun x => decide (x.act = 3) && (deadC l x).isNone).map fun x => { kind := 3, slot := some x.i }

/-- The first BG slot that breaks the alternation, or an open window at the end. -/
def bgBreak : List GSlot → Option GSlot → Option GSlot
  | [], o => o
  | x :: t, o =>
    if x.act = 8 then (match o with
      | some _ => some x
      | none => bgBreak t (some x))
    else if x.act = 9 then (match o with
      | some _ => bgBreak t none
      | none => some x)
    else bgBreak t o

/-- The windows: each BG_OPEN with the BG_CLOSE that follows it. -/
def bgWindows (l : List GSlot) : List (GSlot × GSlot) :=
  (l.filter fun x => decide (x.act = 8)).filterMap fun x =>
    (l.find? fun y => decide (x.i < y.i) && decide (y.act = 9)).map fun y => (x, y)

/-- BG_PAIR. -/
def rowBg (l : List GSlot) : Option GaitErr :=
  let err := fun (x : GSlot) => ({ kind := 4, slot := some x.i } : GaitErr)
  let tasks := (l.filter fun x => decide (x.act = 3)).filterMap fun x => (deadC l x).map fun d => (x.t, d.t)
  match bgBreak l none with
  | some x => some (err x)
  | none => match (l.filter fun x => decide (x.act = 8))[4]? with
    | some x => some (err x)
    | none => ((bgWindows l).find? fun w => tasks.any fun p => decide (w.1.t < p.2) && decide (p.1 < w.2.t)).map
        fun w => err w.1

/-- The first slot after `x` that answers `f`, in this frame or the next, with its time in 0.0001 ns, the next tick taken
at Lmin. -/
def nextSlot (c : CfgSet) (l : List GSlot) (x : GSlot) (f : GSlot → Bool) : Option (GSlot × Nat) :=
  match l.find? fun y => decide (x.i < y.i) && f y with
  | some y => some (y, t4 y.t)
  | none => (l.find? f).map fun y => (y, t4 y.t + lmin4 c)

/-- Largest CH_OUTDLY of a group's output channels, in ns. -/
def maxDelay (c : CfgSet) (g : GroupId) : Nat :=
  ((chansOf g).map fun n => if isOutMode (modeC c n) then 8 * (c.reg (chAddr n.val 0x0C)).toNat else 0).foldl max 0

/-- OUT_ORDER for one group (R37). The slot reported for the second condition is the second OUT_XFER. -/
def rowOutG (c : CfgSet) (l : List GSlot) (g : GroupId) : Option GaitErr :=
  let xs := l.filter fun x => x.has 4 g.val
  let as := l.filter fun x => x.has 5 g.val
  let err := fun (x : GSlot) => ({ kind := 5, slot := some x.i, group := g.val } : GaitErr)
  if as.isEmpty then none
  else
    let a := xs.find? fun x => match nextSlot c l x fun y => y.has 5 g.val with
      | some (_, t) => decide (t < t4 (x.t + 400))
      | none => false
    let b := firstOf xs fun x => match nextSlot c l x fun y => y.has 4 g.val || y.has 5 g.val with
      | some (y, _) => if y.act = 4 then some y else none
      | none => none
    let d := as.find? fun x => match nextSlot c l x fun y => y.has 4 g.val with
      | some (_, t) => decide (t ≤ t4 (x.t + maxDelay c g))
      | none => false
    ((a.orElse fun _ => b).orElse fun _ => d).map err

/-- Sequence length of lane A (0) or B (1). -/
def lenC (c : CfgSet) (g : GroupId) (lane : Nat) : Nat := fld (c.reg (grpAddr g.val (0x14 + lane))) 4 0

/-- LANE_SLOTS for one group. -/
def rowLaneG (c : CfgSet) (l : List GSlot) (g : GroupId) : Option GaitErr :=
  let ins := l.filter fun x => x.has 2 g.val
  let outs := l.filter fun x => x.has 5 g.val
  let used := (chansOf g).any fun n => decide (modeC c n ≠ 0)
  let miss : GaitErr := { kind := 6, slot := none, group := g.val }
  let lane := fun (k : Nat) =>
    let st := l.filter fun x => x.has 1 g.val && x.arg.testBit (8 + k)
    if lenC c g k = 0 then none
    else match st with
      | [] => some { miss with lane := k }
      | _ :: y :: _ => some { miss with slot := some y.i, lane := k }
      | _ => if ins.isEmpty then some miss else none
  let one := fun (m : List GSlot) => match m with
    | [] => some miss
    | _ :: y :: _ => some { miss with slot := some y.i }
    | _ => none
  ((lane 0).orElse fun _ => lane 1).orElse fun _ =>
    if used then (one ins).orElse fun _ => one outs else none

/-- Byte time of the ring ports in ns: the slower port decides (R301). -/
def byteNs (c : CfgSet) : Nat := if (c.reg 0x0800).getLsbD 13 || (c.reg 0x0801).getLsbD 13 then 80 else 8
/-- Hop time H in ns (R301). -/
def hopNs (c : CfgSet) : Nat := (if byteNs c = 80 then 1600 else 360) + (c.reg 0x0810).toNat
/-- t_L in ns. -/
def launchNs (c : CfgSet) : Nat := 8 * pair (c.reg 0x080E) (c.reg 0x080F)
/-- A_p in ns for `h` hops. -/
def passNs (c : CfgSet) (p h : Nat) : Nat := launchNs c + h * hopNs c + byteNs c * segOfs c p

/-- h_max (R301). -/
def hopMax (c : CfgSet) : Nat := if ringRed c then 2 * (ringN c - 1) else ringN c

/-- NET_FITERR. -/
def fitReg (cond dir pos : Nat) : HWord := BitVec.ofNat 4 cond ++ BitVec.ofNat 1 dir ++ (0#5) ++ BitVec.ofNat 6 pos

/-- XIRAM: the slots, NET_LAUNCH and the conditions of R301; the failure and NET_FITERR. -/
def rowXi (s : State) (c : CfgSet) (l : List GSlot) : Option (GaitErr × HWord) :=
  let ss := l.filter fun x => decide (x.act = 6)
  let ds := l.filter fun x => decide (x.act = 7)
  let err := fun (k : Option Nat) => ({ kind := 7, slot := k } : GaitErr)
  match ss[1]?, ds[1]? with
  | some y, _ => some (err (some y.i), 0)
  | none, some y => some (err (some y.i), 0)
  | none, none =>
    if ringN c = 0 then none
    else match ss, ds with
      | [x], [d] =>
        let p := (ownPos s c).getD 0
        let m := 20 * (ringN c + 1)
        let prep := 200 + 2 * ringLen c p
        let hops := [p] ++ (if ringRed c then [(ringN c - p) % ringN c] else [])
        let dirs := hops.zipIdx
        if ringOrig c ∧ launchNs c ≠ x.t + 800 then some (err none, fitReg 2 0 0)
        else match dirs.find? fun h => decide (passNs c p h.1 < x.t + prep + m) with
          | some h => some (err (some x.i), fitReg 3 h.2 p)
          | none => match dirs.find? fun h => decide (d.t < passNs c p h.1 + byteNs c * segLen c p + 100 + m) with
            | some h => some (err (some d.i), fitReg 4 h.2 p)
            | none =>
              if ringOrig c ∧ lmin4 c < t4 (byteNs c * trainLen c + hopMax c * hopNs c + 1000) then
                some (err (some x.i), fitReg 5 0 0) else none
      | _, _ => some (err none, fitReg 1 0 0)

/-- The foreground task that a TASK_REL argument names. -/
def taskOf (s : State) (arg : Nat) : Option Task :=
  s.img.tasks.find? fun t => !t.bg && decide (t.core.val = arg / 1024 % 4) && decide (t.index.toNat = arg % 16)

/-- One slot of the TASK_LATE simulation: `t` is when the core is free. -/
def lateStep (s : State) (l : List GSlot) (f : Nat) (a : Nat × Option GSlot) (x : GSlot) : Nat × Option GSlot :=
  match a.2, taskOf s x.arg with
  | none, some k =>
    if f % 2 ^ k.k = k.phase then
      (let t := max a.1 x.t + 8 + 2 * k.budget
       match deadC l x with
       | some d => (t, if d.t < t then some x else none)
       | none => (t, none))
    else a
  | _, _ => a

/-- TASK_LATE. -/
def rowLate (s : State) (l : List GSlot) : Option GaitErr :=
  let rel := l.filter fun x => decide (x.act = 3)
  firstOf (List.range 1024) fun f => firstOf (List.range 4) fun c =>
    ((rel.filter fun x => decide (x.arg / 1024 % 4 = c)).foldl (lateStep s l f) (0, none)).2.map fun x =>
      { kind := 8, slot := some x.i, core := c, sfrm := f }

/-- The GAIT check: its rows in the order of R44. -/
def gaitRows (s : State) (c : CfgSet) : Option (GaitErr × HWord) :=
  let l := slotsOf c
  let no := fun (e : Option GaitErr) => e.map fun x => (x, (0 : HWord))
  ((((((((no (rowOrder l)).orElse fun _ => no (rowRange c l)).orElse fun _ => no (rowDead l)).orElse fun _ =>
    no (rowBg l)).orElse fun _ => no (firstOf groups (rowOutG c l))).orElse fun _ =>
    no (firstOf groups (rowLaneG c l))).orElse fun _ => rowXi s c l).orElse fun _ => no (rowLate s l))

/-- Duration of an entry in ns (R107). -/
def entryNs (e x : HWord) : Nat := if fld e 10 9 = 0 then 1000 else (fld x 7 0 + 1) * 250 + 500

/-- D of a lane's sequence (R36). -/
def laneNs (c : CfgSet) (g : GroupId) (lane : Nat) : Nat :=
  let base := if lane = 0 then 0x40 else 0x80
  ((List.range (lenC c g lane)).map fun i =>
    entryNs (c.reg (grpAddr g.val (base + i))) (c.reg (grpAddr g.val (base + 0x30 + i)))).sum

/-- SEQ_LATE, the SEQUENCE check. -/
def rowSeq (c : CfgSet) : Option GaitErr :=
  let l := slotsOf c
  firstOf groups fun g => firstOf [0, 1] fun k =>
    if lenC c g k = 0 then none
    else match l.find? fun x => x.has 1 g.val && x.arg.testBit (8 + k) with
      | none => none
      | some x =>
        let bad : Option GaitErr := some { kind := 9, slot := some x.i, group := g.val, lane := k }
        match l.find? fun y => decide (x.i < y.i) && y.has 2 g.val with
        | none => bad
        | some y => if y.t < x.t + laneNs c g k + 40 then bad else none

/-! ### REINS, PROGRAM -/

/-- The REINS check (R245): PGV_CHKERR of the first failing budget. -/
def reinsCheck (c : CfgSet) : Option HWord :=
  match groups.find? fun g => decide ((c.reg (0x0400 + g.val)).toNat < baseLoad c g) with
  | some g => some (BitVec.ofNat 16 g.val)
  | none =>
    if (c.reg 0x0408).toNat < 2500 + (groups.map (baseLoad c)).sum then some 0x8000 else none

/-- The PROGRAM check (R226). -/
def programOk (s : State) (c : CfgSet) : Bool :=
  let rel := (slotsOf c).filter fun x => decide (x.act = 3)
  rel.all (fun x => match taskOf s x.arg with
    | some t => decide (t.slot.toNat = x.i)
    | none => false) &&
  decide ((rel.map fun x => x.arg % 4096).Nodup)

/-! ### The checks in order -/

/-- Outcome of the stage-3 checks: cause, GAIT_ERR, NET_FITERR, PGV_CHKERR. -/
structure CmtRes where
  cause : Byte
  err : Option GaitErr := none
  fit : HWord := 0
  chk : HWord := 0

/-- A COMMIT is refused with MODE (R20). -/
def commitModeBad (s : State) : Bool :=
  s.sys.mode = .boot || s.sys.mode = .trial || s.sys.mode = .frozen || s.sys.mode = .off ||
  s.upd.st = .activating || s.upd.trialFlag

/-- The stage-3 checks in ascending order of cause code, up to PROGRAM (R19, R20). -/
def stage3Checks (s : State) : CmtRes :=
  let c := s.cfg.staged
  if commitModeBad s then { cause := 2 }
  else match gaitValue c with
    | some e => { cause := 3, err := some e }
    | none =>
      if !valueRest s c then { cause := 3 }
      else if !pairOk c then { cause := 4 }
      else match gaitRows s c with
        | some (e, f) => { cause := 5, err := some e, fit := f }
        | none => match rowSeq c with
          | some e => { cause := 6, err := some e }
          | none => match reinsCheck c with
            | some r => { cause := 7, chk := r }
            | none => if programOk s c then { cause := 0 } else { cause := 8 }

end Sys2Proof.Machine
end

