-- ==== Sys2Proof/Machine/CanterSys.lean ====
section
/-! DEFINITION. The channel and system instructions of a Canter core (R202 to R213) and the Groom core services (R236,
R237). -/

namespace Sys2Proof.Machine

/-! ### Channel instructions -/

/-- IND of an X-format instruction. -/
def xInd (f : XF) : Bool := f.lo.getLsbD 10
/-- The channel an X-format instruction names (R202). -/
def xChan (s : State) (c : CoreId) (f : XF) (t : Nat) : ChanId :=
  if xInd f then ⟨(rdReg s c f.rc t).toNat % 64, by omega⟩ else ⟨f.lo.toNat / 16 % 64, by omega⟩
/-- Fields of PIN and POUT (R202). -/
def chanLegal (f : XF) : Bool :=
  !isM f.ra && !isM f.rc && f.rb = 0 && f.lo.toNat % 16 = 0 &&
    (if xInd f then decide (f.lo.toNat / 16 % 64 = 0) else f.rc = 0)

/-- PIN (R203). -/
def execPin (c : CoreId) (f : XF) (s : State) : Host.Outcome State Fault Refusal :=
  .next (canter c (chanLegal f)
    { src := if xInd f then [f.rc] else [], dst := [(f.ra, 3)], readFl := false, flL := some 3, macD := none }
    (fun t s =>
      let w := s.pi.inw[xChan s c f t]
      let fl := (s.core[c]).st
      .ok (wrResult c f.ra w (mkFlags (!w.getLsbD 0) w.msb (flC fl) (flV fl) (flS fl)) s) none 3) s)

/-- The writer code of a core (R53). -/
def writerCode (c : CoreId) : Nat := 1 + c.val

/-- A value for an output word: bits 7:0 of the value are ignored (R67, R96). -/
def putOut (n : ChanId) (w : W32) (s : State) : State :=
  let s1 : State := { s with pi := { s.pi with outw := s.pi.outw.set n (w &&& 0xFFFFFF00) } }
  modOut s1 n fun o => { o with accepted := true }

/-- OUT_OWNER (R18): the channel and the writer code that attempted. -/
def outOwner (n : ChanId) (w : Nat) (s : State) : State := raise 68 (BitVec.ofNat 32 (256 * w + n.val)) s

/-- POUT (R204): the writer rule of R18 against the active set. -/
def execPout (c : CoreId) (f : XF) (s : State) : Host.Outcome State Fault Refusal :=
  .next (canter c (chanLegal f)
    { src := if xInd f then [f.ra, f.rc] else [f.ra], dst := [], readFl := false, flL := some 3, macD := none }
    (fun t s =>
      let n := xChan s c f t
      if isOutMode (modeA s n) && decide (writerA s n = writerCode c) then
        .ok (wrFlags c (flagsZ (s.core[c]).st false) (putOut n (rdReg s c f.ra t) s)) none 3
      else .ok (wrFlags c (flagsZ (s.core[c]).st true) (outOwner n (writerCode c) s)) none 3) s)

/-- A word of a core's data memory, little-endian. -/
def dmemWord (s : State) (c : CoreId) (o : Nat) : W32 := BitVec.ofNat 32 (ofLe (memGets (s.core[c]).dmem o 4))
/-- Write a word of a core's data memory. -/
def putDmem (c : CoreId) (o : Nat) (v : W32) (s : State) : State :=
  modCore s c fun k => { k with dmem := memPuts k.dmem o (leBytes 4 v.toNat) }

/-- One PID update (R206): the output, INTEG, and whether the output was bounded. -/
def pidsStep (kp ki kd omin omax integ prev e : Int) (init hold : Bool) : Int × Int × Bool :=
  let p := (kp * e) >>> 16
  let pi := (ki * e) >>> 16
  let d := if init then (kd * (e - prev)) >>> 16 else 0
  let ic := integ + pi
  let raw := p + ic + d
  let u := max (min raw omax) omin
  let wind := (decide (omax < raw) && decide (0 < pi)) || (decide (raw < omin) && decide (pi < 0))
  (u, if !hold && !wind then max (min ic omax) omin else integ, decide (u ≠ raw))

/-- PIDS (R205, R206). -/
def execPids (c : CoreId) (f : XF) (s : State) : Host.Outcome State Fault Refusal :=
  .next (canter c (!isM f.ra && !isM f.rb && isA f.rc && f.lo = 0)
    { src := [f.rb, f.rc], dst := [(f.ra, 6)], readFl := false, flL := some 6, macD := none }
    (fun t s =>
      let a := rdReg s c f.rc t
      if a.toNat % 32 ≠ 0 then .trap 2 0 a
      else if window a ≠ .dmem then .trap 3 8 a
      else
        let o := a.toNat - 0x10000000
        let w := fun (i : Nat) => (dmemWord s c (o + 4 * i)).toInt
        let ctl := dmemWord s c (o + 28)
        let e := rdReg s c f.rb t
        let r := pidsStep (w 0) (w 1) (w 2) (w 3) (w 4) (w 5) (w 6) e.toInt (ctl.getLsbD 0) (ctl.getLsbD 1)
        let u := BitVec.ofInt 32 r.1
        let s1 := putDmem c (o + 28) (ctl ||| 1) (putDmem c (o + 24) e (putDmem c (o + 20) (BitVec.ofInt 32 r.2.1) s))
        .ok (wrResult c f.ra u (flagsZNC (s.core[c]).st u r.2.2) s1) none 6) s)

/-- One ramp step (R207), the step unsigned, the difference in 33 bits. -/
def rampOp (x y st : W32) : W32 :=
  let d := y.toInt - x.toInt
  if d.natAbs ≤ st.toNat then y else if 0 < d then x + st else x - st

/-- RAMP (R207). -/
def execRamp (c : CoreId) (f : XF) (s : State) : Host.Outcome State Fault Refusal :=
  .next (canter c (!isM f.ra && !isM f.rb && !isM f.rc && f.lo = 0)
    { src := [f.ra, f.rb, f.rc], dst := [(f.ra, 1)], readFl := false, flL := some 1, macD := none }
    (fun t s =>
      let r := rampOp (rdReg s c f.ra t) (rdReg s c f.rb t) (rdReg s c f.rc t)
      .ok (wrResult c f.ra r (flagsZ (s.core[c]).st (r = rdReg s c f.rb t)) s) none 1) s)

/-- Signed bound (R207): the lower bound prevails. -/
def limitValue (x lo hi : W32) : W32 := BitVec.ofInt 32 (max (min x.toInt hi.toInt) lo.toInt)

/-- LIMIT (R207). -/
def execLimitOp (c : CoreId) (f : XF) (s : State) : Host.Outcome State Fault Refusal :=
  .next (canter c (!isM f.ra && !isM f.rb && !isM f.rc && f.lo = 0)
    { src := [f.ra, f.rb, f.rc], dst := [(f.ra, 1)], readFl := false, flL := some 1, macD := none }
    (fun t s =>
      let x := rdReg s c f.ra t
      let r := limitValue x (rdReg s c f.rb t) (rdReg s c f.rc t)
      .ok (wrResult c f.ra r (flagsZNC (s.core[c]).st r (r ≠ x)) s) none 1) s)

/-! ### System instructions -/

/-- No register field is used. -/
def noRegs (f : XF) : Bool := f.ra = 0 && f.rb = 0 && f.rc = 0

/-- The core runs its NMI handler. -/
def inNmi (s : State) (c : CoreId) : Bool := (s.core[c]).run = .nmi

/-- Cycle of a Gait slot time. -/
def slotCycle (s : State) (k : Nat) : Nat := (slotTime s.cfg.active k + 1) / 2

/-- TICKWAIT (R208): the next instruction issues in the first cycle at or after the slot time. -/
def execTickwait (c : CoreId) (f : XF) (s : State) : Host.Outcome State Fault Refusal :=
  let k := f.lo.toNat % 256
  .next (canter c (noRegs f && f.lo.toNat < 256)
    { src := [], dst := [], readFl := false, flL := some 1, macD := none, tw := true }
    (fun t s =>
      let late := inNmi s c || !decide (k < fld (act s 0x0110) 8 0) || decide (slotCycle s k < t)
      .ok (wrFlags c (flagsZ (s.core[c]).st late) s) none (if late then 1 else max 1 (slotCycle s k - t))) s)

/-- CHECKIN (R209, R345): counted for a task that declares a TALLY. -/
def execCheckin (c : CoreId) (f : XF) (s : State) : Host.Outcome State Fault Refusal :=
  .next (canter c (noRegs f && f.lo = 0)
    { src := [], dst := [], readFl := false, flL := none, macD := none }
    (fun _ s =>
      let i := (s.core[c]).taskId.1
      let counts := !inNmi s c && (match findTask s c i with
        | some t => decide (0 < t.tally)
        | none => false)
      .ok (if counts then modCore s c fun k => { k with checkins := k.checkins.set i.toNat (k.checkins[i.toNat] + 1) }
           else s) none 1) s)

/-- A value the spec does not state (log entry 14). -/
def freeDraw (s : State) : W32 × State :=
  (Config.freeWord s.sec.draws, { s with sec := { s.sec with draws := s.sec.draws + 1 } })

/-- The descriptor fields of LEAVE are valid (R254). -/
def descOk (d : W32) : Bool :=
  let arg := d.toNat / 65536 % 256
  let kind := d.toNat / 2 ^ 28 % 4
  let dev := d.getLsbD 27
  let grp := d.toNat / 2 ^ 24 % 8
  decide (d.toNat / 2 ^ 30 ≠ 3) && decide (kind ≠ 3) && decide (d.toNat % 65536 ≠ 0) &&
    (if kind = 0 then decide (arg ≠ 0) && (!dev || decide (grp = 0))
     else !dev && decide (grp = 0) && (if kind = 1 then decide (arg < 64) else decide (arg < 8)))

/-- Turn-on cost of a channel at R246, in mW: with an inrush class, or in mode 11. -/
def turnOnCost (s : State) (n : ChanId) : Nat :=
  if modeA s n = 3 then (if fld (chA s n 0x0D) 12 11 = 0 then 0 else (opCost s (.turnOn n)).1)
  else if modeA s n = 11 then (opCost s (.aoEnable n)).1 else 0

/-- What a descriptor asks for: its operation, the channels it names, its group costs and its device-only cost. -/
def descReq (s : State) (d : W32) : ReqOp × List ChanId × Vector Nat 8 × Nat :=
  let arg := d.toNat / 65536 % 256
  let kind := d.toNat / 2 ^ 28 % 4
  if kind = 0 then
    (if d.getLsbD 27 then (.reserve, [], Vector.replicate 8 0, 10 * arg)
     else (.reserve, [], payG (some ⟨d.toNat / 2 ^ 24 % 8, by omega⟩) (10 * arg), 0))
  else if kind = 1 then
    (let n : ChanId := ⟨arg % 64, by omega⟩
     (.progChannel n, [n], payG (some (chGroup n)) (turnOnCost s n), 0))
  else
    (let k : Fin 8 := ⟨arg % 8, by omega⟩
     let l := channels.filter fun n => inSet s.cfg.active k n
     (.progSet k, l,
      Vector.ofFn fun g => ((l.filter fun n => chGroup n = g).map (turnOnCost s)).sum, 0))

/-- The members of a set request, as it is formed (R251). -/
def reqMembers (op : ReqOp) (l : List ChanId) : BitVec 64 :=
  match op with
  | .progSet _ => l.foldl (fun v n => setBit v n.val true) 0
  | _ => 0

/-- Submit a request (R254, R255): the handle, or an immediate refusal with Z at 1, in the order of the causes. -/
def submit (c : CoreId) (d : W32) (s : State) : W32 × Bool × State :=
  if !descOk d then (0x80000001, true, s)
  else
    let (op, l, gc, dc) := descReq s d
    let total := (groups.map fun g => gc[g]).sum + dc
    if groups.any (fun g => decide (budG s g < gc[g])) || decide (budD s < total) then (0x80000002, true, s)
    else match freeShared s with
      | none => (0x80000003, true, s)
      | some i =>
        if l.all fun n => isOutMode (modeA s n) && decide (writerA s n = writerCode c) then
          (let s1 := openSlot i op (BitVec.ofNat 2 (d.toNat / 2 ^ 30)) gc dc (d.toNat % 65536) (reqMembers op l) s
           (handle s1 i, false, s1))
        else (0x80000004, true, s)

/-- LEAVE (R210). It has no effect in the NMI handler (R218). -/
def execLeave (c : CoreId) (f : XF) (s : State) : Host.Outcome State Fault Refusal :=
  .next (canter c (!isM f.ra && !isM f.rb && f.rc = 0 && f.lo = 0)
    { src := [f.rb], dst := [(f.ra, 4)], readFl := false, flL := some 4, macD := none }
    (fun t s =>
      if inNmi s c then .ok s none 4
      else
        let r := submit c (rdReg s c f.rb t) s
        .ok (wrResult c f.ra r.1 (flagsZ (s.core[c]).st r.2.1) r.2.2) none 4) s)

/-- Status word of a slot (R255). -/
def slotStatus (x : Slot) : W32 :=
  let st : BitVec 2 := match x.st with
    | .granted => 1
    | .ended => 2
    | .failed => 3
    | _ => 0
  st ++ (0#6) ++ x.deferrals ++ BitVec.ofNat 16 x.left

/-- The slot a handle names, if it holds that generation. -/
def handleSlot (s : State) (h : W32) : Option (Fin 96) :=
  if lt : h.toNat % 256 < 96 then
    (let i : Fin 96 := ⟨h.toNat % 256, lt⟩
     if h.toNat < 65536 ∧ (s.pgv.slots[i]).st ≠ .free ∧ (s.pgv.slots[i]).gen.toNat = h.toNat / 256 then some i else none)
  else none

/-- LEAVE with OPT[0] at 1 (R255). Where the handle names no request, Z is 1 and the value in ra is not stated. -/
def execLeaveQuery (c : CoreId) (f : XF) (s : State) : Host.Outcome State Fault Refusal :=
  .next (canter c (!isM f.ra && !isM f.rb && f.rc = 0 && f.lo = 1)
    { src := [f.rb], dst := [(f.ra, 4)], readFl := false, flL := some 4, macD := none }
    (fun t s =>
      if inNmi s c then .ok s none 4
      else match handleSlot s (rdReg s c f.rb t) with
        | some i => .ok (wrResult c f.ra (slotStatus s.pgv.slots[i]) (flagsZ (s.core[c]).st false) s) none 4
        | none =>
          let (v, s1) := freeDraw s
          .ok (wrResult c f.ra v (flagsZ (s.core[c]).st true) s1) none 4) s)

/-- EVRAISE (R211): USER0 to USER3 alone (R241). -/
def execEvraise (c : CoreId) (f : XF) (s : State) : Host.Outcome State Fault Refusal :=
  .next (canter c (!isM f.ra && !isM f.rc && f.rb = 0 && f.lo.toNat / 128 % 8 = 0 &&
      (if xInd f then decide (f.lo.toNat % 128 = 0) else f.rc = 0))
    { src := if xInd f then [f.ra, f.rc] else [f.ra], dst := [], readFl := false, flL := some 2, macD := none }
    (fun t s =>
      let e : Fin 128 := ⟨(if xInd f then (rdReg s c f.rc t).toNat else f.lo.toNat) % 128, by omega⟩
      if inNmi s c then .ok s none 2
      else if 124 ≤ e.val then .ok (wrFlags c (flagsZ (s.core[c]).st false) (raise e (rdReg s c f.ra t) s)) none 2
      else .ok (wrFlags c (flagsZ (s.core[c]).st true) s) none 2) s)

/-- END (R213); in the NMI handler it halts the core (R218). -/
def execEndTask (c : CoreId) (f : XF) (s : State) : Host.Outcome State Fault Refusal :=
  .next (canter c (noRegs f && f.lo = 0)
    { src := [], dst := [], readFl := false, flL := none, macD := none }
    (fun _ s => .ok (if inNmi s c then haltCore c s else modCore s c fun k => k.endTask) none 1) s)

/-- BUDGET (R215): a foreground task reaches its budget. -/
def execBudget (c : CoreId) (s : State) : Host.Outcome State Fault Refusal :=
  .next (if canRun s c && (budgetOf s c).isSome then
    budgetExc c ((s.core[c]).startAt + (budgetOf s c).getD 0) s else s)

/-! ### Groom core services -/

/-- Unused fields of a SYSCALL word. -/
def svcLegal (f : SvcF) : Bool := f.ra = 0 && f.rb = 0 && f.rc = 0 && f.hi = 0

/-- Arguments and results of a SYSCALL, with service time `l`. -/
def svcShape (l : Nat) : Shape :=
  { src := [0, 1, 2, 3], dst := [(0, 4 + l), (1, 4 + l)], readFl := false, flL := none, macD := none }

/-- A service with a fixed time (R236); in the NMI handler SYSCALL has no effect (R218). -/
def svcFixed (c : CoreId) (f : SvcF) (l : Nat) (g : State → State) (s : State) : State :=
  canter c (svcLegal f) (svcShape l) (fun _ s => .ok (if inNmi s c then s else g s) none (4 + l)) s

/-- Results in d0 and d1. -/
def svcD0 (c : CoreId) (v : W32) (s : State) : State := wrReg c 0 v s
def svcD1 (c : CoreId) (v : W32) (s : State) : State := wrReg c 1 v s
/-- An argument. -/
def svcArg (s : State) (c : CoreId) (i : Fin 4) : W32 := (s.core[c]).d[i.val]

/-- SVC_NOP (R236). -/
def execSvcNop (c : CoreId) (f : SvcF) (s : State) : Host.Outcome State Fault Refusal :=
  .next (svcFixed c f 0 (svcD0 c 0) s)

/-- SVC_NETTIME (R236): network time at the issue cycle. -/
def execSvcNettime (c : CoreId) (f : SvcF) (s : State) : Host.Outcome State Fault Refusal :=
  .next (svcFixed c f 12 (fun s =>
    svcD1 c (BitVec.ofNat 32 (s.now / 2 ^ 32)) (svcD0 c (BitVec.ofNat 32 s.now) s)) s)

/-- SVC_FRMNO (R236). -/
def execSvcFrmno (c : CoreId) (f : SvcF) (s : State) : Host.Outcome State Fault Refusal :=
  .next (svcFixed c f 4 (fun s =>
    svcD1 c ((s.frm.no.extractLsb' 32 16).setWidth 32) (svcD0 c (s.frm.no.setWidth 32) s)) s)

/-- A program record of the journal (R331). -/
def progEntry (s : State) (c : CoreId) : List Byte :=
  leBytes 8 s.now ++ [2, BitVec.ofNat 8 c.val] ++ leBytes 2 (svcArg s c 0).toNat ++ leBytes 4 s.frm.no.toNat ++
    leBytes 4 (svcArg s c 1).toNat ++ leBytes 4 (svcArg s c 2).toNat ++ leBytes 4 (svcArg s c 3).toNat ++ leBytes 4 0

/-- SVC_JOURNAL (R236, R331): DROPPED while buffer 1 has SIZE 0. -/
def execSvcJournal (c : CoreId) (f : SvcF) (s : State) : Host.Outcome State Fault Refusal :=
  .next (svcFixed c f 20 (fun s =>
    if bufSize s.cfg.active 1 = 0 then svcD0 c 7 s
    else
      let (s1, w) := journal s (progEntry s c)
      svcD0 c 0 (if w then raise evLogWrap 1 s1 else s1)) s)

/-- SVC_DEVINFO (R236). -/
def execSvcDevinfo (c : CoreId) (f : SvcF) (s : State) : Host.Outcome State Fault Refusal :=
  .next (svcFixed c f 4 (fun s =>
    let v : W32 := match (svcArg s c 0).toNat with
      | 0 => s.sys.addr.setWidth 32
      | 1 => BitVec.ofNat 32 (fld (act s 0x080D) 15 12)
      | 2 => (act s 0x080C).setWidth 32
      | 3 => BitVec.ofNat 32 c.val
      | _ => 0xFFFFFFFF
    svcD0 c v s) s)

/-- An assigned service number (R236). -/
def svcAssigned (n : BitVec 8) : Bool := n.toNat < 5 || (16 ≤ n.toNat && n.toNat < 21)

/-- An unassigned service number returns NOSVC at once (R236). -/
def execSvcUnassigned (c : CoreId) (svc : BitVec 8) (f : SvcF) (s : State) : Host.Outcome State Fault Refusal :=
  .next (if svcAssigned svc then s else svcFixed c f 0 (svcD0 c 1) s)

/-- A buffer wholly in shared SRAM, word-aligned (R237). -/
def sramBuf (a : W32) (n : Nat) : Bool :=
  decide (0x20000000 ≤ a.toNat) && decide (a.toNat + n ≤ 0x20200000) && decide (a.toNat % 4 = 0)

/-- Status of an NV access (R237). -/
def nvStatus (w : SvcWait) : W32 :=
  if !sramBuf w.d0 w.d2.toNat then 2 else if 4096 < w.d1.toNat + w.d2.toNat then 3 else 0

/-- A service without a fixed time is passed on from a background task alone; in a foreground task it raises a bus fault
(R212). The core then waits. -/
def svcLong (c : CoreId) (f : SvcF) (n : Byte) (s : State) : State :=
  canter c (svcLegal f) { svcShape 0 with dst := [] }
    (fun _ s =>
      if inNmi s c then .ok s none 4
      else if !inBg s c then .trap 3 7 0
      else
        let w : SvcWait := { num := n, d0 := svcArg s c 0, d1 := svcArg s c 1, d2 := svcArg s c 2, d3 := svcArg s c 3,
                             granted := false, denied := false, written := false }
        let s1 := modCore s c fun k => { k with svc := some w }
        .ok (if n = 0x14 ∧ nvStatus w = 0 then groomReq (.nvWrite c) s1 else s1) none 4) s

/-- SVC_XI_SEND, passed to the Groom core. -/
def execSvcXiSend (c : CoreId) (f : SvcF) (s : State) : Host.Outcome State Fault Refusal := .next (svcLong c f 0x10 s)
/-- SVC_XI_RECV, passed to the Groom core. -/
def execSvcXiRecv (c : CoreId) (f : SvcF) (s : State) : Host.Outcome State Fault Refusal := .next (svcLong c f 0x11 s)
/-- SVC_LOG_READ, passed to the Groom core. -/
def execSvcLogRead (c : CoreId) (f : SvcF) (s : State) : Host.Outcome State Fault Refusal := .next (svcLong c f 0x12 s)
/-- SVC_NV_READ, passed to the Groom core. -/
def execSvcNvRead (c : CoreId) (f : SvcF) (s : State) : Host.Outcome State Fault Refusal := .next (svcLong c f 0x13 s)
/-- SVC_NV_WRITE, passed to the Groom core: it asks for leave of class MAINT (R246). -/
def execSvcNvWrite (c : CoreId) (f : SvcF) (s : State) : Host.Outcome State Fault Refusal := .next (svcLong c f 0x14 s)

/-- Write bytes into shared SRAM. -/
def putSram (a : W32) (l : List Byte) (s : State) : State :=
  { s with sram := memPuts s.sram (a.toNat - 0x20000000) l }
/-- Read bytes of shared SRAM. -/
def getSram (s : State) (a : W32) (n : Nat) : List Byte := memGets s.sram (a.toNat - 0x20000000) n

/-- The session that XI_SEND names can carry an application message: live, on the network, minor 2 (R306, R380). -/
def appSession (s : State) (d : W32) : Option (Fin 16) :=
  if h : d.toNat < 16 then
    (let i : Fin 16 := ⟨d.toNat, h⟩
     if isLive s i ∧ (s.sec.sess[i]).iface ≠ .host ∧ 2 ≤ (s.sec.sess[i]).minor then some i else none)
  else none

/-- What a service returns: its effect on the machine, d0, and d1 where it gives one. -/
structure SvcRes where
  s : State
  d0 : W32
  d1 : Option W32

/-- XI_SEND (R236, R306). -/
def doXiSend (c : CoreId) (w : SvcWait) (s : State) : SvcRes :=
  let n := w.d1.toNat
  if !sramBuf w.d0 n then ⟨s, 2, none⟩
  else if n = 0 ∨ 1024 < n then ⟨s, 3, none⟩
  else match appSession s w.d2 with
    | none => ⟨s, 4, none⟩
    | some i =>
      ⟨bumpSend (some i) { s with sent := .app i ([BitVec.ofNat 8 c.val, 0] ++ beBytes 2 n ++ getSram s w.d0 n) (msgTag s (s.sec.sess[i]).iface) :: s.sent },
       0, none⟩

/-- XI_RECV (R236, R306): the oldest message; one longer than the buffer stays (log entry 20). -/
def doXiRecv (c : CoreId) (w : SvcWait) (s : State) : SvcRes :=
  match (s.core[c]).inbox with
  | [] => ⟨s, 5, none⟩
  | m :: rest =>
    if !sramBuf w.d0 w.d1.toNat then ⟨s, 2, none⟩
    else if w.d1.toNat < m.length then ⟨s, 3, none⟩
    else ⟨putSram w.d0 m (modCore s c fun k => { k with inbox := rest }), 0, some (BitVec.ofNat 32 m.length)⟩

/-- LOG_READ (R236, R335). -/
def doLogRead (w : SvcWait) (ecc : Bool) (s : State) : SvcRes :=
  let n := w.d3.toNat
  if h : w.d1.toNat < 5 then
    (let b : Fin 5 := ⟨w.d1.toNat, h⟩
     let (_, start, m) := logSpan s b w.d2.toNat n n
     if n = 0 ∨ 64 < n then ⟨s, 3, none⟩
     else if !sramBuf w.d0 (n * recSize s.cfg.active b.val) then ⟨s, 2, none⟩
     else
       let l := logBytes s b start m
       ⟨serveBytes l.length (putSram w.d0 l (if ecc && decide (0 < m) then eccServed b s else s)), 0, some (BitVec.ofNat 32 m)⟩)
  else ⟨s, 3, none⟩

/-- The core's persistent store as its programs read it: in a trial, the store written in the trial (R377). -/
def nvStore (k : Core) : Mem := k.nvNext.getD k.nv

/-- The result of a waiting service once it can complete; none while it waits for leave or a write. -/
def svcResult (c : CoreId) (w : SvcWait) (ecc : Bool) (s : State) : Option SvcRes :=
  if w.num = 0x10 then some (doXiSend c w s)
  else if w.num = 0x11 then some (doXiRecv c w s)
  else if w.num = 0x12 then (if s.log.heldRead then none else some (doLogRead w ecc s))
  else if w.num = 0x13 then
    (let st := nvStatus w
     some ⟨if st = 0 then putSram w.d0 (memGets (nvStore s.core[c]) w.d1.toNat w.d2.toNat) s else s, st, none⟩)
  else if nvStatus w ≠ 0 then some ⟨s, nvStatus w, none⟩
  else if w.denied then some ⟨s, 6, none⟩
  else if w.written then some ⟨s, 0, none⟩
  else none

/-- A service that gives d1 leaves it unstated where its status is not OK (log entry 14). -/
def givesD1 (n : Byte) : Bool := n = 0x11 || n = 0x12

end Sys2Proof.Machine
end

