-- ==== Sys2Proof/Machine/Gait.lean ====
section
/-! DEFINITION. The Gait slots (R33 to R43, R46, R47): lanes, transfers and the process image (R61 to R68, R85, R86, R124,
R168, R230 to R234), tasks (R184, R226 to R229) and the background window. -/

namespace Sys2Proof.Machine

/-! ### Lanes and input transfers -/

/-- LANE_START (R34, R106): the named lanes of the named groups start at entry 0; S starts with the lane it shadows. -/
def execLaneStart (slot : BitVec 8) (s : State) : Host.Outcome State Fault Refusal :=
  .next (afterBoot (fun s =>
    if slotIs s slot 1 then
      let arg := slotArg s slot
      each (slotGroups s slot) (fun g s =>
        let x := s.grp[g]
        if !alive s g || x.scan || x.ilv then s
        else
          let go := fun (r : Role) (on : Bool) (x : Grp) =>
            if on && decide (0 < laneLen s g r) then
              { x with lanes := x.lanes.set (roleIx r) (startLane x.lanes[roleIx r] (laneLen s g r) (s.frm.tickT + slotTime s.cfg.active slot.toNat)) }
            else x
          let a := arg.testBit 8
          let b := arg.testBit 9
          modGrp s g fun x => go .s ((a && x.shadow = 1) || (b && x.shadow = 2)) (go .b b (go .a a x))) (atSlot slot s)
    else s) s)

/-- The previous word of a channel with HELD. -/
def heldWord (s : State) (n : ChanId) : W32 := s.pi.last[n] ||| 0x20

/-- A word of a channel whose configuration mismatches (R152, R177): SUBST, with VALID 0. -/
def mmWord (s : State) (n : ChanId) (w : W32) : W32 :=
  if (s.ch[n]).flt.cfgmm then (w ||| 0x40) &&& 0xFFFFFFFE else w

/-- Quality of an input word formed by the group die (R152, R231, R232); SUBST of a mismatch comes with `mmWord`. -/
def inQual (s : State) (n : ChanId) (valid ovr rcv cal : Bool) : Byte :=
  let f := (s.ch[n]).flt
  let opn := f.opn || (s.ch[n]).ai.senseOpen
  let short := f.limit || f.therm || f.suspect || f.stuck || f.cross
  bit cal ++ (0#2) ++ bit short ++ bit opn ++ bit rcv ++ bit ovr ++
    bit (valid && !ovr && !opn && !factBad s n)

/-- The channel shares its word with its partner (R90): the odd half of a pair, or the mode-8 half in 3-wire or 4-wire. A scan
converts neither so (R123). -/
def inPair (s : State) (n : ChanId) : Bool :=
  let c := (s.grp[chGroup n]).portion
  !(s.grp[chGroup n]).scan &&
    (isPartner c n || (decide (modeG s n = 8) && decide (wireOf c n = 1 ∨ wireOf c n = 2)))

/-- The entries that the channel's word needs have completed (R86, R90, R124). -/
def wordReady (s : State) (n : ChanId) : Bool :=
  (s.ch[n]).ai.fresh && (!inPair s n || (s.ch[partner n]).ai.fresh)

/-- The word of an analog channel (R85, R86, R89, R90, R103, R124). DESIGN CHOICE (log entry 60): in a switch frame a previous word
of 0x0000_0000 stays so, and while the sense path closes for its 100 µs the word reads 0x7F_FFFF with OPEN as before. -/
def analogWord (s : State) (n : ChanId) : W32 :=
  let a := (s.ch[n]).ai
  if a.settle then (if s.pi.last[n] = 0 then 0 else heldWord s n)
  else if a.senseOpen then (0x7FFFFF#24) ++ inQual s n false true false false
  else if wordReady s n then a.val ++ inQual s n true a.ovr a.rcv a.cal
  else if (s.grp[chGroup n]).scan || (if inPair s n then a.shown else a.has) then heldWord s n
  else 0

/-- The input word as the group die forms it (R61, R63, R68, R85). DESIGN CHOICE (log entry 60): in the frame of a switch STATE
follows the new INV, while the edge records of the window before it keep the old polarity. -/
def formWord (s : State) (n : ChanId) : W32 :=
  let d := (s.ch[n]).di
  let m := modeG s n
  let inv := invG s n
  if m = 1 then
    bit (d.snapState != inv) ++ bit d.snapRaw ++ (0#14) ++ d.snapEdges ++ inQual s n true false false false
  else if m = 2 then
    bit (d.snapState != inv) ++ d.value ++ inQual s n d.valOk d.valOvr false false
  else if m = 3 ∨ m = 4 ∨ m = 5 then
    bit d.snapState ++ bit d.snapRaw ++ (0#6) ++ BitVec.ofInt 16 (s.ch[n]).out.iload ++
      inQual s n true false false false
  else if isAnMode m || isPartner (s.grp[chGroup n]).portion n then analogWord s n
  else 0

/-- The edge records of a channel (R51). -/
def formRecs (s : State) (n : ChanId) : Vector (BitVec 64) 4 :=
  if modeG s n = 1 ∨ modeG s n = 2 then (s.ch[n]).di.snapRecs else .replicate 4 0

/-- IN_XFER (R34, R35): the named groups send their words. -/
def execInXfer (slot : BitVec 8) (s : State) : Host.Outcome State Fault Refusal :=
  .next (afterBoot (fun s =>
    if slotIs s slot 2 then
      each (slotGroups s slot) (fun g s =>
        let tx : Tx := { words := Vector.ofFn fun p => formWord s (grpCh g p),
                         recs := Vector.ofFn fun p => formRecs s (grpCh g p) }
        let s1 := modGrp s g fun x => { x with tx := if alive s g then some tx else none }
        if alive s g then
          each (chansOf g) (fun n s' => modAi s' n fun a =>
            { a with shown := a.shown || wordReady s n, fresh := a.fresh && !(s.grp[g]).scan }) s1
        else s1)
        (atSlot slot s)
    else s) s)

/-- The group is out of service for its words (R168, R176). -/
def wordsOut (x : Grp) : Bool := decide (x.supply ≠ .normal) || x.link

/-- Replace a channel's input word, without forming it anew. -/
def putIn (n : ChanId) (w : W32) (s : State) : State := { s with pi := { s.pi with inw := s.pi.inw.set n w } }

/-- Place a word that the group die formed. -/
def putFormed (n : ChanId) (w : W32) (s : State) : State :=
  putIn n (mmWord s n w) { s with pi := { s.pi with last := s.pi.last.set n w } }

/-- The status words of a group's channels (R234). -/
def putStatus (g : GroupId) (s : State) : State :=
  each (chansOf g) (fun n s => { s with pi := { s.pi with stat := s.pi.stat.set n (statusWord s n) } }) s

/-- An earlier word stays, with its quality changed: HELD, RCV in recovery, SUBST in an excluded group (R25, R39, R168). -/
def keepWord (s : State) (n : ChanId) (rcv subst : Bool) : W32 :=
  let w := mmWord s n (heldWord s n ||| (if rcv then 0x04 else 0))
  if subst then (w ||| 0x40) &&& 0xFFFFFFFE else w

/-- A channel's user values in a set (R140): its entries of CAL tables 3 and 4 and its CAL_ULIN_EN bits. -/
def userOf (c : CfgSet) (n : ChanId) : Sparse 32 × Sparse 32 × Byte :=
  (c.trim.filter fun p => p.1 / 16 = n.val, c.ulin.filter fun p => p.1 / 256 = n.val,
   (c.reg (0x3010 + n.val / 2)).extractLsb' (8 * (n.val % 2)) 8)

/-- The channel-level settings in the group's portion, user values among them, differ from the active set (R24, R140,
R177). -/
def chanDiffers (s : State) (n : ChanId) : Bool :=
  ((List.range 0x1A).any fun o => decide (chG s n o ≠ chA s n o)) ||
    decide (userOf (s.grp[chGroup n]).portion n ≠ userOf s.cfg.active n)

/-- The group-level settings in its portion differ from the active set. -/
def grpDiffers (s : State) (g : GroupId) : Bool :=
  (List.range 0xC0).any fun o => decide (grpG s g o ≠ act s (grpAddr g.val o))

/-- The echo of a group is compared with the active set (R177, R379): each channel, and the group-level settings, count
their own mismatching frames, and the first of them raises CFG_MISMATCH and re-sends the portion. -/
def checkEcho (g : GroupId) (chans : BitVec 64) (grpBit : Bool) (s : State) : State :=
  let coarse := decide (s.upd.linkVer[g] = some 0)
  let differs := fun (n : ChanId) => chans.getLsbD n.val || chanDiffers s n
  let one := fun (n : ChanId) => differs n && !coarse
  let gm := grpBit || grpDiffers s g || (coarse && (chansOf g).any differs)
  let newCh := (chansOf g).find? fun n => one n && decide ((s.ch[n]).flt.mmFrames = 0)
  let newGrp := gm && decide ((s.grp[g]).mmFrames = 0)
  let s1 := each (chansOf g) (fun n s => modFlt s n fun f =>
    { f with mm := one n, mmFrames := if one n then f.mmFrames + 1 else 0 }) s
  let s2 := modGrp s1 g fun x => { x with grpMm := gm, mmFrames := if gm then x.mmFrames + 1 else 0 }
  if newGrp || newCh.isSome then
    let who : Nat := if newGrp then 0xFF else (newCh.map (·.val)).getD 0xFF
    raise 67 (BitVec.ofNat 32 (256 * g.val + who)) (modGrp s2 g fun x => { x with resend := true })
  else s2

/-- Cold junction of a mode-9 channel at an IN_XFER (R93, R95): `die` is the group die's sensor in 0.01 °C. -/
def coldJunction (die : Int) (n : ChanId) (s : State) : State :=
  if modeG s n ≠ 9 then s
  else
    let j := chG s n 0x12
    let c := chanAt (chGroup n) (fld j 5 0)
    let w := s.pi.inw[c]
    if !j.getLsbD 6 then modAi s n fun a => { a with cjt := BitVec.ofInt 16 die, cjfb := false }
    else if w.getLsbD 0 then
      modAi s n fun a =>
        { a with cjt := BitVec.ofInt 16 (Config.rtdTemperature (j.getLsbD 11) (aoVal w)), cjfb := false }
    else
      let s1 := modAi s n fun a => { a with cjt := BitVec.ofInt 16 die, cjfb := true }
      if (s.ch[n]).ai.cjfb then s1 else raiseSum n s1

/-- The transfer of a powered group does not complete, because of a link error (R39). -/
def linkFailed (x : InXferIn) (s : State) (g : GroupId) : Bool := x.linkErr.getLsbD g.val && alive s g
/-- The group's start-up or recovery runs: its kept words carry RCV (R168). -/
def recovering (y : Grp) : Bool := decide (y.supply = .startup ∨ y.supply = .recovery)

/-- The words of one group at the end of its transfer. -/
def endXfer (g : GroupId) (x : InXferIn) (s : State) : State :=
  let y := s.grp[g]
  let excl := s.sys.degMask.getLsbD g.val
  let clear := fun (s : State) => modGrp s g fun x => { x with tx := none }
  let keepAll := fun (rcv : Bool) (s : State) => each (chansOf g) (fun n s => putIn n (keepWord s n rcv excl) s) s
  if linkFailed x s g then
    let s1 : State := { s with far := { s.far with
      linkErr := s.far.linkErr.set g (inc16 s.far.linkErr[g]), link100 := s.far.link100.set g (inc16 s.far.link100[g]) } }
    clear (keepAll (recovering y) s1)
  else if wordsOut y then putStatus g (clear (keepAll (recovering y) s))
  else match y.tx with
    | none => s
    | some tx =>
      let s1 := if excl then keepAll false s
        else each (List.finRange 8) (fun p s => putFormed (grpCh g p) tx.words[p]
          { s with pi := { s.pi with recs := s.pi.recs.set (grpCh g p) tx.recs[p] } }) s
      let s2 := each (chansOf g) (coldJunction (x.dieTemp.getD g.val 0)) s1
      let rep := match s.upd.linkVer[g] with
        | some m => if 2 ≤ m then x.power.getD g.val none else none
        | none => none
      let s3 : State := { s2 with pgv := { s2.pgv with power := s2.pgv.power.set g rep }, frm := { s2.frm with inNo := s2.frm.no } }
      checkEcho g x.chanMismatch (x.groupMismatch.getLsbD g.val) (putStatus g (clear s3))

/-- IN_XFER_END (R35, R39): the words replace the earlier ones in one step. LINK_ERR at most once a frame (R241). -/
def execInXferEnd (slot : BitVec 8) (x : InXferIn) (s : State) : Host.Outcome State Fault Refusal :=
  .next (afterBoot (fun s =>
    if slotIs s slot 2 then
      let bad := (slotGroups s slot).filter fun g => linkFailed x s g
      let s1 := each (slotGroups s slot) (fun g s => endXfer g x s) s
      if bad.isEmpty || s.frm.linkEv then s1
      else raise 112 (BitVec.ofNat 32 ((bad.map fun g => 2 ^ g.val).sum))
        { s1 with frm := { s1.frm with linkEv := true } }
    else s) s)

/-! ### Output transfers -/

/-- The deadline of a TASK_REL slot (R40). -/
def deadlineOf (s : State) (k : Nat) : Option Nat :=
  (List.range (fld (act s 0x0110) 8 0)).find? fun j => decide (k < j) && decide (fld (s.cfg.active.act j) 15 12 = 4)

/-- The tasks of one core at an OUT_XFER slot (R40, R46): the running task is stopped, a task that has not started loses
its release. -/
def deadlineCore (slot : BitVec 8) (c : CoreId) (s : State) : State :=
  let k := s.core[c]
  let mine := fun (r : BitVec 8) => decide (deadlineOf s r.toNat = some slot.toNat)
  let running := match k.run with
    | .fg _ r => mine r
    | _ => false
  let late := running || k.queue.any fun q => mine q.2
  let s1 := modCore s c fun k =>
    { k with run := if running then .idle else k.run, queue := k.queue.filter fun q => !mine q.2
             freeAt := if running then slotCycle s slot.toNat else k.freeAt }
  if late then frameOverrun 1 (BitVec.ofNat 2 c.val) 0 slot s1 else s1

/-- The word an OUT_XFER carries for a channel (R18, R37, R38): until its writer's first accepted value the value applied
last stays. -/
def sendWord (n : ChanId) (s : State) : State :=
  let late := decide (writerA s n = 5) && s.frm.xiHeld
  modOut s n fun o =>
    { o with next := some (if o.accepted then s.pi.outw[n] else o.applied), keep := !o.accepted || late }

/-- OUT_XFER (R37, R40, R47): deadline of its tasks, then the transfer starts unless a task overran in this frame. -/
def execOutXfer (slot : BitVec 8) (s : State) : Host.Outcome State Fault Refusal :=
  .next (afterBoot (fun s =>
    if slotIs s slot 4 then
      let s1 := each cores (deadlineCore slot) (atSlot slot s)
      if s1.frm.ovrXfer then s1
      else each (slotGroups s1 slot) (fun g s =>
        if alive s g && !(s.grp[g]).link then
          each (chansOf g) sendWord (modGrp s g fun x => { x with xfer := some slot }) else s) s1
    else s) s)

/-- The words of a transfer have arrived at their channel. -/
def takeWord (n : ChanId) (s : State) : State :=
  modOut s n fun o => { o with xfer := o.next.getD o.xfer, next := none }

/-- OUT_XFER_END (R37): 400 ns after the slot. -/
def execOutXferEnd (slot : BitVec 8) (s : State) : Host.Outcome State Fault Refusal :=
  .next (afterBoot (fun s =>
    each groups (fun g s =>
      if decide ((s.grp[g]).xfer = some slot) && alive s g && !(s.grp[g]).link then
        each (chansOf g) takeWord (modGrp s g fun x => { x with xfer := none, xferNew := true })
      else s) s) s)

/-- One group at its apply slot: each channel at once, or after its own CH_OUTDLY (R37, R50). -/
def applyGroup (g : GroupId) (s : State) : State :=
  let x := s.grp[g]
  let fresh := x.xferNew && x.xfer.isNone
  let s1 := modGrp s g fun x => { x with xferNew := x.xferNew && x.xfer.isSome }
  each (chansOf g) (fun n s =>
    if chG s n 0x0C = 0 then applyCh n fresh s
    else if isOutMode (modeG s n) then
      modOut s n fun o => { o with armed := some fresh, armT := s.now + 8 * (chG s n 0x0C).toNat }
    else s) s1

/-- OUT_APPLY (R34, R46, R47): a transfer still in progress makes the frame an overrun frame. DESIGN CHOICE (log entry 60): a
transfer that cannot complete because its group has no power or has lost its link is not a late one. -/
def execOutApply (slot : BitVec 8) (s : State) : Host.Outcome State Fault Refusal :=
  .next (afterBoot (fun s =>
    if slotIs s slot 5 then
      let gs := (slotGroups s slot).filter fun g => alive s g && !(s.grp[g]).link
      let s0 := atSlot slot s
      let s1 := match gs.find? fun g => (s.grp[g]).xfer.isSome with
        | some g => frameOverrun 3 0 (BitVec.ofNat 3 g.val) slot s0
        | none => s0
      each gs applyGroup s1
    else s) s)

/-- CHANNEL_APPLY (R50): the channel's delay after its apply slot ends. -/
def execChannelApply (ch : ChanId) (s : State) : Host.Outcome State Fault Refusal :=
  .next (match (s.ch[ch]).out.armed with
    | none => s
    | some fresh => applyCh ch fresh (modOut (atTime (s.ch[ch]).out.armT s) ch fun o => { o with armed := none }))

/-! ### Tasks -/

/-- A core starts tasks: not stopped, not halted, no NMI since reset (R217, R218). -/
def coreFree (s : State) (c : CoreId) : Bool := !s.sys.stopped.getLsbD c.val && !(s.core[c]).nmiSeen

/-- The task a TASK_REL slot releases in this frame (R34, R42, R226, R227). -/
def released (s : State) (slot : BitVec 8) : Option Task :=
  let arg := slotArg s slot
  s.img.tasks.find? fun t =>
    !t.bg && decide (t.core.val = arg / 1024 % 4) && decide (t.index.toNat = arg % 16) && decide (t.slot = slot) &&
      decide (s.frm.no.toNat % 2 ^ t.k = t.phase) && coreFree s t.core

/-- TASK_REL (R42): the release is counted for the Tally (R345). -/
def execTaskRel (slot : BitVec 8) (s : State) : Host.Outcome State Fault Refusal :=
  .next (afterBoot (fun s =>
    if slotIs s slot 3 && fgMode s.sys.mode then
      match released s slot with
      | none => s
      | some t => modCore (atSlot slot s) t.core fun k =>
          { k with queue := k.queue ++ [(t.index, slot)]
                   releases := k.releases.set t.index.toNat (k.releases[t.index.toNat] + 1) }
    else s) s)

/-- The registers at a task's start (R184), with its first instruction at cycle `t`. -/
def Core.begin (k : Core) (x : Task) (t : Nat) : Core :=
  { k with d := .replicate 16 0, a := (Vector.replicate 8 (0 : W32)).set 7 x.stack, m := .replicate 4 0, st := 0,
           pc := x.entry, freeAt := t, startAt := t, ready := .replicate 32 0, readyFl := 0, macReady := .replicate 4 0,
           macFl := 0, tw := false }

/-- TASK_START (R41, R184): the next released foreground task starts 4 cycles after the later of its slot time and the end
of the previous task. -/
def execTaskStart (c : CoreId) (s : State) : Host.Outcome State Fault Refusal :=
  .next (afterBoot (fun s =>
    let k := s.core[c]
    match k.run, k.queue with
    | .idle, (i, slot) :: rest =>
      match findTask s c i with
      | some x =>
        let t := max (slotCycle s slot.toNat) k.freeAt + 4
        modCore s c fun k => { k.begin x t with run := .fg i slot, queue := rest }
      | none => modCore s c fun k => { k with queue := rest }
    | _, _ => s) s)

/-! ### The background window -/

/-- A core resumes its suspended background task (R43, R228). -/
def Core.resume (k : Core) (x : BgCtx) (t : Nat) : Core :=
  { k with d := x.d, a := x.a, m := x.m, st := x.st, pc := x.pc, run := .bg x.task, susp := none, freeAt := t,
           startAt := t, ready := .replicate 32 0, readyFl := 0, macReady := .replicate 4 0, macFl := 0, tw := false }

/-- Free-running background tasks that are neither running nor suspended become ready at a window (R229). -/
def readyFree (s : State) (c : CoreId) (k : Core) : Core :=
  let l := (s.img.tasks.filter fun t => t.core = c && t.bg && t.start.isNone).map (·.index)
  let mine := l.filter fun i => decide (k.run ≠ .bg i) && !(match k.susp with | some x => x.task = i | none => false)
  { k with bgReady := mine.foldl (fun v i => setBit v i.toNat true) k.bgReady }

/-- BG_OPEN (R43, R228). -/
def execBgOpen (slot : BitVec 8) (s : State) : Host.Outcome State Fault Refusal :=
  .next (afterBoot (fun s =>
    if slotIs s slot 8 then
      let s1 : State := { atSlot slot s with frm := { s.frm with bgOpen := true } }
      if !bgMode s.sys.mode then s1
      else each cores (fun c s =>
        let s2 := modCore s c (readyFree s c)
        match (s2.core[c]).susp with
        | some x =>
          if coreFree s2 c && decide ((s2.core[c]).run = .idle) && (s2.core[c]).svc.isNone then
            modCore s2 c fun k => k.resume x (slotCycle s slot.toNat) else s2
        | none => s2) s1
    else s) s)

/-- A running background task is suspended; during a TICKWAIT it resumes at the TICKWAIT (R43, R208). -/
def Core.suspend (k : Core) (t : Nat) : Core :=
  match k.run with
  | .bg i =>
    let inTw := k.tw && decide (t < k.freeAt)
    let pc := if inTw then k.pc - 4 else k.pc
    { k with run := .idle, freeAt := if inTw then t else k.freeAt, susp := some { task := i, d := k.d, a := k.a, m := k.m, st := k.st, pc := pc } }
  | _ => k

/-- BG_CLOSE (R43). -/
def execBgClose (slot : BitVec 8) (s : State) : Host.Outcome State Fault Refusal :=
  .next (afterBoot (fun s =>
    if slotIs s slot 9 then
      each cores (fun c s => modCore s c fun k => k.suspend (slotCycle s slot.toNat))
        { atSlot slot s with frm := { s.frm with bgOpen := false } }
    else s) s)

/-- The ready background task with the lowest BGPRI, then the lowest INDEX (R228). -/
def nextBg (s : State) (c : CoreId) : Option Task :=
  let l := s.img.tasks.filter fun t => t.core = c && t.bg && (s.core[c]).bgReady.getLsbD t.index.toNat
  l.foldl (fun b t => match b with
    | none => some t
    | some u => if t.bgpri < u.bgpri ∨ (t.bgpri = u.bgpri ∧ t.index < u.index) then some t else some u) none

/-- BG_TASK_START (R41, R228): while a window is open and the core runs nothing, 4 cycles after the core is free and the
task is ready. -/
def execBgTaskStart (c : CoreId) (s : State) : Host.Outcome State Fault Refusal :=
  .next (afterBoot (fun s =>
    let k := s.core[c]
    if s.frm.bgOpen && bgMode s.sys.mode && coreFree s c && decide (k.run = .idle) && k.queue.isEmpty &&
        k.susp.isNone then
      match nextBg s c with
      | none => s
      | some x => modCore s c fun k =>
          { k.begin x (max k.freeAt (cycleNow s) + 4) with run := .bg x.index, bgReady := setBit k.bgReady x.index.toNat false }
    else s) s)

/-! ### The end of a service (R212) -/

/-- Put results into the waiting task's d0 and d1, running or suspended, at cycle `t`: the next instruction of a running task
issues no earlier (R212). -/
def svcPut (c : CoreId) (d0 : W32) (d1 : Option W32) (t : Nat) (s : State) : State :=
  modCore s c fun k =>
    let put := fun (d : Vector W32 16) => (match d1 with | some v => d.set 1 v | none => d).set 0 d0
    match k.run, k.susp with
    | .bg _, _ => { k with d := put k.d, svc := none, freeAt := max k.freeAt t }
    | _, some x => { k with susp := some { x with d := put x.d }, svc := none }
    | _, none => { k with svc := none }

/-- A task suspended in the wait resumes once the service has completed, where a window is open and the core is idle. -/
def resumeServed (c : CoreId) (t : Nat) (s : State) : State :=
  match (s.core[c]).susp with
  | some x =>
    if s.frm.bgOpen && bgMode s.sys.mode && coreFree s c && decide ((s.core[c]).run = .idle) && (s.core[c]).queue.isEmpty then
      modCore s c fun k => k.resume x t else s
  | none => s

/-- SERVICE_COMPLETE (R212). -/
def execServiceComplete (c : CoreId) (e : ServiceEnd) (s : State) : Host.Outcome State Fault Refusal :=
  .next (onCore (fun s0 =>
    let s := atTime e.t s0
    match (s.core[c]).svc with
    | none => s
    | some w => match svcResult c w e.ecc s with
      | none => s
      | some r =>
        let k := cycleNow s
        if givesD1 w.num && r.d1.isNone then
          (let (v, s1) := freeDraw r.s
           resumeServed c k (svcPut c r.d0 (some v) k s1))
        else resumeServed c k (svcPut c r.d0 r.d1 k r.s)) s)

end Sys2Proof.Machine
end

