-- ==== Sys2Proof/Machine/Ports.lean ====
section
/-! DEFINITION. The network ports (spec/12_network_xiram.md): the tap (R287), gate control (R290) and gPTP (R288, R289). -/

namespace Sys2Proof.Machine

/-- The three ports. -/
def allPorts : List PortId := [0, 1, 2]
/-- A port that is enabled and has a link. -/
def portUp (s : State) (p : PortId) : Bool := (act s (0x0800 + p.val)).getLsbD 15 && (s.net.ports[p]).link
/-- NET_IP. -/
def netIp (s : State) : W32 := act s 0x080A ++ act s 0x080B

/-! ### The tap (R287) -/

/-- P2 is a tap. -/
def tapOn (s : State) : Bool := (act s 0x0802).getLsbD 12
/-- A tapped P2 transmits a copy of a frame received on P0 or P1. -/
def tapCopy (p : PortId) (x : Tapped) (s : State) : State :=
  if tapOn s && p ≠ 2 && portUp s 2 then { s with sent := .tapped x :: s.sent } else s
/-- A frame received on a tapped P2 is discarded. -/
def tapDrops (s : State) (p : PortId) : Bool := p = 2 && tapOn s

/-! ### Gate control (R290) -/

/-- Gate states of a port. -/
def gates (s : State) (p : PortId) : Byte :=
  if (act s (0x0880 + p.val)).getLsbD 15 then (s.cfg.active.gate (64 * p.val + (s.net.ports[p]).gate)).setWidth 8 else 0xFF

/-- The gate-control list of a port: gate states and interval in ns of each entry. -/
def gateList (s : State) (p : PortId) : List (HWord × Nat) :=
  (List.range (fld (act s (0x0880 + p.val)) 6 0)).map fun i =>
    (s.cfg.active.gate (64 * p.val + i), 8 * (s.cfg.active.gint (64 * p.val + i)).toNat)

/-- Time from the tick at which entry `k` of a list begins. -/
def gateStart (l : List (HWord × Nat)) (k : Nat) : Nat := ((l.take k).map (·.2)).sum

/-- When the gate of a class first closes, among entries of which the first begins `at_` ns after the tick and which run only
until the next tick, `left` ns after it. -/
def closesIn (c : Nat) : List (HWord × Nat) → Nat → Nat → Option Nat
  | [], _, _ => none
  | (g, d) :: rest, at_, left =>
    if left ≤ at_ then none else if !g.getLsbD c then some at_ else closesIn c rest (at_ + d) left

/-- When the gate of a class closes, in ns from the tick: in what is left of this cycle, or in the next; none where it never
does. -/
def closeAt (s : State) (p : PortId) (c : Nat) : Option Nat :=
  let l := gateList s p
  let k := (s.net.ports[p]).gate
  let frame := period s.cfg.active
  (closesIn c (l.drop k) (gateStart l k) frame).orElse fun _ => (closesIn c l 0 frame).map fun x => x + frame

/-- A frame of `len` bytes of a class can finish before its gate closes: its preamble counts, at the speed of the port. -/
def mayStart (s : State) (p : PortId) (c len : Nat) : Bool :=
  !(act s (0x0880 + p.val)).getLsbD 15 ||
    match closeAt s p c with
    | none => true
    | some x => decide (s.now - s.frm.tickT + (len + 8) * (if (s.net.ports[p]).spd then 80 else 8) ≤ x)

/-- Traffic class of a frame: its PCP one-to-one; 0 for a frame without a tag (R286; log entry 62). -/
def classOf (f : EthFrame) : Nat := (f.tag.map fun x => x.1.toNat).getD 0
/-- Bytes of a frame as it leaves, with or without its tag. -/
def outLen (f : EthFrame) (untag : Bool) : Nat := f.len - (if f.tag.isSome then 4 else 0) + (if untag then 0 else 4)

/-- Waiting frames that start now and those that go on waiting: within a class none overtakes another. -/
def pickFrames (ok : Nat → Nat → Bool) :
    List (EthFrame × BitVec 12 × Bool) → List Nat →
      List (EthFrame × BitVec 12 × Bool) × List (EthFrame × BitVec 12 × Bool)
  | [], _ => ([], [])
  | w :: rest, held =>
    if held.contains (classOf w.1) || !ok (classOf w.1) (outLen w.1 w.2.2) then
      let r := pickFrames ok rest (classOf w.1 :: held)
      (r.1, w :: r.2)
    else
      let r := pickFrames ok rest held
      (w :: r.1, r.2)

/-- The frames of a port that may start do (R290). -/
def drainPort (s : State) (p : PortId) : State :=
  let r := pickFrames (mayStart s p) (s.net.ports[p]).waiting []
  if !portUp s p || r.1.isEmpty then s
  else r.1.foldl (fun s w => { s with sent := .ethOut p w.1 w.2.1 w.2.2 :: s.sent })
    (modPort s p fun x => { x with waiting := r.2 })

/-- A frame is handed to a port (R286, R290). -/
def sendFrame (f : EthFrame) (vid : BitVec 12) (untag : Bool) (s : State) (p : PortId) : State :=
  drainPort (modPort s p fun x => { x with waiting := x.waiting ++ [(f, vid, untag)] }) p

/-- The gate cycle starts again at the tick (R290). -/
def tickGates (s : State) : State :=
  allPorts.foldl drainPort { s with net := { s.net with ports := s.net.ports.map fun p => { p with gate := 0 } } }

/-! ### gPTP (R288, R289) -/

/-- FRM_CTL.SRC. -/
def srcOf (c : CfgSet) : Nat := fld (c.reg 0x0100) 1 0

/-- Time information is valid: a holdover ends and the tick is pulled to its source (R30, R432). -/
def timeValid (s0 : State) : State :=
  let s : State := if srcOf s0.cfg.active = 0 then { s0 with frm := { s0.frm with validT := s0.now } } else s0
  if srcOf s.cfg.active = 0 ∧ (s.frm.holdover ∨ !s.frm.srcValid) then
    { s with frm := { s.frm with holdover := false, slew := true, srcValid := true } }
  else { s with frm := { s.frm with srcValid := s.frm.srcValid || decide (srcOf s.cfg.active = 0) } }

/-- A signed value in 16 bits, saturating at ±32,767. -/
def satOfs (i : Int) : HWord := BitVec.ofInt 16 (max (-32767) (min i 32767))

/-- TIME_STEP. -/
def timeStep (s : State) : State := raise 120 0 s

/-- Role of a port: 0 disabled, 1 master, 2 slave, 3 passive. -/
def portRole (s : State) (p : PortId) : Nat := s.net.role.toNat / 4 ^ p.val % 4

/-- domainNumber of the instance. -/
def ptpDom (s : State) : Nat := fld (act s 0x0830) 14 8

/-- Priority vectors compare from their first component. -/
def vecLt : List Nat → List Nat → Bool
  | a :: x, b :: y => decide (a < b) || (decide (a = b) && vecLt x y)
  | [], _ :: _ => true
  | _, [] => false

/-- The priority vector of an Announce with a number of steps. -/
def annVec (a : AnnIn) (steps : Nat) : List Nat :=
  [a.prio1.toNat, a.cls.toNat, a.acc.toNat, a.var.toNat, a.prio2.toNat, a.gmId.toNat, steps, a.src.toNat]

/-- GMCAP. -/
def gmCap (s : State) : Bool := (act s 0x0830).getLsbD 15

/-- The device's own priority vector: priority1 from PRIO1, 255 for a device that cannot be grandmaster; clockClass 248 (R288;
log entry 62). -/
def ownVec (s : State) : List Nat :=
  [if gmCap s then fld (act s 0x0830) 7 0 else 255, 248, Config.clockAccuracy.toNat, Config.clockVariance.toNat,
   Config.priority2.toNat, Config.clockId.toNat, 0, Config.clockId.toNat * 65536]

/-- What a port has heard: its best Announce, one step on. -/
def heard (s : State) (p : PortId) : Option (List Nat) :=
  if portUp s p && !tapDrops s p then ((s.net.ports[p]).ann).map fun a => annVec a (a.steps + 1) else none

/-- The port whose Announce is better than the device's own vector and than every other port's: none where the device itself is
best. -/
def bestPort (s : State) : Option PortId :=
  (allPorts.foldl (fun (b : Option PortId × List Nat) p => match heard s p with
    | some v => if vecLt v b.2 then (some p, v) else b
    | none => b) (none, ownVec s)).1

/-- Role of a port once the best master is known: passive where what it hears beats what the device would send there. -/
def roleOf (s : State) (best : Option PortId) (p : PortId) : Nat :=
  if !portUp s p || tapDrops s p then 0
  else if best = some p then 2
  else match (s.net.ports[p]).ann with
    | none => 1
    | some a =>
      let v := ((best.bind fun q => heard s q).getD (ownVec s)).take 7 ++ [Config.clockId.toNat * 65536 + p.val + 1]
      if vecLt v (annVec a a.steps) then 1 else 3

/-- The best master clock algorithm (R288; log entry 66): a changed grandmaster raises TIME_STEP (R289); a device without GMCAP is no
grandmaster, best or not. -/
def bmca (s : State) : State :=
  let best := bestPort s
  let self := best.isNone && gmCap s
  let gmId : Option (BitVec 64) := match best with
    | some p => ((s.net.ports[p]).ann).map fun a => a.gmId
    | none => if gmCap s then some Config.clockId else s.net.gmId
  let roles := allPorts.foldl (fun n p => n + roleOf s best p * 4 ^ p.val) 0
  let s1 : State := { s with net := { s.net with
    gm := self, role := BitVec.ofNat 6 roles, gmId := gmId, synced := s.net.synced && !self } }
  let s2 := if self || s.net.gm then timeValid s1 else s1
  if s.net.gmId.isSome && decide (s.net.gmId ≠ gmId) then timeStep s2 else s2

/-- GPTP_SYNC_RX: a Sync of the device's domain on its slave port; `t` is network time as corrected, `offset` the correction in
ns. -/
def execGptpSyncRx (p : PortId) (t : Nat) (offset : Int) (x : SyncHdr) (s : State) : Host.Outcome State Fault Refusal :=
  .next (afterBoot (fun s0 =>
    let s := tapCopy p (.gptp p) s0
    if portUp s p && !tapDrops s p && decide (x.dom = ptpDom s) && decide (portRole s p = 2) then
      let s1 := timeValid { s with
        now := t, net := { s.net with offset := satOfs offset, syncLog := some x.logInt, synced := true } }
      if 1000 < offset.natAbs then timeStep s1 else s1
    else s) s)

/-- GPTP_SYNC_TX: the interval 2^-SYNC s of NET_PTPINT has passed on a master port, which sends a two-step Sync and its
Follow_Up. -/
def execGptpSyncTx (x : PortTime) (s : State) : Host.Outcome State Fault Refusal :=
  .next (afterBoot (fun s =>
    let p := x.p
    let t := x.t
    let n := fld (act s 0x0833) 2 0
    if portUp s p && decide (portRole s p = 1) && decide (1000000000 ≤ (t - (s.net.ports[p]).syncT) * 2 ^ n) then
      modPort (atTime t { s with
        sent := .gptpFollowUp p (ptpDom s) t :: .gptpSync p (ptpDom s) (-(n : Int)) :: s.sent }) p fun x => { x with syncT := t }
    else s) s)

/-- GPTP_PDELAY: the link delay is measured; `corr` corrects network time. -/
def execGptpPdelay (p : PortId) (delay : Nat) (corr : Int) (s : State) : Host.Outcome State Fault Refusal :=
  .next (afterBoot (fun s0 =>
    let s := tapCopy p (.gptp p) s0
    if portUp s p && !tapDrops s p then
      let s1 := modPort { s with now := ((s.now : Int) + corr).toNat } p fun x => { x with dly := delay }
      if 1000 < corr.natAbs then timeStep s1 else s1
    else s) s)

/-- A port takes an Announce from the master it already hears, or a better one. -/
def takeAnn (a : AnnIn) (x : Port) : Port :=
  match x.ann with
  | none => { x with ann := some a }
  | some b => if a.src = b.src || vecLt (annVec a a.steps) (annVec b b.steps) then { x with ann := some a } else x

/-- GPTP_ANNOUNCE: an Announce of the device's domain that is not its own; the best master clock algorithm reruns. -/
def execGptpAnnounce (p : PortId) (t dom : Nat) (a : AnnIn) (s : State) : Host.Outcome State Fault Refusal :=
  .next (afterBoot (fun s0 =>
    let s := tapCopy p (.gptp p) (atTime t s0)
    if portUp s p && !tapDrops s p && decide (dom = ptpDom s) && decide (a.steps < 255) &&
        decide (a.src.extractLsb' 16 64 ≠ Config.clockId) then bmca (modPort s p (takeAnn a))
    else s) s)

end Sys2Proof.Machine
end

