-- ==== Sys2Proof/Machine/Commit.lean ====
section
/-! DEFINITION. COMMIT from its request to the switch tick (R19 to R24), and the record of the committed set (R141). -/

namespace Sys2Proof.Machine

/-- A COMMIT request (R19 stage 2, R22, R45): while one is pending it only raises COMMIT_REFUSED. DESIGN CHOICE (log entry
60): a signed request arrives when its verification ends. -/
def requestCommit (src : BitVec 2) (q : Option QCmd) (s : State) : State :=
  if cmtPend s then raise 81 1 s
  else { s with cmt := { s.cmt with phase := .requested, src := src, answer := q, gaitErr0 := 0, gaitErr1 := 0 } }

/-- A write of SYS_CMT_CTL. -/
def storeCmtCtl (v : HWord) (s : State) : State :=
  if v = 0xC3A5 then requestCommit 2 none s
  else if v = 0x3C5A then { s with cfg := { s.cfg with staged := s.cfg.active } }
  else { s with cmt := { s.cmt with badKey := true } }

/-- COMMIT_KEY (R19): 0xC3A5 written to SYS_CMT_CTL. -/
def execCommitKey (acc : Access) (s : State) : Host.Outcome State Fault Refusal :=
  .next (guarded acc 0x0010 0xC3A5 (storeCmtCtl 0xC3A5) s)

/-- DISCARD_KEY (R22): 0x3C5A written to SYS_CMT_CTL copies the active set into the staged set. -/
def execDiscardKey (acc : Access) (s : State) : Host.Outcome State Fault Refusal :=
  .next (guarded acc 0x0010 0x3C5A (storeCmtCtl 0x3C5A) s)

/-- COMMIT_CHECKS (R19, R20, R44, R45): refused with the first failing check, or the portions go out. -/
def execCommitChecks (t : Nat) (s : State) : Host.Outcome State Fault Refusal :=
  .next (onCore (fun s =>
    if s.cmt.phase = .requested then
      let r := stage3Checks s
      let s1 : State := { atTime t s with cmt := { s.cmt with
        gaitErr0 := (r.err.map GaitErr.reg0).getD 0, gaitErr1 := (r.err.map GaitErr.reg1).getD 0
        fitErr := if r.cause = 0 ∨ 5 ≤ r.cause.toNat then r.fit else s.cmt.fitErr
        chkErr := if r.cause = 7 then r.chk else s.cmt.chkErr } }
      if r.cause ≠ 0 then refuseCommit r.cause s1
      else acceptIfDone t { s1 with cmt := { s1.cmt with
        phase := .portions, acked := 0, frames := .ofFn fun g => if alive s1 g then some 0 else none } }
    else s) s)

/-- Frames since the first transfer of a group's portion, counted in ticks; none before it (R20). -/
def portionFrames (s : State) (g : GroupId) : Option Nat := s.cmt.frames[g]

/-- GROUP_PORTION_ACK (R20 stage 5): within 4 frames of the first transfer. -/
def execGroupPortionAck (g : GroupId) (t : Nat) (s : State) : Host.Outcome State Fault Refusal :=
  .next (onCore (fun s =>
    if s.cmt.phase = .portions && alive s g && !(s.grp[g]).link && (portionFrames s g).any (fun k => decide (k ≤ 4)) then
      let s1 := modGrp (atTime t s) g fun x => { x with portionNext := some s.cfg.staged }
      acceptIfDone t { s1 with cmt := { s1.cmt with acked := setBit s1.cmt.acked g.val true } }
    else s) s)

/-- COMMIT_LINK_TIMEOUT (R20): a powered group has not acknowledged within 4 frames. -/
def execCommitLinkTimeout (g : GroupId) (s : State) : Host.Outcome State Fault Refusal :=
  .next (onCore (fun s =>
    if s.cmt.phase = .portions && alive s g && !s.cmt.acked.getLsbD g.val && (portionFrames s g).any (fun k => decide (4 ≤ k)) then
      refuseCommit 9 s
    else s) s)

/-! ### The switch tick -/

/-- A register differs between two sets. -/
def regDiff (a b : CfgSet) (k : Nat) : Bool := decide (a.reg k ≠ b.reg k)
/-- Any register of a list of addresses differs. -/
def anyDiff (a b : CfgSet) (l : List Nat) : Bool := l.any (regDiff a b)

/-- R103: a setting whose change lets the front end settle for a frame. -/
def settleDiff (a b : CfgSet) (n : ChanId) : Bool :=
  let f := fun (o : Nat) (m : HWord) => decide (a.reg (chAddr n.val o) &&& m ≠ b.reg (chAddr n.val o) &&& m)
  f 0 0x000F || f 1 0x0007 || f 0x11 0xF000 || f 0x12 0x007F || f 0x13 0xC000

/-- The function of a channel changes: its mode, or the end of its loop power (R103, R179). -/
def funcDiff (a b : CfgSet) (n : ChanId) : Bool :=
  decide (modeC a n ≠ modeC b n) ||
    (decide (modeC b n = 7) && (a.reg (chAddr n.val 0x11)).getLsbD 11 && !(b.reg (chAddr n.val 0x11)).getLsbD 11)

/-- Digital settings at the switch tick (R59, R63): a new filter clock phase; a new period measurement and a new gate where
CH_CNTCTL changes. DESIGN CHOICE (log entry 60): a change of INV alone lets both run on. -/
def switchDi (a b : CfgSet) (n : ChanId) (s : State) : State :=
  let d := fun (o : Nat) => regDiff a b (chAddr n.val o)
  let t := s.frm.tickT
  let filt := d 6 || decide (fld (a.reg (chAddr n.val 5)) 10 8 ≠ fld (b.reg (chAddr n.val 5)) 10 8)
  modDi s n fun x =>
    let x1 := if filt then
        { x with fcnt := min (fcntAfter x.raw (a.reg (chAddr n.val 6)).toNat x.fcnt
                   ((t - x.tPh) / (100 * 2 ^ fld (a.reg (chAddr n.val 5)) 10 8))) (b.reg (chAddr n.val 6)).toNat
                 tPh := t }
      else x
    if d 7 then
      { x1 with lastEdge := none, period := none, gateOn := false, gateFirst := none, gateM := 0, freq := none }
    else x1

/-- A value accepted from the old writer and not yet transferred is not transferred (R218), with or without the group's link. -/
def dropAccepted (a b : CfgSet) (n : ChanId) (s : State) : State :=
  if fld (a.reg (chAddr n.val 0)) 6 4 = fld (b.reg (chAddr n.val 0)) 6 4 then s
  else modOut s n fun o => { o with accepted := false }

/-- One channel at the switch tick, its portion already replaced: `a` is the old set, `b` the new one. -/
def switchCh (a b : CfgSet) (n : ChanId) (s : State) : State :=
  let s1 := if settleDiff a b n && (isAnMode (modeC b n) || isPartner b n) then
      (let new := decide (modeC a n ≠ modeC b n) || regDiff a b (chAddr n.val 1)
       let s' := modAi s n fun x => { x with settle := true, has := x.has && !new, fresh := false, shown := x.shown && !new }
       if isAnMode (modeC a n) then s' else putFormed n 0 s')
    else s
  let s2 :=
    let s1 := switchDi a b n s1
    if funcDiff a b n then
      (let s' := leaveMode n a s1
       if busy s' n then queueReq n (.switch (decide (modeC a n ≠ modeC b n))) s'
       else if modeC a n ≠ modeC b n then enterMode n a s' else s')
    else if busy s1 n && anyDiff a b ((List.range 0x1A).map fun o => chAddr n.val o) then queueReq n (.switch false) s1
    else s1
  if safeInForce s2 n && !funcDiff a b n && anyDiff a b [chAddr n.val 0x17, chAddr n.val 0x18] then applySafe n s2 else s2

/-- An entry of a lane whose averaging restarts (R117). -/
def avgDiff (a b : CfgSet) (g : GroupId) (lane i : Nat) : Bool :=
  let base := if lane = 0 then 0x40 else 0x80
  let e := b.reg (grpAddr g.val (base + i))
  let n := chanAt g (fld e 8 6)
  anyDiff a b [grpAddr g.val (0x14 + lane), grpAddr g.val (base + i), grpAddr g.val (base + 0x30 + i)] ||
    (decide (fld e 10 9 < 2) && anyDiff a b [chAddr n.val 1] || decide (modeC a n ≠ modeC b n ∧ fld e 10 9 < 2))

/-- The windows of a lane at the switch tick. -/
def switchLane (a b : CfgSet) (g : GroupId) (lane : Nat) (l : Lane) : Lane :=
  { l with win := Vector.ofFn fun i => if avgDiff a b g lane i.val then [] else l.win[i] }

/-- A switch that restarts the overlap of a group (R148). -/
def rotDiff (a b : CfgSet) (g : GroupId) (t : BitVec 2) : Bool :=
  let lane := if t = 2 then 1 else 0
  let base := if t = 2 then 0x80 else 0x40
  decide (a.gaitOfs ≠ b.gaitOfs) || decide (a.gaitAct ≠ b.gaitAct) ||
    anyDiff a b [0x0110, 0x0101, 0x0102, grpAddr g.val (0x14 + lane), grpAddr g.val 0x11] ||
    decide (fld (a.reg 0x0100) 6 4 ≠ fld (b.reg 0x0100) 6 4) ||
    anyDiff a b ((List.range 16).map fun i => grpAddr g.val (base + i)) ||
    anyDiff a b ((List.range 16).map fun i => grpAddr g.val (base + 0x30 + i))

/-- One group die at the switch tick: the staged copy becomes active, unless the marker did not reach it (R21, R24). -/
def switchGrp (b : CfgSet) (g : GroupId) (s : State) : State :=
  let x := s.grp[g]
  if !alive s g || x.link then modGrp s g fun x => { x with portionNext := none }
  else
    let a := x.portion
    let s1 := modGrp s g fun x =>
      { x with portion := b, portionNext := none
               lanes := #v[switchLane a b g 0 x.lanes[0], switchLane a b g 1 x.lanes[1],
                 switchLane a b g (if x.shadow = 2 then 1 else 0) x.lanes[2]]
               ilv := !x.scan && (b.reg (grpAddr g.val 0x11)).getLsbD 15 }
    let s2 := if rotDiff a b g x.shadow && (x.rot.step = 3 || x.rot.step = 4) then
        modRot s1 g fun r => { r with restart := true } else s1
    each (chansOf g) (switchCh a b) s2

/-- A Logbook buffer whose region or mode changes is emptied (R329). -/
def switchBuf (a b : CfgSet) (k : Fin 5) (s : State) : State :=
  let r := 0x0C00 + 8 * k.val
  let sel := decide (k = 0) && anyDiff a b ((List.range 8).map fun w => 0x0C2C + w)
  if sel || anyDiff a b [r, r + 1, r + 2] then modBuf s k fun l =>
    { l with old := l.next, place := l.next.toNat % max 1 (bufCap b k.val), lapped := false } else s

/-- Conflict kind 4 (R253): a budget set below its load. -/
def switchBudget (a b : CfgSet) (s : State) : State :=
  let one := fun (k : Nat) (adr load : Nat) (g : Option GroupId) (s : State) =>
    if regDiff a b adr && decide ((b.reg adr).toNat < load) && decide ((b.reg adr).toNat < (a.reg adr).toNat) then
      conflict 4 g { s with pgv := { s.pgv with excess := setBit s.pgv.excess k true } }
    else s
  one 8 0x0408 (loadD s) none (each groups (fun g s => one g.val (0x0400 + g.val) (loadG s g) (some g) s) s)

/-- Ring layout of a set (R296): what a change keeps for trains launched before. -/
def ringDiff (a b : CfgSet) : Bool :=
  anyDiff a b ([0x080C, 0x080D] ++ (List.range 64).map fun p => 0x0840 + p)

/-- The core die at the switch tick. After a change of period, phase or source the first SYNC_IN edge is awaited, and the
end of two new periods is the first missing edge (R49). -/
def switchCore (a b : CfgSet) (s : State) : State :=
  let src := decide (fld (a.reg 0x0100) 1 0 ≠ fld (b.reg 0x0100) 1 0)
  let edge := (src || anyDiff a b [0x0101, 0x0102, 0x0103, 0x0104]) && decide (fld (b.reg 0x0100) 1 0 = 1)
  let wdt := regDiff a b 0x0300
  { s with
    sys := { s.sys with stopped := 0, stopReq := 0 }
    frm := { s.frm with
      srcAct := (b.reg 0x0100).setWidth 2
      srcValid := if src then edge || (decide (fld (b.reg 0x0100) 1 0 = 0) && (s.net.gm || s.net.synced)) else s.frm.srcValid
      holdover := s.frm.holdover && !src, slew := s.frm.slew && !src
      lastEdgeT := if src then none else s.frm.lastEdgeT
      validT := if edge then s.frm.tickT + period b else if src then s.frm.tickT else s.frm.validT
      edgeFrom := if edge then some s.frm.tickT else none }
    wdt := { s.wdt with
      start := if wdt then s.now else s.wdt.start, cnt := if wdt then 0 else s.wdt.cnt
      run := (s.wdt.fuseOn || (b.reg 0x0300).getLsbD 15) && !s.wdt.fired }
    tal := { s.tal with started := s.tal.started && !regDiff a b 0x0310 }
    net := { s.net with prevRing := if ringDiff a b then some a else s.net.prevRing } }

/-- A new gPTP domain forgets what was announced; a change of NET_PTP or of a port reruns the best master clock algorithm
(R288). -/
def switchPtp (a b : CfgSet) (s : State) : State :=
  if anyDiff a b [0x0830, 0x0800, 0x0801, 0x0802] then
    bmca (if fld (a.reg 0x0830) 14 8 = fld (b.reg 0x0830) 14 8 then s
      else { s with net := { s.net with ports := s.net.ports.map fun x => { x with ann := none } } })
  else s

/-- Start writing the record of the committed set (R141): one sector at a time, each under its own leave. -/
def startRecord (a b : CfgSet) (s : State) : State :=
  if a = b ∧ s.cfg.committed.isSome then s
  else
    let s1 : State := { s with
      cfg := { s.cfg with writing := some b, wrote := 0, leave := false }, cal := { s.cal with persist := true } }
    if reqPending s .record then s1 else groomReq .record s1

/-- Everything a switch does: `b` is the staged set as accepted. -/
def doSwitch (b : CfgSet) (s : State) : State :=
  let a := s.cfg.active
  let s1 := switchCore a b { s with
    cfg := { s.cfg with active := b }
    cmt := { s.cmt with phase := .idle, cause := 0, frm := s.frm.no } }
  let s2 := each groups (switchGrp b) (each channels (dropAccepted a b) s1)
  let s3 := each (List.finRange 5) (switchBuf a b) s2
  let s4 := switchPtp a b (switchBudget a b (each channels askStage (refreshSafe channels s3)))
  raise 80 ((cmtStatReg s4).setWidth 32) (startRecord a b s4)

/-- COMMIT_SWITCH (R21): the first tick at least 2 µs after the COMMIT was accepted. -/
def execCommitSwitch (t : Nat) (s : State) : Host.Outcome State Fault Refusal :=
  .next (onCore (fun s =>
    if s.cmt.phase = .accepted && decide (s.cmt.acceptT + 2000 ≤ t) && decide (s.frm.tickT = t) then
      doSwitch s.cfg.staged s
    else s) s)

/-! ### eFlash -/

/-- One sector of the record is written under its own leave (R141, R246): the last one makes the record current; in a trial
it completes the migrated record (R376). A record occupies at most 48 sectors. -/
def sectorDone (last : Bool) (s0 : State) : State :=
  match s0.cfg.writing with
  | none => s0
  | some c =>
    if !s0.cfg.leave || (!last && decide (47 ≤ s0.cfg.wrote)) then s0
    else
    let s : State := { s0 with
      cfg := { s0.cfg with wrote := s0.cfg.wrote + 1, leave := false }
      far := { s0.far with recErase := s0.far.recErase + 1 } }
    if !last then groomReq .record s
    else
      let s1 : State := { s with cfg := { s.cfg with writing := none }, cal := { s.cal with persist := false } }
      if s.upd.trialFlag then { s1 with upd := { s1.upd with migrated := true } }
      else { s1 with cfg := { s1.cfg with committed := some c } }

/-- A program's store is written (R236, R376): in a trial into the new store. -/
def nvDone (c : CoreId) (s : State) : State :=
  match (s.core[c]).svc with
  | some w =>
    if w.num = 0x14 ∧ nvStatus w = 0 ∧ w.granted then
      (let bytes := getSram s w.d0 w.d2.toNat
       let m := memPuts (nvStore s.core[c]) w.d1.toNat bytes
       modCore { s with far := { s.far with nvErase := s.far.nvErase.set c (s.far.nvErase[c] + 1) } } c fun k =>
         { k with svc := some { w with written := true }
                  nv := if s.upd.trialFlag then k.nv else m
                  nvNext := if s.upd.trialFlag then some m else k.nvNext })
    else s
  | none => s

/-- EFLASH_WRITE_DONE. -/
def execEflashWriteDone (j : FlashJob) (s : State) : Host.Outcome State Fault Refusal :=
  .next (onCore (fun s => match j with
    | .record last => sectorDone last s
    | .nvStore c => nvDone c s) s)

end Sys2Proof.Machine
end

