-- ==== Sys2Proof/Machine/Frame.lean ====
section
/-! DEFINITION. The frame tick (R28 to R32) and what happens at it, SYNC_IN and holdover (R30). -/

namespace Sys2Proof.Machine

/-! ### Frame number -/

/-- FRM_PHASE in ns. -/
def phaseNs (c : CfgSet) : Nat := 8 * pair (c.reg 0x0103) (c.reg 0x0104)

/-- The frame number that network time gives a tick (R31), modulo 2^48. -/
def netFrameNo (c : CfgSet) (t : Nat) : BitVec 48 := BitVec.ofNat 48 ((t - phaseNs c) / max 1 (period c))

/-- FRM_NO at a tick (R31): network time fixes it outside holdover once the tick sits on a source instant. DESIGN CHOICE
(log entry 60): the tick of a switch is numbered under the settings that were in force before it. -/
def nextNo (s : State) (i : TickIn) : BitVec 48 :=
  if srcOf s.cfg.active = 0 ∧ s.frm.srcValid ∧ !s.frm.holdover ∧ (!s.frm.slew ∨ i.onSource) then
    netFrameNo s.cfg.active i.t
  else s.frm.no + 1

/-! ### Parts of the tick -/

/-- The overrun accounting of the frame that ended (R48), and the generator's state. -/
def tickFrm (i : TickIn) (s : State) : State :=
  { s with
    now := i.t
    frz := { s.frz with before := s.sys.mode }
    cmt := { s.cmt with frames := s.cmt.frames.map fun k => k.map (· + 1) }
    frm := { s.frm with
      prev := s.frm.no, no := nextNo s i, tickT := i.t, slew := s.frm.slew && !i.onSource
      run := if s.frm.overrun then s.frm.run else 0
      overrun := false, ovrXfer := false, linkEv := false, edgeFrom := none } }

/-- A scoreboard cycle counted from the new tick. -/
def rebase (d n : Nat) : Nat := n - d

/-- Core times are counted from the latest tick (R183). -/
def Core.rebase (d : Nat) (k : Core) : Core :=
  { k with freeAt := k.freeAt - d, startAt := k.startAt - d, ready := k.ready.map fun x => x - d
           readyFl := k.readyFl - d, macReady := k.macReady.map fun x => x - d, macFl := k.macFl - d }

/-- A test pulse runs, or ended less than 20 µs before the tick (R78). -/
def rawMasked (s : State) (n : ChanId) (t : Nat) : Bool :=
  let o := (s.ch[n]).out
  modeG s n = 3 && (o.pulse.isSome || (decide (0 < o.pulseT) && decide (t < o.pulseT + 20000)))

/-- The four edge records of a window (R51). -/
def recsOf (l : List (BitVec 64)) : Vector (BitVec 64) 4 := Vector.ofFn fun i => l.getD i.val 0

/-- The state that a tick shows in a channel's word: filtered state, or the applied output state (R61, R68). -/
def tickState (s : State) (n : ChanId) : Bool :=
  let m := modeG s n
  if m = 5 then decide (outBits 5 (s.ch[n]).out.applied ≠ 0)
  else if m = 3 ∨ m = 4 then (s.ch[n]).out.applied.msb else (s.ch[n]).di.state

/-- A tick at `t` captures a channel that has tracked for less than 200 ns (R111): since the end of the last entry that converted
its held value, or else since 1 µs after the previous tick. -/
def trackedShort (t : Nat) (a : ChAi) : Bool := decide (0 < a.trackFrom) && decide (t < a.trackFrom + 200)

/-- A channel at the tick (R32 step 1): snapshots, the window closes, the capture, the ended frame's current. A mean below 1 mA
says nothing of an output turned on within the frame (log entry 61). -/
def tickCh (i : TickIn) (n : ChanId) (s : State) : State :=
  if !alive s (chGroup n) then s
  else
    let v := cntValue s n i.t
    let st := tickState s n
    let mask := rawMasked s n i.t
    let scan := (s.grp[chGroup n]).scan
    let outMode := decide (3 ≤ modeG s n ∧ modeG s n ≤ 5)
    let load := i.iload.getD n.val 0
    modCh s n fun x =>
      { x with
        di := { x.di with
          snapState := st, snapRaw := if mask then x.di.snapRaw else x.di.raw
          snapEdges := BitVec.ofNat 8 (min 255 x.di.nEdges), snapRecs := recsOf x.di.edges
          edges := [], nEdges := 0, value := v.1, valOk := v.2.1, valOvr := v.2.2 }
        out := { x.out with iload := if outMode then load else 0
                            carry := decide (1 ≤ load) || (x.out.carry && x.out.onNew), onNew := false }
        ai := { x.ai with short := trackedShort i.t x.ai, trackFrom := i.t + 1000, heldEnd := false, sample := i.sample.getD n.val 0
                          settle := false, fresh := x.ai.fresh && scan } }

/-- Fault conditions that follow what a tick shows (R152, R157 to R159). -/
def tickFault (i : TickIn) (n : ChanId) (s : State) : State :=
  if !alive s (chGroup n) then s
  else
    let m := modeG s n
    let o := (s.ch[n]).out
    let limited := i.limited.getLsbD n.val && (m = 3 || m = 4 || m = 5 || m = 10)
    let wb := wbEnabled s n
    let onOk := m = 3 && (chG s n 0x19).getLsbD 14 && o.applied.msb && decide (2 ≤ o.iload)
    modFlt s n fun f =>
      let open1 := if m = 11 then i.compliance.getLsbD n.val && o.stageOn
        else if m = 3 then f.opn && !onOk
        else if m = 1 || m = 7 || m = 8 || m = 9 then f.wbOpen && wb else f.opn
      { f with limit := limited && !o.off, opn := open1, wbOpen := f.wbOpen && wb }

/-- CROSS with CROSS_POL 0 switches the output off (R165). -/
def tickCross (n : ChanId) (s : State) : State :=
  let f := (s.ch[n]).flt
  if f.cross && !f.tripped && !(chG s n 0x19).getLsbD 13 then
    modFlt (switchOff n s) n fun f => { f with tripped := true }
  else s

/-- UNSAFE is evaluated at every tick (R173), then new fault bits raise the summary event (R153). -/
def tickSummary (n : ChanId) (s : State) : State :=
  let u := unsafeNow s n
  let s1 := modFlt s n fun f => { f with unsafe_ := u }
  let bits := faultBits (s1.ch[n]).flt
  let s2 := modFlt s1 n fun f => { f with seen := bits }
  if bits &&& ~~~(s.ch[n]).flt.seen = 0 then s2 else raiseSum n s2

/-- What a tick shows of a group: L+g, its die temperature, and a capture after too short a track (R111). -/
def measureGrp (i : TickIn) (g : GroupId) (s : State) : State :=
  modGrp s g fun x =>
    { x with lplus := i.lplus.getD g.val 0, temp := i.temp.getD g.val 0
             trackShort := x.trackShort || (chansOf g).any fun n => (s.ch[n]).ai.short }

/-- A group at the tick: measured supply and temperature, recovery begins (R169 step 2), a re-sent portion is taken
(R177), scans and overlaps advance (R123, R144, R148). -/
def tickGrp (i : TickIn) (g : GroupId) (s : State) : State :=
  if !alive s g then s
  else
    let s1 := measureGrp i g s
    let x := s1.grp[g]
    let s2 := if x.resend then givePortion g s1 else s1
    let s3 := if x.rstRec && x.bankOk && (x.supply = .startup || x.supply = .recovery) then
        enterScan g (modGrp (givePortion g s2) g fun x =>
          { x with rstRec := false, selfChk := true, scans := 0, scanOk := false })
      else if x.scan && x.lanes.toList.all (fun l => !l.running && decide (l.entry = 0)) then startScan g s2
      else s2
    let s4 := if x.rot.step = 3 then modRot s3 g fun r => { r with frames := r.frames + 1 } else s3
    if x.rot.restart then restartOverlap g s4
    else if x.rot.step = 1 ∧ 0 < x.rot.frames then
      let s5 := modRot s4 g fun r => { r with frames := r.frames - 1 }
      if x.rot.frames = 1 then groomReq (.sweep g) s5 else s5
    else s4

/-- The channel's request is granted, or still pending: its own, or one of a set with the channel among its members. -/
def askPending (s : State) (n : ChanId) (op : ReqOp) : Bool :=
  (s.ch[n]).out.granted || reqPending s op || memberPending s n

/-- The writer of a channel still turns it on (R251). -/
def turnsOn (s : State) (n : ChanId) : Bool :=
  let x := s.ch[n]
  x.out.leave && (modeG s n = 11 || (modeG s n = 3 && (wanted s n).msb)) && !safeInForce s n

/-- The request of a set none of whose members has a reason left to turn on is withdrawn, without REINS_DENY (R251). -/
def dropIdleSets (s : State) : State :=
  each slotIds (fun i s =>
    match (s.pgv.slots[i]).op with
    | .atomSet _ =>
      if decide ((s.pgv.slots[i]).st = .pending) &&
          !(channels.any fun n => (s.pgv.slots[i]).members.getLsbD n.val && turnsOn s n) then
        modSlot s i fun x => { x with st := .ended, grantable := false, deny := false }
      else s
    | _ => s) s

/-- A leave that was denied or withdrawn is asked for again at the next tick while its reason stands (R250). -/
def tickAsk (n : ChanId) (s : State) : State :=
  let x := s.ch[n]
  let m := modeG s n
  let g := s.grp[chGroup n]
  let op : ReqOp := if m = 11 then .aoEnable n else .turnOn n
  let s := askStage n s
  let still := !groupOff g && !g.hold && !safeInForce s n && !heldOff s n && (m = 11 || (m = 3 && (wanted s n).msb))
  let s1 :=
    if x.out.leave && !askPending s n op then
      (if still then askLeave n op (modOut s n fun o => { o with granted := false })
       else modOut s n fun o => { o with leave := false, granted := false })
    else s
  if x.ai.excLeave && g.supply = .normal && !g.hold && !reqPending s1 (.excite n) && !leaseLive s1 (.excite n) then
    askLeave n (.excite n) s1
  else s1

/-- Work of the Groom core whose request was denied asks again (R250). -/
def tickRetry (s : State) : State :=
  let s1 := s.pgv.retry.foldl (fun s op => groomReq op s) { s with pgv := { s.pgv with retry := [] } }
  let w := s1.pgv.recWait
  let s2 : State := { s1 with pgv := { s1.pgv with recWait := w - 1 } }
  if w = 1 then groomReq .record s2 else s2

/-- The status word at 0x304: faulty groups, groups out of service, DEGMASK and MODE (R235). -/
def modeWord (s : State) : W32 :=
  let gbits := fun (f : HWord → Bool) => BitVec.ofNat 8
    ((groups.map fun g => if f (grpFaultReg s g) then 2 ^ g.val else 0).sum)
  gbits (fun r => r.getLsbD 15) ++ gbits (fun r => r.getLsbD 14) ++ s.sys.degMask ++ (0#4) ++ modeCode s.sys.mode

/-- The system status words (R235). -/
def sysWords (late ok : Bool) (s : State) : State :=
  let w0 : W32 := s.frm.no.setWidth 32
  let w1 := modeWord s
  let w2 : W32 := (0#29) ++ bit s.frm.holdover ++ bit late ++ bit ok
  let w3 : W32 := s.frm.ovrCnt ++ (0#8) ++ s.frm.run
  { s with pi := { s.pi with sys := #v[w0, w1, w2, w3] } }

/-- Cores at the tick: a core stops (R217), and cycles count from the tick. -/
def tickCores (dt : Nat) (s : State) : State :=
  let s1 := each cores (fun c s => modCore s c (Core.rebase (dt / 2))) s
  { s1 with sys := { s1.sys with stopped := s1.sys.stopped ||| s1.sys.stopReq, stopReq := 0 } }

/-- Trigger countdown, gate cycles (R290, R333). -/
def tickMisc (s : State) : State :=
  tickGates { s with log := { s.log with trigFrm := s.log.trigFrm.map fun k => k - 1 } }

/-- The originator's own segment in a feed carriage (R298): the first of the first carriage; a NULL one is not verified. -/
def feedSegs (x : Carriage) : List (SegIn × Bool) :=
  if x.cidx = 0 then ((x.segs.take 1).filter fun g => !g.flags.getLsbD 1).map fun g => (g, false) else []

/-- The inbound segment's account of the ended frame (R38, R235). A feed that came before its frame is verified in it. -/
def tickNet (s : State) : State :=
  { s with frm := { s.frm with xiLate := false }
           net := { s.net with xiDone := false, xiSent := false, xiPast := false, prevRing := none, verif := s.net.xiDone
                               verified := none
                               verifyQ := s.net.verifyQ ++
                                 (s.net.feed.filter fun x => decide (x.frm = s.frm.no)).flatMap feedSegs
                               feed := s.net.feed.filter fun x => decide (s.frm.no ≤ x.frm) } }

/-- FRAME_TICK (R32). The Reins act on the frame that ended (R248), then inputs are captured; slots at offset 0 are commands
of their own (log entry 8). -/
def execFrameTick (i : TickIn) (s : State) : Host.Outcome State Fault Refusal :=
  .next (afterBoot (fun s =>
    let late := s.frm.xiLate
    let ok := s.net.xiDone
    let s1 := tickNet (tickMisc (tickCores i.dt (tickFrm i s)))
    let s2 := reinsTick (dropIdleSets s1)
    let s3 := each channels (tickCh i) s2
    let s4 := each channels (tickFault i) s3
    let s5 := each channels tickCross s4
    let s6 := each groups (tickGrp i) s5
    let s7 := refreshSafe channels s6
    let s8 := each channels tickSummary s7
    let s9 := each channels tickAsk s8
    sysWords late ok (tickRetry s9)) s)

/-! ### SYNC_IN and holdover (R30) -/

/-- The edges in `a` and `b` lie within 1 % of a frame period of `want` apart. -/
def within (a b want tol : Nat) : Bool := decide ((((b : Int) - a - want).natAbs) ≤ tol)

/-- An ignored edge. -/
def syncErr (s : State) : State := { s with frm := { s.frm with syncErr := true } }

/-- SYNC_IN_EDGE (R28, R30, R49, R432). After a switch that changes period, phase or source, the first edge at least one new
period after the switch tick is accepted without the 1 % window; one before that is ignored (log entry 60). -/
def execSyncInEdge (t width : Nat) (rising : Bool) (s : State) : Host.Outcome State Fault Refusal :=
  .next (afterBoot (fun s =>
    let p := period s.cfg.active
    let tol := p / 100
    if srcOf s.cfg.active ≠ 1 || (act s 0x0100).getLsbD 2 = rising then s
    else if width < 100 then syncErr s
    else
      let s1 : State := { s with now := max s.now t, frm := { s.frm with lastEdgeT := some t } }
      let accept := fun (s : State) => { s with frm := { s.frm with srcValid := true, validT := t } }
      if s.frm.holdover then
        (if (s.frm.lastEdgeT.map fun u => within u t p tol).getD false then
          { s1 with frm := { s1.frm with holdover := false, slew := true, srcValid := true, validT := t } }
         else syncErr s1)
      else if !s.frm.srcValid then accept s1
      else if let some u := s.frm.edgeFrom then (if u + p ≤ t then accept s1 else syncErr s1)
      else if within s.frm.tickT t p tol || within s.frm.tickT t 0 tol then accept s1
      else syncErr s) s)

/-- The source has been lost at `t` (R30, R432): three sync intervals, as the upstream master announced them or else of
NET_PTPINT, or three expected edges up to their windows, have passed since its latest valid time information. A
grandmaster has network time of its own. -/
def sourceLost (s : State) (t : Nat) : Bool :=
  let d := t - s.frm.validT
  let k : Int := s.net.syncLog.getD (-(fld (act s 0x0833) 2 0 : Int))
  if srcOf s.cfg.active = 0 then !s.net.gm && decide (3000000000 * 2 ^ k.toNat ≤ d * 2 ^ (-k).toNat)
  else srcOf s.cfg.active = 1 && decide (3 * period s.cfg.active ≤ d + 3 * (period s.cfg.active / 100))

/-- HOLDOVER_ENTRY (R30). -/
def execHoldoverEntry (t : Nat) (s : State) : Host.Outcome State Fault Refusal :=
  .next (afterBoot (fun s =>
    if sourceLost s t && !s.frm.holdover then
      let s1 : State := { s with
        now := max s.now t
        frm := { s.frm with holdover := true, slew := false, lastEdgeT := none }
        net := { s.net with synced := s.net.synced && decide (srcOf s.cfg.active ≠ 0) } }
      raise 66 (s.frm.srcAct.setWidth 32) s1
    else s) s)

end Sys2Proof.Machine
end

