-- ==== Sys2Proof/Machine/Modes.lean ====
section
/-! DEFINITION. The mode change at a tick (R25 to R27, R392 to R394). -/

namespace Sys2Proof.Machine

/-- Groups out of service, as a mask. -/
def oosMask (s : State) : BitVec 8 := groups.foldl (fun v g => setBit v g.val (oos s.grp[g])) 0
/-- SYS_CFG.DEGPOL. -/
def degPol (s : State) : Bool := (act s 8).getLsbD 13

/-- The transitions MODE_SET may ask for (R392). -/
def setEdge : Mode → Mode → Bool
  | .commission, .run => true
  | .safe, .run => true
  | .run, .commission => true
  | .degraded, .commission => true
  | .safe, .commission => true
  | .commission, .safe => true
  | .run, .safe => true
  | .degraded, .safe => true
  | _, _ => false

/-- A MODE_SET that R393 answers OK and that changes nothing. -/
def setSame (s : State) (m : Mode) : Bool := s.sys.mode = m || (m = .run && s.sys.mode = .degraded)

/-- A MODE_SET that R393 lets take effect: RUN needs a committed set, and no group out of service with DEGPOL 0; no mode
change is taken while an update trial runs (R373). -/
def setOk (s : State) (m : Mode) : Bool :=
  setEdge s.sys.mode m && !s.upd.trialFlag &&
    (m ≠ .run || (s.cfg.committed.isSome && (degPol s || oosMask s = 0)))

/-- CONTROL requests for turn-ons and enables are withdrawn on entry into SAFE or COMMISSION. -/
def withdrawControl (s : State) : State :=
  each slotIds (fun i s =>
    let x := s.pgv.slots[i]
    if x.st = .pending ∧ x.cls = 1 then
      let gone := modSlot s i fun x => { x with st := .ended, grantable := false, deny := false }
      match x.op with
      | .turnOn n => modOut gone n fun o => { o with leave := false }
      | .aoEnable n => modOut gone n fun o => { o with leave := false }
      | .atomSet _ => each (channels.filter fun n => x.members.getLsbD n.val)
          (fun n s => modOut s n fun o => { o with leave := false }) gone
      | .progChannel _ => serveWait gone
      | .progSet _ => serveWait gone
      | _ => s
    else s) s

/-- Lanes of the powered groups at a change of mode (R122): groups whose field supply recovers stay in scan-mask mode. -/
def modeLanes (old new : Mode) (s : State) : State :=
  if scanMode old && !scanMode new then
    each (groups.filter fun g => alive s g && decide ((s.grp[g]).supply = .normal) && !(s.grp[g]).selfChk) leaveScan s
  else if !scanMode old && scanMode new then each (groups.filter fun g => alive s g && !(s.grp[g]).scan) enterScan s
  else s

/-- Enter a mode at a tick: lanes, withdrawn requests, and the safe values that come into force (R25, R172). Entry into SAFE
ends running test pulses (R79), and a mode-11 channel whose writer regains control asks for its stage (R101). -/
def goMode (m : Mode) (mask : BitVec 8) (s : State) : State :=
  let s1 := modeLanes s.sys.mode m (changeMode m mask s)
  let s2 := if (m = .safe ∨ m = .commission) ∧ s.sys.mode ≠ m then withdrawControl s1 else s1
  let s3 := if m = .safe ∧ s.sys.mode ≠ m then each channels (fun n s => modOut s n (endPulse s.now)) s2 else s2
  each channels askStage (refreshSafe channels s3)

/-- A trigger of R26 or R348 takes effect (R392). -/
def takeSafe (s : State) : State :=
  let s1 : State := { s with sys := { s.sys with safeReq := false } }
  if s.sys.safeReq && (s.sys.mode = .run || s.sys.mode = .degraded) then goMode .safe 0 s1 else s1

/-- A requested mode change takes effect (R393): RUN becomes DEGRADED when a group is out of service (R392). -/
def takeReq (s : State) : State :=
  let s1 : State := { s with sys := { s.sys with modeReq := none } }
  match s.sys.modeReq with
  | none => s1
  | some m =>
    if !setOk s m then s1
    else if m = .run ∧ oosMask s ≠ 0 then goMode .degraded (oosMask s) s1
    else goMode m 0 s1

/-- Groups going out of service and coming back (R392, R394). -/
def takeOos (s : State) : State :=
  if s.sys.mode = .run ∧ oosMask s ≠ 0 then
    (if degPol s then goMode .degraded (oosMask s) s else goMode .safe 0 s)
  else if s.sys.mode = .degraded ∧ oosMask s = 0 then goMode .run 0 s
  else if s.sys.mode = .degraded then goMode .degraded (oosMask s) s
  else s

/-- MODE_CHANGE (R27, R392): at a tick, after a switch of that tick. The status words of the tick show the mode entered
(R235). -/
def execModeChange (t : Nat) (s : State) : Host.Outcome State Fault Refusal :=
  .next (afterBoot (fun s =>
    if s.frm.tickT = t then
      let s1 := takeOos (takeReq (takeSafe s))
      if s1.sys.mode = s.sys.mode ∧ s1.sys.degMask = s.sys.degMask then s1
      else { s1 with pi := { s1.pi with sys := s1.pi.sys.set 1 (modeWord s1) } }
    else s) s)

end Sys2Proof.Machine
end

