-- ==== Sys2Proof/Machine/Supervise.lean ====
section
/-! DEFINITION. Watchdog (R341 to R344), Tally (R345 to R348), and the freeze up to the stop of the clocks (R349 to R351). -/

namespace Sys2Proof.Machine

/-! ### Watchdog -/

/-- PC of the instruction in progress at the NMI (R218): a SYSCALL or TICKWAIT that still waits has moved the pc on. -/
def nmiPc (s : State) (c : CoreId) : W32 :=
  let k := s.core[c]
  let waits := match k.run with
    | .bg _ => k.svc.isSome
    | _ => false
  if waits || (k.tw && decide (cycleNow s < k.freeAt)) then k.pc - 4 else k.pc

/-- The NMI at one core (R218): the record is written and the core jumps to its NMI entry, where it issues at once; without one
it halts. -/
def nmiCore (c : CoreId) (s : State) : State :=
  let k := s.core[c]
  let e := s.img.nmi[c]
  let s1 := modCore s c fun k =>
    { k with run := .nmi, nmiSeen := true, queue := [], bgReady := 0, bgAgain := 0, susp := none, svc := none, tw := false
             cause := 5, bus := 0, xtask := k.taskId.1, xbg := k.taskId.2, xpc := nmiPc s c, xaddr := 0, freeAt := cycleNow s
             xfrm := s.frm.no.setWidth 16, cnt := inc16 k.cnt }
  if k.run = .halted then modCore s c fun k => { k with nmiSeen := true }
  else if e = 0xFFFFFFFF then modCore (haltCore c s1) c fun k => { k with xpc := nmiPc s c }
  else modCore s1 c fun k => { k with pc := e }

/-- The watchdog's count in cycles (R341), as of `now`. -/
def wdtCount (s : State) : W32 := if s.wdt.run then BitVec.ofNat 32 ((s.now - s.wdt.start) / 2) else s.wdt.cnt

/-- The watchdog fires (R343): NMI, heartbeats stop, the hard reset timer starts; it is a trigger of SAFE (R26). -/
def fireWdt (violation : Bool) (s : State) : State :=
  let s1 := each cores nmiCore s
  let s2 : State := { s1 with
    wdt := { s1.wdt with run := false, cnt := wdtCount s1, fired := true, causeV := violation }
    sys := { s1.sys with hrtRun := true } }
  safeTrigger (raise 70 (if violation then 1 else 0) s2)

/-- WDT_CTL.SRC code of an access (R342). -/
def serveCode : Access → Option Nat
  | .groom => some 0
  | .core c => some (c.val + 1)
  | .hostUntagged => some 5
  | .hostTagged _ => some 5
  | .xiram _ => none

/-- Period of the watchdog in cycles. -/
def wdtPeriod (s : State) : Nat := 2 ^ fld (act s 0x0300) 4 0
/-- First cycle of the window (R341). -/
def wdtWindow (s : State) : Nat := max (s.wdt.fuseWin.toNat * wdtPeriod s / 4) 256

/-- A write of WDT_SERVE (R342). -/
def storeWdt (acc : Access) (v : HWord) (s : State) : State :=
  if s.wdt.fired then s
  else if serveCode acc ≠ some (fld (act s 0x0300) 14 12) then { s with wdt := { s.wdt with foreign := true } }
  else if !s.wdt.run then s
  else if v ≠ 0x6E5A then fireWdt true s
  else if wdtPeriod s ≤ (wdtCount s).toNat then fireWdt false s
  else if (wdtCount s).toNat < wdtWindow s then fireWdt true s
  else { s with wdt := { s.wdt with start := s.now } }

/-- WDT_SERVE in cycle `cyc` of the watchdog's period (R342). -/
def execWdtServe (acc : Access) (v : HWord) (cyc : Nat) (s : State) : Host.Outcome State Fault Refusal :=
  .next (guarded acc 0x0301 v (fun s =>
    storeWdt acc v (if s.wdt.run then { s with now := max s.now (s.wdt.start + 2 * cyc) } else s)) s)

/-- WATCHDOG_EXPIRY (R343). -/
def execWatchdogExpiry (s : State) : Host.Outcome State Fault Refusal :=
  .next (onCore (fun s => if s.wdt.run && !s.wdt.fired then fireWdt false s else s) s)

/-! ### Tally -/

/-- Expected check-ins of a task in the period; none where the period is not compared for it (R346). -/
def talExpected (s : State) (t : Task) : Option Nat :=
  let k := s.core[t.core]
  if t.bg then (if k.bgMon then some t.tally else none) else some (t.tally * k.releases[t.index.toNat])

/-- Compare one task (R347). -/
def talCompare (t : Task) (p : State × Bool) : State × Bool :=
  let (s, any) := p
  let n := (s.core[t.core]).checkins[t.index.toNat]
  match talExpected s t with
  | none => p
  | some e =>
    if n = e then p
    else
      let c := t.core
      let miss := decide (n < e)
      let pay : W32 := BitVec.ofNat 32 (256 * c.val + t.index.toNat)
      let tal := s.tal
      let tal' : Tal :=
        { tal with
          miss := if miss then tal.miss.set c (setBit tal.miss[c] t.index.toNat true) else tal.miss
          extra := if miss then tal.extra else tal.extra.set c (setBit tal.extra[c] t.index.toNat true)
          last0 := (if miss then (1#2) else (2#2)) ++ BitVec.ofNat 2 c.val ++ t.index ++ (0#8)
          last1 := BitVec.ofNat 8 (min 255 e) ++ BitVec.ofNat 8 (min 255 n) }
      (raise (if miss then 71 else 72) pay { s with tal := tal' }, true)

/-- Monitored tasks in core, then index order. -/
def monitored (s : State) : List Task :=
  cores.flatMap fun c => (List.range 16).filterMap fun i =>
    s.img.tasks.find? fun t => t.core = c && decide (t.index.toNat = i) && decide (0 < t.tally)

/-- Clear every count and begin a period. -/
def talBegin (s : State) : State :=
  { s with
    tal := { s.tal with started := true }
    core := s.core.map fun k => { k with checkins := .replicate 16 0, releases := .replicate 16 0,
                                         bgMon := bgMode s.sys.mode } }

/-- The outcome of a compared period (R347, R348). -/
def talEnd (bad : Bool) (s : State) : State :=
  if !bad then { s with tal := { s.tal with run := 0 } }
  else
    let s1 : State := { s with tal := { s.tal with run := inc8 s.tal.run, mmCnt := inc16 s.tal.mmCnt } }
    if decide (fld (act s 0x0310) 15 14 = 1) && decide (fld (act s 0x0310) 11 8 ≤ s1.tal.run.toNat) then
      (if s.sys.mode = .trial then trialFail 5 s1 else safeTrigger s1)
    else s1

/-- TALLY_PERIOD_END (R345 to R348): at a tick where FRM_NO mod 2^PER is 0. -/
def execTallyPeriodEnd (s : State) : Host.Outcome State Fault Refusal :=
  .next (afterBoot (fun s =>
    if s.frm.no.toNat % 2 ^ fld (act s 0x0310) 3 0 = 0 then
      if s.tal.started then
        let (s1, bad) := (monitored s).foldl (fun p t => talCompare t p) (s, false)
        talBegin (talEnd bad s1)
      else talBegin s
    else s) s)

/-! ### Freeze -/

/-- A freeze request (R349, R350): bit 0 FREEZE_N, bit 1 JTAG, bit 2 signed command. Later ones add their source. -/
def requestFreeze (bit : Nat) (s : State) : State :=
  { s with frz := { s.frz with req := true, src := setBit s.frz.src bit true } }

/-- FREEZE_N_REQUEST (R349): the pin is ignored during BOOT. -/
def execFreezeNRequest (s : State) : Host.Outcome State Fault Refusal :=
  .next (afterBoot (fun s => if (act s 0x0320).getLsbD 15 then requestFreeze 0 s else s) s)

/-- JTAG_FREEZE (R349). -/
def execJtagFreeze (s : State) : Host.Outcome State Fault Refusal := .next (onCore (requestFreeze 1) s)

/-- FREEZE_STOP (R350, R351): the clocks of the core die stop and the network links go down. -/
def execFreezeStop (t : Nat) (s : State) : Host.Outcome State Fault Refusal :=
  .next (onCore (fun s =>
    if s.frz.req then
      { atTime t s with
        sys := { s.sys with mode := .frozen, prevMode := s.sys.mode }
        frz := { s.frz with req := false }
        net := { s.net with ports := s.net.ports.map fun p => { p with link := false } } }
    else s) s)

end Sys2Proof.Machine
end

