-- ==== Sys2Proof/Machine/Bridle.lean ====
section
/-! DEFINITION. The Bridle (spec/11_bridle_security.md) and the acyclic messages (R302 to R306): peer contexts, sessions,
records, keys, ownership, the queue of signed commands and what each command does. -/

namespace Sys2Proof.Machine

/-! ### Messages on their way in -/

/-- The frame of a message is the device's to serve (R302): by its Ethertype, or as an unfragmented datagram to its address and
port. -/
def msgServed (s : State) (m : MsgCtx) : Bool :=
  match m.iface with
  | .host => true
  | .eth => m.typ = act s 0x0808
  | .udp => m.typ = act s 0x0809 && netIp s ≠ 0 && m.ip = netIp s && !m.frag
/-- The longest message of an interface in bytes (R278, R302). -/
def msgMax : Iface → Nat
  | .eth => 1484
  | .udp => 1472
  | .host => 1536

/-- The message is the one submitted through the mailbox (R278): its header repeats the bytes written. -/
def mbIs (s : State) (m : MsgCtx) : Bool :=
  let b := s.sec.mbMsg
  !m.formatOk || (b.getD 1 0 = m.ver && ofBe (slice b 4 2) = m.domain.toNat && ofBe (slice b 8 4) = m.txid.toNat &&
    b.length = m.size)

/-- A message reaches the Groom core: from the network once the ports are up, from the mailbox the one message that a SEND has
submitted (R278, R389). A network frame that finds 64 held is dropped and counted (R305). -/
def onMsg (m : MsgCtx) (f : State → State) (s : State) : State :=
  onCore (fun s =>
    if m.iface = .host then
      (if s.sec.mbBusy && !s.sec.mbTaken && mbIs s m then
        f (atTime m.t { s with sec := { s.sec with mbTaken := true } }) else s)
    else if s.sys.mode = .boot || tapDrops s m.port then s
    else
      let s1 := tapCopy m.port (.message m) (atTime m.t s)
      if !msgServed s m then s1
      else if m.rxFull then { s1 with net := { s1.net with rxDrop := inc16 s1.net.rxDrop } }
      else f s1) s

/-- The peer context of a message (R304). -/
def peerOf (s : State) (m : MsgCtx) : Option Peer := s.sec.peers.find? fun p => p.iface = m.iface ∧ p.peer = m.peer

/-- The version a message must carry (R304): in the mailbox the highest supported one where no HELLO was sent. -/
def wantVer (s : State) (m : MsgCtx) : Option Byte :=
  match peerOf s m with
  | some p => some p.ver
  | none => if m.iface = .host then some 0x12 else none

/-- Message codes that R303 assigns. -/
def msgAssigned (c : HWord) : Bool :=
  [0x0001, 0x0002, 0x0003, 0x0004, 0x0005, 0x0010, 0x0011, 0x0012, 0x0013, 0x0014, 0x0020, 0x0021, 0x0100, 0x0101, 0x0102,
   0x0110, 0x0120, 0x0121, 0x0130, 0x0131, 0x0140].contains c.toNat || decide (c.toNat / 256 = 2)

/-- Why a message is refused before its own checks (R302 to R304, R390). `open_` marks the messages whose DOMAIN is 0xFFFF,
`rec` those that recovery accepts. -/
def msgCause (s : State) (m : MsgCtx) (open_ rec : Bool) : Option Byte :=
  if s.sys.recov && !rec then some cNoSession
  else if !m.formatOk || decide (msgMax m.iface < m.size) || !msgAssigned m.msg then some cFormat
  else match wantVer s m with
    | none => some cHandshake
    | some v =>
      if m.ver ≠ v then some cFormat
      else if open_ then (if m.domain = 0xFFFF then none else some cFormat)
      else if m.domain = act s 0x080C then none else some cDevice

/-- The context of a peer lasts 10 s from its latest message (R304). -/
def touch (m : MsgCtx) (s : State) : State :=
  { s with sec := { s.sec with peers := s.sec.peers.map fun p =>
      if p.iface = m.iface ∧ p.peer = m.peer then { p with t := s.now } else p } }

/-- A message up to its own checks; one that is refused counts for the peer's context too (R304). -/
def outerMsg (m : MsgCtx) (open_ rec : Bool) (f : State → State) (s : State) : State :=
  onMsg m (fun s => match msgCause s m open_ rec with
    | some c => refuseMsg m none c (touch m s)
    | none => f (touch m s)) s

/-- The window of R269: none where the sequence number is old or repeated, else the new H + 1 and mask. -/
def replayWindow (hi : Nat) (mask : BitVec 64) (seq : Nat) : Option (Nat × BitVec 64) :=
  if hi ≤ seq then
    (let d := seq + 1 - hi
     some (seq + 1, (if 64 ≤ d then 0 else mask <<< d) ||| 1))
  else
    let d := hi - 1 - seq
    if d ≤ 63 ∧ mask.getLsbD d = false then some (hi, setBit mask d true) else none

/-- The record layer (R268, R269, R281): tag first, then the window; a refusal of what it carries is a record of the session. -/
def recordLayer (m : MsgCtx) (x : RecIn) (f : State → State) (s : State) : State :=
  if !isLive s x.sid || !x.tagOk then refuseMsg m none cTag s
  else match replayWindow (s.sec.sess[x.sid]).hi (s.sec.sess[x.sid]).mask x.seq.toNat with
    | none => refuseMsg m (some x.sid) cReplay s
    | some (h, k) => f (modSess s x.sid fun y => { y with hi := h, mask := k, lastT := s.now })

/-- A session-less message (R274). One that comes in a record is refused there (R303). -/
def plainMsg (m : MsgCtx) (open_ rec : Bool) (f : State → State) (s : State) : State :=
  match m.inRec with
  | none => outerMsg m open_ rec f s
  | some x => outerMsg m false false (recordLayer m x (refuseMsg m (some x.sid) cFormat)) s

/-! ### Ed25519 verifications (R246) -/

/-- Verifications in the latest second. -/
def recentVerif (s : State) : List Nat := s.sec.verifT.filter fun t => decide (s.now < t + 1000000000)

/-- One verification: above 1,000 in a second it waits for leave (R246, R250, R276). -/
def verifying (maint : Bool) (f : State → State) (s : State) : State :=
  let l := recentVerif s
  let live := leaseLive s .burst || leaseLive s .burstMaint
  if 1000 ≤ l.length ∧ live = false then
    (let op : ReqOp := if maint then .burstMaint else .burst
     if reqPending s op then s else groomReq op s)
  else f { s with sec := { s.sec with verifT := s.now :: l } }

/-! ### Keys -/

/-- A key in use moves to the front of the cache (R262). -/
def useKey (kid : BitVec 64) (s : State) : State :=
  match findKey s kid with
  | some k => { s with sec := { s.sec with cache := k :: s.sec.cache.filter fun x => x.kid ≠ kid } }
  | none => s

/-- A certificate DOMAIN fits (R262). -/
def domOk (s : State) (d : HWord) : Bool := d = 0xFFFF || d = act s 0x080C

/-- The key of an identifier against R262: KEY, DEVICE or EPOCH. -/
def keyCause (s : State) (kid : BitVec 64) : Option Byte :=
  if isRoot s kid then none
  else match findKey s kid with
    | none => some cKey
    | some k => if !domOk s k.domain then some cDevice else if k.epoch < s.sec.epoch then some cEpoch else none

/-! ### Sessions -/

/-- Sessions of a key that its removal closes (R264, R276). -/
def openSessions (s : State) (kid : BitVec 64) : List (Fin 16) :=
  (List.finRange 16).filter fun i => decide ((s.sec.sess[i]).st = .live ∧ (s.sec.sess[i]).kid = kid)

/-- Live sessions opened by a key. -/
def sessionsOf (s : State) (kid : BitVec 64) : List (Fin 16) :=
  (List.finRange 16).filter fun i => isLive s i && decide ((s.sec.sess[i]).kid = kid)

/-- A message of a session (R268, R269, R274, R281): outside a record it has none. -/
def recMsg (r : RecCtx) (f : State → State) (s : State) : State :=
  outerMsg r.msg false false (fun s =>
    if r.bare then refuseMsg r.msg none cNoSession s
    else recordLayer r.msg { sid := r.sid, seq := r.seq, tagOk := r.tagOk } f s) s

/-- Answer a message in its session, or refuse it there. -/
def okRec (r : RecCtx) (msg : HWord) (body : List Byte) (s : State) : State := reply r.msg (some r.sid) msg body s
def noRec (r : RecCtx) (cause : Byte) (s : State) : State := refuseMsg r.msg (some r.sid) cause s

/-! ### Session-less messages (R274) -/

/-- A HELLO body is well formed (R304). -/
def helloOk (m : MsgCtx) (majors : BitVec 16) (minors : List Byte) : Bool :=
  m.formatOk && decide (m.size ≤ msgMax m.iface) && m.ver = 0 && m.domain = 0xFFFF && minors.length = 16 &&
    ((List.range 16).all fun i => let v := minors.getD i 0
      decide (v.toNat ≤ 15) && (majors.getLsbD i || v = 0))

/-- HELLO (R304, R380): the device supports major 1, minors 0 to 2. -/
def execHello (m : MsgCtx) (majors : BitVec 16) (minors : List Byte) (s : State) : Host.Outcome State Fault Refusal :=
  .next (if m.inRec.isSome then plainMsg m false false id s else onMsg m (fun s0 =>
    let s := touch m s0
    if !helloOk m majors minors then refuseMsg m none cFormat s
    else if !majors.getLsbD 1 then refuseMsg m none cVersion s
    else
      let rest := s.sec.peers.filter fun p => ¬ (p.iface = m.iface ∧ p.peer = m.peer)
      if m.iface ≠ .host ∧ 32 ≤ (rest.filter fun p => p.iface ≠ .host).length then refuseMsg m none cBusy s
      else
        let v : Byte := BitVec.ofNat 8 (16 + min 2 (minors.getD 1 0).toNat)
        let p : Peer := { iface := m.iface, peer := m.peer, ver := v, t := s.now }
        let s1 : State := { s with sec := { s.sec with
          peers := p :: rest
          sess := s.sec.sess.map fun x =>
            if x.st ≠ .free ∧ x.iface = m.iface ∧ x.peer = m.peer then { x with minor := v.toNat % 16 } else x } }
        let mins : List Byte := [0, 2] ++ List.replicate 14 0
        reply m none 0x0001 ([0, 2] ++ mins ++ [1, v] ++ beBytes 8 (devId s1).toNat ++
          [s1.sys.addr.setWidth 8, BitVec.ofNat 8 (fld (act s1 0x080D) 15 12)] ++
          beBytes 2 (act s1 0x080C).toNat) s1) s)

/-- The Malkait device certificate (R256): KIND 0x0004 in the layout of R261, with SUBJECT the identity key, PERM 0, DOMAIN 0xFFFF,
EPOCH 0. -/
def deviceCert (s : State) : List Byte :=
  let body := [0x47, 0x4E, 0x50, 0x4C] ++ leBytes 2 1 ++ leBytes 2 0 ++ leBytes 2 4 ++ List.replicate 14 0 ++ leBytes 4 192 ++
    beBytes 8 Config.authorityId.toNat ++ List.replicate 28 0 ++ beBytes 32 s.sec.idKey.toNat ++ leBytes 2 0 ++
    leBytes 2 0xFFFF ++ leBytes 4 0 ++ leBytes 4 Config.serialNumber.toNat ++ List.replicate 20 0
  body ++ beBytes 64 (Config.signAuthority (Config.sha512 body)).toNat

/-- ID_READ (R303). -/
def execIdRead (m : MsgCtx) (s : State) : Host.Outcome State Fault Refusal :=
  .next (plainMsg m true true (fun s =>
    reply m none 0x0002 (beBytes 32 s.sec.idKey.toNat ++ deviceCert s) s) s)

/-- The fixed header of a Gnopel certificate or manifest (R220, R261): MAGIC, FMT 1.0, KIND, TOTAL_LEN, zero elsewhere in
0x0A to 0x17 but for the fields `free` lets vary. -/
def gnopelHead (kind len : Nat) (b : List Byte) : Bool :=
  slice b 0 4 = [0x47, 0x4E, 0x50, 0x4C] && ofLe (slice b 4 2) = 1 && ofLe (slice b 6 2) = 0 &&
    ofLe (slice b 8 2) = kind && ofLe (slice b 0x0A 2) = 0 && ofLe (slice b 0x18 4) = len &&
    ofLe (slice b 0x24 28) = 0

/-- A delegated-key certificate as bytes (R261). -/
def certOk (b : List Byte) : Bool :=
  b.length = 192 && gnopelHead 2 192 b && ofLe (slice b 0x0C 12) = 0 && ofLe (slice b 0x60 2) < 512 &&
    ofLe (slice b 0x6C 20) = 0

/-- The key a certificate carries. -/
def certKey (b : List Byte) : Key :=
  { kid := keyId (slice b 0x40 32), perm := BitVec.ofNat 9 (ofLe (slice b 0x60 2))
    domain := BitVec.ofNat 16 (ofLe (slice b 0x62 2)), epoch := BitVec.ofNat 32 (ofLe (slice b 0x64 4))
    cert := b }
/-- SIGNER of a Gnopel file. -/
def signerOf (b : List Byte) : BitVec 64 := BitVec.ofNat 64 (ofBe (slice b 0x1C 8))

/-- Why a certificate is refused (R262). -/
def certCause (s : State) (b : List Byte) (sigOk : Bool) : Option Byte :=
  let k := certKey b
  if !certOk b then some cFormat
  else if !isRoot s (signerOf b) then some cKey
  else if !sigOk then some cSignature
  else if !domOk s k.domain then some cDevice
  else if k.epoch < s.sec.epoch then some cEpoch
  else match findKey s k.kid with
    | some x => if k.epoch < x.epoch then some cEpoch else none
    | none => none

/-- Put a key into the cache (R262): it replaces its own entry, else with the cache full the least recently used entry whose
key has no live session. -/
def cacheKey (k : Key) (s : State) : Option (List Key) :=
  let rest := s.sec.cache.filter fun x => x.kid ≠ k.kid
  if rest.length < 32 then some (k :: rest)
  else match rest.reverse.find? fun x => (sessionsOf s x.kid).isEmpty with
    | some v => some (k :: rest.filter fun x => x.kid ≠ v.kid)
    | none => none

/-- The verification of a certificate ends (R262). -/
def certDone (m : MsgCtx) (cert : List Byte) (sigOk : Bool) (s : State) : State :=
  match certCause s cert sigOk with
  | some c => refuseMsg m none c s
  | none => match cacheKey (certKey cert) s with
    | none => refuseMsg m none cBusy s
    | some l =>
      let s1 : State := { s with sec := { s.sec with cache := l } }
      reply m none 0x0004 [] (if findKey s (certKey cert).kid = some (certKey cert) then s1 else raise 76 0 s1)

/-- The certificates at the head of the queue `l` are verified, in order, up to the first signed command (R276). -/
def drainFrom : List QItem → State → State
  | .cert m c ok :: rest, s =>
    verifying false (fun s => drainFrom rest (certDone m c ok { s with sec := { s.sec with sigQ := rest } })) s
  | _, s => s
/-- The certificates at the head of the queue of R276. -/
def drainCerts (s : State) : State := drainFrom s.sec.sigQ s

/-- The queue of R276 holds 32 commands and certificates. -/
def sigFull (s : State) : Bool := decide (32 ≤ s.sec.sigQ.length)

/-- CERT_LOAD (R262): it waits with the signed commands for the Ed25519 engine, in order of arrival (R276). -/
def execCertLoad (m : MsgCtx) (cert : List Byte) (sigOk : Bool) (s : State) : Host.Outcome State Fault Refusal :=
  .next (plainMsg m false false (fun s =>
    if !certOk cert then refuseMsg m none cFormat s
    else if sigFull s then refuseMsg m none cBusy s
    else drainCerts { s with sec := { s.sec with sigQ := s.sec.sigQ ++ [.cert m cert sigOk] } }) s)

/-- Sessions in handshake, and sessions of either state. -/
def hsCount (s : State) : Nat := ((List.finRange 16).filter fun i => decide ((s.sec.sess[i]).st = .hs)).length
def freeSid (s : State) : Option (Fin 16) := 
  (List.finRange 16).find? fun i => decide ((s.sec.sess[i]).st = .free) || isSpent s i

/-- SESS_INIT (R265 to R267). -/
def execSessInit (m : MsgCtx) (body : List Byte) (s : State) : Host.Outcome State Fault Refusal :=
  .next (plainMsg m false false (fun s =>
    if body.length ≠ 64 then refuseMsg m none cFormat s
    else if ofBe (slice body 0x38 8) ≠ (devId s).toNat then refuseMsg m none cDevice s
    else if 4 ≤ hsCount s then refuseMsg m none cBusy s
    else match freeSid s with
      | none => refuseMsg m none cBusy s
      | some i =>
        let (eph, s1) := draw s
        let (nonce, s2) := draw s1
        let head := beBytes 32 (Config.x25519Public eph).toNat ++ beBytes 16 (nonce.setWidth 128).toNat ++ [BitVec.ofNat 8 i.val, 0, 0, 0] ++
          beBytes 4 s2.sec.epoch.toNat ++ List.replicate 8 0
        let resp := head ++ beBytes 64 (Config.signIdentity (Config.sha512 (body ++ head))).toNat
        reply m none 0x0011 resp (modSess s2 i fun _ =>
          { Sess.reset with st := .hs, iface := m.iface, peer := m.peer, kid := BitVec.ofNat 64 (ofBe (slice body 0x30 8))
                            lastT := s2.now, init := body, resp := resp, minor := m.ver.toNat % 16
                            th := Config.sha512 (body ++ resp), eph := eph })) s)

/-- SESS_FIN names a handshake of this peer that has not run out (R267). -/
def finSid (s : State) (m : MsgCtx) (body : List Byte) : Option (Fin 16) :=
  (List.finRange 16).find? fun i =>
    let x := s.sec.sess[i]
    decide (i.val = (body.getD 0 0).toNat ∧ x.st = .hs ∧ x.iface = m.iface ∧ x.peer = m.peer ∧
      s.now ≤ x.lastT + 1000000000)

/-- The session becomes live (R266): its keys come from the transcript hash and the shared secret; what made them is erased. -/
def liveSess (fin : List Byte) (now : Nat) (x : Sess) : Sess :=
  let th := Config.sha512 (x.init ++ x.resp ++ fin)
  let z := Config.x25519 x.eph (BitVec.ofNat 256 (ofBe (slice x.init 0 32)))
  { x with st := .live, lastT := now, th := th, okm := sessOkm th z, eph := 0, init := [], resp := [], sendSeq := 0 }

/-- SESS_FIN (R265, R266): `sigOk` is the engine's verdict on SIG_C over TH2, which the session holds, `zZero` says that the
shared secret is all zero. SESS_OK is the first record, sequence 0; the session-loss timer stops (R271). -/
def execSessFin (m : MsgCtx) (body : List Byte) (sigOk zZero : Bool) (s : State) : Host.Outcome State Fault Refusal :=
  .next (plainMsg m false false (fun s =>
    if body.length ≠ 72 ∨ ofBe (slice body 1 7) ≠ 0 then refuseMsg m none cFormat s
    else match finSid s m body with
      | none => refuseMsg m none cHandshake s
      | some i => match keyCause s (s.sec.sess[i]).kid with
        | some c => refuseMsg m none c s
        | none => verifying false (fun s =>
            if !sigOk then refuseMsg m none cSignature s
            else if zZero then refuseMsg m none cHandshake (modSess s i fun _ => Sess.reset)
            else
              let kid := (s.sec.sess[i]).kid
              let s1 := useKey kid (modSess s i (liveSess body s.now))
              let s2 : State := { s1 with sec := { s1.sec with lossAt := none } }
              reply m (some i) 0x0013 (BitVec.ofNat 8 i.val :: beBytes 2 (permOf s2 kid).toNat) s2) s) s)

/-- SESS_CLOSE (R270): its response is the last record. -/
def execSessClose (r : RecCtx) (s : State) : Host.Outcome State Fault Refusal :=
  .next (recMsg r (fun s => closeSess r.sid (okRec r 0x0014 [] s)) s)

/-- HANDSHAKE_TIMEOUT (R267). -/
def execHandshakeTimeout (sid : Fin 16) (t : Nat) (s : State) : Host.Outcome State Fault Refusal :=
  .next (onCore (fun s =>
    if (s.sec.sess[sid]).st = .hs ∧ (s.sec.sess[sid]).lastT + 1000000000 ≤ t then
      modSess (atTime t s) sid fun _ => Sess.reset
    else s) s)

/-- SESSION_IDLE (R270): also the close of a session whose next SEQ would be the one never sent (R268). -/
def execSessionIdle (sid : Fin 16) (t : Nat) (s : State) : Host.Outcome State Fault Refusal :=
  .next (onCore (fun s =>
    if (s.sec.sess[sid]).st = .live ∧
        (isSpent s sid ∨ (s.sec.sess[sid]).lastT + 100000000 * fld (act s 0x0506) 9 0 ≤ t) then closeSess sid (atTime t s)
    else s) s)

/-- When a loss timer started at `u` has run for SEC_LOSSHOLD (R271). -/
def lossEnd (s : State) (u : Nat) : Nat := u + 10000000 * (act s 0x0505).toNat
/-- The latest instant a command without a time can stand for: before the tick that ends the running frame, which is at most two
periods long (R49). -/
def frameEnd (s : State) : Nat := max s.now (s.frm.tickT + 2 * period s.cfg.active)
/-- SESSION_LOSS (R26, R271, R375): at the instant at which the loss timer has run for SEC_LOSSHOLD. -/
def execSessionLoss (s : State) : Host.Outcome State Fault Refusal :=
  .next (onCore (fun s =>
    match s.sec.lossAt with
    | some u =>
      if lossEnd s u ≤ frameEnd s then
        trialFail 6 (safeTrigger (raise 74 0 { atTime (lossEnd s u) s with sec := { s.sec with lossAt := none } }))
      else s
    | none => s) s)

/-- PEER_CONTEXT_END (R304). -/
def execPeerContextEnd (iface : Iface) (peer t : Nat) (s : State) : Host.Outcome State Fault Refusal :=
  .next (onCore (fun s =>
    let live := (List.finRange 16).any fun i =>
      isLive s i && decide ((s.sec.sess[i]).iface = iface ∧ (s.sec.sess[i]).peer = peer)
    if live then s
    else { atTime t s with sec := { s.sec with peers := s.sec.peers.filter fun p =>
      ¬ (p.iface = iface ∧ p.peer = peer ∧ p.t + 10000000000 ≤ t) } }) s)

/-! ### Ownership -/

/-- The body of CLAIM or TRANSFER is well formed (R258, R259): `rsv` is the first reserved byte. -/
def ownerBody (b : List Byte) (rsv : Nat) : Bool :=
  let n := (b.getD 0 0).toNat
  decide (1 ≤ n) && decide (n ≤ 4) && b.length = 0x50 + 32 * n && ofBe (slice b rsv (8 - rsv)) = 0
/-- The root key identifiers a body names. -/
def ownerRoots (b : List Byte) : List (BitVec 64) :=
  (List.range (b.getD 0 0).toNat).map fun i => keyId (slice b (0x10 + 32 * i) 32)
/-- Write the keys of a body into a generation of the fuse store (R257). -/
def fuseKeys (g : Fin 4) (b : List Byte) (x : Sec) : Sec :=
  { x with
    gen := some g, roots := ownerRoots b
    fuses := x.fuses.set g ((List.range (b.getD 0 0).toNat).map fun i => BitVec.ofNat 256 (ofBe (slice b (0x10 + 32 * i) 32))) }

/-- CLAIM (R258). -/
def execClaim (m : MsgCtx) (body : List Byte) (sigOk : Bool) (s : State) : Host.Outcome State Fault Refusal :=
  .next (plainMsg m true false (fun s =>
    if !ownerBody body 1 then refuseMsg m none cFormat s
    else if !s.sec.claimPin || s.sec.gen.isSome then refuseMsg m none cClaim s
    else if ofBe (slice body 8 8) ≠ (devId s).toNat then refuseMsg m none cDevice s
    else verifying false (fun s =>
      if !sigOk then refuseMsg m none cSignature s
      else reply m none 0x0020 (deviceCert s) (raise 76 0
        { s with sec := { fuseKeys 0 body s.sec with dbgUnlk := false } })) s) s)

/-- The generation a TRANSFER must name (R259). -/
def nextGen (s : State) : Option (Fin 4) :=
  match s.sec.gen with
  | none => none
  | some g => if h : g.val + 1 < 4 then some ⟨g.val + 1, h⟩ else none

/-- TRANSFER (R259). -/
def execTransfer (m : MsgCtx) (body : List Byte) (sigOk : Bool) (s : State) : Host.Outcome State Fault Refusal :=
  .next (plainMsg m true false (fun s =>
    if !ownerBody body 2 then refuseMsg m none cFormat s
    else match nextGen s with
      | none => refuseMsg m none cClaim s
      | some g =>
        if (body.getD 1 0).toNat ≠ g.val then refuseMsg m none cClaim s
        else if ofBe (slice body 8 8) ≠ (devId s).toNat then refuseMsg m none cDevice s
        else verifying false (fun s =>
          if !sigOk then refuseMsg m none cSignature s
          else
            let s1 : State := { s with sec := { fuseKeys g body s.sec with cache := [], hpTrust := false, dbgUnlk := false } }
            each (List.finRange 16) closeSess (reply m none 0x0021 [] (raise 76 0 s1))) s) s)

/-! ### Session messages -/

/-- The response to a LOG_READ (R335). -/
def serveRead (w : LogWait) (s : State) : State :=
  let (gap, start, n) := logSpan s w.buf w.first.toNat w.count.toNat (1024 / recSize s.cfg.active w.buf.val)
  let l := logBytes s w.buf start n
  let bad := w.ecc && decide (0 < n)
  serveBytes l.length (okRec w.r 0x0110
    ([BitVec.ofNat 8 w.buf.val, (if gap then 1 else 0) ||| (if bad then 2 else 0)] ++ beBytes 2 n ++ beBytes 4 start ++ l)
    (if bad then eccServed w.buf s else s))

/-- A response goes out at once, or waits behind the one held for leave (R335). -/
def askRead (w : LogWait) (s : State) : State :=
  if s.log.heldRead then { s with log := { s.log with waitReads := s.log.waitReads ++ [w] } } else serveRead w s

/-- The grant releases the held responses in order of arrival, up to the next MiB; those of a session that has closed go. -/
def freeReads (s : State) : State :=
  (s.log.waitReads.filter fun w => isLive s w.r.sid).foldl (fun s w => askRead w s)
    { s with log := { s.log with heldRead := false, waitReads := [] } }

/-- LOG_READ (R335, R336). `ecc` tells that a served record contains an uncorrectable error. -/
def execLogRead (r : RecCtx) (buf : Byte) (count : HWord) (first : W32) (ecc : Bool) (s : State) :
    Host.Outcome State Fault Refusal :=
  .next (recMsg r (fun s =>
    if h : buf.toNat < 5 then askRead { r := r, buf := ⟨buf.toNat, h⟩, count := count, first := first, ecc := ecc } s
    else noRec r cFormat s) s)

/-- EVENT_SUB (R303, R380). -/
def execEventSub (r : RecCtx) (mask : BitVec 128) (s : State) : Host.Outcome State Fault Refusal :=
  .next (recMsg r (fun s =>
    if (s.sec.sess[r.sid]).minor < 1 then noRec r cFormat s
    else okRec r 0x0121 [] (modSess s r.sid fun x => { x with evMask := mask })) s)

/-- CYCLIC_BIND (R272, R273): the device's own segment counter starts at 0. -/
def execCyclicBind (r : RecCtx) (s : State) : Host.Outcome State Fault Refusal :=
  .next (recMsg r (fun s =>
    if (s.sec.sess[r.sid]).iface = .host || !sessPerm s r.sid 0 then noRec r cPermission s
    else match s.sec.bound with
      | some i => if i = r.sid then okRec r 0x0130 [] s else noRec r cBound s
      | none => okRec r 0x0130 [] { s with sec := { s.sec with bound := some r.sid, boundSeq := none, cycSend := 0 } }) s)

/-- CYCLIC_UNBIND (R272). -/
def execCyclicUnbind (r : RecCtx) (s : State) : Host.Outcome State Fault Refusal :=
  .next (recMsg r (fun s => okRec r 0x0131 []
    (if s.sec.bound = some r.sid then { s with sec := { s.sec with bound := none, boundSeq := none } } else s)) s)

/-- APP (R306, R380): queued for its core. -/
def execApp (r : RecCtx) (core : Byte) (len : HWord) (data : List Byte) (s : State) : Host.Outcome State Fault Refusal :=
  .next (recMsg r (fun s =>
    if (s.sec.sess[r.sid]).minor < 2 ∨ data.length ≠ len.toNat ∨ len = 0 ∨ 1024 < len.toNat then noRec r cFormat s
    else if h : core.toNat < 4 then
      (let c : CoreId := ⟨core.toNat, h⟩
       if 8 ≤ (s.core[c]).inbox.length then noRec r cBusy s
       else okRec r 0x0140 [] (modCore s c fun k => { k with inbox := k.inbox ++ [data] }))
    else noRec r cFormat s) s)

/-! ### Signed commands (R275, R276) -/

/-- Payload length of a command code (R276, R367); none where the code is not assigned. -/
def cmdLen (code : HWord) : Option Nat :=
  if code = 0x0101 ∨ code = 0x0104 then some 0
  else if code = 0x0102 ∨ code = 0x0108 then some 1
  else if code = 0x0103 then some 6
  else if code = 0x0105 then some 65
  else if code = 0x0106 then some 8
  else if code = 0x0107 then some 4
  else none

/-- Steps 1 and 2 of R275, on the command as it arrives. -/
def cmdFormat (m : SignedMsg) : Bool :=
  let b := fun (i : Nat) => (m.payload.getD i 0).toNat
  (match cmdLen m.code with | some n => m.payload.length = n | none => false) &&
    (m.code ≠ 0x0103 || (decide (b 0 < 64) && decide (b 1 < 2))) &&
    (m.code ≠ 0x0105 || decide (b 64 < 2)) && (m.code ≠ 0x0108 || decide (b 0 < 2))

/-- SIGNED (R275, R276): checked up to its key, then queued for the Ed25519 engine. -/
def execSigned (r : RecCtx) (m : SignedMsg) (s : State) : Host.Outcome State Fault Refusal :=
  .next (recMsg r (fun s =>
    if !cmdFormat m then noRec r cFormat s
    else if sigFull s then noRec r cBusy s
    else
      let q : QCmd := { sid := r.sid, iface := r.msg.iface, peer := r.msg.peer, txid := r.msg.txid, m := m, gone := false }
      { s with sec := { s.sec with sigQ := s.sec.sigQ ++ [.cmd q] } }) s)

/-- The permission a command needs; none where it needs an owner root (R276). -/
def cmdPerm (code : HWord) : Option Nat :=
  if code = 0x0101 ∨ code = 0x0102 then some 2
  else if code = 0x0103 then some 7
  else if code = 0x0104 then some 6
  else if code = 0x0105 then some 4
  else if code = 0x0106 then some 8
  else none

/-- Steps 3 to 8 of R275. -/
def cmdCause (s : State) (q : QCmd) (sigOk : Bool) : Option Byte :=
  let kid := q.m.signer
  match keyCause s kid with
  | some c => some (if c = cKey ∧ q.gone then cEpoch else c)
  | none => match cmdPerm q.m.code with
    | none => if !isRoot s kid then some cOwner
              else if q.m.cmdSeq ≤ (s.sec.sess[q.sid]).cmdSeq then some cReplay
              else if sigOk then none else some cSignature
    | some p => if !(permOf s kid).getLsbD p then some cPermission
                else if q.m.cmdSeq ≤ (s.sec.sess[q.sid]).cmdSeq then some cReplay
                else if sigOk then none else some cSignature

/-- The command is accepted: its CMDSEQ becomes the session's (R275). -/
def acceptCmd (q : QCmd) (s : State) : State := modSess s q.sid fun x => { x with cmdSeq := q.m.cmdSeq }

/-- The verification of the command at the head of the queue ends (R276): it is refused at the first failing step, or
takes effect. Certificates behind it are verified next. -/
def runCmd (code : HWord) (sigOk : Bool) (t : Nat) (f : QCmd → State → State) (s : State) : State :=
  onCore (fun s => match s.sec.sigQ with
    | .cmd q :: rest =>
      if q.m.code ≠ code then s
      else verifying false (fun s =>
        let s1 : State := { s with sec := { s.sec with sigQ := rest } }
        drainCerts (match cmdCause s1 q sigOk with
          | some c => refuseCmd q c s1
          | none => f q (useKey q.m.signer s1))) (atTime t s)
    | _ => s) s

/-- COMMIT (R19, R22, R276). DESIGN CHOICE (log entry 60): a signed COMMIT request arrives when its verification ends, so PEND is
set and CM writes are refused from then on, not from the arrival of its record. -/
def execCommitCmd (sigOk : Bool) (t : Nat) (s : State) : Host.Outcome State Fault Refusal :=
  .next (runCmd 0x0101 sigOk t (fun q s =>
    let s1 := acceptCmd q s
    if cmtPend s1 then answerCmd q 1 (requestCommit 1 none s1)
    else requestCommit (if q.iface = .host then 2 else 1) (some q) s1) s)

/-- The target of a MODE_SET (R276, R393). -/
def setTarget (b : Byte) : Option Mode :=
  if b = 2 then some .commission else if b = 3 then some .run else if b = 5 then some .safe else none

/-- Status MODE of a signed command's response (log entry 22). -/
def stMode : Byte := 0x02

/-- MODE_SET (R373, R393). -/
def execModeSet (sigOk : Bool) (t : Nat) (s : State) : Host.Outcome State Fault Refusal :=
  .next (runCmd 0x0102 sigOk t (fun q s =>
    let s1 := acceptCmd q s
    match setTarget (q.m.payload.getD 0 0) with
    | none => answerCmd q stMode s1
    | some m =>
      if s.sys.mode = .boot ∨ s.sys.mode = .trial ∨ s.upd.trialFlag then answerCmd q stMode s1
      else if setSame s m then answerCmd q 0 s1
      else if setOk s m then answerCmd q 0 { s1 with sys := { s1.sys with modeReq := some m } }
      else answerCmd q stMode s1) s)

/-- The channel of a FORCE. -/
def forceCh (b : Byte) : ChanId := ⟨b.toNat % 64, by omega⟩

/-- FORCE (R276): in COMMISSION the word takes the channel until it is released. -/
def execForce (sigOk : Bool) (t : Nat) (s : State) : Host.Outcome State Fault Refusal :=
  .next (runCmd 0x0103 sigOk t (fun q s =>
    let s1 := acceptCmd q s
    let n := forceCh (q.m.payload.getD 0 0)
    if s.sys.mode ≠ .commission then answerCmd q stMode s1
    else if (q.m.payload.getD 1 0).getLsbD 0 then
      answerCmd q 0 (refreshSafe [n] (modOut s1 n fun o => { o with force := none }))
    else
      let w : W32 := BitVec.ofNat 32 (ofBe (slice q.m.payload 2 4))
      answerCmd q 0 (raise 78 (BitVec.ofNat 32 n.val) (modOut s1 n fun o => { o with force := some w }))) s)

/-- FREEZE (R349): no response is sent. -/
def execFreeze (sigOk : Bool) (t : Nat) (s : State) : Host.Outcome State Fault Refusal :=
  .next (runCmd 0x0104 sigOk t (fun q s => requestFreeze 2 (acceptCmd q s)) s)

/-- KEY_DROP (R276): the key's sessions close after the response. -/
def execKeyDrop (sigOk : Bool) (t : Nat) (s : State) : Host.Outcome State Fault Refusal :=
  .next (runCmd 0x0106 sigOk t (fun q s =>
    let kid : BitVec 64 := BitVec.ofNat 64 (ofBe q.m.payload)
    let s1 := answerCmd q 0 (acceptCmd q s)
    match findKey s1 kid with
    | none => s1
    | some _ =>
      let s2 := raise 76 0 { s1 with sec := { s1.sec with cache := s1.sec.cache.filter fun k => k.kid ≠ kid } }
      if isRoot s2 kid then s2 else each (openSessions s2 kid) closeSess s2) s)

/-- EPOCH_RAISE (R264): stored, keys below it removed, their sessions closed after the response. -/
def execEpochRaise (sigOk : Bool) (t : Nat) (s : State) : Host.Outcome State Fault Refusal :=
  .next (runCmd 0x0107 sigOk t (fun q s =>
    let v : W32 := BitVec.ofNat 32 (ofBe q.m.payload)
    if v ≤ s.sec.epoch then refuseCmd q cEpoch s
    else
      let gone := (s.sec.cache.filter fun k => k.epoch < v).map (·.kid)
      let s1 : State := acceptCmd q s
      let s2 : State := { s1 with sec := { s1.sec with
        epoch := v
        cache := s1.sec.cache.filter fun k => ¬ (k.epoch < v)
        sigQ := s1.sec.sigQ.map fun x => match x with
          | .cmd c => .cmd (if gone.contains c.m.signer then { c with gone := true } else c)
          | x => x } }
      let s3 := answerCmd q 0 (raise 75 v s2)
      let s4 := if gone.isEmpty then s3 else raise 76 0 s3
      each (gone.filter fun k => !isRoot s4 k) (fun k s => each (openSessions s k) closeSess s) s4) s)

/-- HP_TRUST (R280): it takes effect after the response. -/
def execHpTrust (sigOk : Bool) (t : Nat) (s : State) : Host.Outcome State Fault Refusal :=
  .next (runCmd 0x0108 sigOk t (fun q s =>
    let s1 := answerCmd q 0 (acceptCmd q s)
    { s1 with sec := { s1.sec with hpTrust := decide (q.m.payload.getD 0 0 = 1) } }) s)

end Sys2Proof.Machine
end

