-- ==== Sys2Proof/Machine/Fp32.lean ====
section
/-! DEFINITION. FP32 arithmetic with the fixed behaviours of R196: IEEE 754 binary32, round to nearest even, subnormals
taken as zero, one NaN. -/

namespace Sys2Proof.Machine

/-- A binary32 value: NaN, infinity, or an exact (−1)^s · m · 2^e (m = 0 is a zero of either sign). -/
inductive Fp
  | nan
  | inf (s : Bool)
  | fin (s : Bool) (m : Nat) (e : Int)

/-- The NaN that arithmetic delivers. -/
def fpNan : W32 := 0x7FC00000
/-- Infinity of a sign. -/
def fpInf (s : Bool) : W32 := bit s ++ 0x7F800000#31
/-- Zero of a sign. -/
def fpZero (s : Bool) : W32 := bit s ++ 0#31

/-- Decode: a subnormal input is a zero with its sign. -/
def fpDec (x : W32) : Fp :=
  let e := (x.extractLsb' 23 8).toNat
  let m := (x.extractLsb' 0 23).toNat
  if e = 255 then (if m = 0 then .inf x.msb else .nan)
  else if e = 0 then .fin x.msb 0 0
  else .fin x.msb (2 ^ 23 + m) ((e : Int) - 150)

/-- Round m · 2^e, m ≠ 0, to 24 significant bits, ties to even, exponent unbounded. -/
def fpRound24 (m : Nat) (e : Int) : Nat × Int :=
  let bits := Nat.log2 m + 1
  if bits ≤ 24 then (m * 2 ^ (24 - bits), e - ((24 - bits : Nat) : Int))
  else
    let sh := bits - 24
    let q := m / 2 ^ sh
    let r := m % 2 ^ sh
    let up := decide (2 ^ sh < 2 * r) || (decide (2 * r = 2 ^ sh) && decide (q % 2 = 1))
    let q' := if up then q + 1 else q
    if q' = 2 ^ 24 then (2 ^ 23, e + ((sh + 1 : Nat) : Int)) else (q', e + ((sh : Nat) : Int))

/-- Round and pack an exact value: below 2^−126 after rounding it is a zero with its sign; past the range, infinity. -/
def fpPack (s : Bool) (m : Nat) (e : Int) : W32 :=
  if m = 0 then fpZero s
  else
    let r := fpRound24 m e
    let ex := r.2 + 23
    if ex < -126 then fpZero s
    else if 127 < ex then fpInf s
    else bit s ++ (BitVec.ofInt 8 (ex + 127) ++ BitVec.ofNat 23 (r.1 - 2 ^ 23))

/-- Sum of two exact values, rounded once; an exact zero keeps a sign that both share, else it is +0. -/
def fpSum (x y : Fp) : W32 :=
  match x, y with
  | .nan, _ => fpNan
  | _, .nan => fpNan
  | .inf a, .inf b => if a = b then fpInf a else fpNan
  | .inf a, _ => fpInf a
  | _, .inf b => fpInf b
  | .fin a m e, .fin b n g =>
    let lo := min e g
    let i : Int := (if a then -1 else 1) * (m * 2 ^ (e - lo).toNat : Nat) +
      (if b then -1 else 1) * (n * 2 ^ (g - lo).toNat : Nat)
    if i = 0 then fpZero (a && b) else fpPack (decide (i < 0)) i.natAbs lo

/-- Exact product. -/
def fpProd (x y : Fp) : Fp :=
  match x, y with
  | .nan, _ => .nan
  | _, .nan => .nan
  | .inf a, .inf b => .inf (a != b)
  | .inf a, .fin b n _ => if n = 0 then .nan else .inf (a != b)
  | .fin a m _, .inf b => if m = 0 then .nan else .inf (a != b)
  | .fin a m e, .fin b n g => .fin (a != b) (m * n) (e + g)

/-- Change of sign. -/
def fpNegate : Fp → Fp
  | .nan => .nan
  | .inf s => .inf (!s)
  | .fin s m e => .fin (!s) m e

/-- Round an exact value. -/
def fpEnc : Fp → W32
  | .nan => fpNan
  | .inf s => fpInf s
  | .fin s m e => fpPack s m e

/-- FADD, FSUB and FMUL. -/
def fpAdd (x y : W32) : W32 := fpSum (fpDec x) (fpDec y)
def fpSub (x y : W32) : W32 := fpSum (fpDec x) (fpNegate (fpDec y))
def fpMul (x y : W32) : W32 := fpEnc (fpProd (fpDec x) (fpDec y))
/-- FMA (rd + rs1 × rs2) and, where `neg`, FMS (rd − rs1 × rs2). -/
def fpFma (neg : Bool) (d x y : W32) : W32 :=
  let p := fpProd (fpDec x) (fpDec y)
  fpSum (fpDec d) (if neg then fpNegate p else p)
/-- ITOF. -/
def fpOfInt (i : Int) : W32 := fpPack (decide (i < 0)) i.natAbs 0
/-- FTOI: truncated toward zero and saturated; NaN gives 0. The Boolean says that S is set. -/
def fpToInt (x : W32) : W32 × Bool :=
  match fpDec x with
  | .nan => (0, true)
  | .inf s => (if s then 0x80000000 else 0x7FFFFFFF, true)
  | .fin s m e =>
    let a : Nat := if 0 ≤ e then m * 2 ^ e.toNat else m / 2 ^ (-e).toNat
    sat32 (if s then -(a : Int) else a)

/-- A finite value or infinity as an integer in order; none for NaN. -/
def fpKey : Fp → Option Int
  | .nan => none
  | .inf s => some (if s then -(2 ^ 300) else 2 ^ 300)
  | .fin s m e => some (if m = 0 then 0 else (if s then -1 else 1) * (m * 2 ^ (e + 149).toNat : Nat))

/-- The flags of FCMP (R196). -/
def fpCompare (x y : W32) (f : Flags) : Flags :=
  match fpKey (fpDec x), fpKey (fpDec y) with
  | some a, some b => mkFlags (a = b) (a < b) (b ≤ a) false (flS f)
  | _, _ => mkFlags false false false true (flS f)

end Sys2Proof.Machine
end

