-- ==== Sys2Proof/Machine/CanterAlu.lean ====
section
/-! DEFINITION. The register and immediate instructions of a Canter core: integer ALU (R193), multiply and divide
(R194), Q15 and Q31 (R195), FP32 (R196), MAC (R197), immediates and branches (R198), register jumps (R199). -/

namespace Sys2Proof.Machine

/-- What two operands and the flags give: a result and the flags. -/
abbrev AluOp := W32 → W32 → Flags → W32 × Flags

/-- The fields of an RR instruction are legal: no m register, unused fields 0 (R181, R190). -/
def rrLegal (f : RR) (two : Bool) (md : Bool) : Bool :=
  !isM f.rd && !isM f.rs1 && !isM f.rs2 && (two || f.rs2 = 0) && (md || f.md = 0)

/-- An RR instruction with result in rd: cost `i`, latency `l`, flags it writes. -/
def rrInstr (c : CoreId) (f : RR) (two : Bool) (readFl wrFl : Bool) (i l : Nat) (op : AluOp) (s : State) : State :=
  canter c (rrLegal f two false)
    { src := if two then [f.rs1, f.rs2] else [f.rs1], dst := [(f.rd, l)], readFl := readFl, flL := if wrFl then some l else none, macD := none }
    (fun t s =>
      let r := op (rdReg s c f.rs1 t) (rdReg s c f.rs2 t) (s.core[c]).st
      .ok (wrResult c f.rd r.1 r.2 s) none i) s

/-- A comparison: flags alone, rd field 0 (R193, R196). -/
def cmpInstr (c : CoreId) (f : RR) (op : W32 → W32 → Flags → Flags) (s : State) : State :=
  canter c (rrLegal f true false && f.rd = 0)
    { src := [f.rs1, f.rs2], dst := [], readFl := false, flL := some 1, macD := none }
    (fun t s => .ok (wrFlags c (op (rdReg s c f.rs1 t) (rdReg s c f.rs2 t) (s.core[c]).st) s) none 1) s

/-! ### Integer ALU (R193) -/

/-- Addition (R182). -/
def opAdd : AluOp := fun x y f => let r := addC x y false; (r.1, flagsZNCV f r.1 r.2.1 r.2.2)
/-- Addition with carry. -/
def opAddc : AluOp := fun x y f => let r := addC x y (flC f); (r.1, flagsZNCV f r.1 r.2.1 r.2.2)
/-- Subtraction. -/
def opSub : AluOp := fun x y f => let r := subB x y false; (r.1, flagsZNCV f r.1 r.2.1 r.2.2)
/-- Subtraction with borrow. -/
def opSubc : AluOp := fun x y f => let r := subB x y (!flC f); (r.1, flagsZNCV f r.1 r.2.1 r.2.2)
/-- Z and N of a result. -/
def opZN (g : W32 → W32 → W32) : AluOp := fun x y f => (g x y, flagsZN f (g x y))
/-- No flag. -/
def opPlain (g : W32 → W32 → W32) : AluOp := fun x y f => (g x y, f)
/-- Z, N, and S where `g` says the value was clamped. -/
def opZNS (g : W32 → W32 → W32 × Bool) : AluOp := fun x y f => ((g x y).1, flagsS (flagsZN f (g x y).1) (g x y).2)
/-- S alone. -/
def opS (g : W32 → W32 → W32 × Bool) : AluOp := fun x y f => ((g x y).1, flagsS f (g x y).2)
/-- Shift amount rs2[4:0]. -/
def sh5 (y : W32) : Nat := y.toNat % 32
/-- Leading zero bits, 0 to 32. -/
def clz32 (x : W32) : W32 := BitVec.ofNat 32 (if x = 0 then 32 else 31 - Nat.log2 x.toNat)
/-- Saturated absolute value. -/
def abs32 (x : W32) : W32 × Bool := sat32 (x.toInt.natAbs : Int)

/-- ADD (R193). -/
def execAdd (c : CoreId) (f : RR) (s : State) : Host.Outcome State Fault Refusal :=
  .next (rrInstr c f true false true 1 1 opAdd s)

/-- ADDC (R193). -/
def execAddc (c : CoreId) (f : RR) (s : State) : Host.Outcome State Fault Refusal :=
  .next (rrInstr c f true true true 1 1 opAddc s)

/-- SUB (R193). -/
def execSub (c : CoreId) (f : RR) (s : State) : Host.Outcome State Fault Refusal :=
  .next (rrInstr c f true false true 1 1 opSub s)

/-- SUBC (R193). -/
def execSubc (c : CoreId) (f : RR) (s : State) : Host.Outcome State Fault Refusal :=
  .next (rrInstr c f true true true 1 1 opSubc s)

/-- CMP (R193). -/
def execCmp (c : CoreId) (f : RR) (s : State) : Host.Outcome State Fault Refusal :=
  .next (cmpInstr c f (fun x y f => (opSub x y f).2) s)

/-- AND (R193). -/
def execAndOp (c : CoreId) (f : RR) (s : State) : Host.Outcome State Fault Refusal :=
  .next (rrInstr c f true false true 1 1 (opZN fun x y => x &&& y) s)

/-- OR (R193). -/
def execOrOp (c : CoreId) (f : RR) (s : State) : Host.Outcome State Fault Refusal :=
  .next (rrInstr c f true false true 1 1 (opZN fun x y => x ||| y) s)

/-- XOR (R193). -/
def execXorOp (c : CoreId) (f : RR) (s : State) : Host.Outcome State Fault Refusal :=
  .next (rrInstr c f true false true 1 1 (opZN fun x y => x ^^^ y) s)

/-- ANDN (R193). -/
def execAndn (c : CoreId) (f : RR) (s : State) : Host.Outcome State Fault Refusal :=
  .next (rrInstr c f true false true 1 1 (opZN fun x y => x &&& ~~~y) s)

/-- SLL (R193). -/
def execSll (c : CoreId) (f : RR) (s : State) : Host.Outcome State Fault Refusal :=
  .next (rrInstr c f true false true 1 1 (opZN fun x y => x <<< sh5 y) s)

/-- SRL (R193). -/
def execSrl (c : CoreId) (f : RR) (s : State) : Host.Outcome State Fault Refusal :=
  .next (rrInstr c f true false true 1 1 (opZN fun x y => x >>> sh5 y) s)

/-- SRA (R193). -/
def execSra (c : CoreId) (f : RR) (s : State) : Host.Outcome State Fault Refusal :=
  .next (rrInstr c f true false true 1 1 (opZN fun x y => x.sshiftRight (sh5 y)) s)

/-- ROR (R193). -/
def execRor (c : CoreId) (f : RR) (s : State) : Host.Outcome State Fault Refusal :=
  .next (rrInstr c f true false true 1 1 (opZN fun x y => x.rotateRight (sh5 y)) s)

/-- MIN (R193). -/
def execMin (c : CoreId) (f : RR) (s : State) : Host.Outcome State Fault Refusal :=
  .next (rrInstr c f true false true 1 1 (opZN fun x y => if x.toInt ≤ y.toInt then x else y) s)

/-- MAX (R193). -/
def execMax (c : CoreId) (f : RR) (s : State) : Host.Outcome State Fault Refusal :=
  .next (rrInstr c f true false true 1 1 (opZN fun x y => if x.toInt ≤ y.toInt then y else x) s)

/-- MINU (R193). -/
def execMinu (c : CoreId) (f : RR) (s : State) : Host.Outcome State Fault Refusal :=
  .next (rrInstr c f true false true 1 1 (opZN fun x y => if x.toNat ≤ y.toNat then x else y) s)

/-- MAXU (R193). -/
def execMaxu (c : CoreId) (f : RR) (s : State) : Host.Outcome State Fault Refusal :=
  .next (rrInstr c f true false true 1 1 (opZN fun x y => if x.toNat ≤ y.toNat then y else x) s)

/-- ABS (R193). -/
def execAbs (c : CoreId) (f : RR) (s : State) : Host.Outcome State Fault Refusal :=
  .next (rrInstr c f false false true 1 1 (opZNS fun x _ => abs32 x) s)

/-- CLZ (R193). -/
def execClz (c : CoreId) (f : RR) (s : State) : Host.Outcome State Fault Refusal :=
  .next (rrInstr c f false false true 1 1 (opZN fun x _ => clz32 x) s)

/-- SEXTB (R193). -/
def execSextb (c : CoreId) (f : RR) (s : State) : Host.Outcome State Fault Refusal :=
  .next (rrInstr c f false false false 1 1 (opPlain fun x _ => (x.setWidth 8).signExtend 32) s)

/-- SEXTH (R193). -/
def execSexth (c : CoreId) (f : RR) (s : State) : Host.Outcome State Fault Refusal :=
  .next (rrInstr c f false false false 1 1 (opPlain fun x _ => (x.setWidth 16).signExtend 32) s)

/-- ZEXTB (R193). -/
def execZextb (c : CoreId) (f : RR) (s : State) : Host.Outcome State Fault Refusal :=
  .next (rrInstr c f false false false 1 1 (opPlain fun x _ => (x.setWidth 8).setWidth 32) s)

/-- ZEXTH (R193). -/
def execZexth (c : CoreId) (f : RR) (s : State) : Host.Outcome State Fault Refusal :=
  .next (rrInstr c f false false false 1 1 (opPlain fun x _ => (x.setWidth 16).setWidth 32) s)

/-- MOV (R193). -/
def execMov (c : CoreId) (f : RR) (s : State) : Host.Outcome State Fault Refusal :=
  .next (rrInstr c f false false false 1 1 (opPlain fun x _ => x) s)

/-- SEL (R193): condition in fn[9:6], fn[10] 0; the condition AL reads no flag. -/
def execSel (c : CoreId) (f : RR) (s : State) : Host.Outcome State Fault Refusal :=
  let cc := f.md.setWidth 4
  .next (canter c (rrLegal f true true && !f.md.msb)
    { src := [f.rs1, f.rs2], dst := [(f.rd, 1)], readFl := cc ≠ 14, flL := none, macD := none }
    (fun t s =>
      .ok (wrReg c f.rd (if condHolds (s.core[c]).st cc then rdReg s c f.rs1 t else rdReg s c f.rs2 t) s) none 1) s)

/-! ### Multiply and divide (R194) -/

/-- Signed quotient toward zero, with the cases of R194. -/
def divS (x y : W32) : W32 × Bool :=
  if y = 0 then (if 0 ≤ x.toInt then 0x7FFFFFFF else 0x80000000, true)
  else if x = 0x80000000 ∧ y = 0xFFFFFFFF then (0x7FFFFFFF, true)
  else (BitVec.ofInt 32 (x.toInt.tdiv y.toInt), false)
/-- Unsigned quotient. -/
def divU (x y : W32) : W32 × Bool := if y = 0 then (0xFFFFFFFF, true) else (BitVec.ofNat 32 (x.toNat / y.toNat), false)
/-- Signed remainder, with the sign of rs1. -/
def remS (x y : W32) : W32 × Bool :=
  if y = 0 then (x, true) else if x = 0x80000000 ∧ y = 0xFFFFFFFF then (0, true)
  else (BitVec.ofInt 32 (x.toInt.tmod y.toInt), false)
/-- Unsigned remainder. -/
def remU (x y : W32) : W32 × Bool := if y = 0 then (x, true) else (BitVec.ofNat 32 (x.toNat % y.toNat), false)

/-- MUL (R194). -/
def execMul (c : CoreId) (f : RR) (s : State) : Host.Outcome State Fault Refusal :=
  .next (rrInstr c f true false false 1 2 (opPlain fun x y => BitVec.ofInt 32 (x.toInt * y.toInt)) s)

/-- MULH (R194). -/
def execMulh (c : CoreId) (f : RR) (s : State) : Host.Outcome State Fault Refusal :=
  .next (rrInstr c f true false false 1 2 (opPlain fun x y => BitVec.ofInt 32 ((x.toInt * y.toInt) >>> 32)) s)

/-- MULHU (R194). -/
def execMulhu (c : CoreId) (f : RR) (s : State) : Host.Outcome State Fault Refusal :=
  .next (rrInstr c f true false false 1 2 (opPlain fun x y => BitVec.ofNat 32 ((x.toNat * y.toNat) >>> 32)) s)

/-- DIV (R194). -/
def execDiv (c : CoreId) (f : RR) (s : State) : Host.Outcome State Fault Refusal :=
  .next (rrInstr c f true false true 12 12 (opS divS) s)

/-- DIVU (R194). -/
def execDivu (c : CoreId) (f : RR) (s : State) : Host.Outcome State Fault Refusal :=
  .next (rrInstr c f true false true 12 12 (opS divU) s)

/-- REM (R194). -/
def execRem (c : CoreId) (f : RR) (s : State) : Host.Outcome State Fault Refusal :=
  .next (rrInstr c f true false true 12 12 (opS remS) s)

/-- REMU (R194). -/
def execRemu (c : CoreId) (f : RR) (s : State) : Host.Outcome State Fault Refusal :=
  .next (rrInstr c f true false true 12 12 (opS remU) s)

/-! ### Q15 and Q31 (R195) -/

/-- Two halfword lanes: the results side by side, and whether either saturated. -/
def lanes2 (g : Int → Int → Int) (x y : W32) : W32 × Bool :=
  let lo := sat16 (g (x.extractLsb' 0 16).toInt (y.extractLsb' 0 16).toInt)
  let hi := sat16 (g (x.extractLsb' 16 16).toInt (y.extractLsb' 16 16).toInt)
  (hi.1 ++ lo.1, lo.2 || hi.2)

/-- QADD (R195). -/
def execQadd (c : CoreId) (f : RR) (s : State) : Host.Outcome State Fault Refusal :=
  .next (rrInstr c f true false true 1 1 (opZNS fun x y => sat32 (x.toInt + y.toInt)) s)

/-- QSUB (R195). -/
def execQsub (c : CoreId) (f : RR) (s : State) : Host.Outcome State Fault Refusal :=
  .next (rrInstr c f true false true 1 1 (opZNS fun x y => sat32 (x.toInt - y.toInt)) s)

/-- QNEG (R195). -/
def execQneg (c : CoreId) (f : RR) (s : State) : Host.Outcome State Fault Refusal :=
  .next (rrInstr c f false false true 1 1 (opZNS fun x _ => sat32 (-x.toInt)) s)

/-- QABS (R195). -/
def execQabs (c : CoreId) (f : RR) (s : State) : Host.Outcome State Fault Refusal :=
  .next (rrInstr c f false false true 1 1 (opZNS fun x _ => abs32 x) s)

/-- QMUL (R195). -/
def execQmul (c : CoreId) (f : RR) (s : State) : Host.Outcome State Fault Refusal :=
  .next (rrInstr c f true false true 1 2 (opZNS fun x y => sat32 ((x.toInt * y.toInt + 2 ^ 30) >>> 31)) s)

/-- QADD2 (R195). -/
def execQadd2 (c : CoreId) (f : RR) (s : State) : Host.Outcome State Fault Refusal :=
  .next (rrInstr c f true false true 1 1 (opZNS fun x y => lanes2 (fun a b => a + b) x y) s)

/-- QSUB2 (R195). -/
def execQsub2 (c : CoreId) (f : RR) (s : State) : Host.Outcome State Fault Refusal :=
  .next (rrInstr c f true false true 1 1 (opZNS fun x y => lanes2 (fun a b => a - b) x y) s)

/-- QMUL2 (R195). -/
def execQmul2 (c : CoreId) (f : RR) (s : State) : Host.Outcome State Fault Refusal :=
  .next (rrInstr c f true false true 1 2 (opZNS fun x y => lanes2 (fun a b => (a * b + 2 ^ 14) >>> 15) x y) s)

/-- QSHL (R195). -/
def execQshl (c : CoreId) (f : RR) (s : State) : Host.Outcome State Fault Refusal :=
  .next (rrInstr c f true false true 1 1 (opZNS fun x y => sat32 (x.toInt * 2 ^ sh5 y)) s)

/-! ### FP32 (R196) -/

/-- FMA and FMS: rd is read as well, and the sum is rounded once. -/
def fmaInstr (c : CoreId) (f : RR) (neg : Bool) (s : State) : State :=
  canter c (rrLegal f true false)
    { src := [f.rd, f.rs1, f.rs2], dst := [(f.rd, 3)], readFl := false, flL := none, macD := none }
    (fun t s => .ok (wrReg c f.rd (fpFma neg (rdReg s c f.rd t) (rdReg s c f.rs1 t) (rdReg s c f.rs2 t)) s) none 1) s

/-- FADD (R196). -/
def execFadd (c : CoreId) (f : RR) (s : State) : Host.Outcome State Fault Refusal :=
  .next (rrInstr c f true false false 1 3 (opPlain fpAdd) s)

/-- FSUB (R196). -/
def execFsub (c : CoreId) (f : RR) (s : State) : Host.Outcome State Fault Refusal :=
  .next (rrInstr c f true false false 1 3 (opPlain fpSub) s)

/-- FMUL (R196). -/
def execFmul (c : CoreId) (f : RR) (s : State) : Host.Outcome State Fault Refusal :=
  .next (rrInstr c f true false false 1 3 (opPlain fpMul) s)

/-- FMA (R196). -/
def execFma (c : CoreId) (f : RR) (s : State) : Host.Outcome State Fault Refusal :=
  .next (fmaInstr c f false s)

/-- FMS (R196). -/
def execFms (c : CoreId) (f : RR) (s : State) : Host.Outcome State Fault Refusal :=
  .next (fmaInstr c f true s)

/-- FNEG (R196). -/
def execFneg (c : CoreId) (f : RR) (s : State) : Host.Outcome State Fault Refusal :=
  .next (rrInstr c f false false false 1 1 (opPlain fun x _ => x ^^^ 0x80000000) s)

/-- FABS (R196). -/
def execFabs (c : CoreId) (f : RR) (s : State) : Host.Outcome State Fault Refusal :=
  .next (rrInstr c f false false false 1 1 (opPlain fun x _ => x &&& 0x7FFFFFFF) s)

/-- FCMP (R196). -/
def execFcmp (c : CoreId) (f : RR) (s : State) : Host.Outcome State Fault Refusal :=
  .next (cmpInstr c f fpCompare s)

/-- ITOF (R196). -/
def execItof (c : CoreId) (f : RR) (s : State) : Host.Outcome State Fault Refusal :=
  .next (rrInstr c f false false false 1 3 (opPlain fun x _ => fpOfInt x.toInt) s)

/-- FTOI (R196). -/
def execFtoi (c : CoreId) (f : RR) (s : State) : Host.Outcome State Fault Refusal :=
  .next (rrInstr c f false false true 1 3 (opS fun x _ => fpToInt x) s)

/-! ### MAC (R197) -/

/-- MAC, MSU and MAC2: the accumulator named by the rd field, S where it saturates. -/
def macInstr (c : CoreId) (f : RR) (g : Int → W32 → W32 → Int) (s : State) : State :=
  canter c (isM f.rd && !isM f.rs1 && !isM f.rs2 && f.md = 0)
    { src := [f.rs1, f.rs2], dst := [], readFl := false, flL := none, macD := some f.rd }
    (fun t s =>
      let r := sat64 (g (rdM s c f.rd).toInt (rdReg s c f.rs1 t) (rdReg s c f.rs2 t))
      .ok (wrM c f.rd r.1 (wrFlags c (flagsS (s.core[c]).st r.2) s)) none 1) s

/-- MAC (R197). -/
def execMac (c : CoreId) (f : RR) (s : State) : Host.Outcome State Fault Refusal :=
  .next (macInstr c f (fun m x y => m + x.toInt * y.toInt) s)

/-- MSU (R197). -/
def execMsu (c : CoreId) (f : RR) (s : State) : Host.Outcome State Fault Refusal :=
  .next (macInstr c f (fun m x y => m - x.toInt * y.toInt) s)

/-- MAC2 (R197): signed halfwords. -/
def execMac2 (c : CoreId) (f : RR) (s : State) : Host.Outcome State Fault Refusal :=
  .next (macInstr c f (fun m x y => m + (x.extractLsb' 0 16).toInt * (y.extractLsb' 0 16).toInt +
    (x.extractLsb' 16 16).toInt * (y.extractLsb' 16 16).toInt) s)

/-- MCLR (R197). -/
def execMclr (c : CoreId) (f : RR) (s : State) : Host.Outcome State Fault Refusal :=
  .next (canter c (isM f.rd && f.rs1 = 0 && f.rs2 = 0 && f.md = 0)
    { src := [], dst := [(f.rd, 1)], readFl := false, flL := none, macD := none }
    (fun _ s => .ok (wrM c f.rd 0 s) none 1) s)

/-- MTM (R197): rs1 × 2^32 + zext(rs2). -/
def execMtm (c : CoreId) (f : RR) (s : State) : Host.Outcome State Fault Refusal :=
  .next (canter c (isM f.rd && !isM f.rs1 && !isM f.rs2 && f.md = 0)
    { src := [f.rs1, f.rs2], dst := [(f.rd, 1)], readFl := false, flL := none, macD := none }
    (fun t s => .ok (wrM c f.rd (rdReg s c f.rs1 t ++ rdReg s c f.rs2 t) s) none 1) s)

/-- A read of the accumulator that the rs1 field names. -/
def mfInstr (c : CoreId) (f : RR) (mdOk : Bool) (flL : Option Nat) (g : W64 → W32 × Bool) (s : State) : State :=
  canter c (!isM f.rd && isM f.rs1 && f.rs2 = 0 && (mdOk || f.md = 0))
    { src := [f.rs1], dst := [(f.rd, 1)], readFl := false, flL := flL, macD := none }
    (fun _ s =>
      let r := g (rdM s c f.rs1)
      .ok (wrResult c f.rd r.1 (flagsS (s.core[c]).st r.2) s) none 1) s

/-- MFM (R197): rounded in 65 bits, shifted by fn[10:6], clamped. -/
def execMfm (c : CoreId) (f : RR) (s : State) : Host.Outcome State Fault Refusal :=
  let sh := f.md.toNat
  .next (mfInstr c f true (some 1)
    (fun m => sat32 ((m.toInt + (if sh = 0 then 0 else 2 ^ (sh - 1))) >>> sh)) s)

/-- MFMH (R197). -/
def execMfmh (c : CoreId) (f : RR) (s : State) : Host.Outcome State Fault Refusal :=
  .next (mfInstr c f false none (fun m => (m.extractLsb' 32 32, false)) s)

/-- MFML (R197). -/
def execMfml (c : CoreId) (f : RR) (s : State) : Host.Outcome State Fault Refusal :=
  .next (mfInstr c f false none (fun m => (m.extractLsb' 0 32, false)) s)

/-! ### Register jumps (R199) -/

/-- The operand field of a6. -/
def a6Field : BitVec 5 := 22

/-- JR and CALLR: a target that is not word-aligned raises the misalignment exception at the jump. -/
def jrInstr (c : CoreId) (f : RR) (link : Bool) (s : State) : State :=
  canter c (f.rd = 0 && !isM f.rs1 && f.rs2 = 0 && f.md = 0)
    { src := [f.rs1], dst := if link then [(a6Field, 2)] else [], readFl := false, flL := none, macD := none }
    (fun t s =>
      let target := rdReg s c f.rs1 t
      if target.toNat % 4 ≠ 0 then .trap 2 0 target
      else .ok (if link then wrReg c a6Field ((s.core[c]).pc + 4) s else s) (some target) 2) s

/-- JR (R199). -/
def execJr (c : CoreId) (f : RR) (s : State) : Host.Outcome State Fault Refusal :=
  .next (jrInstr c f false s)

/-- CALLR (R199): rs1 is read before a6 is written. -/
def execCallr (c : CoreId) (f : RR) (s : State) : Host.Outcome State Fault Refusal :=
  .next (jrInstr c f true s)

/-! ### Immediates and branches (R198) -/

/-- An RI instruction with result in rd. -/
def riInstr (c : CoreId) (f : RI) (legal : Bool) (useS1 wrFl : Bool) (op : W32 → Flags → W32 × Flags) (s : State) : State :=
  canter c (!isM f.rd && !isM f.rs1 && (useS1 || f.rs1 = 0) && legal)
    { src := if useS1 then [f.rs1] else [], dst := [(f.rd, 1)], readFl := false,
      flL := if wrFl then some 1 else none, macD := none }
    (fun t s =>
      let r := op (rdReg s c f.rs1 t) (s.core[c]).st
      .ok (wrResult c f.rd r.1 r.2 s) none 1) s

/-- sext(imm). -/
def sextI (f : RI) : W32 := f.imm.signExtend 32
/-- zext(imm). -/
def zextI (f : RI) : W32 := f.imm.setWidth 32
/-- Shift amounts: imm[15:5] is 0. -/
def shiftOk (f : RI) : Bool := f.imm.toNat < 32

/-- ADDI (R198). -/
def execAddi (c : CoreId) (f : RI) (s : State) : Host.Outcome State Fault Refusal :=
  .next (riInstr c f true true true (fun x fl => opAdd x (sextI f) fl) s)

/-- ANDI (R198). -/
def execAndi (c : CoreId) (f : RI) (s : State) : Host.Outcome State Fault Refusal :=
  .next (riInstr c f true true true (fun x fl => opZN (fun x y => x &&& y) x (zextI f) fl) s)

/-- ORI (R198). -/
def execOri (c : CoreId) (f : RI) (s : State) : Host.Outcome State Fault Refusal :=
  .next (riInstr c f true true true (fun x fl => opZN (fun x y => x ||| y) x (zextI f) fl) s)

/-- XORI (R198). -/
def execXori (c : CoreId) (f : RI) (s : State) : Host.Outcome State Fault Refusal :=
  .next (riInstr c f true true true (fun x fl => opZN (fun x y => x ^^^ y) x (zextI f) fl) s)

/-- CMPI (R198): rd field 0. -/
def execCmpi (c : CoreId) (f : RI) (s : State) : Host.Outcome State Fault Refusal :=
  .next (canter c (f.rd = 0 && !isM f.rs1)
    { src := [f.rs1], dst := [], readFl := false, flL := some 1, macD := none }
    (fun t s => .ok (wrFlags c (opSub (rdReg s c f.rs1 t) (sextI f) (s.core[c]).st).2 s) none 1) s)

/-- LI (R198). -/
def execLi (c : CoreId) (f : RI) (s : State) : Host.Outcome State Fault Refusal :=
  .next (riInstr c f true false false (fun _ fl => (sextI f, fl)) s)

/-- LUI (R198). -/
def execLui (c : CoreId) (f : RI) (s : State) : Host.Outcome State Fault Refusal :=
  .next (riInstr c f true false false (fun _ fl => (f.imm ++ (0#16), fl)) s)

/-- SLLI (R198). -/
def execSlli (c : CoreId) (f : RI) (s : State) : Host.Outcome State Fault Refusal :=
  .next (riInstr c f (shiftOk f) true true (fun x fl => opZN (fun x _ => x <<< f.imm.toNat) x 0 fl) s)

/-- SRLI (R198). -/
def execSrli (c : CoreId) (f : RI) (s : State) : Host.Outcome State Fault Refusal :=
  .next (riInstr c f (shiftOk f) true true (fun x fl => opZN (fun x _ => x >>> f.imm.toNat) x 0 fl) s)

/-- SRAI (R198). -/
def execSrai (c : CoreId) (f : RI) (s : State) : Host.Outcome State Fault Refusal :=
  .next (riInstr c f (shiftOk f) true true (fun x fl => opZN (fun x _ => x.sshiftRight f.imm.toNat) x 0 fl) s)

/-- Bcc (R198): condition in bits 24:21, with bit 25 and the rs1 field 0; AL reads no flag. -/
def execBcc (c : CoreId) (f : RI) (s : State) : Host.Outcome State Fault Refusal :=
  let cc := f.rd.setWidth 4
  .next (canter c (!f.rd.msb && f.rs1 = 0)
    { src := [], dst := [], readFl := cc ≠ 14, flL := none, macD := none }
    (fun _ s =>
      if condHolds (s.core[c]).st cc then .ok s (some ((s.core[c]).pc + (sextI f <<< 2))) 2 else .ok s none 1) s)

/-- A J-format jump: pc + 4 × sext(off26), with a6 = pc + 4 where it links. -/
def jInstr (c : CoreId) (off : BitVec 26) (link : Bool) (s : State) : State :=
  canter c true
    { src := [], dst := if link then [(a6Field, 2)] else [], readFl := false, flL := none, macD := none }
    (fun _ s =>
      let pc := (s.core[c]).pc
      .ok (if link then wrReg c a6Field (pc + 4) s else s) (some (pc + (off.signExtend 32 <<< 2))) 2) s

/-- J (R198). -/
def execJump (c : CoreId) (off : BitVec 26) (s : State) : Host.Outcome State Fault Refusal :=
  .next (jInstr c off false s)

/-- CALL (R198). -/
def execCall (c : CoreId) (off : BitVec 26) (s : State) : Host.Outcome State Fault Refusal :=
  .next (jInstr c off true s)

end Sys2Proof.Machine
end

