-- ==== Sys2Proof/Machine/Crc.lean ====
section
/-! DEFINITION. The check-value units (R325 to R327): the four algorithms, and the register stores of a context. -/

namespace Sys2Proof.Machine

/-- Width of an algorithm. -/
def crcWidth (p : BitVec 2) : Nat := if p = 2 then 16 else if p = 3 then 8 else 32
/-- Initial value of an algorithm. -/
def crcInit (p : BitVec 2) : W32 := if p = 2 then 0xFFFF else if p = 3 then 0 else 0xFFFFFFFF
/-- Final XOR of an algorithm. -/
def crcFinal (p : BitVec 2) : W32 := if p = 0 ∨ p = 1 then 0xFFFFFFFF else 0
/-- Polynomial, bit-reversed where the algorithm is reflected. -/
def crcPoly (p : BitVec 2) : W32 :=
  if p = 0 then 0xEDB88320 else if p = 1 then 0x82F63B78 else if p = 2 then 0x1021 else 0x07

/-- One bit of a reflected algorithm. -/
def crcBitR (q r : W32) : W32 := if r.getLsbD 0 then (r >>> 1) ^^^ q else r >>> 1
/-- One bit of an algorithm of width `w` that is not reflected. -/
def crcBitN (w : Nat) (q r : W32) : W32 :=
  (if r.getLsbD (w - 1) then (r <<< 1) ^^^ q else r <<< 1) &&& BitVec.ofNat 32 (2 ^ w - 1)

/-- Advance a running value by one byte. -/
def crcByte (p : BitVec 2) (run : W32) (b : Byte) : W32 :=
  let q := crcPoly p
  if p = 0 ∨ p = 1 then
    let f := crcBitR q
    f (f (f (f (f (f (f (f (run ^^^ b.setWidth 32))))))))
  else
    let w := crcWidth p
    let f := crcBitN w q
    f (f (f (f (f (f (f (f (run ^^^ b.setWidth 32 <<< (w - 8)))))))))

/-- Advance a running value by a byte string. -/
def crcBytes (p : BitVec 2) (run : W32) (l : List Byte) : W32 := l.foldl (crcByte p) run
/-- Check value of a byte string. -/
def crcOf (p : BitVec 2) (l : List Byte) : W32 := crcBytes p (crcInit p) l ^^^ crcFinal p
/-- The host port's header check (R326). -/
def crc8 (l : List Byte) : Byte := (crcOf 3 l).setWidth 8
/-- The host port's trailer check (R326). -/
def crc32c (l : List Byte) : W32 := crcOf 1 l

/-- Running value of a context as its registers read it: bits above the width read 0 (R327). -/
def Crc.runReg (x : Crc) : W32 := x.run &&& BitVec.ofNat 32 (2 ^ crcWidth x.poly - 1)
/-- Check value of a context (R325). -/
def Crc.chk (x : Crc) : W32 := x.runReg ^^^ crcFinal x.poly
/-- CRC_CFGc. -/
def Crc.cfgReg (x : Crc) : HWord := bit x.held ++ (0#13) ++ x.poly

/-- A write to a context: none of it while a port holds the context, which sets CONFLICT (R326). -/
def crcStore (x : CtxId) (f : Crc → Crc) (s : State) : State :=
  if s.crc[x].held then { s with log := { s.log with crcStat := true } }
  else modCrc s x f

/-- A write to CRC_CFGc loads the initial value of the algorithm it selects (R325). -/
def crcSetCfg (v : HWord) (k : Crc) : Crc := { k with poly := v.setWidth 2, run := crcInit (v.setWidth 2) }
/-- A byte written to CRC_DIN8c (R325). -/
def crcIn8 (v : HWord) (k : Crc) : Crc := { k with run := crcByte k.poly k.run (v.setWidth 8) }
/-- Two bytes written to CRC_DIN16c, bits 15:8 first (R325). -/
def crcIn16 (v : HWord) (k : Crc) : Crc :=
  { k with run := crcByte k.poly (crcByte k.poly k.run (v.extractLsb' 8 8)) (v.setWidth 8) }
/-- A write to CRC_RUNc_LO latches bits 15:0 (R327). -/
def crcLatch (v : HWord) (k : Crc) : Crc := { k with latch := v }
/-- A write to CRC_RUNc_HI loads all 32 bits, less those above the width (R327). -/
def crcLoad (v : HWord) (k : Crc) : Crc :=
  { k with run := (v ++ k.latch) &&& BitVec.ofNat 32 (2 ^ crcWidth k.poly - 1) }

end Sys2Proof.Machine
end

