-- ==== Sys2Proof/Machine/Farrier.lean ====
section
/-! DEFINITION. Scrub and verify passes of the Farrier (R139, R337, R339), FAR_WEAR, arming a capture (R333). -/

namespace Sys2Proof.Machine

/-- Act n times. -/
def times (n : Nat) (f : State → State) (s : State) : State := (List.range n).foldl (fun s _ => f s) s

/-- Errors a pass finds in a memory (R337): 0 SRAM, 1 Logbook, 2 eFlash. -/
def scrub (memory : W32) (x : ScrubIn) (s : State) : State :=
  let s1 := times x.corrected (fun s => raise 114 memory { s with far := { s.far with ecc := inc16 s.far.ecc } }) s
  times x.uncorrected (raise 115 memory) s1

/-- The Farrier's work runs only while a background window is open (R43); test pulses need none (R337). -/
def inWindow (f : State → State) (s : State) : State := if s.frm.bgOpen then f s else s

/-- SRAM_SCRUB_DONE (R337). -/
def execSramScrubDone (x : ScrubIn) (s : State) : Host.Outcome State Fault Refusal :=
  .next (afterBoot (inWindow fun s => jobDone 1 (scrub 0 x s)) s)

/-- LOGBOOK_SCRUB_DONE (R337). -/
def execLogbookScrubDone (x : ScrubIn) (s : State) : Host.Outcome State Fault Refusal :=
  .next (afterBoot (inWindow fun s => jobDone 2 (scrub 1 x s)) s)

/-- A factory block fails its check (R139). -/
def factoryFail (b : Nat × Nat) (s : State) : State :=
  raise 91 ((BitVec.ofNat 4 b.1 ++ BitVec.ofNat 12 b.2).setWidth 32)
    { s with cal := { s.cal with factErr := true, bad := b :: s.cal.bad.filter fun x => x ≠ b } }

/-- EFLASH_VERIFY_DONE (R139, R337, R339): each block to rewrite asks for leave. -/
def execEflashVerifyDone (x : ScrubIn) (s : State) : Host.Outcome State Fault Refusal :=
  .next (afterBoot (inWindow fun s =>
    let s1 := x.factoryBad.foldl (fun s b => factoryFail b s) (scrub 2 x s)
    jobDone 3 (times x.rewritten (groomReq .refresh) s1)) s)

/-- FAR_WEAR (R339): records rotate over 256 sectors, each NV store over 8. -/
def wearReg (s : State) : HWord :=
  let m := s.far.nvErase.toList.foldl (fun m n => max m ((n + 7) / 8)) ((s.far.recErase + 255) / 256)
  sat16u (m / 16)

/-- A write of LOG_WFARM (R333): ARM while armed has no effect. -/
def storeWfarm (v : HWord) (s : State) : State :=
  if v.getLsbD 0 && !(s.log.bufs[(2 : Fin 5)]).armed then
    modBuf { s with log := { s.log with trigFrm := none } } 2 fun l => { l with armed := true }
  else s

/-- LOG_WFARM (R333). -/
def execLogWfarm (acc : Access) (v : HWord) (s : State) : Host.Outcome State Fault Refusal :=
  .next (guarded acc 0x0C35 v (storeWfarm v) s)

end Sys2Proof.Machine
end

