-- ==== Sys2Proof/Machine/Net.lean ====
section
/-! DEFINITION. The network (spec/12_network_xiram.md): bridging and gates (R286 to R290), the summation train (R291 to R300),
EVENT messages (R306). -/

namespace Sys2Proof.Machine

/-! ### Ports and bridging -/

/-- The ports and the switch run (R389 step 8, R390). -/
def netUp (s : State) : Bool := coreOn s && !s.sys.recov && !s.sys.swFail

/-- A request for NET_IP reaches the device: copied to a tap, discarded on one (R287, R302). -/
def forIp (p : PortId) (x : Tapped) (ip : W32) (f : State → State) (s : State) : State :=
  if !(netUp s && portUp s p) || tapDrops s p then s
  else
    let s1 := tapCopy p x s
    if ip ≠ 0 && ip = netIp s then f s1 else s1

/-- ARP_REQUEST (R302). -/
def execArpRequest (p : PortId) (ip : W32) (mac : BitVec 48) (s : State) : Host.Outcome State Fault Refusal :=
  .next (forIp p (.arp ip mac) ip (fun s => { s with sent := .arp p mac :: s.sent }) s)

/-- ICMP_ECHO (R302): fragments are discarded. -/
def execIcmpEcho (p : PortId) (ip : W32) (frag : Bool) (data : List Byte) (s : State) : Host.Outcome State Fault Refusal :=
  .next (forIp p (.icmp ip data) ip (fun s => if frag then s else { s with sent := .icmp p data :: s.sent }) s)

/-- The VLAN entry of a VID: member and untagged sets (R286). -/
def vlanOf (s : State) (vid : BitVec 12) : Option (BitVec 3 × BitVec 3) :=
  ((List.range 64).find? fun i => vid ≠ 0 && decide (fld (act s (0x0900 + 2 * i)) 11 0 = vid.toNat)).map fun i =>
    let w := act s (0x0901 + 2 * i)
    (w.setWidth 3, w.extractLsb' 4 3)

/-- VID of a received frame: its tag, or PVID for an untagged or priority-tagged one. -/
def vidOf (s : State) (p : PortId) (f : EthFrame) : BitVec 12 :=
  match f.tag with
  | some (_, v) => if v = 0 then (act s (0x0800 + p.val)).setWidth 12 else v
  | none => (act s (0x0800 + p.val)).setWidth 12

/-- A group address. -/
def isGroupMac (m : BitVec 48) : Bool := m.getLsbD 40

/-- Learning (R286): 1,024 addresses; a known one is refreshed. -/
def learn (p : PortId) (f : EthFrame) (vid : BitVec 12) (s : State) : State :=
  let rest := s.net.table.filter fun e => ¬ (e.1 = f.sa ∧ e.2.1 = vid)
  if isGroupMac f.sa || decide (1024 ≤ rest.length) then s
  else { s with net := { s.net with table := (f.sa, vid, p, f.t) :: rest } }

/-- The originator passes no other frame between P0 and P1 while its copies come back (R299). -/
def ringBlocks (s : State) (a b : PortId) : Bool :=
  a ≠ 2 && b ≠ 2 && ringOrig s.cfg.active && decide (2 ≤ ringN s.cfg.active) && !s.net.noReturn

/-- Ports a frame goes out of: the learned one, else every member, never its own. -/
def egress (s : State) (p : PortId) (f : EthFrame) (vid : BitVec 12) (member : BitVec 3) : List PortId :=
  let known := s.net.table.find? fun e => e.1 = f.da ∧ e.2.1 = vid
  allPorts.filter fun q =>
    q ≠ p && member.getLsbD q.val && portUp s q && !(q = 2 && tapOn s) && !ringBlocks s p q &&
      (match known with | some e => isGroupMac f.da || e.2.2.1 = q | none => true)

/-- A frame is bridged: ingress filtering, learning, forwarding under the gates (R286, R290). Frames for this device go no
further. -/
def bridge (p : PortId) (f : EthFrame) (s : State) : State :=
  let vid := vidOf s p f
  match vlanOf s vid with
  | none => s
  | some (member, untag) =>
    if !member.getLsbD p.val then s
    else
      let s1 := learn p f vid s
      if f.da = s1.net.mac then s1
      else (egress s1 p f vid member).foldl (fun s q => sendFrame f vid (untag.getLsbD q.val) s q) s1

/-- ETH_FRAME_FORWARD (R285 to R287). -/
def execEthFrameForward (p : PortId) (f : EthFrame) (s : State) : Host.Outcome State Fault Refusal :=
  .next (
    if !(netUp s && portUp s p) then s
    else if !f.fcsOk then modPort (atTime f.t s) p fun x => { x with fcsErr := true }
    else if 1522 < f.len then atTime f.t s
    else if tapDrops s p then atTime f.t s
    else
      let s1 := atTime f.t s
      let s2 := if tapOn s1 && portUp s1 2 then sendFrame f (vidOf s1 p f) f.tag.isNone s1 2 else s1
      bridge p f s2)

/-- MAC_AGEING (R286): 300 s. -/
def execMacAgeing (mac : BitVec 48) (vid : BitVec 12) (t : Nat) (s : State) : Host.Outcome State Fault Refusal :=
  .next (
    if !netUp s then s
    else { atTime t s with net := { s.net with table := s.net.table.filter fun e =>
      ¬ (e.1 = mac ∧ e.2.1 = vid ∧ e.2.2.2 + 300000000000 ≤ t) } })

/-- GATE_ENTRY_END (R290): the next entry begins when the intervals so far have passed, and frames that wait for it go; the last
entry holds until the tick. -/
def execGateEntryEnd (p : PortId) (s : State) : Host.Outcome State Fault Refusal :=
  .next (
    let c := act s (0x0880 + p.val)
    let k := (s.net.ports[p]).gate + 1
    if netUp s && c.getLsbD 15 && decide (k < fld c 6 0) then
      drainPort (atTime (s.frm.tickT + gateStart (gateList s p) k) (modPort s p fun x => { x with gate := k })) p
    else s)

/-- A ring port whose loss turns copies (R299). -/
def turns (s : State) (p : PortId) : Bool := p ≠ 2 && ringRed s.cfg.active && decide (2 ≤ ringN s.cfg.active)

/-- PORT_LINK_CHANGE (R285, R288, R299): what a port without a link had heard and the frames that waited for it are gone (log entry 62). -/
def execPortLinkChange (p : PortId) (up spd : Bool) (s : State) : Host.Outcome State Fault Refusal :=
  .next (
    let on := up && (act s (0x0800 + p.val)).getLsbD 15
    if !netUp s then s
    else
      let was := (s.net.ports[p]).link
      let s0 := modPort s p fun x => { x with link := on, spd := spd
                                              ann := if on then x.ann else none, waiting := if on then x.waiting else [] }
      let s1 := if was = on then s0 else bmca s0
      if was = on then s1
      else
        let s2 := raise 118 (BitVec.ofNat 32 (256 * p.val + (if on then 1 else 0))) s1
        if !on && turns s2 p then raise 119 (BitVec.ofNat 32 p.val) s2 else s2)

/-! ### The device's own segment (R273, R293 to R297) -/

/-- Words as bytes, most significant first (R294). -/
def wordsBe (l : List W32) : List Byte := l.flatMap fun w => beBytes 4 w.toNat
/-- Zero fill to n bytes. -/
def padTo (n : Nat) (l : List Byte) : List Byte := (l ++ List.replicate n 0).take n
/-- Payload length of the device's own position. -/
def ownLen (s : State) (c : CfgSet) : Option Nat := (ownPos s c).map (ringLen c)

/-- The inbound plaintext (R294). -/
def inPlain (s : State) (n : Nat) : List Byte :=
  padTo n (wordsBe ([s.frm.inNo.setWidth 32, s.pi.sys[1]] ++ (mapped s.cfg.active 0x0818).map fun c => s.pi.inw[c]))

/-- The 16 header bytes of a segment, its additional data (R273, R293). -/
def segHead (g : SegIn) : List Byte :=
  [g.addr, g.flags] ++ beBytes 2 g.len.toNat ++ beBytes 4 g.res.toNat ++ beBytes 8 g.seq.toNat
/-- A segment on the wire (R293). -/
def segBytes (g : SegIn) : List Byte := segHead g ++ g.data ++ beBytes 16 g.tag.toNat
/-- The tag of a segment under a key and IV of a session: 2 to the device, 3 from it (R273). -/
def segTag (x : Sess) (k : Nat) (g : SegIn) : BitVec 128 :=
  Config.gcmTag (sessKey x k) (nonceOf (sessIv x k) g.seq) (segHead g) g.data

/-- The replacement segment (R273, R295, R297): FLAGS has DONE; sealed under KC_d2c, or NOBIND and zeros while no session is
bound. -/
def replSeg (s : State) (n : Nat) : SegIn :=
  let head : SegIn := { addr := s.sys.addr.setWidth 8, flags := 5, len := BitVec.ofNat 16 n, seq := 0
                        data := List.replicate n 0, tag := 0 }
  match s.sec.bound with
  | none => head
  | some i =>
    let x := s.sec.sess[i]
    let g : SegIn := { head with flags := 1, seq := s.sec.cycSend
                                 data := gcmText (sessKey x 3) (nonceOf (sessIv x 3) s.sec.cycSend) (inPlain s n) }
    { g with tag := segTag x 3 g }

/-- XI_SEND (R291, R295, R297). -/
def execXiSend (slot : BitVec 8) (s : State) : Host.Outcome State Fault Refusal :=
  .next (afterBoot (fun s =>
    if slotIs s slot 6 then
      (match ownLen s s.cfg.active with
       | none => s
       | some n =>
         let s1 : State := { atSlot slot s with net := { s.net with xiSent := true, repl := some (replSeg s n) } }
         if s.sec.bound.isSome then { s1 with sec := { s1.sec with cycSend := s1.sec.cycSend + 1 } } else s1)
    else s) s)

/-- The words of an outbound plaintext. -/
def plainWords : Nat → List Byte → List W32
  | 0, _ => []
  | n + 1, l => BitVec.ofNat 32 (ofBe (l.take 4)) :: plainWords n (l.drop 4)

/-- The verified values go to their channels (R38); a channel with another writer refuses its value (R18). -/
def putSegment (words : List W32) (s : State) : State :=
  ((mapped s.cfg.active 0x0814).zip words).foldl (fun s x =>
    if writerA s x.1 = 5 then putOut x.1 x.2 s else outOwner x.1 5 s) s

/-- XI_DEADLINE (R38, R291). -/
def execXiDeadline (slot : BitVec 8) (s : State) : Host.Outcome State Fault Refusal :=
  .next (afterBoot (fun s =>
    if slotIs s slot 7 && decide (0 < ringN s.cfg.active) then
      (match s.net.verified with
       | some (_, words) => putSegment words { atSlot slot s with
           frm := { s.frm with xiHeld := false }, net := { s.net with verified := none, xiPast := true } }
       | none => raise 65 0 { atSlot slot s with
           frm := { s.frm with xiLate := true, xiHeld := true }, net := { s.net with xiPast := true } })
    else s) s)

/-- The outcome of verifying a segment under KC_c2d of the bound session (R38, R273, R295): a later copy of a frame changes
nothing, a segment verified after XI_DEADLINE is discarded. -/
def verifySeg (g : SegIn) (dir2 : Bool) (s : State) : State :=
  if decide (ringN s.cfg.active = 0) || s.net.xiPast then s
  else match s.sec.bound with
    | none => refuse ifSeg cTag s
    | some i =>
      let x := s.sec.sess[i]
      if g.tag ≠ segTag x 2 g then refuse ifSeg cTag s
      else if s.net.xiDone && s.sec.boundSeq = some g.seq then s
      else if (match s.sec.boundSeq with | some h => decide (g.seq ≤ h) | none => false) then refuse ifSeg cReplay s
      else
        let plain := gcmText (sessKey x 2) (nonceOf (sessIv x 2) g.seq) g.data
        let words := plainWords (mapped s.cfg.active 0x0814).length plain
        modSess { s with
          sec := { s.sec with boundSeq := some g.seq }
          net := { s.net with xiDone := true, dir := if s.net.xiDone then s.net.dir else dir2
                              verified := some (s.frm.no, words) } } i fun k => { k with lastT := s.now }

/-- SEGMENT_VERIFIED (R295): verification of the segment that passed first ends; the row names it and its direction. -/
def execSegmentVerified (g : SegIn) (dir2 : Bool) (t : Nat) (s : State) : Host.Outcome State Fault Refusal :=
  .next (afterBoot (fun s => match s.net.verifyQ with
    | [] => s
    | x :: rest => if x = (g, dir2) then verifySeg g dir2 (atTime t { s with net := { s.net with verifyQ := rest } }) else s) s)

/-! ### Carriages (R292, R295 to R299) -/

/-- Ring number of a set. -/
def ringNo (c : CfgSet) : Nat := fld (c.reg 0x080D) 15 12
/-- DOMAIN and RING are the device's own. -/
def ringMatch (c : CfgSet) (x : Carriage) : Bool := x.domain = c.reg 0x080C && decide (x.ring.toNat = ringNo c)

/-- The set whose ring layout a carriage travels under (R296): none for another frame. -/
def ringSet (s : State) (x : Carriage) : Option CfgSet :=
  if x.frm = s.frm.no then some s.cfg.active
  else if x.frm = s.frm.prev then some (s.net.prevRing.getD s.cfg.active) else none

/-- Count a segment error. -/
def segError (s : State) : State := { s with net := { s.net with segErr := inc16 s.net.segErr } }

/-- Index of the device's own segment in a carriage, where the table puts one there. -/
def ownIdx (s : State) (c : CfgSet) (x : Carriage) : Option Nat :=
  match ownPos s c with
  | some p => ((carriages c).getD x.cidx []).findIdx? fun q => q = p
  | none => none

/-- A segment is the one the ring table gives for the device. -/
def segFits (s : State) (c : CfgSet) (g : SegIn) : Bool :=
  g.addr = s.sys.addr.setWidth 8 && some g.len.toNat = ownLen s c

/-- A carriage on the wire, from its destination address to the end of its segments (R292; log entry 66): IEEE 802.1Q tag and R-TAG have the
types that the standards give them. -/
def carriageBytes (x : Carriage) : List Byte :=
  beBytes 6 x.da.toNat ++ beBytes 6 x.sa.toNat ++ [0x81, 0x00] ++ beBytes 2 (8192 * x.pcp.toNat + x.vid.toNat) ++
    [0xF1, 0xC1, 0, 0] ++ beBytes 2 x.rtag.toNat ++ beBytes 2 x.etype.toNat ++ [x.kind, x.flags] ++
    beBytes 2 x.domain.toNat ++ [x.ring, BitVec.ofNat 8 x.cidx, BitVec.ofNat 8 x.k, BitVec.ofNat 8 x.firstPos] ++
    beBytes 6 x.frm.toNat ++ [0, 0] ++ x.segs.flatMap segBytes

/-- A carriage leaves by a port. -/
def sendCar (p : PortId) (x : Carriage) (s : State) : State :=
  { s with sent := .carriage p (carriageBytes x) x.fcsOk :: s.sent }

/-- A frame is a carriage: NET_ETYPE and KIND 0x10 (R292). -/
def isCarriage (s : State) (x : Carriage) : Bool := x.etype = act s 0x0808 && x.kind = 0x10

/-- What the device makes of a carriage under its ring table (R295): none where DOMAIN, RING, ADDR or LEN differ, and it goes
on unchanged; else the carriage with the device's segment replaced, and the segment that came in. -/
def substitute (s : State) (c : CfgSet) (x : Carriage) : Option (Carriage × Option SegIn) :=
  if !ringMatch c x then none
  else match ownIdx s c x with
    | none => some (x, none)
    | some k => match x.segs[k]? with
      | none => none
      | some g =>
        if !segFits s c g then none
        else some (match s.net.repl with | some r => { x with segs := x.segs.set k r } | none => x, some g)

/-- A copy of the train that is out comes back to the originator, which takes it off the ring (R298). -/
def comeBack (x : Carriage) (s : State) : State :=
  if x.fcsOk && s.net.out && decide (s.net.launched.map (·.1) = some x.frm) then
    { s with net := { s.net with ret := s.net.ret ++ [x] } }
  else s

/-- A carriage goes on: by the other ring port, or turned back where that has no link and RED is 1 (R299). -/
def passOn (p : PortId) (c : CfgSet) (x : Carriage) (s : State) : State :=
  let q : PortId := if p = 0 then 1 else 0
  if portUp s q then sendCar q x s
  else if ringRed c then
    sendCar p { x with flags := x.flags ||| 8 } { s with net := { s.net with turned := true } }
  else s

/-- The device's own segment came in: a bad FCS is counted, and a segment that is not NULL goes to verification (R295); what
comes back to the originator has been verified in the feed (R298). -/
def ownSeg (c : CfgSet) (x : Carriage) (g : Option SegIn) (s : State) : State :=
  match g with
  | none => s
  | some g =>
    let s1 := if x.fcsOk then s else segError s
    if ringOrig c || g.flags.getLsbD 1 then s1
    else { s1 with net := { s1.net with verifyQ := s1.net.verifyQ ++ [(g, x.flags.getLsbD 0)] } }

/-- CARRIAGE_RX (R290, R295, R296, R299), under the ring layout of the carriage's frame. A feed or a return on its way is a
frame like another (log entry 62). -/
def execCarriageRx (p : PortId) (x : Carriage) (delayed : Bool) (s : State) : Host.Outcome State Fault Refusal :=
  .next (afterBoot (fun s =>
    let c := (ringSet s x).getD s.cfg.active
    if p = 2 ∨ portUp s p = false ∨ netUp s = false ∨ ringN c = 0 ∨ isCarriage s x = false ∨ x.flags &&& 6 ≠ 0 then s
    else
      let s1 := tapCopy p (.carriage x) (if delayed then { s with net := { s.net with delayed := true } } else s)
      let s2 := if x.fcsOk then s1 else modPort s1 p fun y => { y with fcsErr := true }
      match (ringSet s2 x).bind fun c => substitute s2 c x with
      | none => passOn p c x (segError s2)
      | some (y, g) =>
        let s3 := ownSeg c x g s2
        if ringOrig c then comeBack x s3 else passOn p c y s3) s)

/-- A feed carriage fits the originator's ring (R295, R298). -/
def feedFits (s : State) (c : CfgSet) (x : Carriage) : Bool :=
  ringMatch c x && decide (x.k = (carriages c).length) && decide (x.cidx < x.k) &&
    (x.cidx ≠ 0 || (x.segs.head?.map (segFits s c)).getD false)

/-- FEED_RX (R298, R300): taken in before the originator's own XI_SEND, once for each index; the originator verifies its own
segment from it. -/
def execFeedRx (p : PortId) (x : Carriage) (s : State) : Host.Outcome State Fault Refusal :=
  .next (afterBoot (fun s0 =>
    let c := s0.cfg.active
    if netUp s0 = false ∨ portUp s0 p = false ∨ tapDrops s0 p = true then s0
    else
    let s := tapCopy p (.carriage x) s0
    if ringOrig c = false ∨ ringN c = 0 ∨ x.flags.getLsbD 1 = false ∨ isCarriage s x = false ∨ x.da ≠ s.net.mac then s
    else if !x.fcsOk then segError (modPort s p fun y => { y with fcsErr := true })
    else if !feedFits s c x then segError s
    else
      let again := s.net.feed.any fun y => y.frm = x.frm && y.cidx = x.cidx
      let open_ := (x.frm = s.frm.no && !s.net.xiSent) || x.frm = s.frm.no + 1
      if again || !open_ then { s with net := { s.net with feedLate := true } }
      else { s with net := { s.net with
        feed := x :: s.net.feed, feedFrm := some s.frm.no, feedMac := x.sa, feedPort := p
        verifyQ := s.net.verifyQ ++ (if x.frm = s.frm.no then feedSegs x else []) } }) s)

/-- A NULL segment (R298). -/
def nullSeg (c : CfgSet) (p : Nat) : SegIn :=
  { addr := BitVec.ofNat 8 (ringAddr c p), flags := 2, len := BitVec.ofNat 16 (ringLen c p), seq := 0
    data := List.replicate (ringLen c p) 0, tag := 0 }

/-- A carriage of the train as launched: the feed's, or NULL segments, with the originator's own segment replaced. -/
def launchCar (s : State) (dir2 : Bool) (k : Nat) (l : List Nat) : Carriage :=
  let c := s.cfg.active
  let base : List SegIn := match s.net.feed.find? fun y => y.frm = s.frm.no ∧ y.cidx = k with
    | some f => f.segs
    | none => l.map (nullSeg c)
  let tag := c.reg 0x0811
  { da := s.net.mac, sa := s.net.mac, pcp := tag.extractLsb' 13 3, vid := tag.setWidth 12, rtag := s.frm.no.setWidth 16
    etype := c.reg 0x0808, kind := 0x10
    flags := if dir2 then 1 else 0, domain := c.reg 0x080C, ring := BitVec.ofNat 8 (ringNo c), cidx := k
    k := (carriages c).length, firstPos := l.headD 0, frm := s.frm.no, fcsOk := true
    segs := match s.net.repl with
      | some r => if k = 0 then base.set 0 r else base
      | none => base }

/-- The train of the running frame in one direction. -/
def trainCars (s : State) (dir2 : Bool) : List Carriage :=
  let l := carriages s.cfg.active
  (List.range l.length).map fun k => launchCar s dir2 k (l.getD k [])

/-- A feed carriage has been accepted in the latest 1,024 frames (R298). -/
def fedLately (s : State) : Bool :=
  match s.net.feedFrm with
  | some f => decide ((s.frm.no - f).toNat < 1024)
  | none => false
/-- A segment of the return (R298): the first to come back with DONE set, else as launched. -/
def returnSeg (ret : List Carriage) (cidx i : Nat) (g : SegIn) : SegIn :=
  ((ret.filter fun x => x.cidx = cidx).findSome? fun x => (x.segs[i]?).filter fun y => y.flags.getLsbD 0).getD g
/-- The carriages of the return, with RETURN set, to the source of the latest accepted feed. -/
def returnCars (mac : BitVec 48) (ret cars : List Carriage) : List Carriage :=
  cars.map fun x =>
    { x with da := mac, flags := 4, segs := (x.segs.zip (List.range x.segs.length)).map fun p => returnSeg ret x.cidx p.2 p.1 }
/-- Return the train to the controller, through the port of its feed. -/
def sendBack (cars : List Carriage) (s : State) : State :=
  if fedLately s then (returnCars s.net.feedMac s.net.ret cars).foldl (fun s x => sendCar s.net.feedPort x s) s else s

/-- Send the carriages of one direction out of its port. -/
def sendTrain (dir2 : Bool) (s : State) : State :=
  let p : PortId := if dir2 then 1 else 0
  (trainCars s dir2).foldl (fun s x => sendCar p x s) s

/-- The ring-clear time from the tick (R298): t_L + B × W + h_max × H. -/
def ringClearNs (c : CfgSet) : Nat := launchNs c + byteNs c * trainLen c + hopMax c * hopNs c

/-- TRAIN_LAUNCH (R298, R300): at t_L; with N = 1 only the return goes out. -/
def execTrainLaunch (s : State) : Host.Outcome State Fault Refusal :=
  .next (afterBoot (fun s =>
    let c := s.cfg.active
    if netUp s = false ∨ ringOrig c = false ∨ ringN c = 0 ∨ s.net.launched.map (·.1) = some s.frm.no ∨
        s.net.xiSent = false then s
    else
      let cars := trainCars s false
      let s1 : State := { s with net := { s.net with
        launched := some (s.frm.no, cars), ret := [], out := decide (2 ≤ ringN c), launchRed := ringRed c
        clearT := s.frm.tickT + ringClearNs c } }
      if ringN c = 1 then sendBack cars s1
      else if ringRed c then sendTrain true (sendTrain false s1) else sendTrain false s1) s)

/-- A carriage of the copy of one direction has not come back. -/
def missing (s : State) (dir2 : Bool) (k : Nat) : Bool :=
  (List.range k).any fun i => !s.net.ret.any fun x => x.flags.getLsbD 0 = dir2 && x.cidx = i

/-- TRAIN_RETURN (R298, R299): when every launched copy has come back, or at the ring-clear time; whatever port a copy has come
back by, it has come back (log entry 62). -/
def execTrainReturn (t : Nat) (s : State) : Host.Outcome State Fault Refusal :=
  .next (afterBoot (fun s => match s.net.launched with
    | none => s
    | some (_, cars) =>
      let m1 := missing s false cars.length
      let m2 := s.net.launchRed && missing s true cars.length
      if !s.net.out || ((m1 || m2) && decide (t < s.net.clearT)) then s
      else
        let s1 := sendBack cars (atTime t s)
        { s1 with net := { s1.net with
          out := false, ret := []
          missPort := if m1 then 0 else if m2 then 1 else s.net.missPort
          missRun := if m1 || m2 then s.net.missRun + 1 else 0
          backRun := if m1 || m2 then 0 else s.net.backRun + 1 } }) s)

/-- RING_OPEN (R299): 3 frames without a copy; the address table is flushed. The port `p` of the missing copy is the one it was
launched from (log entry 62). -/
def execRingOpen (p : PortId) (s : State) : Host.Outcome State Fault Refusal :=
  .next (afterBoot (fun s =>
    if ringOrig s.cfg.active && decide (3 ≤ s.net.missRun) && !s.net.noReturn && decide (p = s.net.missPort) then
      raise 119 (BitVec.ofNat 32 p.val) { s with net := { s.net with noReturn := true, table := [] } }
    else s) s)

/-- RING_CLOSE (R299): 3 frames with every copy back. -/
def execRingClose (s : State) : Host.Outcome State Fault Refusal :=
  .next (afterBoot (fun s =>
    if decide (3 ≤ s.net.backRun) && s.net.noReturn then { s with net := { s.net with noReturn := false } } else s) s)

/-! ### EVENT messages (R239, R306) -/

/-- Body of an EVENT message. -/
def evBody (x : EvXi) : List Byte :=
  [BitVec.ofNat 8 x.ev.val, 0] ++ beBytes 2 (min 0xFFFF x.merged) ++ beBytes 4 x.payload.toNat ++ beBytes 6 x.frm.toNat ++
    [0, 0] ++ beBytes 8 x.t
/-- Sessions an event goes to (R306, R380). -/
def evSessions (s : State) (e : Fin 128) : List (Fin 16) :=
  (List.finRange 16).filter fun i =>
    let x := s.sec.sess[i]
    isLive s i && x.iface ≠ .host && x.evMask.getLsbD e.val && decide (1 ≤ x.minor)
/-- Send one event to its sessions. -/
def sendEvent (x : EvXi) (s : State) : State :=
  (evSessions s x.ev).foldl (fun s i => bumpSend (some i) { s with sent := .event i (evBody x) (msgTag s (s.sec.sess[i]).iface) :: s.sent }) s

/-- EVENT (R239, R306): at a tick, the raises of the frames that have ended, in ascending PRI, then event number. -/
def execEventMsg (s : State) : Host.Outcome State Fault Refusal :=
  .next (afterBoot (fun s =>
    let old := s.evt.xi.filter fun x => x.frm ≠ s.frm.no
    let l := old.mergeSort fun a b => evLe s a.ev b.ev
    let s1 : State := { s with evt := { s.evt with xi := s.evt.xi.filter fun x => x.frm = s.frm.no } }
    l.foldl (fun s x => sendEvent x s) s1) s)

end Sys2Proof.Machine
end

