-- ==== Sys2Proof/Machine/Image.lean ====
section
/-! DEFINITION. Program images: layout, the checks of R225, loading (R219 to R226). -/

namespace Sys2Proof.Machine

/-- A section entry (R223). -/
structure Sect where
  typ : Nat
  core : Nat
  rsv : Nat
  addr : Nat
  ofs : Nat
  len : Nat

/-- A task entry as bytes (R222). -/
structure TaskE where
  core : Nat
  index : Nat
  cls : Nat
  k : Nat
  phase : Nat
  slot : Nat
  bgpri : Nat
  entry : Nat
  stack : Nat
  budget : Nat
  tally : Nat
  start : Nat
  rsv : Nat

/-- Bytes of an image as little-endian numbers. -/
def le (b : List Byte) (o n : Nat) : Nat := ofLe (slice b o n)
/-- CORES, NTASK and NSECT. -/
def imgCores (b : List Byte) : Nat := le b 0x14 1
def imgNTask (b : List Byte) : Nat := le b 0x15 1
def imgNSect (b : List Byte) : Nat := le b 0x16 1
/-- End of the section table. -/
def imgEnd (b : List Byte) : Nat := 80 + 32 * imgNTask b + 16 * imgNSect b

/-- Task entry i. -/
def taskE (b : List Byte) (i : Nat) : TaskE :=
  let o := 80 + 32 * i
  { core := le b o 1, index := le b (o + 1) 1, cls := le b (o + 2) 1, k := le b (o + 3) 1, phase := le b (o + 4) 2
    slot := le b (o + 6) 1, bgpri := le b (o + 7) 1, entry := le b (o + 8) 4, stack := le b (o + 12) 4
    budget := le b (o + 16) 4, tally := le b (o + 20) 2, start := le b (o + 22) 1, rsv := le b (o + 23) 9 }
/-- Section entry i. -/
def sectE (b : List Byte) (i : Nat) : Sect :=
  let o := 80 + 32 * imgNTask b + 16 * i
  { typ := le b o 1, core := le b (o + 1) 1, rsv := le b (o + 2) 2, addr := le b (o + 4) 4, ofs := le b (o + 8) 4
    len := le b (o + 12) 4 }
/-- NMI_ENTRY of a core (R221). -/
def nmiE (b : List Byte) (c : Nat) : Nat := le b (0x40 + 4 * c) 4

/-- Step 1 of R225. -/
def imgFormat (b : List Byte) : Bool :=
  gnopelHead 1 b.length b && decide (144 ≤ b.length) && decide (imgCores b < 16) &&
    decide (1 ≤ imgNTask b) && decide (imgNTask b ≤ 64) && decide (1 ≤ imgNSect b) && decide (imgNSect b ≤ 32) &&
    decide (le b 0x17 1 = 0) && decide (imgEnd b + 64 ≤ b.length) &&
    ((List.range 4).all fun c => (imgCores b).testBit c || nmiE b c = 0xFFFFFFFF) &&
    ((List.range (imgNTask b)).all fun i => (taskE b i).rsv = 0) &&
    ((List.range (imgNSect b)).all fun i => (sectE b i).rsv = 0)

/-- The memory a section fills: 0 to 3 instruction memories, 4 to 7 data memories, 8 shared SRAM. -/
def sectMem (x : Sect) : Nat := if x.typ = 1 then x.core else if x.typ < 4 then 4 + x.core else 8
/-- First address and size of the window of a section's type (R187). -/
def sectWin (x : Sect) : Nat × Nat :=
  if x.typ = 1 then (0, 0x20000) else if x.typ < 4 then (0x10000000, 0x20000) else (0x20000000, 0x200000)
/-- A section keeps R223. -/
def sectOk (b : List Byte) (x : Sect) : Bool :=
  let w := sectWin x
  decide (1 ≤ x.typ) && decide (x.typ ≤ 5) &&
    (if x.typ < 4 then decide (x.core < 4) && (imgCores b).testBit x.core else x.core = 0) &&
    x.addr % 4 = 0 && decide (w.1 ≤ x.addr) && decide (x.addr + x.len ≤ w.1 + w.2) && x.len % 4 = 0 && decide (4 ≤ x.len) &&
    (if x.typ = 3 ∨ x.typ = 5 then x.ofs = 0
     else x.ofs % 4 = 0 && decide (imgEnd b ≤ x.ofs) && decide (x.ofs + x.len + 64 ≤ b.length))
/-- Two sections overlap in memory. -/
def sectMeet (x y : Sect) : Bool :=
  sectMem x = sectMem y && decide (x.addr < y.addr + y.len) && decide (y.addr < x.addr + x.len)
/-- Sections of an image. -/
def sects (b : List Byte) : List Sect := (List.range (imgNSect b)).map (sectE b)

/-- Step 5 of R225: the index of the first section refused. -/
def mapBad (others : List (List Byte)) (b : List Byte) : Option Nat :=
  (List.range (imgNSect b)).find? fun i =>
    let x := sectE b i
    !sectOk b x || ((sects b).take i).any (sectMeet x) || others.any fun o => (sects o).any (sectMeet x)

/-- An entry address lies in a CODE section of its core. -/
def inCode (b : List Byte) (core a : Nat) : Bool :=
  (sects b).any fun x => x.typ = 1 && x.core = core && decide (x.addr ≤ a) && decide (a < x.addr + x.len)
/-- A task entry keeps R222. -/
def taskOk (b : List Byte) (t : TaskE) : Bool :=
  decide (t.core < 4) && (imgCores b).testBit t.core && decide (t.index ≤ 15) && t.entry % 4 = 0 &&
    t.stack % 8 = 0 && decide (0x10000000 ≤ t.stack) && decide (t.stack ≤ 0x10020000) &&
    (if t.cls = 0 then
       decide (t.k ≤ 10) && decide (t.phase < 2 ^ t.k) && t.bgpri = 0 && inCode b t.core t.entry &&
         decide (1 ≤ t.budget) && decide (t.budget ≤ 5000000) && t.start = 0
     else
       t.cls = 1 && t.k = 0 && t.phase = 0 && t.slot = 0 && decide (t.bgpri ≤ 3) &&
         (inCode b t.core t.entry || (decide (0x60000000 ≤ t.entry) && decide (t.entry < 0x64000000))) &&
         t.budget = 0 && (t.start = 0xFF || decide (t.start ≤ 127)))

/-- Step 6 of R225: the index of the first task refused. -/
def taskBad (b : List Byte) : Option Nat :=
  (List.range (imgNTask b)).find? fun i =>
    let t := taskE b i
    !taskOk b t || (List.range i).any fun j => (taskE b j).core = t.core && (taskE b j).index = t.index

/-- Step 7 of R225. -/
def coreBad (others : List (List Byte)) (b : List Byte) : Bool :=
  (List.range 4).any fun c => (imgCores b).testBit c &&
    (others.any (fun o => (imgCores o).testBit c) ||
     !((List.range (imgNTask b)).any fun i => (taskE b i).core = c))

/-- The checks of R225 in order: CAUSE and INDEX of SYS_IMG_STAT, 0 where the image passes. `key` is the outcome of the key
checks: none accepted, `some true` a key below the epoch or without PROGRAM. -/
def imageCheck (others : List (List Byte)) (key : Option Bool) (sigOk : Bool) (b : List Byte) : BitVec 4 × Byte :=
  if !imgFormat b then (1, 0)
  else match key with
    | none => (3, 0)
    | some bad =>
      if !sigOk then (2, 0)
      else if bad then (3, 0)
      else match mapBad others b with
        | some i => (4, BitVec.ofNat 8 i)
        | none => match taskBad b with
          | some i => (5, BitVec.ofNat 8 i)
          | none => if coreBad others b then (6, 0) else (0, 0)

/-- The key checks of R225 at staging: steps 2 and 4. -/
def imageKey (s : State) (b : List Byte) : Option Bool :=
  match keyCause s (signerOf b) with
  | none => some (!(permOf s (signerOf b)).getLsbD 3)
  | some c => if c = cEpoch then some true else none

/-- A loaded task. -/
def toTask (t : TaskE) : Task :=
  { core := ⟨t.core % 4, by omega⟩, index := BitVec.ofNat 4 t.index, bg := decide (t.cls = 1), k := t.k, phase := t.phase
    slot := BitVec.ofNat 8 t.slot, bgpri := t.bgpri, entry := BitVec.ofNat 32 t.entry, stack := BitVec.ofNat 32 t.stack
    budget := t.budget, tally := t.tally
    start := if h : t.start < 128 then (if t.cls = 1 then some ⟨t.start, h⟩ else none) else none }

/-- Load one section (R223): a section of type 3 or 5 is filled with 0. -/
def loadSect (b : List Byte) (x : Sect) (s : State) : State :=
  let data := if x.typ = 3 ∨ x.typ = 5 then List.replicate x.len 0 else slice b x.ofs x.len
  if x.typ = 1 then modCore s ⟨x.core % 4, by omega⟩ fun k => { k with imem := memPuts k.imem x.addr data }
  else if x.typ < 4 then
    modCore s ⟨x.core % 4, by omega⟩ fun k => { k with dmem := memPuts k.dmem (x.addr - 0x10000000) data }
  else { s with sram := memPuts s.sram (x.addr - 0x20000000) data }

/-- Load an image that passed its checks. -/
def loadImage (b : List Byte) (s : State) : State :=
  let s1 := (sects b).foldl (fun s x => loadSect b x s) s
  { s1 with img := { s1.img with
      tasks := s1.img.tasks ++ (List.range (imgNTask b)).map fun i => toTask (taskE b i)
      nmi := Vector.ofFn fun c => if (imgCores b).testBit c.val then BitVec.ofNat 32 (nmiE b c.val) else s1.img.nmi[c]
      loaded := s1.img.loaded ||| BitVec.ofNat 4 (imgCores b) } }

end Sys2Proof.Machine
end

