-- ==== Sys2Proof/Machine/Power.lean ====
section
/-! DEFINITION. Supplies, reset and start-up (spec/17_power_reset_startup.md): what a reset keeps (R386, R387), BOOT from its
start to its first mode (R389 to R391, R432), and the rows that reset. -/

namespace Sys2Proof.Machine

/-! ### Reset -/

/-- A group die through a core-die reset: its core-die side is lost, and it will miss the heartbeat (R387). The rotation
registers return to their reset values, which ends a lane fault (R8, R151); the converters keep their roles. -/
def resetGrp (x : Grp) : Grp :=
  { x with rot := .reset, shadow := 0, portionNext := none, resend := false, mmFrames := 0, grpMm := false, cfgmm := false, tx := none, xfer := none
           xferNew := false, imgAck := false, fltClr := false, link := false }
/-- A channel through a core-die reset: requests for leave are lost with the Reins, forces with COMMISSION. -/
def resetCh (x : Chan) : Chan :=
  { x with di := { x.di with clrReq := false }
           out := { x.out with leave := false, accepted := false, force := none }
           ai := { x.ai with excLeave := false }
           flt := { x.flt with cfgmm := false, clrReq := false, mm := false, mmFrames := 0 } }
/-- A core through a reset: its memories are undefined until the image is loaded (R223), its stores are kept (R236). -/
def resetCore (k : Core) : Core := { Core.reset with nv := k.nv, nvNext := k.nvNext }

/-- A power loss, which also clears what other resets keep (R387). -/
def losesPower (cause : BitVec 4) : Bool := cause = 1 || cause = 2

/-- The Logbook through a reset (R387). -/
def resetLog (cause : BitVec 4) (l : Log) : Log :=
  if losesPower cause then { State.reset.log with mem := l.mem }
  else { State.reset.log with
    mem := l.mem
    bufs := l.bufs.map fun b => { b with wrapped := false, eccErr := false, armed := false, trigd := false } }

/-- A reset of the logic side (R386, R387). The active set stands until BOOT loads the committed set (R8). -/
def resetState (cause : BitVec 4) (s : State) : State :=
  let r := State.reset
  let pw := losesPower cause
  { r with
    now := s.now
    sys := { r.sys with
      cause := cause, hist := setBit (if pw then 0 else s.sys.hist) (cause.toNat - 1) true
      prevMode := s.sys.mode }
    cfg := { s.cfg with staged := s.cfg.active }
    core := s.core.map resetCore
    grp := s.grp.map resetGrp
    ch := s.ch.map resetCh
    wdt := { r.wdt with fuseOn := s.wdt.fuseOn, fuseWin := s.wdt.fuseWin, fuseHrt := s.wdt.fuseHrt }
    frz := if pw then r.frz
      else if s.sys.mode = .frozen then { r.frz with lastValid := true, lastSrc := s.frz.src }
      else { r.frz with lastValid := s.frz.lastValid, lastSrc := s.frz.lastSrc }
    sec := { r.sec with gen := s.sec.gen, fuses := s.sec.fuses, roots := s.sec.roots, epoch := s.sec.epoch, hpTrust := s.sec.hpTrust,
                        idKey := s.sec.idKey, claimPin := s.sec.claimPin, draws := s.sec.draws }
    net := { r.net with mac := s.net.mac }
    log := resetLog cause s.log
    far := { r.far with recErase := s.far.recErase, nvErase := s.far.nvErase }
    cal := { r.cal with tables := s.cal.tables, atTest := s.cal.atTest }
    upd := { r.upd with
      st := if s.upd.st = .reverting && !s.upd.trialFlag then .reverting
            else if cause = 5 && s.upd.trialFlag then .activating else .idle
      outcome := s.upd.outcome, reason := s.upd.reason, bank := s.upd.bank, trialFlag := s.upd.trialFlag
      active := s.upd.active, old := s.upd.old, images := s.upd.images, oldImages := s.upd.oldImages, store := s.upd.store
      actMode := s.upd.actMode }
    eflash := s.eflash
    sent := s.sent
    pending := s.pending }

/-- POWER_ON_RESET (R384). -/
def execPowerOnReset (s : State) : Host.Outcome State Fault Refusal := .next (resetState 1 s)

/-- BROWNOUT (R384). -/
def execBrownout (s : State) : Host.Outcome State Fault Refusal := .next (resetState 2 s)

/-- PORST_N_ASSERT (R385): `width` is the low time in ns. The device is in OFF until the pin is released. -/
def execPorstNAssert (width : Nat) (s : State) : Host.Outcome State Fault Refusal :=
  if width < 100 then .next s
  else if width < 1000 then .fault .undefinedPulse
  else
    let r := resetState 3 s
    .next { r with sys := { r.sys with mode := .off } }

/-- HARD_RESET (R344): the hard reset timer runs out, frozen or not (R353). -/
def execHardReset (s : State) : Host.Outcome State Fault Refusal :=
  .next (if s.sys.hrtRun then resetState 4 s else s)

/-- RESET_COMMAND (R388). -/
def execResetCommand (s : State) : Host.Outcome State Fault Refusal :=
  .next (onCore (fun s => if s.sys.rstReq then resetState 7 s else s) s)

/-- A write of SYS_RST (R388): a core write has no effect. -/
def storeSysRst (acc : Access) (v : HWord) (s : State) : State :=
  match acc with
  | .core _ => s
  | _ => if v = 0x9A3C then { s with sys := { s.sys with rstReq := true } } else s

/-- SYS_RST (R388). -/
def execSysRst (acc : Access) (v : HWord) (s : State) : Host.Outcome State Fault Refusal :=
  .next (guarded acc 0x0006 v (storeSysRst acc v) s)

/-! ### Straps (R397) -/

/-- The reading bands in ohm. -/
def strapBands : List (Nat × Nat) :=
  [(0, 105), (4465, 4935), (9500, 10500), (20900, 23100), (44650, 49350), (95000, 105000), (209000, 231000)]

/-- Level of a strap reading, none for open; the Boolean says that it lies outside every band. A reading in a gap takes the
band nearest by ratio, the lower one at equal distance. -/
def strapLevel (r : Option Nat) : Nat × Bool :=
  match r with
  | none => (7, false)
  | some v =>
    if 1000000 < v then (7, false)
    else match strapBands.findIdx? fun b => decide (b.1 ≤ v) && decide (v ≤ b.2) with
      | some i => (i, false)
      | none =>
        let k := (strapBands.filter fun b => decide (b.2 < v)).length - 1
        let hi := (strapBands.getD k (0, 0)).2
        let lo := (strapBands.getD (k + 1) (1000000, 0)).1
        (if v * v ≤ hi * lo then k else k + 1, true)

/-! ### Banks (R362, R369, R376) -/

/-- The entry of a manifest for a component. -/
def entryFor (m : Manifest) (typ index : Byte) : Option MfEntry := m.entries.find? fun e => e.typ = typ ∧ e.index = index
/-- A component differs between two manifests. -/
def entryDiff (a b : Option Manifest) (typ index : Byte) : Bool :=
  let f := fun (m : Option Manifest) => (m.bind fun m => entryFor m typ index).map fun e => (e.compVer, e.hash)
  decide (f a ≠ f b)
/-- Stores whose bank changes between two manifests, settings apart (UPD_BANK). -/
def bankDiff (a b : Option Manifest) : BitVec 6 :=
  (0#1) ++ bit ((List.range 4).any fun i => entryDiff a b 5 (BitVec.ofNat 8 i)) ++ bit (entryDiff a b 4 0) ++
    bit (entryDiff a b 3 0) ++ bit (entryDiff a b 2 0) ++ bit (entryDiff a b 1 0)
/-- The images a manifest names, taken from those at hand. -/
def imagesFor (m : Option Manifest) (l : List Image) : List Image :=
  match m with
  | none => []
  | some m => m.entries.filterMap fun e => l.find? fun x => x.hash = e.hash

/-- The staged set becomes the active one: the bank record names its banks. -/
def switchBanks (s : State) : State :=
  let u := s.upd
  { s with upd := { u with
      old := u.active, active := u.staged, staged := none
      oldImages := u.images, images := imagesFor u.staged (u.store ++ u.images)
      bank := u.bank ^^^ bankDiff u.active u.staged, store := [], parts := [], lock := none } }

/-- A revert (R376): the old banks and the old settings are current again, the reverted images are invalid. -/
def revertBanks (reason : BitVec 4) (s : State) : State :=
  let u := s.upd
  { s with
    cfg := { s.cfg with writing := none }
    core := s.core.map fun k => { k with nvNext := none }
    upd := { u with
      active := u.old, old := none, images := u.oldImages, oldImages := [], store := [], trialFlag := false
      bank := u.bank ^^^ bankDiff u.old u.active, outcome := 2, reason := reason, st := .reverting, revert := none
      checks := false, confReq := false, migrated := false } }

/-! ### BOOT -/

/-- Recovery (R390): SYS_MODE reads BOOT, and only the mailbox is served. -/
def enterRecovery (s : State) : State := { s with sys := { s.sys with recov := true } }

/-- The key checks at BOOT of a signer and the certificate stored with what it signed (R225, R262): none where no key is accepted,
else whether the certificate is below the epoch or lacks permission `p`. -/
def bootKey (s : State) (signer : BitVec 64) (cert : Option (List Byte)) (certSigOk : Bool) (p : Nat) : Option Bool :=
  if isRoot s signer then some false
  else match cert with
    | none => none
    | some c =>
      let k := certKey c
      if !certOk c || !isRoot s (signerOf c) || !certSigOk || !domOk s k.domain || k.kid ≠ signer then none
      else some (decide (k.epoch < s.sec.epoch) || !k.perm.getLsbD p)

/-- The image of a manifest entry, where it is at hand. -/
def imageOf (s : State) (e : MfEntry) : Option Image := s.upd.images.find? fun x => x.hash = e.hash

/-- Step 4 for a program image (R225, R389): one that passes, beside the other images of the manifest, is loaded. -/
def bootImage (b : BootIn) (l : List MfEntry) (i : Nat) (e : MfEntry) (s : State) : State :=
  let img := imageOf s e
  let bytes := (img.map (·.bytes)).getD []
  let others := (l.eraseIdx i).filterMap fun x => (imageOf s x).map (·.bytes)
  let key := bootKey s (signerOf bytes) (img.bind (·.cert)) (b.imageCertOk.getD i false) 3
  let (cause, idx) := imageCheck others key (b.imageSigOk.getD i false) bytes
  if cause = 0 then loadImage bytes s
  else { s with img := { s.img with statCause := cause, statIndex := idx }, sys := { s.sys with imgFail := true } }

/-- The program images of the active manifest. -/
def bootImages (b : BootIn) (s : State) : State :=
  let l := ((s.upd.active.map (·.entries)).getD []).filter fun e => e.typ = 5
  (List.range l.length).foldl (fun s i => match l[i]? with
    | some e => bootImage b l i e s
    | none => s) s

/-- The active manifest passes at BOOT (R361, R389 step 4): its signatures and hashes, and its signer's key with UPDATE. -/
def bootManifest (b : BootIn) (s : State) : Bool :=
  b.manifestOk && (match s.upd.active with
    | none => true
    | some m => bootKey s m.signer m.cert b.manifestCertOk 4 = some false || (s.sec.gen.isNone && m.csig))

/-- The group dies that have field power. -/
def powered (s : State) : List GroupId := groups.filter fun g => alive s g

/-- Steps 5 to 7 for one powered group: its bank, its link version, its portion, its self-check. A group die that started
with the device leaves its start-up here. -/
def bootGroup (b : BootIn) (g : GroupId) (s : State) : State :=
  let bankOk := b.groupBankOk.getLsbD g.val
  let ver := (b.linkMinor.getD g.val none).map (min 3)
  let s1 : State := { s with
    sys := { s.sys with grpFail := setBit s.sys.grpFail g.val (!bankOk) }
    upd := { s.upd with linkVer := s.upd.linkVer.set g ver } }
  let s2 := modGrp s1 g fun x => { x with bankOk := bankOk, link := ver.isNone }
  let s3 := if (s2.grp[g]).portion = s2.cfg.active then s2 else switchGrp s2.cfg.active g s2
  let s4 := if bankOk then s3
    else modGrp (each (chansOf g) supplyOff (stopLanes g s3)) g fun x => { x with supply := .startup, rstRec := false }
  if (s4.grp[g]).supply = .normal ∨ ((s4.grp[g]).supply = .startup ∧ bankOk) then
    enterScan g (modGrp s4 g fun x =>
      { x with supply := .normal, rstRec := false, selfChk := true, scanOk := false, scans := 0 })
  else s4

/-- A check of steps 3 to 5 fails (R390). -/
def bootFails (b : BootIn) (s : State) : Bool :=
  !b.firmwareOk || !bootManifest b s || !b.switchOk || !b.farrierOk || s.sys.imgFail || s.sys.grpFail ≠ 0

/-- The committed set is loaded (R8): where a record was cut short the previous one, whole, with RESTORED (R141).
A Logbook buffer whose settings it changes is emptied (R387). -/
def loadSet (s : State) : State :=
  let c := s.cfg.committed.getD .none
  let a := s.cfg.active
  let s1 : State := { s with
    cfg := { s.cfg with active := c, staged := c, writing := none, wrote := 0, leave := false }
    cal := { s.cal with restored := s.cfg.writing.isSome && s.cfg.committed.isSome } }
  each (List.finRange 5) (switchBuf a c) s1

/-- The settings entry of the active manifest (R377). -/
def schemaEntry (s : State) : Nat :=
  ((s.upd.active.map (·.entries)).getD []).findIdx fun e => e.typ = 6

/-- Steps 3 to 8 of BOOT, once the firmware runs (R389). -/
def bootSteps (b : BootIn) (s : State) : State :=
  let s0 := loadSet { s with sys := { s.sys with swFail := !b.switchOk, farFail := !b.farrierOk, imgFail := !bootManifest b s } }
  let s1 := if bootManifest b s then bootImages b s0 else s0
  let s2 := b.factoryBad.foldl (fun s b => factoryFail b s) s1
  let (la, ba) := strapLevel b.strapA
  let (lb, bb) := strapLevel b.strapB
  let s3 : State := { s2 with
    sys := { s2.sys with addr := BitVec.ofNat 6 (8 * lb + la), strapBad := ba || bb }
    frm := { s2.frm with srcAct := (act s2 0x0100).setWidth 2, srcValid := b.timeValid } }
  let s4 := (powered s3).foldl (fun s g => bootGroup b g s) s3
  if s4.upd.trialFlag && bootFails b s4 then
    { s4 with upd := { s4.upd with st := .reverting, revert := some 8, acceptT := s4.now } }
  else if s4.upd.trialFlag && !b.settingsReadable then
    raise 87 (BitVec.ofNat 32 (schemaEntry s4))
      { s4 with upd := { s4.upd with st := .reverting, revert := some 3, acceptT := s4.now } }
  else s4

/-- The change into BOOT raises MODE_CHANGE (R392): from OFF for POR, BROWNOUT and PIN, else from the mode of the reset. -/
def bootChange (s : State) : State :=
  let old := if s.sys.cause.toNat ≤ 3 then 0 else (modeCode s.sys.prevMode).toNat
  raise 79 (BitVec.ofNat 32 (65536 * old + (sysModeReg s).toNat)) s

/-- RESET_RELEASE (R389 steps 1 to 8, R390, R395): HP_READY goes high after step 3. A reset in a trial finds the trial
flag set and reverts (R375). -/
def execResetRelease (b : BootIn) (s : State) : Host.Outcome State Fault Refusal :=
  .next (
    if s.sys.bootReady then s
    else
      let s1 : State := bootChange { atTime b.t s with
        sys := { s.sys with mode := .boot, bootReady := true, bootsel := b.bootsel, xpMode := b.xpMode, claimN := b.claimN }
        sec := { s.sec with claimPin := !b.claimN }
        hp := { s.hp with ready := true } }
      let s2 := if s1.upd.trialFlag && s1.sys.cause ≠ 5 then revertBanks 7 s1 else s1
      if !b.bootsel then enterRecovery { s2 with cfg := { s2.cfg with active := .none, staged := .none } }
      else if !b.firmwareOk && !s2.upd.trialFlag then
        enterRecovery { s2 with cfg := { s2.cfg with active := .none, staged := .none } }
      else bootSteps b s2)

/-- RUN is allowed at the end of BOOT (R391). -/
def autoRun (s : State) : Bool :=
  (act s 8).getLsbD 15 && s.sec.gen.isSome && s.cfg.committed.isSome &&
    !s.sys.swFail && !s.sys.farFail && !s.sys.imgFail && s.sys.grpFail = 0 && !s.sys.strapBad &&
    (groups.all fun g => (s.grp[g]).supply ≠ .selfFailed) &&
    (s.sys.cause ≠ 4 || (act s 8).getLsbD 14)

/-- The mode BOOT ends in (R372, R391). -/
def bootMode (s : State) : Mode :=
  if s.upd.trialFlag then (if s.upd.actMode = .run ∨ s.upd.actMode = .degraded then .trial else .commission)
  else if autoRun s then .run else .commission

/-- The schema version is the one the old settings are in (R377). -/
def schemaSame (s : State) : Bool := !entryDiff s.upd.active s.upd.old 6 0

/-- The trial, or the outcome of a revert, at the end of BOOT (R372, R376, R377). -/
def bootUpdate (s : State) : State :=
  if s.upd.trialFlag then
    (let s1 := raise 84 0 { s with upd := { s.upd with
        st := .trial, trialEnd := s.now + 1000000000 * fld (act s 0x0602) 11 0, checks := false, confReq := false
        migrated := schemaSame s || s.cfg.committed.isNone } }
     if s1.upd.migrated then s1
     else groomReq .record { s1 with cfg := { s1.cfg with writing := some s1.cfg.active, wrote := 0, leave := false } })
  else if s.upd.st = .reverting then
    raise 86 (s.upd.reason.setWidth 32) { s with upd := { s.upd with st := .idle } }
  else s

/-- The first tick (R432): FRM_NO, the watchdog and the Tally start. The first heartbeat reaches a group die by its
own row. -/
def firstTick (t : Nat) (s : State) : State :=
  let no := if srcOf s.cfg.active = 0 ∧ s.frm.srcValid then netFrameNo s.cfg.active t else 0
  talBegin { atTime t s with
    frm := { s.frm with no := no, prev := no, tickT := t
                        validT := if srcOf s.cfg.active = 1 ∧ !s.frm.srcValid then t - period s.cfg.active else t }
    wdt := { s.wdt with run := s.wdt.fuseOn || (act s 0x0300).getLsbD 15, start := max s.now t, cnt := 0 } }

/-- The channels and groups at the first tick, which captures and evaluates as every tick does (R32, R153, R173). -/
def bootTick (i : TickIn) (s : State) : State :=
  let s1 := each channels (fun n s => tickFault i n (tickCh i n s)) s
  each channels tickSummary (each groups (fun g s => if alive s g then measureGrp i g s else s) s1)

/-- BOOT_END (R389 step 9): `i` is what the first tick shows, `dur` the time from reset release in ns. BOOT does not end while a
revert is due. -/
def execBootEnd (i : TickIn) (dur : Nat) (s : State) : Host.Outcome State Fault Refusal :=
  .next (onCore (fun s =>
    if s.sys.mode = .boot && !s.sys.recov && s.upd.revert.isNone then
      let s1 := firstTick i.t { s with sys := { s.sys with bootTime := sat16u (dur / 10000) } }
      let s2 := bootUpdate (goMode (bootMode s1) 0 s1)
      loadRegs (sysWords false false (bootTick i s2))
    else s) s)

/-- RECOVERY_RESET (R390): every entry is staged and verified. -/
def execRecoveryReset (s : State) : Host.Outcome State Fault Refusal :=
  .next (onCore (fun s =>
    if s.sys.recov && s.upd.st = .staged then
      let r := resetState 6 (switchBanks s)
      { r with upd := { r.upd with old := none, oldImages := [] } }
    else s) s)

end Sys2Proof.Machine
end

