-- ==== Sys2Proof/Machine/Update.lean ====
section
/-! DEFINITION. Field update (spec/16_update_and_versions.md): the lock and staging, ACTIVATE, the trial, the revert. -/

namespace Sys2Proof.Machine

/-! ### Manifests (R359 to R362) -/

/-- Entry i of a manifest. -/
def mfEntry (b : List Byte) (i : Nat) : MfEntry :=
  let o := 0x50 + 80 * i
  { typ := b.getD o 0, index := b.getD (o + 1) 0, compId := BitVec.ofNat 32 (le b (o + 4) 4)
    compVer := BitVec.ofNat 32 (le b (o + 8) 4), length := le b (o + 12) 4
    hash := BitVec.ofNat 512 (ofBe (slice b (o + 16) 64)) }
/-- NCOMP. -/
def mfCount (b : List Byte) : Nat := (b.getD 0x40 0).toNat
/-- Entries of a manifest. -/
def mfEntries (b : List Byte) : List MfEntry := (List.range (mfCount b)).map (mfEntry b)
/-- CSIG. -/
def mfCsig (b : List Byte) : Bool := (b.getD 0x41 0).getLsbD 0

/-- One entry keeps R360. -/
def entryFmt (b : List Byte) (i : Nat) : Bool :=
  let e := mfEntry b i
  decide (1 ≤ e.typ.toNat) && decide (e.typ.toNat ≤ 6) && le b (0x50 + 80 * i + 2) 2 = 0 &&
    (if e.typ = 5 then decide (e.index.toNat ≤ 3) else e.index = 0) &&
    (e.typ ≠ 6 || (e.length = 0 && e.hash = 0))

/-- Step 1 of R361, but for the schema version that the Groom firmware's own header declares (log entry 23). -/
def mfFormat (b : List Byte) : Bool :=
  let n := mfCount b
  let es := mfEntries b
  decide (6 ≤ n) && decide (n ≤ 9) && b.length = 0x90 + 80 * n + (if mfCsig b then 64 else 0) &&
    gnopelHead 3 b.length b && le b 0x14 4 = 0 && decide ((b.getD 0x41 0).toNat < 2) && le b 0x42 14 = 0 &&
    ((List.range n).all (entryFmt b)) &&
    ([1, 2, 3, 4, 6].all fun (t : Nat) => (es.filter fun e => e.typ.toNat = t).length = 1) &&
    decide (((es.filter fun e => e.typ = 5).map (·.index)).Nodup)

/-- The manifest as held. -/
def toManifest (b : List Byte) : Manifest :=
  { signer := signerOf b, release := BitVec.ofNat 32 (le b 0x10 4), csig := mfCsig b, entries := mfEntries b, bytes := b
    cert := none }

/-- The certificate of the signer of a staged file, where it is a delegated key (R262). -/
def signerCert (s : State) (b : List Byte) : Option (List Byte) :=
  if isRoot s (signerOf b) then none else (findKey s (signerOf b)).map (·.cert)

/-- Bank size of a component's store (R362). -/
def bankSize (typ : Byte) : Nat :=
  if typ = 1 then 1048576 else if typ = 2 ∨ typ = 3 then 131072 else if typ = 4 then 65536 else 393216

/-- Step 2 of R361: SIGNER is an owner root, or a cached key with UPDATE that passes R262. In recovery a claimed device wants
an owner root, an unclaimed one needs no OSIG (R390). -/
def mfSigner (s : State) (kid : BitVec 64) : Bool :=
  if s.sys.recov then isRoot s kid || s.sec.gen.isNone
  else (keyCause s kid).isNone && (permOf s kid).getLsbD 4

/-- An entry of type 1, 2, 3, 4 or 6 differs from the active manifest (R361 step 4). -/
def firmChange (s : State) (l : List MfEntry) : Bool :=
  l.any fun e => e.typ ≠ 5 && (match s.upd.active.bind fun m => entryFor m e.typ e.index with
    | none => true
    | some a => decide (a.compVer ≠ e.compVer ∨ a.hash ≠ e.hash))

/-- The checks of R361, as a status of R366. -/
def mfStatus (s : State) (b : List Byte) (osigOk msigOk : Bool) : Byte :=
  if !mfFormat b then 0x04
  else if !mfSigner s (signerOf b) then 0x05
  else if !osigOk && !(s.sys.recov && s.sec.gen.isNone) then 0x05
  else if !mfCsig b && (s.sys.recov || firmChange s (mfEntries b)) then 0x06
  else if mfCsig b && !msigOk then 0x06
  else if (mfEntries b).any fun e => decide (bankSize e.typ < e.length) then 0x07
  else 0

/-! ### Staged entries -/

/-- What MANIFEST answers for an entry: 2 equal to the active image, 1 already staged, 0 to transfer (R364). -/
def entryState (s : State) (e : MfEntry) : Byte :=
  if (s.upd.active.bind fun m => entryFor m e.typ e.index).any fun a => a.hash = e.hash then 2
  else if e.typ = 6 || s.upd.store.any fun x => x.hash = e.hash then 1 else 0
/-- Entries of the staged manifest. -/
def stagedEntries (s : State) : List MfEntry := (s.upd.staged.map (·.entries)).getD []
/-- UPD_STAT.NSTAGED. -/
def nStaged (s : State) : Nat := ((stagedEntries s).filter fun e => entryState s e ≠ 0).length
/-- UPD_STAT.STATE code. -/
def updCode : UpdSt → BitVec 3
  | .idle => 0
  | .locked => 1
  | .staged => 2
  | .activating => 3
  | .trial => 4
  | .reverting => 5
/-- UPD_STAT. -/
def updStatReg (s : State) : HWord :=
  updCode s.upd.st ++ bit s.upd.lock.isSome ++ BitVec.ofNat 4 ((s.upd.lock.map (·.val)).getD 0) ++ bit s.upd.checks ++
    (0#1) ++ BitVec.ofNat 6 (nStaged s)
/-- UPD_REMAIN: seconds left, rounded up. -/
def updRemain (s : State) : HWord :=
  if s.upd.st = .trial then sat16u ((s.upd.trialEnd - s.now + 999999999) / 1000000000) else 0
/-- UPD_LAST. -/
def updLastReg (s : State) : HWord := s.upd.outcome ++ s.upd.reason ++ (0#8)

/-- Every entry is staged and verified (R365). -/
def checkStaged (s : State) : State :=
  if s.upd.staged.isSome && s.upd.st = .locked && nStaged s = (stagedEntries s).length then
    raise 83 0 { s with upd := { s.upd with st := .staged } }
  else s

/-! ### Carriers and the lock (R363, R364, R390) -/

/-- Answer an update message: STATUS, then the body. -/
def updReply (u : UpdCtx) (msg : HWord) (status : Byte) (body : List Byte) (s : State) : State :=
  match u with
  | .session r => okRec r msg (status :: body) s
  | .recovery m => reply m none msg (status :: body) s
/-- Refuse an update message. -/
def updRefuse (u : UpdCtx) (cause : Byte) (s : State) : State :=
  match u with
  | .session r => noRec r cause s
  | .recovery m => refuseMsg m none cause s

/-- An update message reaches the Groom firmware (R364): from a session with UPDATE, or from the mailbox in recovery. -/
def onUpd (u : UpdCtx) (f : State → State) (s : State) : State :=
  match u with
  | .session r => recMsg r (fun s => if sessPerm s r.sid 4 then f s else noRec r cPermission s) s
  | .recovery m => plainMsg m false true
      (fun s => if s.sys.recov && m.iface = .host then f s else refuseMsg m none cNoSession s) s

/-- The session holds the update lock. -/
def holds (s : State) (u : UpdCtx) : Bool :=
  match u with
  | .session r => s.upd.lockOpen && s.upd.lock = some r.sid
  | .recovery _ => true

/-- An update message that needs the lock (R363): UPD_BUSY, or STATE where no lock is held. -/
def needLock (u : UpdCtx) (msg : HWord) (f : State → State) (s : State) : State :=
  onUpd u (fun s =>
    if holds s u then f { s with upd := { s.upd with lockT := s.now } }
    else if s.upd.st = .idle then updReply u msg 0x01 [] s
    else updRefuse u cUpdBusy s) s

/-- The lock is released: the staged manifest goes, verified images stay (R365). -/
def dropLock (s : State) : State :=
  { s with upd := { s.upd with st := .idle, lock := none, staged := none, parts := [], writing := none, imgWait := none } }

/-- UPDATE_BEGIN (R363, R373). -/
def execUpdateBegin (r : RecCtx) (s : State) : Host.Outcome State Fault Refusal :=
  .next (onUpd (.session r) (fun s =>
    if s.upd.st ≠ .idle ∨ s.upd.trialFlag then noRec r cUpdBusy s
    else okRec r 0x0200 [0] (raise 82 (BitVec.ofNat 32 r.sid.val)
      { s with upd := { s.upd with st := .locked, lock := some r.sid, lockOpen := true, lockT := s.now, staged := none,
                                   parts := [] } })) s)

/-- MANIFEST (R361, R365). -/
def execManifest (u : UpdCtx) (body : List Byte) (osigOk msigOk : Bool) (s : State) : Host.Outcome State Fault Refusal :=
  .next (needLock u 0x0201 (fun s => verifying true (fun s =>
    let st := mfStatus s body osigOk msigOk
    if st ≠ 0 then updReply u 0x0201 st [] s
    else
      let s1 : State := { s with upd := { s.upd with
        st := .locked, staged := some { toManifest body with cert := signerCert s body }, parts := [], writing := none, imgWait := none } }
      checkStaged (updReply u 0x0201 0 ((mfEntries body).map (entryState s1)) s1)) s) s)

/-- Bytes of an entry received so far. -/
def partOf (s : State) (e : Nat) : List Byte := ((s.upd.parts.find? fun p => p.1 = e).map (·.2)).getD []
/-- Replace an entry's bytes. -/
def setPart (e : Nat) (l : List Byte) (s : State) : State :=
  { s with upd := { s.upd with parts := (e, l) :: s.upd.parts.filter fun p => p.1 ≠ e } }

/-- CHUNK (R364, R365): written under leave of class MAINT, which recovery does without. -/
def execChunk (u : UpdCtx) (entry : Byte) (len : HWord) (offset : W32) (data : List Byte) (s : State) :
    Host.Outcome State Fault Refusal :=
  .next (needLock u 0x0202 (fun s =>
    match (stagedEntries s)[entry.toNat]? with
    | none => if s.upd.staged.isNone then updReply u 0x0202 0x01 [] s else updRefuse u cFormat s
    | some e =>
      if len.toNat < 4 ∨ 1024 < len.toNat ∨ len.toNat % 4 ≠ 0 ∨ data.length ≠ len.toNat then updRefuse u cFormat s
      else
        let have_ := (partOf s entry.toNat).length
        if offset.toNat ≠ have_ ∨ e.length < have_ + len.toNat ∨ entryState s e ≠ 0 ∨ s.upd.writing.isSome then
          updReply u 0x0202 0x02 (beBytes 4 have_) s
        else
          let s1 : State := { s with upd := { s.upd with writing := some (u, entry.toNat, data), leave := false } }
          if s.sys.recov then s1 else groomReq .chunk s1) s)

/-- An entry passes: its image joins the store, and the chunk is answered. -/
def entryDone (u : UpdCtx) (i : Nat) (e : MfEntry) (s : State) : State :=
  let bytes := partOf s i
  let s1 : State := { s with upd := { s.upd with
    store := { hash := e.hash, bytes := bytes, cert := signerCert s bytes, ok := true } :: s.upd.store
    parts := s.upd.parts.filter fun p => p.1 ≠ i, writing := none, imgWait := none } }
  checkStaged (updReply u 0x0202 0 (beBytes 4 bytes.length) s1)

/-- An entry fails: its image is discarded (R365). -/
def entryFails (u : UpdCtx) (i : Nat) (status : Byte) (s : State) : State :=
  updReply u 0x0202 status (beBytes 4 0) { s with upd := { s.upd with
    parts := s.upd.parts.filter fun p => p.1 ≠ i, writing := none, imgWait := none } }

/-- Images of the staged manifest that go with an image (R225). -/
def companions (s : State) (i : Nat) : List (List Byte) :=
  (List.range (stagedEntries s).length).filterMap fun j =>
    match (stagedEntries s)[j]? with
    | some e => if j ≠ i ∧ e.typ = 5 then ((s.upd.store ++ s.upd.images).find? fun x => x.hash = e.hash).map (·.bytes)
                else none
    | none => none

/-- Every powered group has acknowledged the image. -/
def groupsAcked (s : State) : Bool := (powered s).all fun g => (s.grp[g]).imgAck

/-- The checks after an entry's last byte (R365). -/
def entryCheck (u : UpdCtx) (i : Nat) (e : MfEntry) (hashOk imgSigOk : Bool) (s : State) : State :=
  if !hashOk then entryFails u i 0x03 s
  else if e.typ = 5 then
    (let (cause, idx) := imageCheck (companions s i) (imageKey s (partOf s i)) imgSigOk (partOf s i)
     if cause = 0 then entryDone u i e s
     else entryFails u i 0x0C { s with img := { s.img with statCause := cause, statIndex := idx } })
  else if e.typ = 3 && !s.sys.recov && !(powered s).isEmpty then
    { s with grp := s.grp.map fun x => { x with imgAck := false }
             upd := { s.upd with imgWait := some i, writing := some (u, i, []) } }
  else entryDone u i e s

/-- CHUNK_WRITTEN (R365): the write needs the leave granted for it (R246). An image whose check waits for a burst (R250) waits with
its last chunk. -/
def execChunkWritten (hashOk imgSigOk : Bool) (s : State) : Host.Outcome State Fault Refusal :=
  .next (onCore (fun s =>
    match s.upd.writing with
    | none => s
    | some (u, i, data) =>
      if s.upd.imgWait.isSome || !(s.sys.recov || s.upd.leave) then s
      else match (stagedEntries s)[i]? with
        | none => { s with upd := { s.upd with writing := none, leave := false } }
        | some e =>
          let l := partOf s i ++ data
          let put := fun (s : State) => setPart i l { s with upd := { s.upd with writing := none, leave := false } }
          if l.length < e.length then updReply u 0x0202 0 (beBytes 4 l.length) (put s)
          else if e.typ = 5 then verifying true (fun s => entryCheck u i e hashOk imgSigOk (put s)) s
          else entryCheck u i e hashOk imgSigOk (put s)) s)

/-- The group dies' outcome for the staged image. -/
def groupOutcome (g : GroupId) (ok : Bool) (s : State) : State :=
  match s.upd.imgWait, s.upd.writing with
  | some i, some (u, _, _) =>
    if !ok then entryFails u i 0x0A s
    else
      let s1 := modGrp s g fun x => { x with imgAck := true }
      match (stagedEntries s1)[i]? with
      | some e => if groupsAcked s1 then entryDone u i e s1 else s1
      | none => s1
  | _, _ => s

/-- GROUP_IMAGE_ACK (R365). -/
def execGroupImageAck (g : GroupId) (ok : Bool) (s : State) : Host.Outcome State Fault Refusal :=
  .next (onCore (fun s => if alive s g then groupOutcome g ok s else s) s)

/-- GROUP_IMAGE_TIMEOUT (R366): 1 s without an acknowledgement. -/
def execGroupImageTimeout (g : GroupId) (s : State) : Host.Outcome State Fault Refusal :=
  .next (onCore (fun s => if alive s g && !(s.grp[g]).imgAck then groupOutcome g false s else s) s)

/-- UPDATE_ABORT (R363, R365). -/
def execUpdateAbort (r : RecCtx) (s : State) : Host.Outcome State Fault Refusal :=
  .next (needLock (.session r) 0x0203 (fun s => okRec r 0x0203 [0] (dropLock s)) s)

/-- One manifest entry as bytes, as the manifest holds it. -/
def entryBytes (m : Manifest) : List Byte := slice m.bytes 0x50 (80 * m.entries.length)

/-- UPDATE_STATUS (R364). -/
def execUpdateStatus (u : UpdCtx) (s : State) : Host.Outcome State Fault Refusal :=
  .next (onUpd u (fun s =>
    let s1 : State := if holds s u && s.upd.lock.isSome then { s with upd := { s.upd with lockT := s.now } } else s
    updReply u 0x0204 0 (beBytes 2 (updStatReg s).toNat ++ beBytes 2 (updLastReg s).toNat ++
      beBytes 2 (updRemain s).toNat ++ ((s.upd.active.map entryBytes).getD [])) s1) s)

/-- UPDATE_LOCK_TIMEOUT (R363): 30 s without an accepted update message of the holder. -/
def execUpdateLockTimeout (t : Nat) (s : State) : Host.Outcome State Fault Refusal :=
  .next (onCore (fun s =>
    if s.upd.lock.isSome && decide (s.upd.lockT + 30000000000 ≤ t) then dropLock (atTime t s) else s) s)

/-! ### Activation (R367 to R370) -/

/-- Why ACTIVATE is not accepted, as a status of R366; the effective hold codes are those of R370. -/
def activateStatus (s : State) (q : QCmd) : Byte :=
  let m := s.sys.mode
  let p := q.m.payload
  if s.upd.st ≠ .staged ∨ !(s.upd.lockOpen && s.upd.lock = some q.sid) then 0x01
  else match s.upd.staged with
    | none => 0x01
    | some f =>
      if beBytes 64 (Config.sha512 f.bytes).toNat ≠ slice p 0 64 then 0x0B
      else if ¬ (m = .commission ∨ m = .run ∨ m = .degraded ∨ m = .safe) then 0x0D
      else if cmtPend s then 0x09
      else if !mfSigner s f.signer then 0x05
      else if !(p.getD 64 0).getLsbD 0 && (powered s).any fun g => decide (4 ≤ holdCode s.grp[g] g) then 0x08
      else 0

/-- ACTIVATE (R367): refused with UPD_BUSY while another session holds the lock. -/
def execActivate (sigOk : Bool) (t : Nat) (s : State) : Host.Outcome State Fault Refusal :=
  .next (runCmd 0x0105 sigOk t (fun q s =>
    if s.upd.lock.isSome && !(s.upd.lockOpen && s.upd.lock = some q.sid) then refuseCmd q cUpdBusy s
    else
      let s1 := acceptCmd q s
      let st := activateStatus s q
      if st ≠ 0 then answerCmd q st s1
      else answerCmd q 0 { s1 with upd := { s1.upd with
        st := .activating, lock := none, acceptT := s1.now, actMode := s1.sys.mode } }) s)

/-- The marker tick (R369): every powered group die enters HOLD at once, and the core die resets with cause UPDATE. -/
def markerReset (s : State) : State := resetState 5 ((powered s).foldl (fun s g => enterHold g s) s)

/-- ACTIVATE_MARKER (R369): the first tick at least 2 µs after acceptance. -/
def execActivateMarker (s : State) : Host.Outcome State Fault Refusal :=
  .next (onCore (fun s =>
    if s.upd.st = .activating && decide (s.upd.acceptT + 2000 ≤ s.frm.tickT) then
      let s1 := switchBanks s
      markerReset { s1 with upd := { s1.upd with trialFlag := true } }
    else s) s)

/-! ### The trial (R373 to R377) -/

/-- The checks of R374 hold: the components have started, every powered group runs the new image, the migrated record is
complete. -/
def trialOk (s : State) : Bool :=
  !s.sys.swFail && !s.sys.farFail && !s.sys.imgFail && s.upd.migrated && (powered s).all fun g => (s.grp[g]).bankOk

/-- A confirmation (R374). -/
def confirm (s : State) : State := { s with upd := { s.upd with confReq := true } }

/-- TRIAL_CHECKS (R374): without EXTCONF the firmware confirms itself. -/
def execTrialChecks (s : State) : Host.Outcome State Fault Refusal :=
  .next (onCore (fun s =>
    if s.upd.st = .trial && trialOk s then
      let s1 : State := { s with upd := { s.upd with checks := true } }
      if (act s1 0x0601).getLsbD 15 then s1 else confirm s1
    else s) s)

/-- HEALTH_CONFIRM (R374). -/
def execHealthConfirm (r : RecCtx) (s : State) : Host.Outcome State Fault Refusal :=
  .next (onUpd (.session r) (fun s =>
    if s.upd.st = .trial && s.upd.checks then okRec r 0x0205 [0] (confirm s) else okRec r 0x0205 [1] s) s)

/-- A write of UPD_HEALTH (R374): a core write has no effect. -/
def storeHealth (acc : Access) (v : HWord) (s : State) : State :=
  match acc with
  | .core _ => s
  | _ => if v = 0x4E1C ∧ s.upd.st = .trial ∧ s.upd.checks then confirm s else s

/-- UPD_HEALTH. -/
def execUpdHealth (acc : Access) (v : HWord) (s : State) : Host.Outcome State Fault Refusal :=
  .next (guarded acc 0x0603 v (storeHealth acc v) s)

/-- CONFIRMATION (R374): at a tick; a revert trigger of the same tick prevails (R375). -/
def execConfirmation (s : State) : Host.Outcome State Fault Refusal :=
  .next (onCore (fun s =>
    if s.upd.st = .trial && s.upd.confReq then
      let schema := !schemaSame s
      let s1 : State := { s with
        core := s.core.map fun k => { k with nv := k.nvNext.getD k.nv, nvNext := none }
        cfg := { s.cfg with committed := if schema && s.cfg.committed.isSome then some s.cfg.active else s.cfg.committed }
        upd := { s.upd with
          st := .idle, checks := false, confReq := false, trialFlag := false, old := none, oldImages := []
          outcome := 1, reason := 0, migrated := false
          bank := if schema then s.upd.bank ^^^ 0x20 else s.upd.bank } }
      raise 85 0 (if s1.sys.mode = .trial then goMode .run 0 s1 else s1)
    else s) s)

/-- UPDATE_REVERT (R375). -/
def execUpdateRevert (r : RecCtx) (s : State) : Host.Outcome State Fault Refusal :=
  .next (onUpd (.session r) (fun s =>
    if s.upd.st = .trial then trialFail 9 (okRec r 0x0206 [0] s) else okRec r 0x0206 [1] s) s)

/-- A write of UPD_REVERT (R375): REQUESTED from the firmware, COMMAND from outside; a core write has no effect. -/
def storeRevert (acc : Access) (v : HWord) (s : State) : State :=
  if v ≠ 0x4E2C then s
  else match acc with
    | .core _ => s
    | .groom => trialFail 2 s
    | _ => trialFail 9 s

/-- UPD_REVERT. -/
def execUpdRevert (acc : Access) (v : HWord) (s : State) : Host.Outcome State Fault Refusal :=
  .next (guarded acc 0x0604 v (storeRevert acc v) s)

/-- TRIAL_TIMEOUT (R375): UPD_REMAIN has reached 0. -/
def execTrialTimeout (t : Nat) (s : State) : Host.Outcome State Fault Refusal :=
  .next (onCore (fun s => if s.upd.trialEnd ≤ t then trialFail 1 (atTime t s) else s) s)

/-- REVERT_MARKER (R376): as R369 with the old banks; in BOOT there is no tick to wait for. -/
def execRevertMarker (s : State) : Host.Outcome State Fault Refusal :=
  .next (onCore (fun s =>
    match s.upd.revert with
    | none => s
    | some r =>
      if s.sys.mode = .boot ∨ s.upd.acceptT + 2000 ≤ s.frm.tickT then markerReset (revertBanks r s) else s) s)

end Sys2Proof.Machine
end

