-- ==== Sys2Proof/Machine/Xp.lean ====
section
/-! DEFINITION. The expansion port (R318 to R325): programmed transfers, the ready timeout, line fills of the XIP window. -/

namespace Sys2Proof.Machine

/-! ### The transfer buffer (R318) -/

/-- Buffer bit i: bit 15 of word 0 first. -/
def bufBit (b : Vector HWord 256) (i : Nat) : Bool := (b[i / 16]?.getD 0).getLsbD (15 - i % 16)
/-- A buffer from its bits. -/
def bufOf (f : Nat → Bool) : Vector HWord 256 :=
  Vector.ofFn fun w => BitVec.ofNat 16 (((List.range 16).map fun k => if f (16 * w.val + k) then 2 ^ (15 - k) else 0).sum)
/-- `n` bits from bit `o` as a number, first bit most significant. -/
def bufNum (b : Vector HWord 256) (o n : Nat) : Nat :=
  (List.range n).foldl (fun v i => 2 * v + (if bufBit b (o + i) then 1 else 0)) 0
/-- Whole bytes of the bits from `o` to `e` - 1. -/
def bufBytes (b : Vector HWord 256) (o e : Nat) : List Byte :=
  (List.range ((e - o) / 8)).map fun i => BitVec.ofNat 8 (bufNum b (o + 8 * i) 8)
/-- Write `n` bits of a number at bit `o`. -/
def bufPut (b : Vector HWord 256) (o n v : Nat) : Vector HWord 256 :=
  bufOf fun i => if o ≤ i ∧ i < o + n then v.testBit (o + n - 1 - i) else bufBit b i
/-- The received bits replace those just sent (R318); bits after the last one received stay (R322). -/
def bufRx (b : Vector HWord 256) (bits : Nat) (rx : List Bool) : Vector HWord 256 :=
  bufOf fun i => if i < bits then (rx[i]?).getD (bufBit b i) else bufBit b i

/-! ### Start of a transfer (R318, R325) -/

/-- XP_STAT.BUSY. -/
def xpBusy (s : State) : Bool := s.xp.job.isSome || s.xp.fill.isSome
/-- Context number of a two-bit field. -/
def ctxOf (v : Nat) : CtxId := ⟨v % 4, by omega⟩
/-- Width of a context. -/
def ctxWidth (s : State) (x : CtxId) : Nat := crcWidth (s.crc[x]).poly

/-- A start that R318 accepts while no transfer is in progress: total bits, the transmit and the receive context. -/
def xpAccept (s : State) (v : HWord) : Option (Nat × Option CtxId × Option CtxId) :=
  let dev := fld v 14 11
  let len := s.xp.len.toNat
  let st := s.xp.crcStart.toNat
  let tx := v.getLsbD 10
  let rx := v.getLsbD 7
  let t := ctxOf (fld v 9 8)
  let r := ctxOf (fld v 6 5)
  let wt := if tx then ctxWidth s t else 0
  let wr := ctxWidth s r
  if !(act s 0x0780).getLsbD 15 || s.xp.job.isSome || decide ((if s.sys.xpMode then 14 else 3) < dev) then none
  else if len = 0 ∨ 4096 < len + wt then none
  else if tx && (decide (t.val < 2) || st % 8 ≠ 0 || len % 8 ≠ 0 || decide (len < st)) then none
  else if rx && (decide (r.val < 2) || r = t || st % 8 ≠ 0 || len % 8 ≠ 0 || decide (len < st + wr)) then none
  else some (len + wt, if tx then some t else none, if rx then some r else none)

/-- A port takes a context: the initial value of its algorithm, and HELD (R325, R326). -/
def holdCtx (x : Option CtxId) (s : State) : State :=
  match x with
  | some x => modCrc s x fun k => { k with run := crcInit k.poly, held := true }
  | none => s
/-- A port releases a context. -/
def freeCtx (x : Option CtxId) (s : State) : State :=
  match x with
  | some x => modCrc s x fun k => { k with held := false }
  | none => s
/-- A context runs over bytes. -/
def runCtx (x : CtxId) (l : List Byte) (s : State) : State := modCrc s x fun k => { k with run := crcBytes k.poly k.run l }

/-- Every line buffer is invalid (R324). -/
def dropLines (s : State) : State :=
  { s with core := s.core.map fun k => { k with lineBuf := none }, xp := { s.xp with groomLine := none } }

/-- RDYEN of a device (R322). -/
def rdyEn (s : State) (dev : BitVec 4) : Bool := (act s (0x0791 + 2 * dev.toNat)).getLsbD 7

/-- The transfer that was accepted starts: its select goes low (R318, R319, R324). -/
def startJob (j : XpJob) (s : State) : State :=
  let s1 : State := { s with
    xp := { s.xp with job := some { j with started := true, ahead := 0, rdy := rdyEn s j.dev } }
    sent := .xpCommand j.dev j.bits (bufBytes s.xp.buf 0 (8 * ((j.bits + 7) / 8))) :: s.sent }
  if j.dev = 0 then dropLines s1 else s1

/-- A write of XP_CMD (R318, R319, R325): behind a line fill the transfer waits for it and for the fills that waited before. -/
def storeXpCmd (v : HWord) (s : State) : State :=
  if !v.getLsbD 15 then s
  else match xpAccept s v with
    | none => { s with xp := { s.xp with cmdErr := true } }
    | some (bits, tx, rx) =>
      let dev := BitVec.ofNat 4 (fld v 14 11)
      let len := s.xp.len.toNat
      let s1 := holdCtx rx (holdCtx tx s)
      let s2 := match tx with
        | some t =>
          let s' := runCtx t (bufBytes s1.xp.buf s1.xp.crcStart.toNat len) s1
          { s' with xp := { s'.xp with buf := bufPut s'.xp.buf len (ctxWidth s' t) (s'.crc[t]).chk.toNat } }
        | none => s1
      let j : XpJob := { dev := dev, bits := bits, start := s2.xp.crcStart.toNat, txCrc := tx, rxCrc := rx
                         started := false, ahead := s2.xp.fillWait.length, rdy := false }
      let s3 : State := { s2 with xp := { s2.xp with dev := dev, job := some j } }
      if s3.xp.fill.isSome then s3 else startJob j s3

/-- XP_START (R318). -/
def execXpStart (acc : Access) (v : HWord) (s : State) : Host.Outcome State Fault Refusal :=
  .next (guarded acc 0x0786 v (storeXpCmd v) s)

/-! ### Line fills (R323, R324) -/

/-- XIP is enabled. -/
def xipOn (s : State) : Bool := (act s 0x0780).getLsbD 15 && (act s 0x0781).getLsbD 15
/-- Flash address of a line. -/
def flashAddr (s : State) (ea : W32) : W32 :=
  (BitVec.ofNat 32 (pair (act s 0x0782) (act s 0x0783)) + (ea - 0x60000000)) &&& 0xFFFFFFF0
/-- The read command of a line fill: opcode, address, dummy byte. -/
def fillCmd (s : State) (ea : W32) : List Byte :=
  let fast := (act s 0x0781).getLsbD 14
  let a32 := (act s 0x0781).getLsbD 13
  let op : Byte := if a32 then (if fast then 0x0C else 0x13) else (if fast then 0x0B else 0x03)
  op :: beBytes (if a32 then 4 else 3) (flashAddr s ea).toNat ++ (if fast then [0] else [])

/-- A load or fetch fails with sub-cause 0x5: the bus fault is that of the background task that waits on the line. One suspended
meanwhile repeats its load when it resumes. -/
def failFill (q : FillReq) (ea : W32) (s : State) : State :=
  let s1 : State := { s with xp := { s.xp with xipErr := true } }
  match q with
  | .groom => s1
  | .core c => if canRun s1 c && inBg s1 c then takeExc c 3 5 ea (max (s1.core[c]).freeAt (cycleNow s1)) s1 else s1

/-- Start a fill, or refuse it (R324). -/
def startFill (q : FillReq) (ea : W32) (s : State) : State :=
  if !xipOn s || (!(act s 0x0781).getLsbD 13 && decide (0xFFFFFF < (flashAddr s ea).toNat)) then failFill q ea s
  else
    let cmd := fillCmd s ea
    { s with xp := { s.xp with fill := some (q, ea), fillRdy := rdyEn s 0 }, sent := .xpCommand 0 (8 * cmd.length + 128) cmd :: s.sent }

/-- The free port takes what waits, in order: the fills that waited before a pending transfer, the transfer, then the other fills
(R319). A fill that is refused makes way for the next. -/
def nextFill : Nat → State → State
  | 0, s => s
  | n + 1, s =>
    if s.xp.fill.isSome then s
    else match s.xp.job, s.xp.fillWait with
      | some j, (q, ea) :: t =>
        if j.started then s
        else if j.ahead = 0 then startJob j s
        else nextFill n (startFill q ea { s with xp := { s.xp with fillWait := t, job := some { j with ahead := j.ahead - 1 } } })
      | some j, [] => if j.started then s else startJob j s
      | none, (q, ea) :: t => nextFill n (startFill q ea { s with xp := { s.xp with fillWait := t } })
      | none, [] => s

/-- A load or fetch in the XIP window misses its line buffer (R323): nothing is served while XIP is disabled. -/
def lineMissing (s : State) (c : CoreId) (ea : W32) : Bool :=
  window ea = .xip && (!xipOn s || match (s.core[c]).lineBuf with
    | some (l, _) => decide (l ≠ ea &&& 0xFFFFFFF0)
    | none => true)

/-- A core's background task, or the Groom core, may fetch or load there and misses its line buffer (R187, R188, R323). -/
def mayFill (s : State) (q : FillReq) (ea : W32) : Bool :=
  match q with
  | .groom => !xipOn s || decide (s.xp.groomLine.map (·.1) ≠ some (ea &&& 0xFFFFFFF0))
  | .core c => canRun s c && inBg s c && lineMissing s c ea

/-- XIP_LINE_FILL (R323). -/
def execXipLineFill (q : FillReq) (addr : W32) (s : State) : Host.Outcome State Fault Refusal :=
  .next (onCore (fun s =>
    if decide (0x60000000 ≤ addr.toNat) && decide (addr.toNat < 0x64000000) && mayFill s q addr then
      (if xpBusy s then { s with xp := { s.xp with fillWait := s.xp.fillWait ++ [(q, addr)] } } else startFill q addr s)
    else s) s)

/-- A ready timeout is counted and raised (R322). -/
def readyTimeout (dev : BitVec 4) (s : State) : State :=
  raise 123 (dev.setWidth 32) { s with xp := { s.xp with timeout := true, errCnt := inc16 s.xp.errCnt } }

/-- A line arrives, or its ready wait runs out. -/
def endFill (res : FillResult) (s : State) : State :=
  match s.xp.fill with
  | none => s
  | some (q, ea) =>
    let s1 : State := { s with xp := { s.xp with fill := none } }
    let s2 := match res with
      | .timeout => failFill q ea (readyTimeout 0 s1)
      | .line bytes =>
        let line := some (ea &&& 0xFFFFFFF0, bytes)
        match q with
        | .groom => { s1 with xp := { s1.xp with groomLine := line } }
        | .core c => modCore s1 c fun k => { k with lineBuf := line }
    nextFill (s2.xp.fillWait.length + 1) s2

/-- XIP_FILL_DONE (R323, R324). -/
def execXipFillDone (res : FillResult) (s : State) : Host.Outcome State Fault Refusal := .next (onCore (endFill res) s)

/-! ### End of a transfer -/

/-- XP_READY_RESUME (R322): the clock resumes one T later, which is timing alone. -/
def execXpReadyResume (s : State) : Host.Outcome State Fault Refusal := .next s

/-- The receive check (R325): its bits leave the buffer, a mismatch is counted and raised. -/
def rxCheck (j : XpJob) (len : Nat) (r : CtxId) (s : State) : State :=
  let w := ctxWidth s r
  let s1 := runCtx r (bufBytes s.xp.buf j.start (len - w)) s
  let ok := decide (bufNum s1.xp.buf (len - w) w = (s1.crc[r]).chk.toNat)
  let s2 : State := { s1 with xp := { s1.xp with buf := bufPut s1.xp.buf (len - w) w 0 } }
  if ok then s2
  else raise 123 (j.dev.setWidth 32) { s2 with xp := { s2.xp with crcErr := true, errCnt := inc16 s2.xp.errCnt } }

/-- Length of a job less its appended check value. -/
def jobLen (s : State) (j : XpJob) : Nat := j.bits - (match j.txCrc with | some t => ctxWidth s t | none => 0)

/-- XP_TRANSFER_DONE (R318): `rx` holds the received bits, first bit first. -/
def execXpTransferDone (rx : List Bool) (s : State) : Host.Outcome State Fault Refusal :=
  .next (onCore (fun s =>
    match s.xp.job with
    | none => s
    | some j =>
      if !j.started then s
      else
      let s1 : State := { s with xp := { s.xp with buf := bufRx s.xp.buf j.bits rx, done := true, job := none } }
      let s2 := match j.rxCrc with
        | some r => rxCheck j (jobLen s j) r s1
        | none => s1
      let s3 := freeCtx j.rxCrc (freeCtx j.txCrc s2)
      nextFill s3.xp.fillWait.length s3) s)

/-- XP_READY_TIMEOUT (R322): a programmed transfer ends at once; a line fill fails (R324). -/
def execXpReadyTimeout (rx : List Bool) (s : State) : Host.Outcome State Fault Refusal :=
  .next (onCore (fun s =>
    match s.xp.job with
    | some j =>
      if !j.started then (if s.xp.fillRdy then endFill .timeout s else s)
      else if !j.rdy then s
      else
        let s1 : State := { s with xp := { s.xp with buf := bufRx s.xp.buf j.bits rx, done := true, job := none } }
        let s2 := readyTimeout j.dev (freeCtx j.rxCrc (freeCtx j.txCrc s1))
        nextFill s2.xp.fillWait.length s2
    | none => if s.xp.fillRdy then endFill .timeout s else s) s)

end Sys2Proof.Machine
end

