-- ==== Sys2Proof/Machine/Peek.lean ====
section
/-! DEFINITION. What a read of each register returns now, before snapshots and side effects (the register tables of
spec/01 to spec/17, R429 to R431). -/

namespace Sys2Proof.Machine

/-- 16-bit word `i` of a value, word 0 lowest. -/
def word16 {w : Nat} (v : BitVec w) (i : Nat) : HWord := v.extractLsb' (16 * i) 16
/-- An element of a vector by number; `d` past its end. -/
def nth {α : Type} {n : Nat} (v : Vector α n) (i : Nat) (d : α) : α := v[i]?.getD d
/-- The group of a group-block address. -/
def grpOf (a : Nat) : GroupId := ⟨(a - 0x1000) / 0x100 % 8, by omega⟩
/-- The channel of a channel-block address. -/
def chOf (a : Nat) : ChanId := ⟨(a - 0x2000) / 0x40 % 64, by omega⟩
/-- The core a number names. -/
def coreOf (i : Nat) : CoreId := ⟨i % 4, by omega⟩

/-! ### CAL tables (R137) -/

/-- Entries of a table; none where TBL selects no table. -/
def calSize (t : Nat) : Option Nat := [16384, 1024, 256, 1024, 16384, 3456, 128][t]?
/-- The table and entry a reader has selected; none where they name no entry. -/
def calPick (r : Rdr) : Option (Nat × Nat) :=
  let t := fld r.calSel 3 0
  let i := fld r.calIdx 13 0
  match calSize t with
  | some n => if i < n then some (t, i) else none
  | none => none
/-- An entry of a table, its user values taken from set `c`. -/
def calEntry (s : State) (c : CfgSet) (t i : Nat) : W32 :=
  if t = 3 then c.t3 i else if t = 4 then c.t4 i else calGet s t i
/-- A staged entry: a table that belongs to no set has no staged value (R429). -/
def calStaged (s : State) (t i : Nat) : W32 := if t = 3 ∨ t = 4 then calEntry s s.cfg.staged t i else 0

/-! ### Configuration (R6, R429) -/

/-- The gate-control entry a reader has selected; PORT 3 selects nothing. -/
def gclPick (r : Rdr) : Option Nat := if fld r.gclIdx 7 6 = 3 then none else some (fld r.gclIdx 7 0)

/-- The CM fields of an address in a set, through the reader's index registers. -/
def cmView (c : CfgSet) (r : Rdr) (a : Nat) : HWord :=
  if a = 0x0112 then c.ofs (fld r.gaitIdx 7 0)
  else if a = 0x0113 then c.act (fld r.gaitIdx 7 0)
  else if a = 0x0884 then ((gclPick r).map c.gate).getD 0
  else if a = 0x0885 then ((gclPick r).map fun k => word16 (c.gint k) 0).getD 0
  else if a = 0x0886 then ((gclPick r).map fun k => word16 (c.gint k) 1).getD 0
  else c.reg a

/-! ### Blocks below 0x1000 -/

/-- SYS_CXc record, word `w` (R216). -/
def cxWord (k : Core) (w : Nat) : HWord :=
  if w = 0 then k.causeReg
  else if w = 1 then word16 k.xpc 0
  else if w = 2 then word16 k.xpc 1
  else if w = 3 then word16 k.xaddr 0
  else if w = 4 then word16 k.xaddr 1
  else if w = 5 then k.xfrm
  else if w = 6 then k.cnt else 0

/-- SYS block. -/
def sysReg (s : State) (a : Nat) : HWord :=
  if a = 0x0004 then sysModeReg s
  else if a = 0x0005 then s.sys.hist ++ (0#5) ++ s.sys.cause
  else if a = 0x0007 then bit s.sys.strapBad ++ bit s.sys.bootsel ++ bit s.sys.xpMode ++ bit s.sys.claimN ++ (0#6) ++ s.sys.addr
  else if a = 0x0009 then
    bit s.sys.recov ++ bit s.sys.swFail ++ bit s.sys.farFail ++ bit s.sys.imgFail ++ (0#4) ++ s.sys.grpFail
  else if a = 0x000A then s.sys.bootTime
  else if a = 0x0011 then cmtStatReg s
  else if inBlock a 0x0012 1 3 then word16 s.cmt.frm (a - 0x0012)
  else if a = 0x0020 then s.img.statIndex ++ (0#4) ++ s.img.statCause
  else if inBlock a 0x0021 1 4 then
    bit (s.img.loaded.getLsbD (a - 0x0021)) ++ (0#2) ++
      BitVec.ofNat 5 (s.img.tasks.filter fun t => t.core = coreOf (a - 0x0021)).length ++ (0#8)
  else if inBlock a 0x0040 8 4 then cxWord (s.core[coreOf ((a - 0x0040) / 8)]) (a % 8)
  else if a = 0x0061 then (0#12) ++ s.sys.stopped
  else 0

/-- FRM and GAIT blocks. -/
def frmReg (s : State) (r : Rdr) (a : Nat) : HWord :=
  if a = 0x0105 then frmStatReg s
  else if inBlock a 0x0106 1 3 then word16 s.frm.no (a - 0x0106)
  else if a = 0x010A then s.frm.ovrCnt
  else if a = 0x010B then s.frm.ovrInfo
  else if a = 0x0111 then r.gaitIdx
  else if a = 0x0114 then s.cmt.gaitErr0
  else if a = 0x0115 then s.cmt.gaitErr1
  else 0

/-- EVT_DLV of the reading core: the Malkait core sees the deliveries its owner handlers have not taken (R239). -/
def dlvOf (s : State) (q : Fin 7) : BitVec 128 :=
  if 3 ≤ q.val then (s.core[coreOf (q.val - 3)]).dlv
  else if q = 2 then s.evt.groom.foldl (fun v e => setBit v e.2.val true) 0 else 0

/-- EVT_REC word `w`. -/
def recWord (x : EvRec) (w : Nat) : HWord :=
  if w = 0 then x.count else if w = 1 then word16 x.payload 0 else if w = 2 then word16 x.payload 1 else x.frm

/-- The event a reader has selected. -/
def evPick (r : Rdr) : Fin 128 := ⟨fld r.evtSel 6 0 % 128, by omega⟩

/-- EVT block. -/
def evtReg (s : State) (q : Fin 7) (a : Nat) : HWord :=
  let r := s.rdr[q]
  if inBlock a 0x0280 1 8 then word16 s.evt.pend (a - 0x0280)
  else if inBlock a 0x0288 1 8 then word16 s.evt.mask (a - 0x0288)
  else if inBlock a 0x0290 1 8 then word16 (dlvOf s q) (a - 0x0290)
  else if a = 0x0298 then r.evtSel
  else if inBlock a 0x0299 1 4 then recWord (s.evt.recs[evPick r]) (a - 0x0299)
  else 0

/-- WDT, TAL and FRZ blocks. -/
def supReg (s : State) (a : Nat) : HWord :=
  if a = 0x0302 then
    bit s.wdt.run ++ bit (s.wdt.run && decide (wdtWindow s ≤ (wdtCount s).toNat)) ++ bit s.wdt.fired ++ bit s.wdt.causeV ++
      bit s.wdt.foreign ++ (0#11)
  else if a = 0x0303 then bit s.wdt.fuseOn ++ (0#3) ++ s.wdt.fuseWin ++ s.wdt.fuseHrt ++ (0#8)
  else if inBlock a 0x0304 1 2 then word16 (wdtCount s) (a - 0x0304)
  else if inBlock a 0x0311 1 4 then nth s.tal.miss (a - 0x0311) 0
  else if inBlock a 0x0315 1 4 then nth s.tal.extra (a - 0x0315) 0
  else if a = 0x0319 then s.tal.last0
  else if a = 0x031A then s.tal.last1
  else if a = 0x031B then (0#8) ++ s.tal.run
  else if a = 0x031C then s.tal.mmCnt
  else if a = 0x0322 then bit s.frz.lastValid ++ (0#12) ++ s.frz.lastSrc
  else 0

/-- PGV block. -/
def pgvReg (s : State) (a : Nat) : HWord :=
  let count := fun (f : Slot → Bool) => (slotIds.filter fun i => f s.pgv.slots[i]).length
  if a = 0x040A then s.cmt.chkErr
  else if inBlock a 0x0420 1 8 then nth s.pgv.gload (a - 0x0420) 0
  else if inBlock a 0x0428 1 8 then nth s.pgv.gcorr (a - 0x0428) 0
  else if a = 0x0430 then s.pgv.dload
  else if a = 0x0431 then
    BitVec.ofNat 8 (count fun x => x.st = .pending) ++ BitVec.ofNat 8 (count fun x => x.st = .granted)
  else if a = 0x0432 then s.pgv.denyCnt
  else if a = 0x0433 then s.pgv.conflictCnt
  else if a = 0x0434 then s.pgv.conflictLast
  else 0

/-- Interface field of SEC_SESSn. -/
def sessIf : Iface → BitVec 2
  | .eth => 0
  | .udp => 1
  | .host => 2

/-- SEC_SESSn. -/
def sessReg (s : State) (n : Fin 16) : HWord :=
  let x := s.sec.sess[n]
  if x.st = .free then 0
  else bit (x.st = .live) ++ bit (s.sec.bound = some n) ++ sessIf x.iface ++ bit (x.st = .hs) ++ (0#2) ++ permOf s x.kid

/-- The host-port session whose count HP_TAGCNT shows. -/
def hostSess (s : State) : Option (Fin 16) := (List.finRange 16).find? fun i => liveHost s i

/-- SEC block. -/
def secReg (s : State) (acc : Access) (a : Nat) : HWord :=
  let host := match acc with
    | .hostUntagged => true
    | .hostTagged _ => true
    | _ => false
  if a = 0x0500 then
    bit s.sec.gen.isSome ++ bit s.sec.claimPin ++ BitVec.ofNat 2 ((s.sec.gen.map (·.val)).getD 0) ++ bit s.sec.hpTrust ++
      bit s.sec.dbgUnlk ++ bit s.sec.dbgBlock ++ (0#4) ++ BitVec.ofNat 5 (liveCount s)
  else if inBlock a 0x0501 1 2 then word16 s.sec.epoch (a - 0x0501)
  else if a = 0x0503 then s.sec.refuseCnt
  else if a = 0x0504 then (0#6) ++ s.sec.refuseIf ++ s.sec.refuseCause
  else if a = 0x0507 then (0#10) ++ BitVec.ofNat 6 s.sec.cache.length
  else if inBlock a 0x0510 1 16 then sessReg s ⟨(a - 0x0510) % 16, by omega⟩
  else if inBlock a 0x0520 1 16 then word16 s.sec.idKey (15 - (a - 0x0520))
  else if inBlock a 0x0530 1 16 then word16 (s.sec.roots.getD ((a - 0x0530) / 4) 0) (3 - (a - 0x0530) % 4)
  else if decide (a = 0x0582) && host then s.sec.mbOut.getD 0 0 ++ s.sec.mbOut.getD 1 0
  else if decide (a = 0x0583) && host then
    bit (!s.sec.mbOut.isEmpty) ++ bit s.sec.mbBusy ++ (0#3) ++ BitVec.ofNat 11 s.sec.mbOut.length
  else 0

/-- UPD_LINKVERg: the agreed link major is 2 (R379). -/
def linkVerReg (v : Option Nat) : HWord :=
  match v with
  | some m => (0x80#8) ++ (2#4) ++ BitVec.ofNat 4 m
  | none => 0

/-- UPD block. -/
def updReg (s : State) (a : Nat) : HWord :=
  if a = 0x0600 then updStatReg s
  else if a = 0x0605 then updRemain s
  else if a = 0x0606 then updLastReg s
  else if a = 0x0607 then (0#10) ++ s.upd.bank
  else if a = 0x0608 then 0x2300
  else if a = 0x0609 then 0x1210
  else if a = 0x060A then 0x1110
  else if inBlock a 0x0610 1 8 then linkVerReg (nth s.upd.linkVer (a - 0x0610) none)
  else 0

/-- HP_STAT, with bits 4 to 0 of `stat` in bits 15 to 11. -/
def hpStatReg (s : State) : HWord := s.hp.stat ++ (0#11)

/-- XP_STAT. -/
def xpStatReg (s : State) : HWord :=
  bit (xpBusy s) ++ bit s.xp.done ++ bit s.xp.timeout ++ bit s.xp.crcErr ++ bit s.xp.cmdErr ++ bit s.sys.xpMode ++
    bit s.xp.xipErr ++ (0#5) ++ s.xp.dev

/-- HP, XP and CRC blocks. -/
def portReg (s : State) (r : Rdr) (a : Nat) : HWord :=
  if a = 0x0700 then s.hp.lenNext.getD s.hp.len
  else if a = 0x0701 then hpStatReg s
  else if a = 0x0702 then s.hp.bits
  else if a = 0x0703 then s.hp.frmErr
  else if a = 0x0704 then s.hp.crcErr
  else if a = 0x0705 then ((hostSess s).map fun i => BitVec.ofNat 16 (s.sec.sess[i]).tagCnt).getD 0
  else if a = 0x0785 then s.xp.len
  else if a = 0x0787 then s.xp.crcStart
  else if a = 0x0788 then xpStatReg s
  else if a = 0x0789 then r.xpBufIdx
  else if a = 0x078A then (if xpBusy s then 0 else nth s.xp.buf (fld r.xpBufIdx 7 0) 0)
  else if a = 0x078B then s.xp.errCnt
  else if inBlock a 0x07C0 8 4 then
    (let x := s.crc[coreOf ((a - 0x07C0) / 8)]
     let o := a % 8
     if o = 0 then x.cfgReg
     else if o = 3 then word16 x.runReg 0
     else if o = 4 then word16 x.runReg 1
     else if o = 5 then word16 x.chk 0
     else if o = 6 then word16 x.chk 1 else 0)
  else if a = 0x07E0 then bit s.log.crcStat ++ (0#15)
  else 0

/-- NET_PSTATp (R289): DLYOVER while the measured delay exceeds NET_HOPDLY. -/
def pstatReg (hop : HWord) (x : Port) : HWord :=
  bit x.link ++ bit x.spd ++ bit (decide (hop.toNat < x.dly)) ++ bit x.fcsErr ++ (0#12)

/-- NET block. -/
def netReg (s : State) (r : Rdr) (a : Nat) : HWord :=
  if inBlock a 0x0804 1 3 then pstatReg (act s 0x0810) (s.net.ports[(⟨(a - 0x0804) % 3, by omega⟩ : PortId)])
  else if inBlock a 0x0820 1 3 then word16 s.net.mac (2 - (a - 0x0820))
  else if a = 0x0824 then s.cmt.fitErr
  else if a = 0x0825 then
    bit s.net.verif ++ bit s.net.dir ++ bit s.net.turned ++ bit s.net.delayed ++ bit s.net.noReturn ++ bit s.net.feedLate ++
      (0#10)
  else if a = 0x0826 then s.net.segErr
  else if a = 0x0827 then s.net.rxDrop
  else if a = 0x0831 then bit s.net.gm ++ bit s.net.synced ++ (0#8) ++ s.net.role
  else if a = 0x0832 then s.net.offset
  else if inBlock a 0x0834 1 3 then sat16u (s.net.ports[(⟨(a - 0x0834) % 3, by omega⟩ : PortId)]).dly
  else if a = 0x0883 then r.gclIdx
  else 0

/-- LOG_BUFb_STAT. -/
def bufStatReg (s : State) (b : Fin 5) : HWord :=
  let l := s.log.bufs[b]
  bit (bufStop s.cfg.active b.val && bufFull s b) ++ bit l.wrapped ++ bit l.eccErr ++ bit l.armed ++ bit l.trigd ++ (0#11)

/-- LOG_BUFb words at offsets 3 to 7. -/
def bufWord (s : State) (b : Fin 5) (o : Nat) : HWord :=
  let l := s.log.bufs[b]
  if o = 3 then bufStatReg s b
  else if o = 4 then word16 l.next 0
  else if o = 5 then word16 l.next 1
  else if o = 6 then word16 l.old 0
  else if o = 7 then word16 l.old 1 else 0

/-- LOG, FAR and TEL blocks. -/
def logReg (s : State) (a : Nat) : HWord :=
  if inBlock a 0x0C00 8 5 then bufWord s ⟨(a - 0x0C00) / 8 % 5, by omega⟩ (a % 8)
  else if a = 0x0C41 then (0#10) ++ (s.far.lapse &&& 0x3E)
  else if a = 0x0C42 then s.far.ecc
  else if a = 0x0C43 then s.far.flRef
  else if a = 0x0C44 then wearReg s
  else if inBlock a 0x0C80 1 10 then nth s.far.temps (a - 0x0C80) 0
  else if inBlock a 0x0C90 1 4 then nth s.far.sups (a - 0x0C90) 0
  else if inBlock a 0x0C98 1 8 then nth s.far.linkErr (a - 0x0C98) 0
  else 0

/-! ### Group, channel and CAL blocks -/

/-- The lane and the offset in its block of an offset G + 0x40 to G + 0xFF. -/
def lanePart (o : Nat) : Fin 3 × Nat :=
  if o < 0x80 then (0, o - 0x40) else if o < 0xC0 then (1, o - 0x80) else (2, o - 0xC0)

/-- CNV_SNAPST of a reader (R119): a snapshot of another block is no lane snapshot. -/
def snapstReg (r : Rdr) : HWord :=
  let none_ : HWord := bit r.cnvMiss ++ (0#15)
  match r.snap with
  | none => none_
  | some x =>
    let o := x.base % 0x100
    let l := lanePart o
    if 0x1000 ≤ x.base ∧ x.base < 0x1800 ∧ 0x50 ≤ o then
      bit r.cnvMiss ++ (1#1) ++ BitVec.ofNat 3 (grpOf x.base).val ++ BitVec.ofNat 2 l.1.val ++
        BitVec.ofNat 4 ((l.2 - 0x10) / 2) ++ (0#1) ++ x.stat
    else none_

/-- The four status vectors of a lane. -/
def laneVec (l : Lane) (k : Nat) : HWord := if k = 0 then l.new else if k = 1 then l.lost else if k = 2 then l.ovr else l.rcv

/-- The registers of role S: a copy of the sequence it shadows, 0 while S calibrates (R105). -/
def shadowReg (s : State) (g : GroupId) (o : Nat) : HWord :=
  match roleBase s.grp[g] .s with
  | some b => grpG s g (b + o)
  | none => 0

/-- GRP and CNV registers without a CM field at offset `o` of group `g`. -/
def grpReg (s : State) (r : Rdr) (g : GroupId) (o : Nat) : HWord :=
  let x := s.grp[g]
  if o = 0x12 then (0#6) ++ x.shadow ++ (0#2) ++ x.conv[2] ++ x.conv[1] ++ x.conv[0]
  else if o = 0x13 then bit x.scan ++ bit x.selfChk ++ bit x.scanFail ++ bit x.ilv ++ bit x.trackShort ++ (0#11)
  else if o = 0x16 then
    (match roleBase x .s with
     | some b => BitVec.ofNat 16 (fld (grpG s g (if b = 0x40 then 0x14 else 0x15)) 4 0)
     | none => 0)
  else if o = 0x17 then supplyCode x.supply ++ bit x.lpwarn ++ (0#12)
  else if inBlock o 0x18 1 12 then laneVec (nth x.lanes ((o - 0x18) / 4) Lane.reset) ((o - 0x18) % 4)
  else if o = 0x24 then snapstReg r
  else if o = 0x25 then x.lplus
  else if o = 0x27 then bit x.strapBad ++ (0#4) ++ x.fbs ++ (0#5) ++ BitVec.ofNat 3 (holdCode x g)
  else if o = 0x28 then grpFaultReg s g
  else if 0x40 ≤ o then
    (let p := lanePart o
     if inBlock p.2 0x10 1 32 then
       word16 (nth (x.lanes[p.1]).res ((p.2 - 0x10) / 2) 0) ((p.2 - 0x10) % 2)
     else if p.1 = 2 then shadowReg s g p.2 else 0)
  else 0

/-- CH_ECHO of a group die that has field power. -/
def echoReg (s : State) (n : ChanId) : HWord :=
  if alive s (chGroup n) then
    BitVec.ofNat 4 (modeG s n) ++ BitVec.ofNat 3 (fld (chG s n 1) 2 0) ++ BitVec.ofNat 2 (fld (chG s n 0x17) 15 14) ++
      bit (!(s.ch[n]).flt.mm && !chanDiffers s n) ++ (0#6)
  else 0

/-- Channel registers without a CM field at offset `o`. -/
def chReg (s : State) (n : ChanId) (o : Nat) : HWord :=
  let x := s.ch[n]
  let dig := isDigMode (modeG s n)
  if o = 0x09 then word16 x.di.count 0
  else if o = 0x0A then word16 x.di.count 1
  else if o = 0x0B then bit (dig && (x.di.state != invG s n)) ++ bit (dig && x.di.raw) ++ bit x.di.wrap ++ (0#13)
  else if o = 0x15 then (if modeG s n = 9 then x.ai.cjt else 0)
  else if o = 0x16 then
    bit (x.ai.senseOpen && !x.ai.senseTrial) ++ bit x.ai.cjfb ++ bit x.out.ramp ++ bit (waitsLeave x) ++
      bit x.ai.ovldev ++ (0#11)
  else if o = 0x1A then chFaultReg x.flt
  else if o = 0x1C then chBusyReg x.flt
  else if o = 0x1D then echoReg s n
  else 0

/-- CAL_ROT_g. -/
def rotReg (x : Rot) : HWord := x.step ++ x.target ++ (0#3) ++ x.restarts

/-- CAL registers without a CM field, and CAL_DATA. -/
def calReg (s : State) (r : Rdr) (a : Nat) : HWord :=
  if a = 0x3000 then r.calSel
  else if a = 0x3001 then r.calIdx
  else if a = 0x3002 ∨ a = 0x3003 then
    ((calPick r).map fun p => word16 (calEntry s s.cfg.active p.1 p.2) (a - 0x3002)).getD 0
  else if a = 0x3004 then
    bit s.cal.persist ++ bit s.cal.restored ++ bit s.cal.badIdx ++ bit s.cal.rdOnly ++ bit r.calMiss ++ bit s.cal.factErr ++
      bit s.cal.badKey ++ (0#9)
  else if inBlock a 0x3040 4 8 then
    (let x := (s.grp[(⟨(a - 0x3040) / 4 % 8, by omega⟩ : GroupId)]).rot
     if a % 4 = 0 then rotReg x else if a % 4 = 1 then x.rotCnt else if a % 4 = 2 then x.misCnt else x.rms)
  else 0

/-! ### The process image (R230) and the upper window (R429, R430) -/

/-- Process-image word `k`, at core address 0x3000_0000 + 4k. -/
def piWord (s : State) (k : Nat) : W32 :=
  let ch : ChanId := ⟨k % 64, by omega⟩
  if k < 0x40 then s.pi.inw[ch]
  else if k < 0x80 then outWord s ch
  else if k < 0xC0 then s.pi.stat[ch]
  else if k < 0xC4 then nth s.pi.sys (k - 0xC0) 0
  else if 0x100 ≤ k ∧ k < 0x300 then
    (let w := k - 0x100
     let e := nth (nth s.pi.recs (w / 8) (.replicate 4 0)) (w % 8 / 2) 0
     if w % 2 = 0 then e.setWidth 32 else e.extractLsb' 32 32)
  else 0

/-- What a read of an address returns to reader `acc` now, without its snapshot. -/
def regPeek (s : State) (acc : Access) (a : Nat) : HWord :=
  let q := rdrOf acc
  let r := s.rdr[q]
  if isMirror a then word16 (piWord s ((a - 0x5800) / 2)) (a % 2)
  else if isStg a then
    (if a = 0x7002 ∨ a = 0x7003 then ((calPick r).map fun p => word16 (calStaged s p.1 p.2) (a - 0x7002)).getD 0
     else cmView s.cfg.staged r (a - 0x4000))
  else if !isReg a then 0
  else if a = 0x0109 then ovrLimitReg s
  else if a = 0x3002 ∨ a = 0x3003 then calReg s r a
  else if isCm a then cmView s.cfg.active r a
  else if a < 0x0100 then sysReg s a
  else if a < 0x0200 then frmReg s r a
  else if a < 0x0300 then evtReg s q a
  else if a < 0x0400 then supReg s a
  else if a < 0x0500 then pgvReg s a
  else if a < 0x0600 then secReg s acc a
  else if a < 0x0700 then updReg s a
  else if a < 0x0800 then portReg s r a
  else if a < 0x0C00 then netReg s r a
  else if a < 0x1000 then logReg s a
  else if a < 0x2000 then grpReg s r (grpOf a) (a % 0x100)
  else if a < 0x3000 then chReg s (chOf a) (a % 0x40)
  else calReg s r a

end Sys2Proof.Machine
end

