-- ==== Sys2Proof/Machine/Regs.lean ====
section
/-! DEFINITION. Register reads with their snapshots and side effects, and register writes (R4 to R6, R118, R119, R137 to
R142, R327, R429 to R431), with the commands that make one access. -/

namespace Sys2Proof.Machine

/-! ### Snapshots -/

/-- The RS group an address belongs to: its first address and its length. -/
def snapGroup (a : Nat) : Option (Nat × Nat) :=
  if inBlock a 0x0012 1 3 then some (0x0012, 3)
  else if inBlock a 0x0040 8 4 ∧ a % 8 < 6 then some (a - a % 8, 6)
  else if inBlock a 0x0106 1 3 then some (0x0106, 3)
  else if inBlock a 0x0299 1 4 then some (0x0299, 4)
  else if inBlock a 0x0304 1 2 then some (0x0304, 2)
  else if inBlock a 0x0501 1 2 then some (0x0501, 2)
  else if inBlock a 0x07C0 8 4 ∧ 3 ≤ a % 8 ∧ a % 8 < 7 then some (a - (a + 1) % 2, 2)
  else if inBlock a 0x0C00 8 5 ∧ 4 ≤ a % 8 then some (a - a % 8 + 4, 4)
  else if inBlock a 0x1000 1 0x800 ∧ 0x40 ≤ a % 0x100 ∧ inBlock (lanePart (a % 0x100)).2 0x10 1 32 then
    some (a - a % 2, 2)
  else if inBlock a 0x2000 1 0x1000 ∧ (a % 0x40 = 9 ∨ a % 0x40 = 10) then some (a - a % 0x40 + 9, 2)
  else if inBlock a 0x3002 1 2 then some (0x3002, 2)
  else if inBlock a 0x7002 1 2 then some (0x7002, 2)
  else if isMirror a then some (a - a % 2, 2)
  else none

/-- The selection a snapshot was taken under. -/
def snapKey (r : Rdr) (base : Nat) : Nat :=
  if base = 0x0299 then fld r.evtSel 6 0
  else if base = 0x3002 ∨ base = 0x7002 then 65536 * fld r.calSel 3 0 + fld r.calIdx 13 0
  else 0

/-- The lane, its group and the entry of a result register. -/
def resAt (a : Nat) : GroupId × Fin 3 × Fin 16 :=
  let p := lanePart (a % 0x100)
  (grpOf a, p.1, ⟨(p.2 - 0x10) / 2 % 16, by omega⟩)
/-- A result register. -/
def isRes (a : Nat) : Bool :=
  inBlock a 0x1000 1 0x800 && decide (0x40 ≤ a % 0x100) && inBlock (lanePart (a % 0x100)).2 0x10 1 32
/-- NEW, LOST, OVR and RCV of an entry. -/
def resStat (s : State) (a : Nat) : BitVec 4 :=
  let (g, l, i) := resAt a
  let x := (s.grp[g]).lanes[l]
  bit (x.new.getLsbD i.val) ++ bit (x.lost.getLsbD i.val) ++ bit (x.ovr.getLsbD i.val) ++ bit (x.rcv.getLsbD i.val)

/-- The snapshot a first-address read captures. -/
def capture (s : State) (acc : Access) (base len : Nat) : Snap :=
  { base := base, key := snapKey s.rdr[rdrOf acc] base
    words := (List.range len).map fun k => regPeek s acc (base + k)
    stat := if isRes base then resStat s base else 0 }

/-- The word of a reader's snapshot at an address of the group; none where none matches. -/
def snapHit (r : Rdr) (base a : Nat) : Option HWord :=
  match r.snap with
  | some x => if x.base = base ∧ x.key = snapKey r base then x.words[a - base]? else none
  | none => none

/-- Whether the latest HI read of a lane result or CAL entry missed. -/
def noteMiss (q : Fin 7) (base : Nat) (miss : Bool) (s : State) : State :=
  if isRes base then modRdr s q fun r => { r with cnvMiss := miss }
  else if base = 0x3002 ∨ base = 0x7002 then modRdr s q fun r => { r with calMiss := miss }
  else s

/-- A read of an RS register. -/
def readSnap (acc : Access) (base len a : Nat) (s : State) : HWord × State :=
  let q := rdrOf acc
  if a = base then (regPeek s acc a, modRdr s q fun r => { r with snap := some (capture s acc base len) })
  else match snapHit s.rdr[q] base a with
    | some v => (v, noteMiss q base false s)
    | none => (regPeek s acc a, noteMiss q base true s)

/-! ### Side effects of accesses -/

/-- CAL_DATA_LO or HI, or its STG view. -/
def isCalData (a : Nat) : Bool := decide (a = 0x3002 ∨ a = 0x3003 ∨ a = 0x7002 ∨ a = 0x7003)
/-- An access of CAL_DATA that selects no entry sets BADIDX. -/
def noteBadIdx (r : Rdr) (s : State) : State :=
  if (calPick r).isNone then { s with cal := { s.cal with badIdx := true } } else s
/-- The index after an access of CAL_DATA_HI. -/
def calStep (r : Rdr) : Rdr :=
  if r.calSel.msb then
    match calSize (fld r.calSel 3 0) with
    | some n =>
      let i := fld r.calIdx 13 0 + 1
      { r with calIdx := if n ≤ i then 0 else BitVec.ofNat 16 i }
    | none => r
  else r
/-- XP_BUFIDX after an access of XP_BUFDATA. -/
def bufStep (r : Rdr) : Rdr :=
  if r.xpBufIdx.msb then { r with xpBufIdx := 0x8000 ||| BitVec.ofNat 16 ((fld r.xpBufIdx 7 0 + 1) % 256) } else r
/-- GAIT_IDX after a write of GAIT_ACT. -/
def gaitStep (r : Rdr) : Rdr :=
  if r.gaitIdx.msb then { r with gaitIdx := 0x8000 ||| BitVec.ofNat 16 ((fld r.gaitIdx 7 0 + 1) % 256) } else r

/-- A host-port access. -/
def isHost : Access → Bool
  | .hostUntagged => true
  | .hostTagged _ => true
  | _ => false

/-- What a read changes: a RES_LO read clears NEW (R118), an auto-incrementing index steps, SEC_MBOUT moves on. -/
def readEffect (acc : Access) (a : Nat) (s : State) : State :=
  let q := rdrOf acc
  if isRes a then
    (if a % 2 = 0 then
       let (g, l, i) := resAt a
       modGrp s g fun x => { x with lanes := x.lanes.set l { x.lanes[l] with new := setBit (x.lanes[l]).new i.val false } }
     else s)
  else if isCalData a then
    (let s1 := noteBadIdx s.rdr[q] s
     if a % 2 = 1 then modRdr s1 q calStep else s1)
  else if a = 0x078A then modRdr s q bufStep
  else if a = 0x0582 && isHost acc then { s with sec := { s.sec with mbOut := s.sec.mbOut.drop 2 } }
  else s

/-- Read one register: its value, and the machine after the read. -/
def readReg (acc : Access) (a : Nat) (s : State) : HWord × State :=
  let r : HWord × State := match snapGroup a with
    | some (base, len) => readSnap acc base len a s
    | none => (regPeek s acc a, s)
  (r.1, readEffect acc a r.2)

/-- Read a block of registers in order. -/
def readRegs (acc : Access) : List Nat → State → List HWord × State
  | [], s => ([], s)
  | a :: t, s =>
    let (v, s1) := readReg acc a s
    let (l, s2) := readRegs acc t s1
    (v :: l, s2)

/-! ### Writes of the configuration (R6, R429) -/

/-- A set with the CM fields of an address written, through the writer's index registers. -/
def cmPut (c : CfgSet) (r : Rdr) (a : Nat) (v : HWord) : CfgSet :=
  if a = 0x0112 then { c with gaitOfs := spPut gaitOfsReset c.gaitOfs (fld r.gaitIdx 7 0) v }
  else if a = 0x0113 then { c with gaitAct := spPut gaitActReset c.gaitAct (fld r.gaitIdx 7 0) v }
  else if inBlock a 0x0884 1 3 then
    match gclPick r with
    | none => c
    | some k =>
      if a = 0x0884 then { c with gclGate := spPut (fun _ => 0x00FF) c.gclGate k (v &&& 0x00FF) }
      else if a = 0x0885 then
        { c with gclInt := spPut (fun _ => 0) c.gclInt k ((c.gint k).extractLsb' 16 16 ++ v) }
      else { c with gclInt := spPut (fun _ => 0) c.gclInt k ((v &&& 0x001F) ++ (c.gint k).setWidth 16) }
  else c.setReg a v

/-- Stage an entry of table 3 or 4. -/
def stageEntry (t i : Nat) (v : W32) (s : State) : State :=
  let c := s.cfg.staged
  let c' : CfgSet := if t = 3 then { c with trim := spPut trimReset c.trim i v }
    else { c with ulin := spPut ulinReset c.ulin i v }
  { s with cfg := { s.cfg with staged := c' } }

/-- A write of CAL_DATA (R137, R140): LO latches, HI stages an entry of table 3 or 4. -/
def storeCalData (acc : Access) (a : Nat) (v : HWord) (s : State) : State :=
  let q := rdrOf acc
  let r := s.rdr[q]
  let s1 := noteBadIdx r s
  if a = 0x3002 then (if (calPick r).isSome then modRdr s1 q fun r => { r with calLo := v } else s1)
  else
    let s2 := match calPick r with
      | some (t, i) =>
        if t = 3 ∨ t = 4 then stageEntry t i (v ++ r.calLo) s1
        else { s1 with cal := { s1.cal with rdOnly := true } }
      | none => s1
    modRdr s2 q calStep

/-- A CM write (R6). -/
def storeCm (acc : Access) (a : Nat) (v : HWord) (s : State) : State :=
  let q := rdrOf acc
  if a = 0x3002 ∨ a = 0x3003 then storeCalData acc a v s
  else
    let s1 : State := { s with cfg := { s.cfg with staged := cmPut s.cfg.staged s.rdr[q] a v } }
    if a = 0x0113 then modRdr s1 q gaitStep else s1

/-- CAL_USER_RESET (R142): identity into tables 3 and 4, 0 into every enable and every CH_DITHR; nothing while a COMMIT is
pending (R22), whoever writes. -/
def storeUserReset (v : HWord) (s : State) : State :=
  if cmtPend s then s
  else if v = 0x5A1C then
    let c := s.cfg.staged
    let c1 := (List.range 32).foldl (fun c i => c.setReg (0x3010 + i) 0) { c with trim := [], ulin := [] }
    let c2 := (List.range 64).foldl (fun c n => c.setReg (chAddr n 4) 0) c1
    { s with cfg := { s.cfg with staged := c2 } }
  else { s with cal := { s.cal with badKey := true } }

/-! ### The mailbox (R278, R433) -/

/-- SEC_MBIN: bits 15:8, then bits 7:0; nothing past 1,536 bytes. -/
def storeMbin (acc : Access) (v : HWord) (s : State) : State :=
  if isHost acc && decide (s.sec.mbIn.length + 2 ≤ 1536) then
    { s with sec := { s.sec with mbIn := s.sec.mbIn ++ [v.extractLsb' 8 8, v.setWidth 8] } }
  else s

/-- SEND: the first `n` bytes are submitted; misuse is refused with FORMAT and clears the buffer. -/
def mailboxSend (n : Nat) (s : State) : State :=
  if s.sec.mbBusy then refuse ifHost cFormat { s with sec := { s.sec with mbIn := [] } }
  else if n = 0 ∨ 1536 < n ∨ s.sec.mbIn.length < n then
    refuse ifHost cFormat { s with sec := { s.sec with mbIn := [], mbOut := [cFormat] } }
  else { s with sec := { s.sec with
    mbIn := [], mbMsg := s.sec.mbIn.take n, mbTaken := false, mbOut := [], mbReply := [], mbBusy := true } }

/-- SEC_MBCTL. -/
def storeMbctl (acc : Access) (v : HWord) (s : State) : State :=
  if !isHost acc then s
  else match v.getLsbD 15, v.getLsbD 14 with
    | true, false => mailboxSend (fld v 10 0) s
    | false, true => { s with sec := { s.sec with mbIn := [] } }
    | _, _ => s

/-! ### Writes of the other registers -/

/-- Change element `i` of a vector. -/
def modAt {α : Type} {n : Nat} (v : Vector α n) (i : Nat) (f : α → α) : Vector α n :=
  Vector.ofFn fun j => if j.val = i then f v[j] else v[j]
/-- Clear the bits of a vector that a W1C write names. -/
def w1c {w : Nat} (x v : BitVec w) : BitVec w := x &&& ~~~v
/-- Clear a flag where bit `i` of a W1C write is 1. -/
def w1b (b : Bool) (v : HWord) (i : Nat) : Bool := b && !v.getLsbD i
/-- Replace 16-bit word `i` of a 128-bit vector. -/
def putWord (x : BitVec 128) (i : Nat) (v : HWord) : BitVec 128 :=
  (x &&& ~~~((0xFFFF : BitVec 128) <<< (16 * i))) ||| (v.setWidth 128 <<< (16 * i))
/-- A 16-bit W1C mask at word `i` of a 128-bit vector. -/
def atWord (v : HWord) (i : Nat) : BitVec 128 := v.setWidth 128 <<< (16 * i)

/-- A write of HP_LEN (R315): the reserved bits 15:13 have no effect (R5). -/
def storeHpLen (w : HWord) (s : State) : State :=
  let v := w &&& 0x1FFF
  if v.toNat % 16 = 0 ∧ 96 ≤ v.toNat ∧ v.toNat ≤ 4096 then { s with hp := { s.hp with lenNext := some v } }
  else { s with hp := { s.hp with stat := s.hp.stat ||| 1 } }

/-- EVT_RECCLR (R238). -/
def storeRecclr (acc : Access) (v : HWord) (s : State) : State :=
  if v = 0xE7C1 then
    { s with evt := { s.evt with
        recs := s.evt.recs.set (evPick s.rdr[rdrOf acc]) { count := 0, payload := 0, frm := 0 } } }
  else s

/-- W1C of EVT_DLV in the writing core's own copy; none from a port. -/
def storeDlv (acc : Access) (i : Nat) (v : HWord) (s : State) : State :=
  match acc with
  | .core c => modCore s c fun k => { k with dlv := w1c k.dlv (atWord v i) }
  | .groom => { s with evt := { s.evt with groom := s.evt.groom.filter fun e => !(atWord v i).getLsbD e.2.val } }
  | _ => s

/-- SYS, FRM, GAIT and EVT blocks. -/
def storeSys (acc : Access) (a : Nat) (v : HWord) (s : State) : State :=
  let q := rdrOf acc
  if a = 0x0005 then { s with sys := { s.sys with hist := w1c s.sys.hist (v.extractLsb' 9 7) } }
  else if a = 0x0006 then storeSysRst acc v s
  else if a = 0x0010 then storeCmtCtl v s
  else if a = 0x0011 then { s with cmt := { s.cmt with badKey := w1b s.cmt.badKey v 14 } }
  else if inBlock a 0x0040 8 4 then
    (if a % 8 = 6 then modCore s (coreOf ((a - 0x0040) / 8)) fun k => { k with cnt := v } else s)
  else if a = 0x0105 then { s with frm := { s.frm with syncErr := w1b s.frm.syncErr v 8 } }
  else if a = 0x010A then { s with frm := { s.frm with ovrCnt := v } }
  else if a = 0x0111 then modRdr s q fun r => { r with gaitIdx := v &&& 0x80FF }
  else if inBlock a 0x0280 1 8 then
    { s with evt := { s.evt with pend := w1c s.evt.pend (atWord v (a - 0x0280)), irq := w1c s.evt.irq (atWord v (a - 0x0280)) } }
  else if inBlock a 0x0288 1 8 then { s with evt := { s.evt with mask := putWord s.evt.mask (a - 0x0288) v } }
  else if inBlock a 0x0290 1 8 then storeDlv acc (a - 0x0290) v s
  else if a = 0x0298 then modRdr s q fun r => { r with evtSel := v &&& 0x007F }
  else if a = 0x029D then storeRecclr acc v s
  else s

/-- WDT, TAL, FRZ, PGV, SEC and UPD blocks. -/
def storeSup (acc : Access) (a : Nat) (v : HWord) (s : State) : State :=
  if a = 0x0301 then storeWdt acc v s
  else if a = 0x0302 then { s with wdt := { s.wdt with foreign := w1b s.wdt.foreign v 11 } }
  else if 0x0311 ≤ a ∧ a < 0x0315 then
    { s with tal := { s.tal with miss := modAt s.tal.miss (a - 0x0311) fun x => w1c x v } }
  else if 0x0315 ≤ a ∧ a < 0x0319 then
    { s with tal := { s.tal with extra := modAt s.tal.extra (a - 0x0315) fun x => w1c x v } }
  else if a = 0x031C then { s with tal := { s.tal with mmCnt := v } }
  else if a = 0x0321 then { s with frz := { s.frz with snapReq := s.frz.snapReq || v.getLsbD 0 } }
  else if a = 0x0432 then { s with pgv := { s.pgv with denyCnt := v } }
  else if a = 0x0433 then { s with pgv := { s.pgv with conflictCnt := v } }
  else if a = 0x0503 then { s with sec := { s.sec with refuseCnt := v } }
  else if a = 0x0580 then storeMbin acc v s
  else if a = 0x0581 then storeMbctl acc v s
  else if a = 0x0603 then storeHealth acc v s
  else if a = 0x0604 then storeRevert acc v s
  else s

/-- XP block. -/
def storeXp (acc : Access) (a : Nat) (v : HWord) (s : State) : State :=
  let q := rdrOf acc
  if a = 0x0785 then { s with xp := { s.xp with len := v &&& 0x1FFF } }
  else if a = 0x0786 then storeXpCmd v s
  else if a = 0x0787 then { s with xp := { s.xp with crcStart := v &&& 0x1FFF } }
  else if a = 0x0788 then
    { s with xp := { s.xp with
        done := w1b s.xp.done v 14, timeout := w1b s.xp.timeout v 13, crcErr := w1b s.xp.crcErr v 12
        cmdErr := w1b s.xp.cmdErr v 11, xipErr := w1b s.xp.xipErr v 9 } }
  else if a = 0x0789 then modRdr s q fun r => { r with xpBufIdx := v &&& 0x80FF }
  else if a = 0x078A then
    (if xpBusy s then { s with xp := { s.xp with cmdErr := true } }
     else modRdr { s with xp := { s.xp with buf := modAt s.xp.buf (fld (s.rdr[q]).xpBufIdx 7 0) fun _ => v } } q bufStep)
  else if a = 0x078B then { s with xp := { s.xp with errCnt := v } }
  else s

/-- A write of a check-value context's register at offset `o`. -/
def storeCrc (x : CtxId) (o : Nat) (v : HWord) (s : State) : State :=
  if o = 0 then crcStore x (crcSetCfg v) s
  else if o = 1 then crcStore x (crcIn8 v) s
  else if o = 2 then crcStore x (crcIn16 v) s
  else if o = 3 then crcStore x (crcLatch v) s
  else if o = 4 then crcStore x (crcLoad v) s
  else if o = 5 ∨ o = 6 then crcStore x id s
  else s

/-- HP, XP and CRC blocks. -/
def storePort (acc : Access) (a : Nat) (v : HWord) (s : State) : State :=
  if a = 0x0700 then storeHpLen v s
  else if a = 0x0701 then { s with hp := { s.hp with stat := w1c s.hp.stat (v.extractLsb' 11 5) } }
  else if a = 0x0703 then { s with hp := { s.hp with frmErr := v } }
  else if a = 0x0704 then { s with hp := { s.hp with crcErr := v } }
  else if inBlock a 0x07C0 8 4 then storeCrc (coreOf ((a - 0x07C0) / 8)) (a % 8) v s
  else if a = 0x07E0 then { s with log := { s.log with crcStat := w1b s.log.crcStat v 15 } }
  else storeXp acc a v s

/-- NET, LOG, FAR and TEL blocks. -/
def storeNet (acc : Access) (a : Nat) (v : HWord) (s : State) : State :=
  if inBlock a 0x0804 1 3 then
    modPort s (⟨(a - 0x0804) % 3, by omega⟩ : PortId) fun x => { x with fcsErr := w1b x.fcsErr v 12 }
  else if a = 0x0825 then
    { s with net := { s.net with
        turned := w1b s.net.turned v 13, delayed := w1b s.net.delayed v 12, feedLate := w1b s.net.feedLate v 10 } }
  else if a = 0x0826 then { s with net := { s.net with segErr := v } }
  else if a = 0x0827 then { s with net := { s.net with rxDrop := v } }
  else if a = 0x0883 then modRdr s (rdrOf acc) fun r => { r with gclIdx := v &&& 0x00FF }
  else if inBlock a 0x0C00 8 5 then
    (if a % 8 = 3 then modBuf s ⟨(a - 0x0C00) / 8 % 5, by omega⟩ fun l =>
       { l with wrapped := w1b l.wrapped v 14, eccErr := w1b l.eccErr v 13, trigd := w1b l.trigd v 11 } else s)
  else if a = 0x0C35 then storeWfarm v s
  else if a = 0x0C41 then { s with far := { s.far with lapse := w1c s.far.lapse (v.setWidth 6) } }
  else if a = 0x0C42 then { s with far := { s.far with ecc := v } }
  else if a = 0x0C43 then { s with far := { s.far with flRef := v } }
  else if inBlock a 0x0C98 1 8 then
    { s with far := { s.far with linkErr := modAt s.far.linkErr (a - 0x0C98) fun _ => v } }
  else s

/-- GRP_FLTCLR (R156): the group's clear acts on all eight channels. Malkait firmware is no source of a fault clear. -/
def storeGrpFltclr (acc : Access) (g : GroupId) (v : HWord) (s : State) : State :=
  if v = 0x4B2D ∧ acc ≠ .groom then
    each (chansOf g) (fun n s => modFlt s n fun f => { f with clrReq := true }) (modGrp s g fun x => { x with fltClr := true })
  else s
/-- CH_FLTCLR (R156): a key from the host port or a session; Malkait firmware is no source of a fault clear. -/
def storeChFltclr (acc : Access) (n : ChanId) (v : HWord) (s : State) : State :=
  if v = 0x4B1D ∧ acc ≠ .groom then modFlt s n fun f => { f with clrReq := true } else s
/-- CH_CNTCLR (R66): no effect while the channel is not in mode 2. -/
def storeCntclr (n : ChanId) (v : HWord) (s : State) : State :=
  if v.getLsbD 0 && decide (modeA s n = 2) then modDi s n fun d => { d with clrReq := true } else s

/-- GRP and CNV registers at offset `o`. -/
def storeGrp (acc : Access) (g : GroupId) (o : Nat) (v : HWord) (s : State) : State :=
  if o = 0x13 then modGrp s g fun x => { x with scanFail := w1b x.scanFail v 13, trackShort := w1b x.trackShort v 11 }
  else if o = 0x19 ∨ o = 0x1D ∨ o = 0x21 then
    modGrp s g fun x => { x with lanes := modAt x.lanes ((o - 0x19) / 4) fun l => { l with lost := w1c l.lost v } }
  else if o = 0x29 then storeGrpFltclr acc g v s
  else s

/-- Channel registers at offset `o`. -/
def storeCh (acc : Access) (n : ChanId) (o : Nat) (v : HWord) (s : State) : State :=
  if o = 0x08 then storeCntclr n v s
  else if o = 0x0B then modDi s n fun d => { d with wrap := w1b d.wrap v 13 }
  else if o = 0x16 then modAi s n fun x => { x with ovldev := w1b x.ovldev v 11 }
  else if o = 0x1B then storeChFltclr acc n v s
  else s

/-- CAL registers. -/
def storeCal (acc : Access) (a : Nat) (v : HWord) (s : State) : State :=
  if a = 0x3000 then modRdr s (rdrOf acc) fun r => { r with calSel := v &&& 0x800F }
  else if a = 0x3001 then modRdr s (rdrOf acc) fun r => { r with calIdx := v &&& 0x3FFF }
  else if a = 0x3004 then
    { s with cal := { s.cal with
        restored := w1b s.cal.restored v 14, badIdx := w1b s.cal.badIdx v 13, rdOnly := w1b s.cal.rdOnly v 12
        factErr := w1b s.cal.factErr v 10, badKey := w1b s.cal.badKey v 9 } }
  else if a = 0x3005 then storeUserReset v s
  else s

/-- Write one register, its authority settled: a read-only register, the mirror and a hole take no write. -/
def storeReg (acc : Access) (a : Nat) (v : HWord) (s : State) : State :=
  if isMirror a then s
  else if isStg a then storeCm acc (a - 0x4000) v s
  else if isCm a then storeCm acc a v s
  else if a < 0x0300 then storeSys acc a v s
  else if a < 0x0700 then storeSup acc a v s
  else if a < 0x0800 then storePort acc a v s
  else if a < 0x1000 then storeNet acc a v s
  else if a < 0x1800 then storeGrp acc (grpOf a) (a % 0x100) v s
  else if a < 0x2000 then s
  else if a < 0x3000 then storeCh acc (chOf a) (a % 0x40) v s
  else storeCal acc a v s

/-- Write a list of registers in order. -/
def storeRegs (acc : Access) : List (Nat × HWord) → State → State
  | [], s => s
  | (a, v) :: t, s => storeRegs acc t (storeReg acc a v s)

/-! ### Commands that make one access -/

/-- A register with W1C bits that a hardware event sets (R4). -/
def isW1c (a : Nat) : Bool :=
  if a < 0x1000 then
    decide (a = 0x0005) || decide (a = 0x0011) || decide (a = 0x0105) || inBlock a 0x0280 1 8 || inBlock a 0x0290 1 8 ||
    decide (a = 0x0302) || inBlock a 0x0311 1 8 || decide (a = 0x0701) || decide (a = 0x0788) || decide (a = 0x07E0) ||
    inBlock a 0x0804 1 3 || decide (a = 0x0825) || (inBlock a 0x0C00 8 5 && decide (a % 8 = 3)) || decide (a = 0x0C41)
  else if a < 0x1800 then
    (let o := a % 0x100
     o = 0x13 || o = 0x19 || o = 0x1D || o = 0x21)
  else if a < 0x2000 then false
  else if a < 0x3000 then a % 0x40 = 0x0B || a % 0x40 = 0x16
  else decide (a = 0x3004)

/-- A write as it reaches its register when a hardware event sets the bits `same` in the same clock cycle: the event takes
precedence, so a W1C bit it sets stays set (R4). -/
def sameCycle (a : Nat) (v same : HWord) : HWord := if isW1c a then v &&& ~~~same else v

/-- REGISTER_WRITE (R4, R6, R429, R431). A hardware event of the same cycle has its own row
after the write (log entry 59). -/
def execRegisterWrite (acc : Access) (addr : HWord) (w : WriteIn) (s : State) : Host.Outcome State Fault Refusal :=
  .next (guarded acc addr.toNat w.v (storeReg acc addr.toNat (sameCycle addr.toNat w.v w.same)) s)

/-- READ_WITH_SNAPSHOT (R431). -/
def execReadWithSnapshot (acc : Access) (addr : HWord) (s : State) : Host.Outcome State Fault Refusal :=
  .next (guardedRead acc addr.toNat (fun s => (readReg acc addr.toNat s).2) s)

/-- CH_CNTCLR (R66). -/
def execChCntclr (acc : Access) (ch : ChanId) (v : HWord) (s : State) : Host.Outcome State Fault Refusal :=
  .next (guarded acc (chAddr ch.val 0x08) v (storeCntclr ch v) s)

/-- CH_FLTCLR (R156). -/
def execChFltclr (acc : Access) (ch : ChanId) (v : HWord) (s : State) : Host.Outcome State Fault Refusal :=
  .next (guarded acc (chAddr ch.val 0x1B) v (storeChFltclr acc ch v) s)

/-- GRP_FLTCLR (R156). -/
def execGrpFltclr (acc : Access) (g : GroupId) (v : HWord) (s : State) : Host.Outcome State Fault Refusal :=
  .next (guarded acc (grpAddr g.val 0x29) v (storeGrpFltclr acc g v) s)

/-- Address of an entry's CNV_gL_RES_LO. -/
def resAddr (g : GroupId) (r : Role) (e : Fin 16) : Nat := grpAddr g.val (0x40 + 0x40 * (roleIx r).val + 0x10 + 2 * e.val)

/-- CNV_RES_READ (R118 to R120): a wide read takes HI in the same access. -/
def execCnvResRead (acc : Access) (g : GroupId) (r : Role) (e : Fin 16) (wide : Bool) (s : State) :
    Host.Outcome State Fault Refusal :=
  let a := resAddr g r e
  .next (guardedRead acc a (fun s => (readRegs acc (if wide then [a, a + 1] else [a]) s).2) s)

/-- CAL_USER_RESET (R142). -/
def execCalUserReset (acc : Access) (v : HWord) (s : State) : Host.Outcome State Fault Refusal :=
  .next (guarded acc 0x3005 v (storeUserReset v) s)

/-- CAL_DATA_WRITE (R140): a write of CAL_DATA_HI. -/
def execCalDataWrite (acc : Access) (v : HWord) (s : State) : Host.Outcome State Fault Refusal :=
  .next (guarded acc 0x3003 v (storeCalData acc 0x3003 v) s)

/-- EVT_RECCLR (R238). -/
def execEvtRecclr (acc : Access) (v : HWord) (s : State) : Host.Outcome State Fault Refusal :=
  .next (guarded acc 0x029D v (storeRecclr acc v) s)

/-- Address of a context's register at offset `o`. -/
def crcAddr (x : CtxId) (o : Nat) : Nat := 0x07C0 + 8 * x.val + o

/-- CRC_CFG (R325, R326). -/
def execCrcCfg (acc : Access) (x : CtxId) (v : HWord) (s : State) : Host.Outcome State Fault Refusal :=
  .next (guarded acc (crcAddr x 0) v (crcStore x (crcSetCfg v)) s)

/-- CRC_DIN8 (R325, R326). -/
def execCrcDin8 (acc : Access) (x : CtxId) (v : HWord) (s : State) : Host.Outcome State Fault Refusal :=
  .next (guarded acc (crcAddr x 1) v (crcStore x (crcIn8 v)) s)

/-- CRC_DIN16 (R325, R326). -/
def execCrcDin16 (acc : Access) (x : CtxId) (v : HWord) (s : State) : Host.Outcome State Fault Refusal :=
  .next (guarded acc (crcAddr x 2) v (crcStore x (crcIn16 v)) s)

/-- CRC_RUN_SAVE (R327): a read of CRC_RUNc_LO. -/
def execCrcRunSave (acc : Access) (x : CtxId) (s : State) : Host.Outcome State Fault Refusal :=
  .next (guardedRead acc (crcAddr x 3) (fun s => (readReg acc (crcAddr x 3) s).2) s)

/-- CRC_RUN_RESTORE (R327): a write of CRC_RUNc_HI. -/
def execCrcRunRestore (acc : Access) (x : CtxId) (v : HWord) (s : State) : Host.Outcome State Fault Refusal :=
  .next (guarded acc (crcAddr x 4) v (crcStore x (crcLoad v)) s)

/-- HP_LEN (R315). -/
def execHpLen (acc : Access) (v : HWord) (s : State) : Host.Outcome State Fault Refusal :=
  .next (guarded acc 0x0700 v (storeHpLen v) s)

/-- FRZ_SNAP (R358). -/
def execFrzSnap (acc : Access) (v : HWord) (s : State) : Host.Outcome State Fault Refusal :=
  .next (guarded acc 0x0321 v (fun s => { s with frz := { s.frz with snapReq := s.frz.snapReq || v.getLsbD 0 } }) s)

/-- SEC_MBIN (R278). -/
def execSecMbin (acc : Access) (v : HWord) (s : State) : Host.Outcome State Fault Refusal :=
  .next (guarded acc 0x0580 v (storeMbin acc v) s)

/-- MAILBOX_SEND (R278). -/
def execMailboxSend (acc : Access) (v : HWord) (s : State) : Host.Outcome State Fault Refusal :=
  .next (guarded acc 0x0581 v (storeMbctl acc v) s)

/-- MAILBOX_CLEAR (R278). -/
def execMailboxClear (acc : Access) (v : HWord) (s : State) : Host.Outcome State Fault Refusal :=
  .next (guarded acc 0x0581 v (storeMbctl acc v) s)

/-- MAILBOX_OUT_READ (R278). -/
def execMailboxOutRead (acc : Access) (s : State) : Host.Outcome State Fault Refusal :=
  .next (guardedRead acc 0x0582 (fun s => (readReg acc 0x0582 s).2) s)

/-- MAILBOX_REPLY (R278): the reply or refusal is placed in the outbound buffer. -/
def execMailboxReply (s : State) : Host.Outcome State Fault Refusal :=
  .next (onCore (fun s =>
    if s.sec.mbBusy && !s.sec.mbReply.isEmpty then
      { s with sec := { s.sec with mbOut := s.sec.mbReply, mbReply := [], mbBusy := false, mbMsg := [] } }
    else s) s)

end Sys2Proof.Machine
end

