-- ==== Sys2Proof/Machine/CanterMem.lean ====
section
/-! DEFINITION. Loads and stores of the Canter cores (R187, R200, R201). -/

namespace Sys2Proof.Machine

/-- Access size in bytes (R200); 0 for a reserved sz. -/
def mSize (f : MF) : Nat :=
  if f.sz = 0 ∨ f.sz = 1 then 1 else if f.sz = 2 ∨ f.sz = 3 then 2 else if f.sz = 4 then 4 else if f.sz = 5 then 8 else 0

/-- The byte offset disp × s. -/
def mDisp (f : MF) : W32 := BitVec.ofInt 32 (f.disp.toInt * mSize f)

/-- The base register's value. -/
def mBase (s : State) (c : CoreId) (f : MF) : W32 := rdReg s c (aField f.ab) 0

/-- The effective address. -/
def mEa (s : State) (c : CoreId) (f : MF) : W32 := if f.am = 1 then mBase s c f else mBase s c f + mDisp f

/-- The legal forms common to LD and ST: am, and m registers for doublewords alone. -/
def mLegal (f : MF) : Bool := decide (f.am ≠ 3) && decide (mSize f ≠ 0) && (isM f.rt == decide (f.sz = 5))
/-- A legal LD: a base update may not meet its destination. -/
def ldLegal (f : MF) : Bool := mLegal f && (f.am = 0 || decide (f.rt ≠ aField f.ab))
/-- A legal ST: the zero-extending sizes are loads alone. -/
def stLegal (f : MF) : Bool := mLegal f && decide (f.sz ≠ 1) && decide (f.sz ≠ 3)

/-- Cycles of a word access (R187). The times that the table does not fix are 20 for the Logbook and 1 for a line that is
in the buffer. -/
def wordCost : Window → Nat
  | .imem => 2
  | .dmem => 1
  | .sram => 3
  | .pimage => 3
  | .regs => 8
  | .logbook => 20
  | .xip => 1
  | .eflash => 16
  | .unmapped => 1

/-- Cycles of an access. -/
def mCost (s : State) (c : CoreId) (f : MF) : Nat := wordCost (window (mEa s c f)) * (if f.sz = 5 then 2 else 1)

/-- The bus fault of an access, size D first (R187). -/
def mFault (s : State) (c : CoreId) (f : MF) (store : Bool) : Option (BitVec 4) :=
  let w := window (mEa s c f)
  if f.sz = 5 ∧ w ≠ .dmem ∧ w ≠ .sram then some 9
  else match w with
    | .dmem => none
    | .sram => none
    | .regs => if mSize f = 1 then some 6 else none
    | .unmapped => some 5
    | .logbook => if !inBg s c then some 1 else if store then some 4 else none
    | .xip => if !inBg s c then some 1 else if store then some 4 else none
    | _ => if store then some 4 else none

/-- The register address of a core address (R3). -/
def regAddr (ea : W32) : Nat := (ea.toNat - 0x40000000) / 2
/-- The registers an access of `n` bytes covers. -/
def regSpan (ea : W32) (n : Nat) : List Nat := if n = 4 then [regAddr ea, regAddr ea + 1] else [regAddr ea]

/-- The bytes a load reads, and the machine after it: a register read has its side effects. -/
def mLoad (c : CoreId) (ea : W32) (n : Nat) (s : State) : List Byte × State :=
  let a := ea.toNat
  let k := s.core[c]
  match window ea with
  | .imem => (memGets k.imem a n, s)
  | .dmem => (memGets k.dmem (a - 0x10000000) n, s)
  | .sram => (memGets s.sram (a - 0x20000000) n, s)
  | .pimage => (slice (leBytes 4 (piWord s ((a - 0x30000000) / 4)).toNat) (a % 4) n, s)
  | .regs =>
    let r := readRegs (.core c) (regSpan ea n) s
    (r.1.flatMap fun v => leBytes 2 v.toNat, r.2)
  | .logbook => (memGets s.log.mem (a - 0x50000000) n, s)
  | .xip => (slice ((k.lineBuf.map (·.2)).getD []) (a % 16) n, s)
  | .eflash => (memGets s.eflash (a - 0x70000000) n, s)
  | .unmapped => ([], s)

/-- The value of a load: sign-extended for sz 0b000 and 0b010 (R200). -/
def mExtend (f : MF) (n : Nat) : W32 :=
  if f.sz = 0 then (BitVec.ofNat 8 n).signExtend 32 else if f.sz = 2 then (BitVec.ofNat 16 n).signExtend 32
  else BitVec.ofNat 32 n

/-- The base update (R200). -/
def mUpdate (c : CoreId) (f : MF) (b : W32) (s : State) : State :=
  if f.am = 0 then s else wrReg c (aField f.ab) (b + mDisp f) s

/-- What an LD reads and writes (R185, R200). -/
def ldShape (s : State) (c : CoreId) (f : MF) : Shape :=
  { src := [aField f.ab], dst := (f.rt, mCost s c f) :: (if f.am = 0 then [] else [(aField f.ab, 1)])
    readFl := false, flL := none, macD := none }

/-- The effect of an LD. -/
def ldEff (c : CoreId) (f : MF) (s : State) : Eff :=
  let ea := mEa s c f
  if ea.toNat % mSize f ≠ 0 then .trap 2 0 ea
  else match mFault s c f false with
    | some b => .trap 3 b ea
    | none =>
      let r := mLoad c ea (mSize f) s
      let s1 := mUpdate c f (mBase s c f) r.2
      let s2 := if f.sz = 5 then wrM c f.rt (BitVec.ofNat 64 (ofLe r.1)) s1 else wrReg c f.rt (mExtend f (ofLe r.1)) s1
      .ok s2 none (mCost s c f)

/-- A legal background load in the XIP window whose line is not in the buffer: it waits for its line fill. -/
def ldWaits (s : State) (c : CoreId) (f : MF) : Bool :=
  ldLegal f && decide (f.sz ≠ 5) && inBg s c && decide ((mEa s c f).toNat % mSize f = 0) && lineMissing s c (mEa s c f)

/-- LD (R187, R200, R201). -/
def execLd (c : CoreId) (f : MF) (s : State) : Host.Outcome State Fault Refusal :=
  .next (if ldWaits s c f then s else canter c (ldLegal f) (ldShape s c f) (fun _ s => ldEff c f s) s)

/-- Write the bytes of a store, no fault found. -/
def mStore (c : CoreId) (ea : W32) (l : List Byte) (s : State) : State :=
  let a := ea.toNat
  match window ea with
  | .dmem => modCore s c fun k => { k with dmem := memPuts k.dmem (a - 0x10000000) l }
  | .sram => { s with sram := memPuts s.sram (a - 0x20000000) l }
  | .regs =>
    let v := fun i => BitVec.ofNat 16 (ofLe (slice l (2 * i) 2))
    storeRegs (.core c) ((regSpan ea l.length).zipIdx.map fun p => (p.1, v p.2)) s
  | _ => s

/-- What an ST reads and writes. -/
def stShape (f : MF) : Shape :=
  { src := [aField f.ab, f.rt], dst := if f.am = 0 then [] else [(aField f.ab, 1)], readFl := false, flL := none, macD := none }

/-- A store into the register space names a register whose write is a bus fault (R17, R156). -/
def regForbidden (ea : W32) (n : Nat) : Bool := window ea = .regs && (regSpan ea n).any coreForbidden

/-- The effect of an ST issuing at cycle `t`. A store that fires the watchdog takes the core to its NMI entry (R218). -/
def stEff (c : CoreId) (f : MF) (t : Nat) (s : State) : Eff :=
  let ea := mEa s c f
  if ea.toNat % mSize f ≠ 0 then .trap 2 0 ea
  else match mFault s c f true with
    | some b => .trap 3 b ea
    | none =>
      if regForbidden ea (mSize f) then .trap 3 3 ea
      else
        let v := if f.sz = 5 then (rdM s c f.rt).toNat else (rdReg s c f.rt t).toNat
        let s1 := mStore c ea (leBytes (mSize f) v) (modCore s c fun k => { k with pc := k.pc + 4 })
        .ok (mUpdate c f (mBase s c f) s1) (some (s1.core[c]).pc) (mCost s c f)

/-- ST (R187, R200, R201). -/
def execSt (c : CoreId) (f : MF) (s : State) : Host.Outcome State Fault Refusal :=
  .next (canter c (stLegal f) (stShape f) (fun t s => stEff c f t s) s)

end Sys2Proof.Machine
end

