-- ==== Sys2Proof/Machine/Freeze.lean ====
section
/-! DEFINITION. The freeze read-out and the snapshot (R354 to R358), and the JTAG debug unlock (R284). -/

namespace Sys2Proof.Machine

/-! ### Records of the stream (R355, R356) -/

/-- A record: TYPE, FLAGS, LEN, the body and its CRC-32. -/
def frzRecord (typ flags : Byte) (body : List Byte) : List Byte :=
  let l := [typ, flags, 0, 0] ++ leBytes 4 body.length ++ body
  l ++ leBytes 4 (crcOf 0 l).toNat

/-- The 46 registers of the STATE record, in order. -/
def frzRegs : List Nat :=
  [0x0106, 0x0107, 0x0108, 0x0105, 0x0109, 0x010A, 0x010B, 0x0011, 0x0012, 0x0013, 0x0014, 0x0061,
   0x0046, 0x004E, 0x0056, 0x005E, 0x0302, 0x0311, 0x0312, 0x0313, 0x0314, 0x0315, 0x0316, 0x0317, 0x0318,
   0x0322, 0x0500, 0x0503, 0x0430, 0x0C41] ++
  (List.range 8).map (fun g => grpAddr g 0x28) ++ (List.range 8).map fun g => grpAddr g 0x17

/-- Body of STATE: `before` is the mode before the stop, `src` the freeze sources. -/
def stateBody (s : State) (before : Mode) (src : BitVec 3) : List Byte :=
  leBytes 8 s.now ++ leBytes 2 (sysModeReg s).toNat ++ [(modeCode before).setWidth 8, src.setWidth 8] ++
    frzRegs.flatMap fun a => leBytes 2 (regPeek s .groom a).toNat

/-- State code and task index of a core. -/
def coreCode (s : State) (c : CoreId) : Byte × Byte :=
  let stopped := s.sys.stopped.getLsbD c.val
  match (s.core[c]).run with
  | .idle => (if stopped then 3 else 0, 0)
  | .fg i _ => (1, i.setWidth 8)
  | .bg i => (2, i.setWidth 8)
  | .nmi => (1, (s.core[c]).xtask.setWidth 8)
  | .halted => (3, 0)

/-- Body of CORES. -/
def coresBody (s : State) : List Byte :=
  cores.flatMap fun c =>
    let k := s.core[c]
    let x := coreCode s c
    [BitVec.ofNat 8 c.val, x.1, x.2, 0] ++ leBytes 4 k.pc.toNat ++ k.d.toList.flatMap (fun v => leBytes 4 v.toNat) ++
      k.a.toList.flatMap (fun v => leBytes 4 v.toNat) ++ k.m.toList.flatMap (fun v => leBytes 8 v.toNat) ++
      leBytes 4 k.st.toNat ++ leBytes 4 (min 0xFFFFFFFF ((s.now - s.frm.tickT) / 2))

/-- Body of PIMAGE. -/
def pimageBody (s : State) : List Byte := (List.range 768).flatMap fun k => leBytes 4 (piWord s k).toNat

/-- Body of EVENTS. -/
def eventsBody (s : State) : List Byte :=
  let n := min 128 s.log.journal.length
  s.evt.recs.toList.flatMap (fun r => leBytes 2 r.count.toNat ++ leBytes 4 r.payload.toNat ++ leBytes 2 r.frm.toNat) ++
    leBytes 16 s.evt.pend.toNat ++ leBytes 16 s.evt.mask.toNat ++ leBytes 2 n ++ [0, 0] ++
    padTo 4096 ((s.log.journal.take 128).reverse.flatMap id)

/-- Body of SRAM: shared SRAM, then the data memories. -/
def sramBody (s : State) : List Byte :=
  memGets s.sram 0 0x200000 ++ cores.flatMap fun c => memGets (s.core[c]).dmem 0 0x20000

/-- Body of LOGIDX. -/
def logIdxBody (s : State) : List Byte :=
  (List.finRange 5).flatMap fun b =>
    let l := s.log.bufs[b]
    let o := 0x0C00 + 8 * b.val
    leBytes 2 (act s o).toNat ++ leBytes 2 (act s (o + 1)).toNat ++ leBytes 2 (act s (o + 2)).toNat ++
      leBytes 2 (bufStatReg s b).toNat ++ leBytes 4 l.next.toNat ++ leBytes 4 l.old.toNat

/-- A record that is withheld until debug is unlocked (R357). -/
def privRecord (s : State) (typ : Byte) (body : State → List Byte) : List Byte :=
  if s.sec.dbgUnlk || s.sec.gen.isNone then frzRecord typ 0 (body s) else frzRecord typ 1 []

/-- The read-out stream of a frozen device. -/
def frzStream (s : State) : List Byte :=
  frzRecord 1 0 (stateBody s s.sys.prevMode s.frz.src) ++ privRecord s 2 coresBody ++ frzRecord 3 0 (pimageBody s) ++
    frzRecord 4 0 (eventsBody s) ++ privRecord s 5 sramBody ++ frzRecord 6 0 (logIdxBody s) ++ frzRecord 0xFF 0 []

/-- The snapshot of R358: the mode before the tick, no source. -/
def snapshotBytes (s : State) : List Byte :=
  frzRecord 1 0 (stateBody s s.frz.before 0) ++ frzRecord 3 0 (pimageBody s) ++ frzRecord 4 0 (eventsBody s) ++
    frzRecord 6 0 (logIdxBody s)

/-- SNAPSHOT_WRITE (R358): nothing while buffer 4 has SIZE 0. -/
def execSnapshotWrite (s : State) : Host.Outcome State Fault Refusal :=
  .next (afterBoot (fun s =>
    if s.frz.snapReq then
      let s1 : State := { s with frz := { s.frz with snapReq := false } }
      if bufSize s.cfg.active 4 = 0 then s1 else record 4 (snapshotBytes s1) s1
    else s) s)

/-! ### The TAP (R354) -/

/-- The TAP runs on TCK alone, whatever the clocks of the core die do. -/
def shiftOut (l : List Byte) (s : State) : State :=
  if s.sys.mode = .off then s else { s with sent := .tdo l :: s.sent }

/-- FRZ_READ (R355): the first `n` bytes of the stream; zeros past its end and outside FROZEN. -/
def execFrzRead (n : Nat) (s : State) : Host.Outcome State Fault Refusal :=
  .next (shiftOut (if s.sys.mode = .frozen then padTo n (frzStream s) else List.replicate n 0) s)

/-- JTAG_IDCODE (R354). -/
def execJtagIdcode (s : State) : Host.Outcome State Fault Refusal :=
  .next (shiftOut (leBytes 4 Config.idcode.toNat) s)

/-- JTAG_UNLOCK_STAT (R354). -/
def execJtagUnlockStat (s : State) : Host.Outcome State Fault Refusal :=
  .next (shiftOut [(0#5) ++ bit s.sec.dbgLast ++ bit s.sec.dbgBlock ++ bit s.sec.dbgUnlk] s)

/-- A new challenge. -/
def newChallenge (s : State) : State :=
  let (v, s1) := draw s
  { s1 with sec := { s1.sec with challenge := v } }

/-- JTAG_UNLOCK_CHAL (R284): each read produces a new challenge; the random source stops with the clocks (R351). -/
def execJtagUnlockChal (s : State) : Host.Outcome State Fault Refusal :=
  .next (onCore (fun s =>
    let s1 := newChallenge s
    { s1 with sent := .chall s1.sec.challenge :: s1.sent }) s)

/-- Why an unlock response is invalid (R262, R275 steps 3 to 6, R284). `certSigOk` is the verdict on the
certificate's signature, `sigOk` that on the response's own, which is judged last. -/
def unlockCause (s : State) (resp : List Byte) (certSigOk sigOk : Bool) : Option Byte :=
  let cert := slice resp 0 192
  let kid : BitVec 64 := BitVec.ofNat 64 (ofBe (slice resp 192 8))
  if resp.length ≠ 264 then some cFormat
  else if ofLe cert = 0 then
    (if !isRoot s kid then some cKey else if sigOk then none else some cSignature)
  else match certCause s cert certSigOk with
    | some c => some c
    | none =>
      let k := certKey cert
      if k.kid ≠ kid then some cKey
      else if !k.perm.getLsbD 5 then some cPermission
      else if sigOk then none else some cSignature

/-- JTAG_UNLOCK_RESP (R284): three invalid responses block further ones until reset. -/
def execJtagUnlockResp (resp : List Byte) (x : UnlockSigs) (s : State) : Host.Outcome State Fault Refusal :=
  .next (onCore (fun s =>
    if s.sec.dbgBlock then s
    else verifying false (fun s => match unlockCause s resp x.cert x.own with
      | none => raise 77 0 { s with sec := { s.sec with dbgUnlk := true, dbgLast := false } }
      | some c =>
        let n := s.sec.dbgFails + 1
        let s1 := newChallenge s
        refuse ifJtag c { s1 with sec := { s1.sec with dbgFails := n, dbgBlock := decide (3 ≤ n), dbgLast := true } }) s) s)

end Sys2Proof.Machine
end

