-- ==== Sys2Proof/Machine/HostPort.lean ====
section
/-! DEFINITION. The host port (R307 to R316, R277, R279): its frames and replies; and the acyclic register messages (R303). -/

namespace Sys2Proof.Machine

/-! ### Blocks of registers -/

/-- A word of a block: past 0x7FFF it accesses nothing (R314). -/
def inMap (a : Nat) : Bool := decide (a ≤ 0x7FFF)

/-- The first failing access rule of a block of writes: R277 for every register, then R22 (R312). -/
def blockWriteCause (s : State) (acc : Access) (l : List (Nat × HWord)) : Option Byte :=
  let causes := (l.filter fun p => inMap p.1).filterMap fun p => writeCause s acc p.1 p.2
  (causes.find? fun c => c ≠ cPending).orElse fun _ => causes.head?

/-- The first failing access rule of a block of reads (R312). -/
def blockReadCause (s : State) (acc : Access) (l : List Nat) : Option Byte :=
  (l.filter inMap).findSome? fun a => readCause s acc a

/-- A COMMIT key in a block turned away because a COMMIT is pending (R22). -/
def blockKey (l : List (Nat × HWord)) (cause : Byte) (s : State) : State :=
  match l.find? fun p => p.1 = 0x0010 ∧ p.2 = 0xC3A5 with
  | some p => keyWhilePending p.1 p.2 cause s
  | none => s

/-! ### Acyclic register messages (R303) -/

/-- REG_READ (R303): the block is sampled when it is accepted. -/
def execRegRead (r : RecCtx) (addr count : HWord) (s : State) : Host.Outcome State Fault Refusal :=
  .next (recMsg r (fun s =>
    let n := count.toNat
    if n = 0 ∨ 64 < n ∨ 0x8000 < addr.toNat + n then noRec r cFormat s
    else
      let l := (List.range n).map fun i => addr.toNat + i
      match blockReadCause s (.xiram r.sid) l with
      | some c => noRec r c s
      | none =>
        let (v, s1) := readRegs (.xiram r.sid) l s
        okRec r 0x0100 (v.flatMap fun x => beBytes 2 x.toNat) s1) s)

/-- REG_WRITE (R303): checked whole, refused with the first cause in address order. -/
def execRegWrite (r : RecCtx) (addr count : HWord) (vals : List HWord) (s : State) : Host.Outcome State Fault Refusal :=
  .next (recMsg r (fun s =>
    let n := count.toNat
    if n = 0 ∨ 64 < n ∨ 0x8000 < addr.toNat + n ∨ vals.length ≠ n then noRec r cFormat s
    else
      let l := vals.zipIdx.map fun p => (addr.toNat + p.2, p.1)
      match l.findSome? fun p => writeCause s (.xiram r.sid) p.1 p.2 with
      | some c => noRec r c s
      | none => okRec r 0x0101 [] (storeRegs (.xiram r.sid) l s)) s)

/-! ### Frames -/

/-- Payload area in bytes (R308). -/
def areaLen (len : HWord) (tag : Bool) : Nat := len.toNat / 8 - 10 - (if tag then 16 else 0)

/-- The request header (R309). -/
def reqHeader (cmd : BitVec 4) (f : HpFrame) : W32 := cmd ++ f.addr ++ f.cnt ++ f.seq ++ bit f.tag ++ bit f.rsv

/-- Bytes 0 to 4 of a request. -/
def reqHead (cmd : BitVec 4) (f : HpFrame) : List Byte := beBytes 4 (reqHeader cmd f).toNat ++ [f.ext]

/-- A reply before it is framed. -/
structure Rep where
  cmd : BitVec 4
  seq : BitVec 4
  addr : HWord
  status : BitVec 4
  ext : Byte
  ovf : Bool
  hole : Bool
  words : List HWord

/-- A reply frame of `len` bits (R308, R311): header, EXT, HCRC, payload area, trailer, and the session tag of a tagged
reply under KC_d2c and the device's own count (R279). -/
def repFrame (s : State) (len : HWord) (tag : Bool) (sid : Option (Fin 16)) (x : Rep) : List Byte :=
  let h : W32 := x.cmd ++ x.seq ++ x.status ++ bit x.ovf ++ bit x.hole ++ (0#2) ++ x.addr
  let head := beBytes 4 h.toNat ++ [x.ext]
  let area := padTo (areaLen len tag) (x.words.flatMap fun v => beBytes 2 v.toNat)
  let l := head ++ [crc8 head] ++ area ++ beBytes 4 (crc32c area).toNat
  let t := match sid with
    | some i =>
      let y := s.sec.sess[i]
      beBytes 16 (Config.gcmTag (sessKey y 3) (nonceOf (sessIv y 3) (BitVec.ofNat 64 y.tagSend)) l []).toNat
    | none => []
  padTo (len.toNat / 8) (l ++ t)

/-- The reply of the first frame after reset (R310). -/
def noReply : Rep :=
  { cmd := 0, seq := 0, addr := 0, status := 1, ext := 0, ovf := false, hole := false, words := [] }

/-- The port starts a frame: the reply to the previous frame goes out, HP_READY goes low, and a pending length takes the
next frame (R310, R315, R316). -/
def beginFrame (s : State) : State :=
  let out := if s.hp.reply = [] then repFrame s s.hp.len false none noReply else s.hp.reply
  let s1 := if s.hp.reply = [] then
      modCrc s 1 fun k => { k with run := crcBytes 1 (crcInit 1) (padTo (areaLen s.hp.len false) []) } else s
  { s1 with
    sent := .hpReply out :: s.sent
    hp := { s.hp with len := s.hp.lenNext.getD s.hp.len, lenNext := none, ready := false } }

/-- Prepare the reply of a frame, and count what R311 counts: every status but OK, NOREPLY and PENDING raises
HP_FRAME_ERR. Context 1 formed the trailer (R326). -/
def endFrame (tag : Bool) (sid : Option (Fin 16)) (x : Rep) (s : State) : State :=
  let area := padTo (areaLen s.hp.len tag) (x.words.flatMap fun v => beBytes 2 v.toNat)
  let s1 := modCrc s 1 fun k => { k with run := crcBytes 1 (crcInit 1) area }
  let s2 : State := { s1 with hp := { s1.hp with reply := repFrame s1 s1.hp.len tag sid x } }
  let s3 := match sid with
    | some i => modSess s2 i fun y => { y with tagSend := y.tagSend + 1 }
    | none => s2
  if x.status = 0 ∨ x.status = 1 ∨ x.status = 9 then s3 else raise 122 (x.status.setWidth 32) s3

/-- Set bits of HP_STAT. -/
def hpFlag (b : BitVec 5) (s : State) : State := { s with hp := { s.hp with stat := s.hp.stat ||| b } }

/-- A discarded frame (R311): its rising edges are reported and counted. -/
def discard (edges : Nat) (notReady : Bool) (s : State) : State :=
  let n := sat16u edges
  let s1 := hpFlag (if notReady then 8 else 16) (beginFrame s)
  endFrame false none { noReply with status := if notReady then 3 else 2, words := [n] }
    { s1 with hp := { s1.hp with bits := n, frmErr := inc16 s1.hp.frmErr } }

/-- The session whose tag a reply carries (R310). -/
def replySess (s : State) (f : HpFrame) : Option (Fin 16) :=
  if !f.tag then none else if liveHost s f.sid then some f.sid else hostSess s

/-- Step 6 (R279, R312): the tag and the frame count. -/
def tagCause (s : State) (f : HpFrame) : Option Byte :=
  if !f.tag then none
  else if !liveHost s f.sid || !f.tagOk then some cTag
  else if f.tagCnt < (s.sec.sess[f.sid]).tagCnt then some cReplay
  else if (s.sec.sess[f.sid]).tagCnt < f.tagCnt then some cTag else none

/-- The frame count of an accepted tagged frame is consumed. -/
def useCount (f : HpFrame) (s : State) : State :=
  if f.tag then modSess s f.sid fun x => { x with tagCnt := x.tagCnt + 1 } else s

/-- Addresses of a block (R309). -/
def blockOf (fixed : Bool) (f : HpFrame) : List Nat :=
  (List.range (f.cnt.toNat + 1)).map fun i => f.addr.toNat + (if fixed then 0 else i)

/-- An unassigned address inside the map (R314). -/
def isHole (a : Nat) : Bool := inMap a && !isReg a

/-- Read the words of a block in order; those past the map return 0 (R314). -/
def readBlock (acc : Access) : List Nat → State → List HWord × State
  | [], s => ([], s)
  | a :: t, s =>
    let (v, s1) := if inMap a then readReg acc a s else (0, s)
    let (l, s2) := readBlock acc t s1
    (v :: l, s2)

/-- What the access of an accepted frame gives: a status, EXT, the flags, the words and the machine (R312 steps 7 and 8,
R314). -/
def access (cmd : BitVec 4) (f : HpFrame) (s : State) : Rep × State :=
  let acc : Access := if f.tag then .hostTagged f.sid else .hostUntagged
  let base : Rep := { noReply with cmd := cmd, seq := f.seq, addr := f.addr, status := 0 }
  let refused := fun (c : Byte) => { base with status := if c = cPending then 9 else 8, ext := c }
  if cmd = 0 then (base, useCount f s)
  else
    let l := blockOf (cmd = 2 || cmd = 4) f
    let ok : Rep := { base with ovf := l.any fun a => !inMap a, hole := l.any isHole }
    if cmd = 1 ∨ cmd = 2 then
      match blockReadCause s acc l with
      | some c => (refused c, refuse ifHost c s)
      | none => let (v, s1) := readBlock acc l (useCount f s)
                ({ ok with words := v }, s1)
    else
      let w := l.zipIdx.map fun p => (p.1, BitVec.ofNat 16 (ofBe (slice f.payload (2 * p.2) 2)))
      match blockWriteCause s acc w with
      | some c => (refused c, blockKey w c (refuse ifHost c s))
      | none => (ok, storeRegs acc (w.filter fun p => inMap p.1) (useCount f s))

/-- A complete frame of HP_LEN bits with command `cmd`, checked in the order of R312. `len` is its own length. -/
def checkFrame (cmd : BitVec 4) (f : HpFrame) (len : HWord) (s : State) : State :=
  let a := areaLen len f.tag
  let area := padTo a f.payload
  let base : Rep := { noReply with cmd := cmd, seq := f.seq, addr := f.addr }
  let s1 := if decide (208 ≤ len.toNat) || !f.tag then
      modCrc s 0 fun k => { k with run := crcBytes 1 (crcInit 1) area } else s
  if crc8 (reqHead cmd f) ≠ f.hcrc then
    endFrame f.tag none { base with status := 4 } (hpFlag 4 { s with hp := { s.hp with crcErr := inc16 s.hp.crcErr } })
  else if 4 < cmd.toNat ∨ f.rsv ∨ f.ext ≠ 0 then endFrame f.tag none { base with status := 6 } s
  else if (208 ≤ len.toNat ∨ f.tag = false) ∧ crc32c area ≠ f.trailer then
    endFrame f.tag none { base with status := 5 } (hpFlag 2 { s1 with hp := { s1.hp with crcErr := inc16 s1.hp.crcErr } })
  else
    let sid := replySess s1 f
    let need := f.cnt.toNat + 1
    if a / 2 < need ∨ (f.tag ∧ len.toNat < 224) then endFrame f.tag sid { base with status := 7 } s1
    else match tagCause s1 f with
      | some c => endFrame f.tag sid { base with status := 8, ext := c } (refuse ifHost c s1)
      | none => let (x, s2) := access cmd { f with payload := area } s1
                endFrame f.tag sid x s2

/-- A frame on the host port (R310 to R316): one that begins while HP_READY is low is discarded. -/
def hpFrame (cmd : BitVec 4) (f : HpFrame) (s : State) : State :=
  onCore (fun s =>
    if s.hp.ready then checkFrame cmd f s.hp.len (beginFrame (atTime f.t s))
    else discard s.hp.len.toNat true (atTime f.t s)) s

/-- HP_NOP, and the frames whose CMD is unassigned (R309, R312). -/
def execHpNop (cmd : BitVec 4) (f : HpFrame) (s : State) : Host.Outcome State Fault Refusal := .next (hpFrame cmd f s)
/-- HP_READ (R309, R314). -/
def execHpRead (f : HpFrame) (s : State) : Host.Outcome State Fault Refusal := .next (hpFrame 1 f s)
/-- HP_READ_FIXED (R309, R314). -/
def execHpReadFixed (f : HpFrame) (s : State) : Host.Outcome State Fault Refusal := .next (hpFrame 2 f s)
/-- HP_WRITE (R309, R314). -/
def execHpWrite (f : HpFrame) (s : State) : Host.Outcome State Fault Refusal := .next (hpFrame 3 f s)
/-- HP_WRITE_FIXED (R309, R314). -/
def execHpWriteFixed (f : HpFrame) (s : State) : Host.Outcome State Fault Refusal := .next (hpFrame 4 f s)

/-- HP_FRAME_DISCARD (R311, R312 step 1): a frame begun with HP_READY low, which the row says and the state has to show, or whose
rising edges are not HP_LEN. -/
def execHpFrameDiscard (edges : Nat) (notReady : Bool) (t : Nat) (s : State) : Host.Outcome State Fault Refusal :=
  .next (onCore (fun s =>
    if notReady = s.hp.ready ∨ (notReady = false ∧ edges = s.hp.len.toNat) then s else discard edges notReady (atTime t s)) s)

/-- HP_REPLY_READY (R316). -/
def execHpReplyReady (s : State) : Host.Outcome State Fault Refusal :=
  .next (onCore (fun s => { s with hp := { s.hp with ready := true } }) s)

end Sys2Proof.Machine
end

