-- ==== Sys2Proof/Machine/Leave.lean ====
section
/-! DEFINITION. What the Reins answer (R248 to R251): a request granted, a lease that ends, a request that fails. -/

namespace Sys2Proof.Machine

/-- A member of a granted set whose turn-on still applies has its leave (R251). -/
def grantMember (members : BitVec 64) (n : ChanId) (s : State) : State :=
  if members.getLsbD n.val && (s.ch[n]).out.leave then modOut s n fun o => { o with granted := true } else s

/-- A channel's turn-on or enable has its leave: it takes place at the first apply instant from here on (R249). -/
def grantOut (n : ChanId) (s : State) : State :=
  if (s.ch[n]).out.leave then modOut s n fun o => { o with granted := true } else s

/-- What a grant starts (R246, R248). A sector of an eFlash record or of an image has its leave; a burst and a program's
request run under the live lease alone. `members` are those of a set request. -/
def startOp (op : ReqOp) (members : BitVec 64) (s : State) : State :=
  match op with
  | .turnOn n => grantOut n s
  | .aoEnable n => grantOut n s
  | .excite n => if (s.ch[n]).ai.excLeave then modAi s n fun a => { a with exc := true, excLeave := false } else s
  | .atomSet _ => each channels (grantMember members) s
  | .sweep g => if (s.grp[g]).rot.step = 1 then modRot s g fun r => { r with step := 2, frames := 0, sweepT := s.frm.tickT } else s
  | .handover g => if (s.grp[g]).rot.step = 4 && !(s.grp[g]).rot.restart then handover g s else s
  | .nvWrite c => modCore s c fun k => { k with svc := k.svc.map fun w => { w with granted := true } }
  | .readOut => freeReads s
  | .refresh => { s with far := { s.far with flRef := inc16 s.far.flRef } }
  | .record => { s with cfg := { s.cfg with leave := s.cfg.writing.isSome } }
  | .chunk => { s with upd := { s.upd with leave := true } }
  | .burst => drainCerts s
  | .burstMaint | .reserve | .progChannel _ | .progSet _ | .charge _ => s

/-- A slot whose request this tick's examination found to fit (R248). -/
def canGrant (x : Slot) : Bool := x.st = .pending && x.grantable

/-- The lease of a granted request begins at this tick (R249), and the loads of this tick count it (R243). -/
def grantSlot (i : Fin 96) (s : State) : State :=
  loadRegs (modSlot s i fun x =>
    { x with st := .granted, left := x.frames, grantable := false, deny := false, due := false })

/-- LEAVE_GRANT (R248, R249). -/
def execLeaveGrant (i : Fin 96) (s : State) : Host.Outcome State Fault Refusal :=
  .next (onCore (fun s =>
    if canGrant s.pgv.slots[i] then startOp (s.pgv.slots[i]).op (s.pgv.slots[i]).members (grantSlot i s) else s) s)

/-- A lease due to end at this tick (R248 step 1). -/
def canEnd (x : Slot) : Bool := x.st = .granted && x.due

/-- The lease ends: its status is kept until the slot is reused (R255). -/
def endSlot (i : Fin 96) (s : State) : State :=
  modSlot s i fun x => { x with st := .ended, left := 0, due := false }

/-- LEASE_END (R249). A request of the Groom core that waits takes the slot at this instant (R255). -/
def execLeaseEnd (i : Fin 96) (s : State) : Host.Outcome State Fault Refusal :=
  .next (onCore (fun s => if canEnd s.pgv.slots[i] then serveWait (endSlot i s) else s) s)

/-- What the requester does after REINS_DENY (R250). A turn-on, an enable, a set or an excitation asks again at the next
tick (`tickAsk`); a program reads FAILED. -/
def denied (op : ReqOp) (s : State) : State :=
  match op with
  | .record => { s with pgv := { s.pgv with recWait := 1024 } }
  | .sweep g => if (s.grp[g]).rot.step = 1 then modRot s g fun r => { r with frames := 1024 } else s
  | .handover g => restartOverlap g s
  | .nvWrite c => modCore s c fun k => { k with svc := k.svc.map fun w => { w with denied := true } }
  | .burst | .burstMaint | .readOut | .chunk | .refresh => { s with pgv := { s.pgv with retry := s.pgv.retry ++ [op] } }
  | .turnOn _ | .aoEnable _ | .excite _ | .atomSet _ | .reserve | .progChannel _ | .progSet _ | .charge _ => s

/-- A slot whose request failed at this tick's examination (R250). -/
def canDeny (x : Slot) : Bool := x.st = .pending && x.deny

/-- The request fails and is counted. -/
def failSlot (i : Fin 96) (s : State) : State :=
  let s1 := modSlot s i fun x => { x with st := .failed, grantable := false, deny := false }
  { s1 with pgv := { s1.pgv with denyCnt := inc16 s1.pgv.denyCnt } }

/-- REINS_DENY (R250). -/
def execReinsDeny (i : Fin 96) (s : State) : Host.Outcome State Fault Refusal :=
  .next (onCore (fun s =>
    if canDeny s.pgv.slots[i] then
      serveWait (denied (s.pgv.slots[i]).op (raise 88 (handle s i) (failSlot i s)))
    else s) s)

end Sys2Proof.Machine
end

