-- ==== Sys2Proof/Machine/Dispatch.lean ====
section
/-! DEFINITION. One arm for each command: its meaning, by name. -/

namespace Sys2Proof.Machine

/-- The effect of a command on everything but the queue. -/
def exec (i : Instr) (s : State) : Host.Outcome State Fault Refusal :=
  match i with
  | .powerOnReset => Sys2Proof.Machine.execPowerOnReset s
  | .brownout => Sys2Proof.Machine.execBrownout s
  | .porstNAssert width => Sys2Proof.Machine.execPorstNAssert width s
  | .resetRelease b => Sys2Proof.Machine.execResetRelease b s
  | .bootEnd t dur => Sys2Proof.Machine.execBootEnd t dur s
  | .recoveryReset => Sys2Proof.Machine.execRecoveryReset s
  | .sysRst acc v => Sys2Proof.Machine.execSysRst acc v s
  | .resetCommand => Sys2Proof.Machine.execResetCommand s
  | .hardReset => Sys2Proof.Machine.execHardReset s
  | .frameTick t => Sys2Proof.Machine.execFrameTick t s
  | .syncInEdge t width rising => Sys2Proof.Machine.execSyncInEdge t width rising s
  | .holdoverEntry t => Sys2Proof.Machine.execHoldoverEntry t s
  | .gptpSyncRx p t offset x => Sys2Proof.Machine.execGptpSyncRx p t offset x s
  | .gptpSyncTx x => Sys2Proof.Machine.execGptpSyncTx x s
  | .gptpPdelay p delay corr => Sys2Proof.Machine.execGptpPdelay p delay corr s
  | .gptpAnnounce p t dom a => Sys2Proof.Machine.execGptpAnnounce p t dom a s
  | .laneStart slot => Sys2Proof.Machine.execLaneStart slot s
  | .entryEnd g r => Sys2Proof.Machine.execEntryEnd g r s
  | .resultWrite g r x => Sys2Proof.Machine.execResultWrite g r x s
  | .inXfer slot => Sys2Proof.Machine.execInXfer slot s
  | .inXferEnd slot x => Sys2Proof.Machine.execInXferEnd slot x s
  | .cfgmmSet g => Sys2Proof.Machine.execCfgmmSet g s
  | .cfgResend g => Sys2Proof.Machine.execCfgResend g s
  | .taskRel slot => Sys2Proof.Machine.execTaskRel slot s
  | .taskStart c => Sys2Proof.Machine.execTaskStart c s
  | .outXfer slot => Sys2Proof.Machine.execOutXfer slot s
  | .outXferEnd slot => Sys2Proof.Machine.execOutXferEnd slot s
  | .outApply slot => Sys2Proof.Machine.execOutApply slot s
  | .channelApply ch => Sys2Proof.Machine.execChannelApply ch s
  | .xiSend slot => Sys2Proof.Machine.execXiSend slot s
  | .xiDeadline slot => Sys2Proof.Machine.execXiDeadline slot s
  | .bgOpen slot => Sys2Proof.Machine.execBgOpen slot s
  | .bgClose slot => Sys2Proof.Machine.execBgClose slot s
  | .bgTaskStart c => Sys2Proof.Machine.execBgTaskStart c s
  | .commitKey acc => Sys2Proof.Machine.execCommitKey acc s
  | .discardKey acc => Sys2Proof.Machine.execDiscardKey acc s
  | .commitCmd sigOk t => Sys2Proof.Machine.execCommitCmd sigOk t s
  | .commitChecks t => Sys2Proof.Machine.execCommitChecks t s
  | .groupPortionAck g t => Sys2Proof.Machine.execGroupPortionAck g t s
  | .commitLinkTimeout g => Sys2Proof.Machine.execCommitLinkTimeout g s
  | .commitSwitch t => Sys2Proof.Machine.execCommitSwitch t s
  | .eflashWriteDone j => Sys2Proof.Machine.execEflashWriteDone j s
  | .modeChange t => Sys2Proof.Machine.execModeChange t s
  | .modeSet sigOk t => Sys2Proof.Machine.execModeSet sigOk t s
  | .force sigOk t => Sys2Proof.Machine.execForce sigOk t s
  | .freeze sigOk t => Sys2Proof.Machine.execFreeze sigOk t s
  | .activate sigOk t => Sys2Proof.Machine.execActivate sigOk t s
  | .keyDrop sigOk t => Sys2Proof.Machine.execKeyDrop sigOk t s
  | .epochRaise sigOk t => Sys2Proof.Machine.execEpochRaise sigOk t s
  | .hpTrust sigOk t => Sys2Proof.Machine.execHpTrust sigOk t s
  | .signed r m => Sys2Proof.Machine.execSigned r m s
  | .diRawChange ch raw t => Sys2Proof.Machine.execDiRawChange ch raw t s
  | .diFilterChange ch t => Sys2Proof.Machine.execDiFilterChange ch t s
  | .freqGateEnd ch => Sys2Proof.Machine.execFreqGateEnd ch s
  | .chCntclr acc ch v => Sys2Proof.Machine.execChCntclr acc ch v s
  | .counterClear ch => Sys2Proof.Machine.execCounterClear ch s
  | .testPulseStart ch light => Sys2Proof.Machine.execTestPulseStart ch light s
  | .testPulseEnd ch ma t => Sys2Proof.Machine.execTestPulseEnd ch ma t s
  | .crossSample ch light before after => Sys2Proof.Machine.execCrossSample ch light before after s
  | .suspect ch => Sys2Proof.Machine.execSuspect ch s
  | .stuckTestEnd ch rawStill => Sys2Proof.Machine.execStuckTestEnd ch rawStill s
  | .openLoad ch => Sys2Proof.Machine.execOpenLoad ch s
  | .wireBreak ch => Sys2Proof.Machine.execWireBreak ch s
  | .wireBreakClear ch => Sys2Proof.Machine.execWireBreakClear ch s
  | .currentLimit x => Sys2Proof.Machine.execCurrentLimit x s
  | .thermalShutdown ch inductive_ => Sys2Proof.Machine.execThermalShutdown ch inductive_ s
  | .thermalRetry ch => Sys2Proof.Machine.execThermalRetry ch s
  | .thermClear ch => Sys2Proof.Machine.execThermClear ch s
  | .groupOvercurrent g ma => Sys2Proof.Machine.execGroupOvercurrent g ma s
  | .demagEnd ch => Sys2Proof.Machine.execDemagEnd ch s
  | .aoRampdownEnd ch => Sys2Proof.Machine.execAoRampdownEnd ch s
  | .dischargeEnd ch => Sys2Proof.Machine.execDischargeEnd ch s
  | .queuedRequestApply ch => Sys2Proof.Machine.execQueuedRequestApply ch s
  | .sensePathOpen ch => Sys2Proof.Machine.execSensePathOpen ch s
  | .sensePathReclose ch => Sys2Proof.Machine.execSensePathReclose ch s
  | .sensePathCheck ch below => Sys2Proof.Machine.execSensePathCheck ch below s
  | .scanEnd g => Sys2Proof.Machine.execScanEnd g s
  | .scanModeExit g => Sys2Proof.Machine.execScanModeExit g s
  | .interleaveSample g j x => Sys2Proof.Machine.execInterleaveSample g j x s
  | .cnvResRead acc g r e wide => Sys2Proof.Machine.execCnvResRead acc g r e wide s
  | .sweepEnd g corr => Sys2Proof.Machine.execSweepEnd g corr s
  | .overlapEnd g => Sys2Proof.Machine.execOverlapEnd g s
  | .lpwarn g mv => Sys2Proof.Machine.execLpwarn g mv s
  | .lpwarnEnd g mv => Sys2Proof.Machine.execLpwarnEnd g mv s
  | .uvoff g mv => Sys2Proof.Machine.execUvoff g mv s
  | .overvoltage g mv => Sys2Proof.Machine.execOvervoltage g mv s
  | .fieldUnpowered g => Sys2Proof.Machine.execFieldUnpowered g s
  | .supplyRestored g fbs mv => Sys2Proof.Machine.execSupplyRestored g fbs mv s
  | .heartbeat g => Sys2Proof.Machine.execHeartbeat g s
  | .holdEntry g => Sys2Proof.Machine.execHoldEntry g s
  | .holdTimeout g => Sys2Proof.Machine.execHoldTimeout g s
  | .linkLoss g => Sys2Proof.Machine.execLinkLoss g s
  | .ihlileLinkUp g minor imageOk => Sys2Proof.Machine.execIhlileLinkUp g minor imageOk s
  | .groupFwLoaded g => Sys2Proof.Machine.execGroupFwLoaded g s
  | .chFltclr acc ch v => Sys2Proof.Machine.execChFltclr acc ch v s
  | .grpFltclr acc g v => Sys2Proof.Machine.execGrpFltclr acc g v s
  | .faultClearApply => Sys2Proof.Machine.execFaultClearApply s
  | .leaveGrant slot => Sys2Proof.Machine.execLeaveGrant slot s
  | .leaseEnd slot => Sys2Proof.Machine.execLeaseEnd slot s
  | .reinsDeny slot => Sys2Proof.Machine.execReinsDeny slot s
  | .add c f => Sys2Proof.Machine.execAdd c f s
  | .addc c f => Sys2Proof.Machine.execAddc c f s
  | .sub c f => Sys2Proof.Machine.execSub c f s
  | .subc c f => Sys2Proof.Machine.execSubc c f s
  | .cmp c f => Sys2Proof.Machine.execCmp c f s
  | .andOp c f => Sys2Proof.Machine.execAndOp c f s
  | .orOp c f => Sys2Proof.Machine.execOrOp c f s
  | .xorOp c f => Sys2Proof.Machine.execXorOp c f s
  | .andn c f => Sys2Proof.Machine.execAndn c f s
  | .sll c f => Sys2Proof.Machine.execSll c f s
  | .srl c f => Sys2Proof.Machine.execSrl c f s
  | .sra c f => Sys2Proof.Machine.execSra c f s
  | .ror c f => Sys2Proof.Machine.execRor c f s
  | .min c f => Sys2Proof.Machine.execMin c f s
  | .max c f => Sys2Proof.Machine.execMax c f s
  | .minu c f => Sys2Proof.Machine.execMinu c f s
  | .maxu c f => Sys2Proof.Machine.execMaxu c f s
  | .abs c f => Sys2Proof.Machine.execAbs c f s
  | .clz c f => Sys2Proof.Machine.execClz c f s
  | .sextb c f => Sys2Proof.Machine.execSextb c f s
  | .sexth c f => Sys2Proof.Machine.execSexth c f s
  | .zextb c f => Sys2Proof.Machine.execZextb c f s
  | .zexth c f => Sys2Proof.Machine.execZexth c f s
  | .mov c f => Sys2Proof.Machine.execMov c f s
  | .sel c f => Sys2Proof.Machine.execSel c f s
  | .mul c f => Sys2Proof.Machine.execMul c f s
  | .mulh c f => Sys2Proof.Machine.execMulh c f s
  | .mulhu c f => Sys2Proof.Machine.execMulhu c f s
  | .div c f => Sys2Proof.Machine.execDiv c f s
  | .divu c f => Sys2Proof.Machine.execDivu c f s
  | .rem c f => Sys2Proof.Machine.execRem c f s
  | .remu c f => Sys2Proof.Machine.execRemu c f s
  | .qadd c f => Sys2Proof.Machine.execQadd c f s
  | .qsub c f => Sys2Proof.Machine.execQsub c f s
  | .qneg c f => Sys2Proof.Machine.execQneg c f s
  | .qabs c f => Sys2Proof.Machine.execQabs c f s
  | .qmul c f => Sys2Proof.Machine.execQmul c f s
  | .qadd2 c f => Sys2Proof.Machine.execQadd2 c f s
  | .qsub2 c f => Sys2Proof.Machine.execQsub2 c f s
  | .qmul2 c f => Sys2Proof.Machine.execQmul2 c f s
  | .qshl c f => Sys2Proof.Machine.execQshl c f s
  | .fadd c f => Sys2Proof.Machine.execFadd c f s
  | .fsub c f => Sys2Proof.Machine.execFsub c f s
  | .fmul c f => Sys2Proof.Machine.execFmul c f s
  | .fma c f => Sys2Proof.Machine.execFma c f s
  | .fms c f => Sys2Proof.Machine.execFms c f s
  | .fneg c f => Sys2Proof.Machine.execFneg c f s
  | .fabs c f => Sys2Proof.Machine.execFabs c f s
  | .fcmp c f => Sys2Proof.Machine.execFcmp c f s
  | .itof c f => Sys2Proof.Machine.execItof c f s
  | .ftoi c f => Sys2Proof.Machine.execFtoi c f s
  | .mac c f => Sys2Proof.Machine.execMac c f s
  | .msu c f => Sys2Proof.Machine.execMsu c f s
  | .mac2 c f => Sys2Proof.Machine.execMac2 c f s
  | .mclr c f => Sys2Proof.Machine.execMclr c f s
  | .mtm c f => Sys2Proof.Machine.execMtm c f s
  | .mfm c f => Sys2Proof.Machine.execMfm c f s
  | .mfmh c f => Sys2Proof.Machine.execMfmh c f s
  | .mfml c f => Sys2Proof.Machine.execMfml c f s
  | .jr c f => Sys2Proof.Machine.execJr c f s
  | .callr c f => Sys2Proof.Machine.execCallr c f s
  | .addi c f => Sys2Proof.Machine.execAddi c f s
  | .andi c f => Sys2Proof.Machine.execAndi c f s
  | .ori c f => Sys2Proof.Machine.execOri c f s
  | .xori c f => Sys2Proof.Machine.execXori c f s
  | .cmpi c f => Sys2Proof.Machine.execCmpi c f s
  | .li c f => Sys2Proof.Machine.execLi c f s
  | .lui c f => Sys2Proof.Machine.execLui c f s
  | .slli c f => Sys2Proof.Machine.execSlli c f s
  | .srli c f => Sys2Proof.Machine.execSrli c f s
  | .srai c f => Sys2Proof.Machine.execSrai c f s
  | .bcc c f => Sys2Proof.Machine.execBcc c f s
  | .jump c off => Sys2Proof.Machine.execJump c off s
  | .call c off => Sys2Proof.Machine.execCall c off s
  | .ld c f => Sys2Proof.Machine.execLd c f s
  | .st c f => Sys2Proof.Machine.execSt c f s
  | .budget c => Sys2Proof.Machine.execBudget c s
  | .pin c f => Sys2Proof.Machine.execPin c f s
  | .pout c f => Sys2Proof.Machine.execPout c f s
  | .pids c f => Sys2Proof.Machine.execPids c f s
  | .ramp c f => Sys2Proof.Machine.execRamp c f s
  | .limitOp c f => Sys2Proof.Machine.execLimitOp c f s
  | .tickwait c f => Sys2Proof.Machine.execTickwait c f s
  | .checkin c f => Sys2Proof.Machine.execCheckin c f s
  | .leave c f => Sys2Proof.Machine.execLeave c f s
  | .leaveQuery c f => Sys2Proof.Machine.execLeaveQuery c f s
  | .evraise c f => Sys2Proof.Machine.execEvraise c f s
  | .endTask c f => Sys2Proof.Machine.execEndTask c f s
  | .svcNop c f => Sys2Proof.Machine.execSvcNop c f s
  | .svcNettime c f => Sys2Proof.Machine.execSvcNettime c f s
  | .svcFrmno c f => Sys2Proof.Machine.execSvcFrmno c f s
  | .svcJournal c f => Sys2Proof.Machine.execSvcJournal c f s
  | .svcDevinfo c f => Sys2Proof.Machine.execSvcDevinfo c f s
  | .svcXiSend c f => Sys2Proof.Machine.execSvcXiSend c f s
  | .svcXiRecv c f => Sys2Proof.Machine.execSvcXiRecv c f s
  | .svcLogRead c f => Sys2Proof.Machine.execSvcLogRead c f s
  | .svcNvRead c f => Sys2Proof.Machine.execSvcNvRead c f s
  | .svcNvWrite c f => Sys2Proof.Machine.execSvcNvWrite c f s
  | .svcUnassigned c svc f => Sys2Proof.Machine.execSvcUnassigned c svc f s
  | .serviceComplete c e => Sys2Proof.Machine.execServiceComplete c e s
  | .evtRecclr acc v => Sys2Proof.Machine.execEvtRecclr acc v s
  | .eventMsg => Sys2Proof.Machine.execEventMsg s
  | .hello m majors minors => Sys2Proof.Machine.execHello m majors minors s
  | .idRead m => Sys2Proof.Machine.execIdRead m s
  | .certLoad m cert sigOk => Sys2Proof.Machine.execCertLoad m cert sigOk s
  | .sessInit m body => Sys2Proof.Machine.execSessInit m body s
  | .sessFin m body sigOk zZero => Sys2Proof.Machine.execSessFin m body sigOk zZero s
  | .sessClose r => Sys2Proof.Machine.execSessClose r s
  | .handshakeTimeout sid t => Sys2Proof.Machine.execHandshakeTimeout sid t s
  | .sessionIdle sid t => Sys2Proof.Machine.execSessionIdle sid t s
  | .sessionLoss => Sys2Proof.Machine.execSessionLoss s
  | .peerContextEnd iface peer t => Sys2Proof.Machine.execPeerContextEnd iface peer t s
  | .claim m body sigOk => Sys2Proof.Machine.execClaim m body sigOk s
  | .transfer m body sigOk => Sys2Proof.Machine.execTransfer m body sigOk s
  | .regRead r addr count => Sys2Proof.Machine.execRegRead r addr count s
  | .regWrite r addr count vals => Sys2Proof.Machine.execRegWrite r addr count vals s
  | .logRead r buf count first ecc => Sys2Proof.Machine.execLogRead r buf count first ecc s
  | .eventSub r mask => Sys2Proof.Machine.execEventSub r mask s
  | .cyclicBind r => Sys2Proof.Machine.execCyclicBind r s
  | .cyclicUnbind r => Sys2Proof.Machine.execCyclicUnbind r s
  | .app r core len data => Sys2Proof.Machine.execApp r core len data s
  | .arpRequest p ip mac => Sys2Proof.Machine.execArpRequest p ip mac s
  | .icmpEcho p ip frag data => Sys2Proof.Machine.execIcmpEcho p ip frag data s
  | .ethFrameForward p f => Sys2Proof.Machine.execEthFrameForward p f s
  | .macAgeing mac vid t => Sys2Proof.Machine.execMacAgeing mac vid t s
  | .gateEntryEnd p => Sys2Proof.Machine.execGateEntryEnd p s
  | .portLinkChange p up spd => Sys2Proof.Machine.execPortLinkChange p up spd s
  | .feedRx p x => Sys2Proof.Machine.execFeedRx p x s
  | .trainLaunch => Sys2Proof.Machine.execTrainLaunch s
  | .carriageRx p x delayed => Sys2Proof.Machine.execCarriageRx p x delayed s
  | .segmentVerified g dir2 t => Sys2Proof.Machine.execSegmentVerified g dir2 t s
  | .trainReturn t => Sys2Proof.Machine.execTrainReturn t s
  | .ringOpen p => Sys2Proof.Machine.execRingOpen p s
  | .ringClose => Sys2Proof.Machine.execRingClose s
  | .hpNop cmd f => Sys2Proof.Machine.execHpNop cmd f s
  | .hpRead f => Sys2Proof.Machine.execHpRead f s
  | .hpReadFixed f => Sys2Proof.Machine.execHpReadFixed f s
  | .hpWrite f => Sys2Proof.Machine.execHpWrite f s
  | .hpWriteFixed f => Sys2Proof.Machine.execHpWriteFixed f s
  | .hpFrameDiscard edges notReady t => Sys2Proof.Machine.execHpFrameDiscard edges notReady t s
  | .hpReplyReady => Sys2Proof.Machine.execHpReplyReady s
  | .hpLen acc v => Sys2Proof.Machine.execHpLen acc v s
  | .secMbin acc v => Sys2Proof.Machine.execSecMbin acc v s
  | .mailboxSend acc v => Sys2Proof.Machine.execMailboxSend acc v s
  | .mailboxClear acc v => Sys2Proof.Machine.execMailboxClear acc v s
  | .mailboxReply => Sys2Proof.Machine.execMailboxReply s
  | .mailboxOutRead acc => Sys2Proof.Machine.execMailboxOutRead acc s
  | .xpStart acc v => Sys2Proof.Machine.execXpStart acc v s
  | .xpReadyResume => Sys2Proof.Machine.execXpReadyResume s
  | .xpReadyTimeout rx => Sys2Proof.Machine.execXpReadyTimeout rx s
  | .xpTransferDone rx => Sys2Proof.Machine.execXpTransferDone rx s
  | .xipLineFill q addr => Sys2Proof.Machine.execXipLineFill q addr s
  | .xipFillDone res => Sys2Proof.Machine.execXipFillDone res s
  | .crcCfg acc x v => Sys2Proof.Machine.execCrcCfg acc x v s
  | .crcDin8 acc x v => Sys2Proof.Machine.execCrcDin8 acc x v s
  | .crcDin16 acc x v => Sys2Proof.Machine.execCrcDin16 acc x v s
  | .crcRunSave acc x => Sys2Proof.Machine.execCrcRunSave acc x s
  | .crcRunRestore acc x v => Sys2Proof.Machine.execCrcRunRestore acc x v s
  | .frameRecord => Sys2Proof.Machine.execFrameRecord s
  | .waveBlockWrite g => Sys2Proof.Machine.execWaveBlockWrite g s
  | .logWfarm acc v => Sys2Proof.Machine.execLogWfarm acc v s
  | .waveCaptureStop => Sys2Proof.Machine.execWaveCaptureStop s
  | .telemetryRecord t temps sups => Sys2Proof.Machine.execTelemetryRecord t temps sups s
  | .tempWarn die passed => Sys2Proof.Machine.execTempWarn die passed s
  | .supplyWarn sup out_ => Sys2Proof.Machine.execSupplyWarn sup out_ s
  | .sramScrubDone x => Sys2Proof.Machine.execSramScrubDone x s
  | .logbookScrubDone x => Sys2Proof.Machine.execLogbookScrubDone x s
  | .eflashVerifyDone x => Sys2Proof.Machine.execEflashVerifyDone x s
  | .backgroundStarved code => Sys2Proof.Machine.execBackgroundStarved code s
  | .frzSnap acc v => Sys2Proof.Machine.execFrzSnap acc v s
  | .snapshotWrite => Sys2Proof.Machine.execSnapshotWrite s
  | .wdtServe acc v cyc => Sys2Proof.Machine.execWdtServe acc v cyc s
  | .watchdogExpiry => Sys2Proof.Machine.execWatchdogExpiry s
  | .tallyPeriodEnd => Sys2Proof.Machine.execTallyPeriodEnd s
  | .freezeNRequest => Sys2Proof.Machine.execFreezeNRequest s
  | .jtagFreeze => Sys2Proof.Machine.execJtagFreeze s
  | .freezeStop t => Sys2Proof.Machine.execFreezeStop t s
  | .frzRead n => Sys2Proof.Machine.execFrzRead n s
  | .jtagIdcode => Sys2Proof.Machine.execJtagIdcode s
  | .jtagUnlockChal => Sys2Proof.Machine.execJtagUnlockChal s
  | .jtagUnlockResp resp x => Sys2Proof.Machine.execJtagUnlockResp resp x s
  | .jtagUnlockStat => Sys2Proof.Machine.execJtagUnlockStat s
  | .updateBegin r => Sys2Proof.Machine.execUpdateBegin r s
  | .manifest u body osigOk msigOk => Sys2Proof.Machine.execManifest u body osigOk msigOk s
  | .chunk u entry len offset data => Sys2Proof.Machine.execChunk u entry len offset data s
  | .chunkWritten hashOk imgSigOk => Sys2Proof.Machine.execChunkWritten hashOk imgSigOk s
  | .groupImageAck g ok => Sys2Proof.Machine.execGroupImageAck g ok s
  | .groupImageTimeout g => Sys2Proof.Machine.execGroupImageTimeout g s
  | .updateAbort r => Sys2Proof.Machine.execUpdateAbort r s
  | .updateStatus u => Sys2Proof.Machine.execUpdateStatus u s
  | .updateLockTimeout t => Sys2Proof.Machine.execUpdateLockTimeout t s
  | .activateMarker => Sys2Proof.Machine.execActivateMarker s
  | .trialChecks => Sys2Proof.Machine.execTrialChecks s
  | .healthConfirm r => Sys2Proof.Machine.execHealthConfirm r s
  | .updHealth acc v => Sys2Proof.Machine.execUpdHealth acc v s
  | .confirmation => Sys2Proof.Machine.execConfirmation s
  | .updateRevert r => Sys2Proof.Machine.execUpdateRevert r s
  | .updRevert acc v => Sys2Proof.Machine.execUpdRevert acc v s
  | .trialTimeout t => Sys2Proof.Machine.execTrialTimeout t s
  | .revertMarker => Sys2Proof.Machine.execRevertMarker s
  | .calUserReset acc v => Sys2Proof.Machine.execCalUserReset acc v s
  | .calDataWrite acc v => Sys2Proof.Machine.execCalDataWrite acc v s
  | .registerWrite acc addr w => Sys2Proof.Machine.execRegisterWrite acc addr w s
  | .inrushWindowEnd ch => Sys2Proof.Machine.execInrushWindowEnd ch s
  | .pwmTransition ch => Sys2Proof.Machine.execPwmTransition ch s
  | .ovc g above => Sys2Proof.Machine.execOvc g above s
  | .readWithSnapshot acc addr => Sys2Proof.Machine.execReadWithSnapshot acc addr s

end Sys2Proof.Machine
end

