-- ==== Sys2Proof/Machine/Fetch.lean ====
section
/-! DEFINITION. The word a Canter core fetches and what it does with it (R188 to R192). The commands of the block are the
instructions themselves; here a word of a program becomes one. -/

namespace Sys2Proof.Machine

/-- The word at a core's pc (R188), least significant byte first (R2): in instruction memory, or for a background task in the
line its buffer holds of the XIP window. -/
def fetchWord (s : State) (c : CoreId) : W32 :=
  let k := s.core[c]
  let l := if window k.pc = .xip then slice ((k.lineBuf.map (·.2)).getD []) (k.pc.toNat % 16) 4 else memGets k.imem k.pc.toNat 4
  BitVec.ofNat 32 (ofLe l)

/-- A word runs as the command it spells; one that spells none raises ILLEGAL (R190). -/
def runWord (c : CoreId) (w : W32) (s : State) : Host.Outcome State Fault Refusal :=
  match decodeCanter c w with
  | some i => exec i s
  | none => .next (illegalWord c s)

/-- A core runs the word at its pc; a fetch in the XIP window waits for its line (R323). -/
def runCore (c : CoreId) (s : State) : Host.Outcome State Fault Refusal :=
  if fetchOk s c (s.core[c]).pc && lineMissing s c (s.core[c]).pc then .next s else runWord c (fetchWord s c) s

end Sys2Proof.Machine
end

