-- ==== Sys2Proof/Safety.lean ====
section
/-! DEFINITION. The vocabulary of the claims: what a frame leaves out, what it is for an instruction to execute, for an
exception to be taken, for an access, a message or a command to be accepted, refused or answered, and which stores a safe state
keeps in canonical form. -/

namespace Sys2Proof.Machine

/-! ### Frames -/

/-- The state less what raising an event may change: the event system, the Logbook, each core's copy of its deliveries and
its start requests (R238, R239). -/
def apartFromEvents (s : State) : State :=
  { s with evt := State.reset.evt, log := State.reset.log
           core := s.core.map fun k => { k with dlv := 0, bgReady := 0, bgAgain := 0 } }

/-- Apart from what raising events changes, `t` is `u`. -/
def ButEvents (t u : State) : Prop := apartFromEvents t = apartFromEvents u

/-- Event `e` was raised with payload `p`: its record counts one more and holds the payload and the frame, and its pending
bit is set (R238). -/
def Raised (e : Fin 128) (p : W32) (s t : State) : Prop :=
  t.evt.recs[e].count = inc16 s.evt.recs[e].count ∧ t.evt.recs[e].payload = p ∧
  t.evt.recs[e].frm = s.frm.no.setWidth 16 ∧ t.evt.pend.getLsbD e.val = true

/-- Command `i` completes in state `s`: it answers a next state, and `p` holds of that. -/
def CompletesWith (i : Instr) (s : State) (p : State → Prop) : Prop := ∃ t, exec i s = .next t ∧ p t

/-! ### Canter cores -/

/-- An instruction of shape `sh` and cost `i` executes normally (R185, R188, R190, R215): the core runs a task or its
handler, a background task waits for no service, the fetch is allowed, the fields are legal, and the budget is not passed. -/
def Executes (s : State) (c : CoreId) (legal : Bool) (sh : Shape) (i : Nat) : Prop :=
  canRun s c = true ∧ fetchOk s c s.core[c].pc = true ∧ legal = true ∧ exceeds s c (issueAt s.core[c] sh) i = false

/-- Nothing but core `c` and the instant changes. -/
def CoreOnly (s t : State) (c : CoreId) : Prop := t = { s with now := t.now, core := s.core.set c t.core[c] }

/-- Of a core, only its registers, its program counter and its scoreboard change (R180, R185). -/
def RegistersOnly (k k' : Core) : Prop :=
  k' = { k with d := k'.d, a := k'.a, m := k'.m, st := k'.st, pc := k'.pc, tw := k'.tw, freeAt := k'.freeAt, ready := k'.ready,
                readyFl := k'.readyFl, macReady := k'.macReady, macFl := k'.macFl }

/-- The general registers after a write of `v` to the register that `rd` names: d and a registers alone take it (R180). -/
def GeneralAfter (s t : State) (c : CoreId) (rd : BitVec 5) (v : W32) : Prop :=
  ∀ r : BitVec 5, r.toNat < 24 → rdReg t c r 0 = if r = rd then v else rdReg s c r 0

/-- The registers of core `c` after an instruction that issued at `n` with cost `i`: `v` in rd with latency `l`, the flags
`fl` (a destination st takes the value instead, R182; tk, cy and zero discard it, R180), accumulators kept, pc at `pc`. -/
def Registers (s t : State) (c : CoreId) (rd : BitVec 5) (n i l : Nat) (v : W32) (fl : Flags) (pc : W32) : Prop :=
  GeneralAfter s t c rd v ∧ t.core[c].st = (if rd = stField then v.setWidth 5 else fl) ∧ t.core[c].m = s.core[c].m ∧
  t.core[c].pc = pc ∧ t.core[c].freeAt = n + i ∧ (∀ h : rd.toNat < 28, t.core[c].ready[rd.toNat] = n + l)

/-- As `Registers` with the pc at the next word, and nothing else of the machine changes. -/
def Gives (s t : State) (c : CoreId) (rd : BitVec 5) (n i l : Nat) (v : W32) (fl : Flags) : Prop :=
  Registers s t c rd n i l v fl (s.core[c].pc + 4) ∧ CoreOnly s t c ∧ RegistersOnly s.core[c] t.core[c]

/-- An instruction that issued at `n` with cost 1 leaves `v` in the accumulator that `md` names, with latency `l`, and the
flags `fl`; nothing else changes. -/
def GivesM (s t : State) (c : CoreId) (md : BitVec 5) (n l : Nat) (v : W64) (fl : Flags) : Prop :=
  t.core[c].m = s.core[c].m.set (mIdx md) v ∧ t.core[c].d = s.core[c].d ∧ t.core[c].a = s.core[c].a ∧ t.core[c].st = fl ∧
  t.core[c].pc = s.core[c].pc + 4 ∧ t.core[c].freeAt = n + 1 ∧ t.core[c].ready[24 + (mIdx md).val] = n + l ∧
  CoreOnly s t c ∧ RegistersOnly s.core[c] t.core[c]

/-- What an RR instruction with a register result reads and writes (R185): rs2 where it takes two operands. -/
def rrShape (f : RR) (two readFl wrFl : Bool) (l : Nat) : Shape :=
  { src := if two then [f.rs1, f.rs2] else [f.rs1], dst := [(f.rd, l)], readFl := readFl, flL := if wrFl then some l else none, macD := none }

/-- What an RI instruction with a register result reads and writes. -/
def riShape (f : RI) (useS1 wrFl : Bool) : Shape :=
  { src := if useS1 then [f.rs1] else [], dst := [(f.rd, 1)], readFl := false,
    flL := if wrFl then some 1 else none, macD := none }

/-- The fields of an RI instruction are legal: no m register, an unused rs1 field 0 (R181, R190). -/
def riLegal (f : RI) (useS1 : Bool) : Bool := !isM f.rd && !isM f.rs1 && (useS1 || f.rs1 = 0)

/-- For every core, legal form and operand, an RR instruction completes and gives in rd and the flags what `op` says of its
operands, with cost `i` and latency `l`. -/
def RrGives (mk : CoreId → RR → Instr) (two readFl wrFl : Bool) (i l : Nat) (op : W32 → W32 → Flags → W32 × Flags) : Prop :=
  ∀ (s : State) (c : CoreId) (f : RR), Executes s c (rrLegal f two false) (rrShape f two readFl wrFl l) i →
    let n := issueAt s.core[c] (rrShape f two readFl wrFl l)
    let r := op (rdReg s c f.rs1 n) (rdReg s c f.rs2 n) s.core[c].st
    ∃ t, exec (mk c f) s = .next t ∧ Gives s t c f.rd n i l r.1 r.2

/-- For every core, legal form and operand, a comparison completes and changes the flags alone, as `op` says. -/
def RrCompares (mk : CoreId → RR → Instr) (op : W32 → W32 → Flags → Flags) : Prop :=
  ∀ (s : State) (c : CoreId) (f : RR),
    let sh : Shape := { src := [f.rs1, f.rs2], dst := [], readFl := false, flL := some 1, macD := none }
    Executes s c (rrLegal f true false && f.rd = 0) sh 1 →
    let n := issueAt s.core[c] sh
    ∃ t, exec (mk c f) s = .next t ∧
      Gives s t c zeroField n 1 0 0 (op (rdReg s c f.rs1 n) (rdReg s c f.rs2 n) s.core[c].st)

/-- For every core, legal form and operand, an RI instruction completes and gives what `op` says of rs1 and the
immediate, with cost and latency 1. -/
def RiGives (mk : CoreId → RI → Instr) (legal : RI → Bool) (useS1 wrFl : Bool)
    (op : W32 → BitVec 16 → Flags → W32 × Flags) : Prop :=
  ∀ (s : State) (c : CoreId) (f : RI), Executes s c (riLegal f useS1 && legal f) (riShape f useS1 wrFl) 1 →
    let n := issueAt s.core[c] (riShape f useS1 wrFl)
    let r := op (rdReg s c f.rs1 n) f.imm s.core[c].st
    ∃ t, exec (mk c f) s = .next t ∧ Gives s t c f.rd n 1 1 r.1 r.2

/-- A value and the flags with Z and N of it. -/
def withZN (v : W32) (f : Flags) : W32 × Flags := (v, flagsZN f v)
/-- A clamped value, Z and N of it, and S set where the clamp changed it. -/
def withZNS (w : Nat) (x : Int) (f : Flags) : W32 × Flags :=
  (BitVec.ofInt 32 (satI w x).1, flagsS (flagsZN f (BitVec.ofInt 32 (satI w x).1)) (decide ((satI w x).1 ≠ x)))
/-- The two signed halfwords of a word. -/
def lo16 (x : W32) : Int := (x.setWidth 16).toInt
def hi16 (x : W32) : Int := ((x >>> 16).setWidth 16).toInt
/-- Two halfword results side by side, each clamped to 16 bits, Z and N of the word, S where either was clamped. -/
def withHalves (l h : Int) (f : Flags) : W32 × Flags :=
  let v : W32 := (BitVec.ofInt 16 (satI 16 h).1 ++ BitVec.ofInt 16 (satI 16 l).1 : BitVec 32)
  (v, flagsS (flagsZN f v) (decide ((satI 16 l).1 ≠ l) || decide ((satI 16 h).1 ≠ h)))


/-- Core `c` takes an exception at cycle `n` (R216, R217): the record holds cause, sub-cause, task, pc, fault address and
frame and counts one more, the task ends, the core is free 4 cycles later, no register, accumulator, flag or memory of it
changes, CANTER_EXC is raised, and where SYS_CXPOL says so the core is to stop at the next tick. -/
def TakesException (s t : State) (c : CoreId) (cause bus : BitVec 4) (addr : W32) (n : Nat) : Prop :=
  let k := s.core[c]
  let k' := t.core[c]
  k'.cause = cause ∧ k'.bus = bus ∧ k'.xtask = k.taskId.1 ∧ k'.xbg = k.taskId.2 ∧ k'.xpc = k.pc ∧ k'.xaddr = addr ∧
  k'.xfrm = s.frm.no.setWidth 16 ∧ k'.cnt = inc16 k.cnt ∧ k'.run = .idle ∧ k'.freeAt = n + 4 ∧
  k'.d = k.d ∧ k'.a = k.a ∧ k'.m = k.m ∧ k'.st = k.st ∧ k'.dmem = k.dmem ∧ k'.imem = k.imem ∧ k'.nv = k.nv ∧
  Raised 69 (BitVec.ofNat 32 (65536 * c.val + k'.causeReg.toNat)) s t ∧
  t.sys.stopReq = (if (act s 0x0060).getLsbD c.val then setBit s.sys.stopReq c.val true else s.sys.stopReq)

/-- Nothing else of the machine changes at an exception with cause 1 to 3 than core `c`, what raising CANTER_EXC changes, and
the request to stop. -/
def ExceptionFrame (s t : State) (c : CoreId) : Prop :=
  ButEvents { t with core := t.core.set c s.core[c], sys := s.sys, now := s.now } s ∧ t.sys = { s.sys with stopReq := t.sys.stopReq }

/-- A core instruction can begin (R188, R214): the core runs a task, not its NMI handler, and the fetch is allowed. -/
def Begins (s : State) (c : CoreId) : Prop :=
  canRun s c = true ∧ s.core[c].run ≠ .nmi ∧ fetchOk s c s.core[c].pc = true


/-! ### Register accesses, messages and signed commands -/

/-- The access `acc` may write `v` at address `a` (R17, R22, R263, R277): the core die runs; a core's own write is none that R17
forbids; any other passes the Bridle. -/
def WriteAllowed (s : State) (acc : Access) (a : Nat) (v : HWord) : Prop :=
  coreOn s = true ∧ match acc with
    | .core _ => coreForbidden a = false
    | _ => writeCause s acc a v = none

/-- The access `acc` may read address `a` (R277). -/
def ReadAllowed (s : State) (acc : Access) (a : Nat) : Prop := coreOn s = true ∧ readCause s acc a = none

/-- A CM register that is not reached through an index register (R6). -/
def plainCm (a : Nat) : Bool :=
  isCm a && a ≠ 0x0109 && a ≠ 0x0112 && a ≠ 0x0113 && a ≠ 0x0884 && a ≠ 0x0885 && a ≠ 0x0886 && a ≠ 0x3002 && a ≠ 0x3003

/-- A refusal with a cause was counted and recorded under interface `i` (R281, R282). -/
def Refused (s t : State) (i : Fin 4) (cause : Byte) : Prop :=
  t.sec.refuseCnt = inc16 s.sec.refuseCnt ∧ t.sec.refuseIf = BitVec.ofNat 2 i.val ∧ t.sec.refuseCause = cause

/-- A refusal changes nothing but what R281 and R283 say of it: the count, the latest refusal, what is sent, the device's own
send counter, and what raising BRIDLE_REFUSE changes. -/
def RefusalOnly (s t : State) (i : Fin 4) (cause : Byte) : Prop :=
  Refused s t i cause ∧
  ButEvents t { s with
    now := t.now, sent := t.sent
    sec := { s.sec with
      refuseCnt := t.sec.refuseCnt, refuseIf := t.sec.refuseIf, refuseCause := t.sec.refuseCause, evAt := t.sec.evAt
      plainAt := t.sec.plainAt, mbTaken := t.sec.mbTaken, mbReply := t.sec.mbReply, peers := t.sec.peers, sess := t.sec.sess } }

/-- A message reaches the Groom core (R278, R287, R302, R389): from the network after BOOT where its frame is the device's and
finds room among the 64 held (R305), from the mailbox the one that a SEND has submitted. -/
def Arrives (s : State) (m : MsgCtx) : Prop :=
  coreOn s = true ∧ (if m.iface = .host then s.sec.mbBusy = true ∧ s.sec.mbTaken = false ∧ mbIs s m = true
    else s.sys.mode ≠ .boot ∧ tapDrops s m.port = false ∧ msgServed s m = true ∧ m.rxFull = false)

/-- A message outside a record passes the checks before its own (R302 to R304, R390). -/
def Accepted (s : State) (m : MsgCtx) (openMsg inRecovery : Bool) : Prop :=
  Arrives s m ∧ m.inRec = none ∧ msgCause s m openMsg inRecovery = none

/-- Session `i` sends its next record without closing: it does not carry the last SEQ (R268). -/
def SendsOn (s : State) (i : Fin 16) : Prop := s.sec.sess[i].sendSeq ≠ 0xFFFFFFFFFFFFFFFE

/-- A record passes (R268, R269): its message does, its session is live, its tag holds, its number is new. -/
def RecPasses (s : State) (r : RecCtx) : Prop :=
  Arrives s r.msg ∧ msgCause s r.msg false false = none ∧ r.bare = false ∧ isLive s r.sid = true ∧ r.tagOk = true ∧
  replayWindow s.sec.sess[r.sid].hi s.sec.sess[r.sid].mask r.seq.toNat ≠ none

/-- A record is accepted: it passes, and the answer to it is not the last record of the session. -/
def RecAccepted (s : State) (r : RecCtx) : Prop := RecPasses s r ∧ SendsOn s r.sid

/-- The device answered message `m`: the answer is the latest thing sent, and for the mailbox it is held as the reply. -/
def Answered (s t : State) (m : MsgCtx) (sid : Option (Fin 16)) (msg : HWord) (body : List Byte) : Prop :=
  .response m.iface m.peer sid msg m.txid body (msgTag s m.iface) ∈ t.sent ∧ (m.iface = .host → t.sec.mbReply ≠ []) ∧
  (m.iface ≠ .host → t.sec.mbReply = s.sec.mbReply)

/-- Nothing but the Bridle, what was sent, the instant and what raising an event changes. -/
def BridleOnly (s t : State) : Prop := ButEvents t { s with now := t.now, sec := t.sec, sent := t.sent }

/-- The Ed25519 engine is free for one more verification at instant `n` (R246). -/
def EngineFree (s : State) (n : Nat) : Prop :=
  (s.sec.verifT.filter fun t => decide (n < t + 1000000000)).length < 1000

/-- No certificate waits in the queue of R276. -/
def NoCerts (s : State) : Prop := ∀ x ∈ s.sec.sigQ, ∃ q, x = .cmd q

/-- What stands behind the head of the queue of R276 is no certificate, which would be verified in the same course. -/
def NoCertNext (s : State) : Prop := ∀ m b ok, (s.sec.sigQ.drop 1).head? ≠ some (.cert m b ok)

/-- The command at the head of the queue of signed commands has code `code` and passes steps 3 to 8 of R275; no certificate
stands behind it, and the answer to it is not the last record of its session. -/
def SignedPasses (s : State) (code : HWord) (sigOk : Bool) (t0 : Nat) (q : QCmd) : Prop :=
  coreOn s = true ∧ EngineFree s (max s.now t0) ∧ s.sec.sigQ.head? = some (.cmd q) ∧ q.m.code = code ∧ cmdCause s q sigOk = none ∧
  NoCertNext s ∧ SendsOn s q.sid

/-- A command leaves the queue, and its CMDSEQ is the latest of its session if that is still as it was (R275, R276). -/
def TakenFromQueue (s t : State) (q : QCmd) : Prop :=
  t.sec.sigQ = s.sec.sigQ.drop 1 ∧ t.sec.sess[q.sid].cmdSeq = q.m.cmdSeq


/-- An update message reaches its checks (R364, R390): a record of a session with UPDATE, or a mailbox message in recovery. -/
def UpdAccepted (s : State) (u : UpdCtx) : Prop :=
  match u with
  | .session r => RecAccepted s r ∧ sessPerm s r.sid 4 = true
  | .recovery m => Accepted s m false true ∧ s.sys.recov = true ∧ m.iface = .host

/-- The instant of an update message. -/
def updNow (s : State) (u : UpdCtx) : Nat :=
  match u with
  | .session r => max s.now r.msg.t
  | .recovery m => max s.now m.t

/-- An update message was answered with a status and a body. -/
def UpdAnswered (s t : State) (u : UpdCtx) (msg : HWord) (status : Byte) (body : List Byte) : Prop :=
  match u with
  | .session r => Answered s t r.msg (some r.sid) msg (status :: body)
  | .recovery m => Answered s t m none msg (status :: body)

/-- The interface an update message came in by. -/
def updIf (u : UpdCtx) : Fin 4 :=
  match u with
  | .session r => ifCode r.msg.iface
  | .recovery m => ifCode m.iface


/-- Every sparse store of the machine is in canonical form: keys strictly rising, no entry equal to what an unlisted key reads as.
The shared SRAM, the eFlash, the Logbook, the memories and NV stores of the cores, the configuration sets wherever they stand, the
portions the group dies hold, and the calibration tables, also as stored at test. -/
def StoresCanonical (s : State) : Prop :=
  spWf Config.memDefault s.sram = true ∧ spWf Config.memDefault s.eflash = true ∧ spWf Config.memDefault s.log.mem = true ∧
  (∀ c : CoreId, spWf Config.memDefault s.core[c].dmem = true ∧ spWf Config.memDefault s.core[c].imem = true ∧
    spWf Config.memDefault s.core[c].nv = true ∧ ∀ m, s.core[c].nvNext = some m → spWf Config.memDefault m = true) ∧
  s.cfg.active.wf = true ∧ s.cfg.staged.wf = true ∧ (∀ c, s.cfg.committed = some c → c.wf = true) ∧
  (∀ c, s.cfg.writing = some c → c.wf = true) ∧ (∀ c, s.net.prevRing = some c → c.wf = true) ∧
  (∀ g : GroupId, s.grp[g].portion.wf = true ∧ ∀ c, s.grp[g].portionNext = some c → c.wf = true) ∧
  spWf calNominal s.cal.tables = true ∧ spWf calNominal s.cal.atTest = true

/-- The commands that reset the logic side (R384 to R388, R344, R369, R376, R390). -/
def isReset (i : Instr) : Prop :=
  i = .powerOnReset ∨ i = .brownout ∨ (∃ w, i = .porstNAssert w) ∨ i = .hardReset ∨ i = .resetCommand ∨ i = .recoveryReset ∨
  i = .activateMarker ∨ i = .revertMarker

/-- A step that answers a next state. -/
def StepCompletes (s : State) : Prop := ∃ t, step s = .next t

end Sys2Proof.Machine
end

