-- ==== Sys2Proof/Certificates/Slice0/Obligations.lean ====
section
/-! DEFINITION. The statements for the provers, each from the numbered rules of spec/. -/

open Sys2Proof Sys2Proof.Machine

/-- A step takes the command at the front of the queue and is exec of it on the state with the queue's rest, whatever it
answers; on an empty queue the block idles (log entry 1: DESIGN CHOICE). -/
def Obligations.AStepRunsTheFrontCommand : Prop :=
  (∀ (s : State) (c : Instr) (rest : List Instr), s.pending = c :: rest → step s = exec c { s with pending := rest }) ∧
  (∀ s : State, s.pending = [] → step s = .next s)

/-- After reset every sparse store is in canonical form: nothing is listed in any memory, set or table. -/
def Obligations.StoresAreCanonicalAtReset : Prop :=
 StoresCanonical State.reset

/-- Every step keeps every sparse store in canonical form, so that equal contents are equal data. -/
def Obligations.EveryStepKeepsStoresCanonical : Prop :=
  ∀ s t : State, StoresCanonical s → step s = .next t → StoresCanonical t

/-- The active configuration set changes only at a COMMIT's switch tick and when BOOT loads the committed set (R6, R8, R15):
no other command, whatever its operands and the state, writes it. -/
def Obligations.OnlySwitchAndBootChangeTheActiveSet : Prop :=
  ∀ (s t : State) (i : Instr), exec i s = .next t → t.cfg.active ≠ s.cfg.active →
    (∃ t0, i = .commitSwitch t0) ∨ (∃ b, i = .resetRelease b)

/-- The mode changes only at a tick by MODE_CHANGE, at BOOT's end, at a confirmation, at a freeze and at a reset and its
release (R25 to R27, R350, R372, R374, R391, R392); while the core die runs it never becomes OFF but by PORST_N. -/
def Obligations.OnlyTheseCommandsChangeTheMode : Prop :=
  ∀ (s t : State) (i : Instr), exec i s = .next t → t.sys.mode ≠ s.sys.mode →
    ((∃ t0, i = .modeChange t0) ∨ (∃ t0 d, i = .bootEnd t0 d) ∨ i = .confirmation ∨ (∃ t0, i = .freezeStop t0) ∨
      (∃ b, i = .resetRelease b) ∨ isReset i) ∧
    (t.sys.mode = .off → ∃ w, i = .porstNAssert w) ∧ (t.sys.mode = .frozen → ∃ t0, i = .freezeStop t0)

/-- A frozen device stays frozen until a power-on, brownout, pin or hard reset (R351, R353): no other command changes its
mode, its configuration, its cores or its shared memory. -/
def Obligations.OnlyAResetEndsFrozen : Prop :=
  ∀ (s t : State) (i : Instr), s.sys.mode = .frozen → s.sys.bootReady = true → exec i s = .next t →
    i = .powerOnReset ∨ i = .brownout ∨ (∃ w, i = .porstNAssert w) ∨ i = .hardReset ∨
    (t.sys.mode = .frozen ∧ t.cfg = s.cfg ∧ t.core = s.core ∧ t.sram = s.sram ∧ t.sec = s.sec)

/-- Ownership and the key epoch (R257 to R259, R264): only CLAIM and TRANSFER change the generation and the roots, a claimed
device never becomes unclaimed, only EPOCH_RAISE changes the epoch, and it never falls. -/
def Obligations.OwnershipAndEpochAreProtected : Prop :=
  ∀ (s t : State) (i : Instr), exec i s = .next t →
    ((t.sec.gen ≠ s.sec.gen ∨ t.sec.roots ≠ s.sec.roots) →
      (∃ m b ok, i = .claim m b ok ∧ s.sec.gen = none) ∨ (∃ m b ok, i = .transfer m b ok ∧ s.sec.gen.isSome = true)) ∧
    (s.sec.gen.isSome = true → t.sec.gen.isSome = true) ∧
    (t.sec.epoch ≠ s.sec.epoch → ∃ ok t0, i = .epochRaise ok t0) ∧ s.sec.epoch ≤ t.sec.epoch

/-- ADD, ADDC, SUB, SUBC and CMP (R193, R182): the sum or difference modulo 2^32, Z and N of it, C the carry out of bit 31
or no borrow, V signed overflow; CMP changes the flags alone. Cost and latency 1 (R193). AND, OR, XOR, ANDN, SLL, SRL, SRA,
ROR, MIN, MAX, MINU, MAXU and CLZ (R193): the result, Z and N of it, C, V and S unchanged. SEXTB, SEXTH, ZEXTB, ZEXTH and
MOV write no flag; ABS saturates and sets S for 0x8000_0000 alone; SEL takes rs1 where its condition holds and rs2
otherwise, and writes no flag (R193, R191). -/
def Obligations.IntegerArithmeticAndLogic : Prop :=
  (
  RrGives .add true false true 1 1 (fun x y f => (x + y, flagsZNCV f (x + y) (decide (2 ^ 32 ≤ x.toNat + y.toNat))
    (decide ((x + y).toInt ≠ x.toInt + y.toInt)))) ∧
  RrGives .addc true true true 1 1 (fun x y f =>
    let c := (flC f).toNat
    let v := x + y + BitVec.ofNat 32 c
    (v, flagsZNCV f v (decide (2 ^ 32 ≤ x.toNat + y.toNat + c)) (decide (v.toInt ≠ x.toInt + y.toInt + c)))) ∧
  RrGives .sub true false true 1 1 (fun x y f => (x - y, flagsZNCV f (x - y) (decide (y.toNat ≤ x.toNat))
    (decide ((x - y).toInt ≠ x.toInt - y.toInt)))) ∧
  RrGives .subc true true true 1 1 (fun x y f =>
    let b := 1 - (flC f).toNat
    let v := x - y - BitVec.ofNat 32 b
    (v, flagsZNCV f v (decide (y.toNat + b ≤ x.toNat)) (decide (v.toInt ≠ x.toInt - y.toInt - b)))) ∧
  RrCompares .cmp (fun x y f => flagsZNCV f (x - y) (decide (y.toNat ≤ x.toNat))
    (decide ((x - y).toInt ≠ x.toInt - y.toInt)))) ∧
  (
  RrGives .andOp true false true 1 1 (fun x y f => withZN (x &&& y) f) ∧
  RrGives .orOp true false true 1 1 (fun x y f => withZN (x ||| y) f) ∧
  RrGives .xorOp true false true 1 1 (fun x y f => withZN (x ^^^ y) f) ∧
  RrGives .andn true false true 1 1 (fun x y f => withZN (x &&& ~~~y) f) ∧
  RrGives .sll true false true 1 1 (fun x y f => withZN (x <<< (y.toNat % 32)) f) ∧
  RrGives .srl true false true 1 1 (fun x y f => withZN (x >>> (y.toNat % 32)) f) ∧
  RrGives .sra true false true 1 1 (fun x y f => withZN (x.sshiftRight (y.toNat % 32)) f) ∧
  RrGives .ror true false true 1 1 (fun x y f => withZN (x.rotateRight (y.toNat % 32)) f) ∧
  RrGives .min true false true 1 1 (fun x y f => withZN (BitVec.ofInt 32 (min x.toInt y.toInt)) f) ∧
  RrGives .max true false true 1 1 (fun x y f => withZN (BitVec.ofInt 32 (max x.toInt y.toInt)) f) ∧
  RrGives .minu true false true 1 1 (fun x y f => withZN (BitVec.ofNat 32 (min x.toNat y.toNat)) f) ∧
  RrGives .maxu true false true 1 1 (fun x y f => withZN (BitVec.ofNat 32 (max x.toNat y.toNat)) f) ∧
  RrGives .clz false false true 1 1 (fun x _ f => withZN (BitVec.ofNat 32 (x.clz).toNat) f)) ∧
  (
  RrGives .sextb false false false 1 1 (fun x _ f => ((x.setWidth 8).signExtend 32, f)) ∧
  RrGives .sexth false false false 1 1 (fun x _ f => ((x.setWidth 16).signExtend 32, f)) ∧
  RrGives .zextb false false false 1 1 (fun x _ f => (x &&& 0xFF, f)) ∧
  RrGives .zexth false false false 1 1 (fun x _ f => (x &&& 0xFFFF, f)) ∧
  RrGives .mov false false false 1 1 (fun x _ f => (x, f)) ∧
  RrGives .abs false false true 1 1 (fun x _ f =>
    let v := if x = 0x80000000 then 0x7FFFFFFF else if x.msb then -x else x
    (v, flagsS (flagsZN f v) (x = 0x80000000))) ∧
  ∀ (s : State) (c : CoreId) (f : RR),
    let cc := f.md.setWidth 4
    let sh : Shape := { src := [f.rs1, f.rs2], dst := [(f.rd, 1)], readFl := cc ≠ 14, flL := none, macD := none }
    let n := issueAt s.core[c] sh
    Executes s c (rrLegal f true true && !f.md.msb) sh 1 →
    ∃ t, exec (.sel c f) s = .next t ∧
      Gives s t c f.rd n 1 1 (if condHolds s.core[c].st cc then rdReg s c f.rs1 n else rdReg s c f.rs2 n) s.core[c].st)

/-- MUL, MULH and MULHU (R194): bits 31:0 and 63:32 of the product, cost 1, latency 2, no flag. DIV, DIVU, REM and REMU:
cost and latency 12, no flag but S, which the cases of R194's table set: a divisor 0, and the most negative number divided
by −1. QADD, QSUB, QNEG, QABS, QMUL, QSHL and the halfword forms QADD2, QSUB2, QMUL2 (R195): the exact value clamped, Z and
N of the 32-bit result, S set where any lane was clamped, C and V unchanged. -/
def Obligations.MultiplyDivideAndSaturate : Prop :=
  (
  RrGives .mul true false false 1 2 (fun x y f => (x * y, f)) ∧
  RrGives .mulh true false false 1 2 (fun x y f => (BitVec.ofInt 32 (x.toInt * y.toInt / 2 ^ 32), f)) ∧
  RrGives .mulhu true false false 1 2 (fun x y f => (BitVec.ofNat 32 (x.toNat * y.toNat / 2 ^ 32), f)) ∧
  RrGives .div true false true 12 12 (fun x y f =>
    if y = 0 then (if x.msb then 0x80000000 else 0x7FFFFFFF, flagsS f true)
    else if x = 0x80000000 ∧ y = -1 then (0x7FFFFFFF, flagsS f true) else (x.sdiv y, f)) ∧
  RrGives .divu true false true 12 12 (fun x y f => if y = 0 then (0xFFFFFFFF, flagsS f true) else (x / y, f)) ∧
  RrGives .rem true false true 12 12 (fun x y f =>
    if y = 0 then (x, flagsS f true) else if x = 0x80000000 ∧ y = -1 then (0, flagsS f true) else (x.srem y, f)) ∧
  RrGives .remu true false true 12 12 (fun x y f => if y = 0 then (x, flagsS f true) else (x % y, f))) ∧
  (
  RrGives .qadd true false true 1 1 (fun x y f => withZNS 32 (x.toInt + y.toInt) f) ∧
  RrGives .qsub true false true 1 1 (fun x y f => withZNS 32 (x.toInt - y.toInt) f) ∧
  RrGives .qneg false false true 1 1 (fun x _ f => withZNS 32 (-x.toInt) f) ∧
  RrGives .qabs false false true 1 1 (fun x _ f => withZNS 32 |x.toInt| f) ∧
  RrGives .qmul true false true 1 2 (fun x y f => withZNS 32 ((x.toInt * y.toInt + 2 ^ 30) / 2 ^ 31) f) ∧
  RrGives .qshl true false true 1 1 (fun x y f => withZNS 32 (x.toInt * 2 ^ (y.toNat % 32)) f) ∧
  RrGives .qadd2 true false true 1 1 (fun x y f => withHalves (lo16 x + lo16 y) (hi16 x + hi16 y) f) ∧
  RrGives .qsub2 true false true 1 1 (fun x y f => withHalves (lo16 x - lo16 y) (hi16 x - hi16 y) f) ∧
  RrGives .qmul2 true false true 1 2 (fun x y f =>
    withHalves ((lo16 x * lo16 y + 2 ^ 14) / 2 ^ 15) ((hi16 x * hi16 y + 2 ^ 14) / 2 ^ 15) f))

/-- FADD, FSUB, FMUL, FMA, FMS, FNEG, FABS, FCMP, ITOF and FTOI (R196): the rounded value with cost 1 and latency 3 and no
flag (FTOI sets S where it saturates or meets a NaN); FNEG and FABS change bit 31 alone, latency 1; FCMP writes Z, N, C and
V by the table of R196. What FP32 arithmetic delivers (R196): no result of FADD, FMUL, FMA, FMS or ITOF is subnormal, every
NaN among them is 0x7FC0_0000, an operand that is a NaN gives it, and FTOI of a NaN is 0 with S. -/
def Obligations.FloatingPointInstructions : Prop :=
  (
  RrGives .fadd true false false 1 3 (fun x y f => (fpAdd x y, f)) ∧
  RrGives .fsub true false false 1 3 (fun x y f => (fpAdd x (y ^^^ 0x80000000), f)) ∧
  RrGives .fmul true false false 1 3 (fun x y f => (fpMul x y, f)) ∧
  RrGives .fneg false false false 1 1 (fun x _ f => (x ^^^ 0x80000000, f)) ∧
  RrGives .fabs false false false 1 1 (fun x _ f => (x &&& 0x7FFFFFFF, f)) ∧
  RrGives .itof false false false 1 3 (fun x _ f => (fpOfInt x.toInt, f)) ∧
  RrGives .ftoi false false true 1 3 (fun x _ f => ((fpToInt x).1, flagsS f (fpToInt x).2)) ∧
  RrCompares .fcmp (fun x y f =>
    match fpKey (fpDec x), fpKey (fpDec y) with
    | some a, some b => if a = b then mkFlags true false true false (flS f)
      else if a < b then mkFlags false true false false (flS f) else mkFlags false false true false (flS f)
    | _, _ => mkFlags false false false true (flS f)) ∧
  ∀ (s : State) (c : CoreId) (f : RR),
    let sh : Shape := { src := [f.rd, f.rs1, f.rs2], dst := [(f.rd, 3)], readFl := false, flL := none, macD := none }
    let n := issueAt s.core[c] sh
    Executes s c (rrLegal f true false) sh 1 →
    (∃ t, exec (.fma c f) s = .next t ∧
      Gives s t c f.rd n 1 3 (fpFma false (rdReg s c f.rd n) (rdReg s c f.rs1 n) (rdReg s c f.rs2 n)) s.core[c].st) ∧
    (∃ t, exec (.fms c f) s = .next t ∧
      Gives s t c f.rd n 1 3 (fpFma true (rdReg s c f.rd n) (rdReg s c f.rs1 n) (rdReg s c f.rs2 n)) s.core[c].st)) ∧
  (
  let canonical := fun r : W32 =>
    (r.extractLsb' 23 8 = 0 → r.extractLsb' 0 23 = 0) ∧
    (r.extractLsb' 23 8 = 255 → r.extractLsb' 0 23 ≠ 0 → r = 0x7FC00000)
  let isNan := fun r : W32 => r.extractLsb' 23 8 = 255 ∧ r.extractLsb' 0 23 ≠ 0
  (∀ x y : W32, canonical (fpAdd x y) ∧ canonical (fpMul x y) ∧ canonical (fpOfInt x.toInt) ∧
    ∀ d neg, canonical (fpFma neg d x y)) ∧
  (∀ x y : W32, isNan x ∨ isNan y → fpAdd x y = 0x7FC00000 ∧ fpMul x y = 0x7FC00000 ∧
    ∀ d neg, fpFma neg d x y = 0x7FC00000) ∧
  (∀ x : W32, isNan x → fpToInt x = (0, true)))

/-- MAC, MSU and MAC2 (R197): the exact sum clamped to 64 bits, S set where it was clamped, latency 2; MCLR and MTM write
the accumulator, latency 1; MFM rounds in 65 bits, shifts and clamps to 32 bits with S; MFMH and MFML read its halves, no
flag. -/
def Obligations.MultiplyAccumulate : Prop :=
  ∀ (s : State) (c : CoreId) (f : RR),
    let macShape : Shape := { src := [f.rs1, f.rs2], dst := [], readFl := false, flL := none, macD := some f.rd }
    let n := issueAt s.core[c] macShape
    let x := rdReg s c f.rs1 n
    let y := rdReg s c f.rs2 n
    let m := (rdM s c f.rd).toInt
    let sums := fun (t : State) (v : Int) => GivesM s t c f.rd n 2 (BitVec.ofInt 64 (satI 64 v).1)
      (flagsS s.core[c].st (decide ((satI 64 v).1 ≠ v)))
    (Executes s c (isM f.rd && !isM f.rs1 && !isM f.rs2 && f.md = 0) macShape 1 →
      (∃ t, exec (.mac c f) s = .next t ∧ sums t (m + x.toInt * y.toInt)) ∧
      (∃ t, exec (.msu c f) s = .next t ∧ sums t (m - x.toInt * y.toInt)) ∧
      (∃ t, exec (.mac2 c f) s = .next t ∧ sums t (m + lo16 x * lo16 y + hi16 x * hi16 y))) ∧
    (let sh : Shape := { src := [], dst := [(f.rd, 1)], readFl := false, flL := none, macD := none }
     Executes s c (isM f.rd && f.rs1 = 0 && f.rs2 = 0 && f.md = 0) sh 1 →
      ∃ t, exec (.mclr c f) s = .next t ∧ GivesM s t c f.rd (issueAt s.core[c] sh) 1 0 s.core[c].st) ∧
    (let sh : Shape := { src := [f.rs1, f.rs2], dst := [(f.rd, 1)], readFl := false, flL := none, macD := none }
     let n := issueAt s.core[c] sh
     Executes s c (isM f.rd && !isM f.rs1 && !isM f.rs2 && f.md = 0) sh 1 →
      ∃ t, exec (.mtm c f) s = .next t ∧
        GivesM s t c f.rd n 1 (BitVec.ofNat 64 ((rdReg s c f.rs1 n).toNat * 2 ^ 32 + (rdReg s c f.rs2 n).toNat)) s.core[c].st) ∧
    (let sh : Shape := { src := [f.rs1], dst := [(f.rd, 1)], readFl := false, flL := some 1, macD := none }
     let k := f.md.toNat
     let v := ((rdM s c f.rs1).toInt + (if k = 0 then 0 else 2 ^ (k - 1))) / 2 ^ k
     Executes s c (!isM f.rd && isM f.rs1 && f.rs2 = 0) sh 1 →
      ∃ t, exec (.mfm c f) s = .next t ∧ Gives s t c f.rd (issueAt s.core[c] sh) 1 1 (BitVec.ofInt 32 (satI 32 v).1)
        (flagsS s.core[c].st (decide ((satI 32 v).1 ≠ v)))) ∧
    (let sh : Shape := { src := [f.rs1], dst := [(f.rd, 1)], readFl := false, flL := none, macD := none }
     Executes s c (!isM f.rd && isM f.rs1 && f.rs2 = 0 && f.md = 0) sh 1 →
      (∃ t, exec (.mfmh c f) s = .next t ∧
        Gives s t c f.rd (issueAt s.core[c] sh) 1 1 ((rdM s c f.rs1 >>> 32).setWidth 32) s.core[c].st) ∧
      (∃ t, exec (.mfml c f) s = .next t ∧
        Gives s t c f.rd (issueAt s.core[c] sh) 1 1 ((rdM s c f.rs1).setWidth 32) s.core[c].st))

/-- ADDI, ANDI, ORI, XORI, CMPI, LI, LUI, SLLI, SRLI and SRAI (R198): ADDI and CMPI sign-extend the immediate, the logical
ones zero-extend it, a shift needs imm[15:5] 0. Bcc, J, CALL, JR and CALLR (R198, R199): the pc goes to the instruction's
own address plus 4 × the offset where the condition holds (I 2) and to the next word otherwise (I 1); CALL and CALLR leave
pc + 4 in a6, CALLR after reading its target; JR and CALLR go to a target whose bits 1:0 are 0. No flag changes. -/
def Obligations.ImmediatesBranchesAndJumps : Prop :=
  (
  let any := fun _ : RI => true
  let short := fun f : RI => decide (f.imm.toNat < 32)
  RiGives .addi any true true (fun x i f =>
    let y := i.signExtend 32
    (x + y, flagsZNCV f (x + y) (decide (2 ^ 32 ≤ x.toNat + y.toNat)) (decide ((x + y).toInt ≠ x.toInt + y.toInt)))) ∧
  RiGives .andi any true true (fun x i f => withZN (x &&& i.setWidth 32) f) ∧
  RiGives .ori any true true (fun x i f => withZN (x ||| i.setWidth 32) f) ∧
  RiGives .xori any true true (fun x i f => withZN (x ^^^ i.setWidth 32) f) ∧
  RiGives .li any false false (fun _ i f => (i.signExtend 32, f)) ∧
  RiGives .lui any false false (fun _ i f => (i.setWidth 32 <<< 16, f)) ∧
  RiGives .slli short true true (fun x i f => withZN (x <<< i.toNat) f) ∧
  RiGives .srli short true true (fun x i f => withZN (x >>> i.toNat) f) ∧
  RiGives .srai short true true (fun x i f => withZN (x.sshiftRight i.toNat) f) ∧
  ∀ (s : State) (c : CoreId) (f : RI),
    let sh : Shape := { src := [f.rs1], dst := [], readFl := false, flL := some 1, macD := none }
    let n := issueAt s.core[c] sh
    let x := rdReg s c f.rs1 n
    let y := f.imm.signExtend 32
    Executes s c (f.rd = 0 && !isM f.rs1) sh 1 →
    ∃ t, exec (.cmpi c f) s = .next t ∧ Gives s t c zeroField n 1 0 0
      (flagsZNCV s.core[c].st (x - y) (decide (y.toNat ≤ x.toNat)) (decide ((x - y).toInt ≠ x.toInt - y.toInt)))) ∧
  (
  ∀ (s : State) (c : CoreId),
    let k := s.core[c]
    let plain := fun t : State => CoreOnly s t c ∧ RegistersOnly k t.core[c]
    (∀ f : RI,
      let cc := f.rd.setWidth 4
      let sh : Shape := { src := [], dst := [], readFl := cc ≠ 14, flL := none, macD := none }
      let i := if condHolds k.st cc then 2 else 1
      Executes s c (!f.rd.msb && f.rs1 = 0) sh i →
      ∃ t, exec (.bcc c f) s = .next t ∧ plain t ∧
        Registers s t c zeroField (issueAt k sh) i 0 0 k.st
          (if condHolds k.st cc then k.pc + 4 * f.imm.signExtend 32 else k.pc + 4)) ∧
    (∀ off : BitVec 26,
      let sh : Shape := { src := [], dst := [], readFl := false, flL := none, macD := none }
      Executes s c true sh 2 → ∃ t, exec (.jump c off) s = .next t ∧ plain t ∧
        Registers s t c zeroField (issueAt k sh) 2 0 0 k.st (k.pc + 4 * off.signExtend 32)) ∧
    (∀ off : BitVec 26,
      let sh : Shape := { src := [], dst := [(a6Field, 2)], readFl := false, flL := none, macD := none }
      Executes s c true sh 2 → ∃ t, exec (.call c off) s = .next t ∧ plain t ∧
        Registers s t c a6Field (issueAt k sh) 2 2 (k.pc + 4) k.st (k.pc + 4 * off.signExtend 32)) ∧
    (∀ f : RR,
      let sh : Shape := { src := [f.rs1], dst := [], readFl := false, flL := none, macD := none }
      let target := rdReg s c f.rs1 (issueAt k sh)
      Executes s c (f.rd = 0 && !isM f.rs1 && f.rs2 = 0 && f.md = 0) sh 2 → target.toNat % 4 = 0 →
      ∃ t, exec (.jr c f) s = .next t ∧ plain t ∧ Registers s t c zeroField (issueAt k sh) 2 0 0 k.st target) ∧
    (∀ f : RR,
      let sh : Shape := { src := [f.rs1], dst := [(a6Field, 2)], readFl := false, flL := none, macD := none }
      let target := rdReg s c f.rs1 (issueAt k sh)
      Executes s c (f.rd = 0 && !isM f.rs1 && f.rs2 = 0 && f.md = 0) sh 2 → target.toNat % 4 = 0 →
      ∃ t, exec (.callr c f) s = .next t ∧ plain t ∧ Registers s t c a6Field (issueAt k sh) 2 2 (k.pc + 4) k.st target))

/-- LD (R200, R187, R2): outside the register space, an aligned load that no rule faults reads its bytes from its window,
least significant first, into rt (sign-extended for sz 0 and 2; a doubleword into m; tk, cy and zero discard it), updates
the base for am 1 and 2, costs its window's cycles, and changes nothing else. ST to data memory and to shared SRAM (R200,
R187): exactly the bytes from the effective address take the value, least significant first; every other byte keeps its
value; the base is updated for am 1 and 2; nothing else changes. Where a clause rests on a reading of the model's own, log
entry 52 names it. -/
def Obligations.LoadsAndStores : Prop :=
  (
  ∀ (s : State) (c : CoreId) (f : MF),
    let k := s.core[c]
    let ea := mEa s c f
    let a := ea.toNat
    let n := issueAt k (ldShape s c f)
    let bytes : List Byte := match window ea with
      | .imem => memGets k.imem a (mSize f)
      | .dmem => memGets k.dmem (a - 0x10000000) (mSize f)
      | .sram => memGets s.sram (a - 0x20000000) (mSize f)
      | .pimage => slice (leBytes 4 (piWord s ((a - 0x30000000) / 4)).toNat) (a % 4) (mSize f)
      | .logbook => memGets s.log.mem (a - 0x50000000) (mSize f)
      | .eflash => memGets s.eflash (a - 0x70000000) (mSize f)
      | _ => slice ((k.lineBuf.map (·.2)).getD []) (a % 16) (mSize f)
    Executes s c (ldLegal f) (ldShape s c f) (mCost s c f) → a % mSize f = 0 → mFault s c f false = none →
    ldWaits s c f = false → window ea ≠ .regs →
    ∃ t, exec (.ld c f) s = .next t ∧
      (∀ r : BitVec 5, r.toNat < 24 → rdReg t c r 0 =
        if r = f.rt then mExtend f (ofLe bytes) else if r = aField f.ab ∧ f.am ≠ 0 then mBase s c f + mDisp f
        else rdReg s c r 0) ∧
      t.core[c].st = (if f.rt = stField then (mExtend f (ofLe bytes)).setWidth 5 else k.st) ∧
      t.core[c].m = (if f.sz = 5 then k.m.set (mIdx f.rt) (BitVec.ofNat 64 (ofLe bytes)) else k.m) ∧
      t.core[c].pc = k.pc + 4 ∧ t.core[c].freeAt = n + mCost s c f ∧ CoreOnly s t c ∧ RegistersOnly k t.core[c]) ∧
  (
  ∀ (s : State) (c : CoreId) (f : MF),
    let k := s.core[c]
    let ea := mEa s c f
    let n := issueAt k (stShape f)
    let value := leBytes (mSize f) (if f.sz = 5 then (rdM s c f.rt).toNat else (rdReg s c f.rt n).toNat)
    Executes s c (stLegal f) (stShape f) (mCost s c f) → ea.toNat % mSize f = 0 →
    window ea = .dmem ∨ window ea = .sram →
    spWf Config.memDefault k.dmem = true → spWf Config.memDefault s.sram = true →
    ∃ t, exec (.st c f) s = .next t ∧
      (∀ r : BitVec 5, r.toNat < 24 → rdReg t c r 0 =
        if r = aField f.ab ∧ f.am ≠ 0 then mBase s c f + mDisp f else rdReg s c r 0) ∧
      t.core[c].st = k.st ∧ t.core[c].m = k.m ∧ t.core[c].pc = k.pc + 4 ∧ t.core[c].freeAt = n + mCost s c f ∧
      (window ea = .dmem → (∀ b, memGet t.core[c].dmem b =
          if h : ea.toNat - 0x10000000 ≤ b ∧ b < ea.toNat - 0x10000000 + mSize f then
            value.getD (b - (ea.toNat - 0x10000000)) 0 else memGet k.dmem b) ∧
        CoreOnly s t c ∧ RegistersOnly { k with dmem := t.core[c].dmem } t.core[c]) ∧
      (window ea = .sram → (∀ b, memGet t.sram b =
          if h : ea.toNat - 0x20000000 ≤ b ∧ b < ea.toNat - 0x20000000 + mSize f then
            value.getD (b - (ea.toNat - 0x20000000)) 0 else memGet s.sram b) ∧
        t = { s with now := t.now, sram := t.sram, core := s.core.set c t.core[c] } ∧ RegistersOnly k t.core[c]))

/-- Loads and stores of the register space (R187, R3, R431): an aligned halfword or word load reads its register or its two
registers with their side effects; a store that names no forbidden register writes them; the base is updated for am 1 and 2.
The bus faults of loads and stores (R187): size D outside data memory and shared SRAM is sub-cause 9 before every other; an
unmapped address 5; a byte access to the register space 6; a foreground access to the Logbook or XIP window 1; any other
store to a window that is read-only 4; the rest is allowed. Where a clause rests on a reading of the model's own, log entry
52 names it. -/
def Obligations.RegisterSpaceAndBusFaults : Prop :=
  (
  ∀ (s : State) (c : CoreId) (f : MF),
    let k := s.core[c]
    let ea := mEa s c f
    let span := if mSize f = 4 then [regAddr ea, regAddr ea + 1] else [regAddr ea]
    mSize f = 2 ∨ mSize f = 4 → ea.toNat % mSize f = 0 → window ea = .regs →
    (Executes s c (ldLegal f) (ldShape s c f) (mCost s c f) →
      let n := issueAt k (ldShape s c f)
      let r := readRegs (.core c) span (atCycle n s)
      let v := mExtend f (ofLe (r.1.flatMap fun h => leBytes 2 h.toNat))
      ∃ t, exec (.ld c f) s = .next t ∧ t = { r.2 with core := r.2.core.set c t.core[c] } ∧
        RegistersOnly r.2.core[c] t.core[c] ∧ t.core[c].pc = k.pc + 4 ∧
        (∀ g : BitVec 5, g.toNat < 24 → rdReg t c g 0 =
          if g = f.rt then v else if g = aField f.ab ∧ f.am ≠ 0 then mBase s c f + mDisp f else rdReg r.2 c g 0)) ∧
    (Executes s c (stLegal f) (stShape f) (mCost s c f) → span.any coreForbidden = false →
      let n := issueAt k (stShape f)
      let v := rdReg s c f.rt n
      let next := modCore (atCycle n s) c fun k => { k with pc := k.pc + 4 }
      let u := storeRegs (.core c) (if mSize f = 4 then [(regAddr ea, v.setWidth 16), (regAddr ea + 1, (v >>> 16).setWidth 16)]
        else [(regAddr ea, v.setWidth 16)]) next
      ∃ t, exec (.st c f) s = .next t ∧ t = { u with core := u.core.set c t.core[c] } ∧ RegistersOnly u.core[c] t.core[c] ∧
        t.core[c].pc = u.core[c].pc)) ∧
  (
  ∀ (s : State) (c : CoreId) (f : MF) (store : Bool),
    let w := window (mEa s c f)
    let bulk := w = .logbook ∨ w = .xip
    (f.sz = 5 → w ≠ .dmem → w ≠ .sram → mFault s c f store = some 9) ∧
    (f.sz ≠ 5 →
      (w = .unmapped → mFault s c f store = some 5) ∧
      (w = .regs → mSize f = 1 → mFault s c f store = some 6) ∧
      (bulk → inBg s c = false → mFault s c f store = some 1) ∧
      (bulk → inBg s c = true → mFault s c f store = if store then some 4 else none) ∧
      (w = .imem ∨ w = .pimage ∨ w = .eflash → mFault s c f store = if store then some 4 else none) ∧
      (w = .regs → mSize f ≠ 1 → mFault s c f store = none)) ∧
    (w = .dmem ∨ w = .sram → mFault s c f store = none))

/-- Exceptions (R214 to R217, R181, R199, R201, R212): an instruction that begins and does not pass the budget with I = 1
takes ILLEGAL where its fields are illegal, MISALIGN where its address is misaligned, BUSFAULT where a rule forbids its
access, and a fetch outside the regions of R188 takes BUSFAULT with sub-cause 2. BUDGET (R215, R46, R48): a foreground task
that reaches its budget takes the exception with cause 4 at that cycle, and the frame becomes an overrun frame of kind 2,
counted once. -/
def Obligations.ExceptionsAndTheBudget : Prop :=
  (
  ∀ (s : State) (c : CoreId), s.core[c].run ≠ .nmi → canRun s c = true →
    let k := s.core[c]
    let takes := fun (i : Instr) (cause bus : BitVec 4) (addr : W32) (n : Nat) =>
      exceeds s c n 1 = false → ∃ t, exec i s = .next t ∧ TakesException s t c cause bus addr n ∧ ExceptionFrame s t c
    (fetchOk s c k.pc = false → ∀ f, takes (.add c f) 3 2 k.pc k.freeAt) ∧
    (fetchOk s c k.pc = true →
      (∀ f, rrLegal f true false = false → takes (.add c f) 1 0 0 k.freeAt) ∧
      (∀ f, (f.rd = 0 && !isM f.rs1 && f.rs2 = 0 && f.md = 0) = true →
        let n := issueAt k { src := [f.rs1], dst := [], readFl := false, flL := none, macD := none }
        (rdReg s c f.rs1 n).toNat % 4 ≠ 0 → takes (.jr c f) 2 0 (rdReg s c f.rs1 n) n) ∧
      (∀ f, ldLegal f = true → ldWaits s c f = false →
        ((mEa s c f).toNat % mSize f ≠ 0 → takes (.ld c f) 2 0 (mEa s c f) (issueAt k (ldShape s c f))) ∧
        ((mEa s c f).toNat % mSize f = 0 → ∀ b, mFault s c f false = some b →
          takes (.ld c f) 3 b (mEa s c f) (issueAt k (ldShape s c f)))) ∧
      (∀ f, stLegal f = true →
        ((mEa s c f).toNat % mSize f ≠ 0 → takes (.st c f) 2 0 (mEa s c f) (issueAt k (stShape f))) ∧
        ((mEa s c f).toNat % mSize f = 0 → ∀ b, mFault s c f true = some b →
          takes (.st c f) 3 b (mEa s c f) (issueAt k (stShape f))) ∧
        ((mEa s c f).toNat % mSize f = 0 → mFault s c f true = none → regForbidden (mEa s c f) (mSize f) = true →
          takes (.st c f) 3 3 (mEa s c f) (issueAt k (stShape f)))) ∧
      (∀ f, svcLegal f = true → inBg s c = false →
        takes (.svcXiSend c f) 3 7 0 (issueAt k { svcShape 0 with dst := [] })))) ∧
  (
  ∀ (s : State) (c : CoreId) (i : BitVec 4) (slot : BitVec 8) (b : Nat),
    canRun s c = true → s.core[c].run = .fg i slot → (findTask s c i).map (·.budget) = some b →
    ∃ t, exec (.budget c) s = .next t ∧ TakesException s t c 4 0 0 (s.core[c].startAt + b) ∧
      (fgMode s.sys.mode = true → s.frm.overrun = false →
        t.frm.overrun = true ∧ t.frm.ovrXfer = true ∧ t.frm.ovrCnt = inc16 s.frm.ovrCnt ∧ t.frm.run = inc8 s.frm.run ∧
        t.frm.ovrInfo = (2#2 ++ BitVec.ofNat 2 c.val ++ 0#4 ++ slot : BitVec 16) ∧ t.evt.pend.getLsbD 64 = true) ∧
      (fgMode s.sys.mode = true → s.frm.overrun = true → t.frm.ovrCnt = s.frm.ovrCnt ∧ t.frm.ovrXfer = true))

/-- PIN, RAMP and LIMIT (R203, R207): PIN reads the input word that the latest IN_XFER published, with Z where VALID is 0
and N bit 31; RAMP moves by at most the unsigned step; LIMIT clamps with the lower bound prevailing, C where it changed the
value. POUT (R204, R18): the core that is the writer of a channel with an output mode in the active set puts its value, less
bits 7:0, into the channel's output word and clears Z; any other POUT leaves every output word, raises OUT_OWNER with the
channel and the writer code, and sets Z. EVRAISE (R211, R241, R218): USER0 to USER3 are raised with the payload in ra and Z
is 0; any other event is not and Z is 1; in the NMI handler it has no effect. -/
def Obligations.ChannelAndEventInstructions : Prop :=
  (
  ∀ (s : State) (c : CoreId) (f : XF),
    let fl := s.core[c].st
    (let sh : Shape := { src := if xInd f then [f.rc] else [], dst := [(f.ra, 3)], readFl := false, flL := some 3, macD := none }
     let n := issueAt s.core[c] sh
     let w := s.pi.inw[xChan s c f n]
     Executes s c (chanLegal f) sh 3 →
     ∃ t, exec (.pin c f) s = .next t ∧
       Gives s t c f.ra n 3 3 w (mkFlags (!w.getLsbD 0) w.msb (flC fl) (flV fl) (flS fl))) ∧
    (let sh : Shape := { src := [f.ra, f.rb, f.rc], dst := [(f.ra, 1)], readFl := false, flL := some 1, macD := none }
     let n := issueAt s.core[c] sh
     let x := rdReg s c f.ra n
     let y := rdReg s c f.rb n
     let z := rdReg s c f.rc n
     Executes s c (!isM f.ra && !isM f.rb && !isM f.rc && f.lo = 0) sh 1 →
     (∃ t, exec (.ramp c f) s = .next t ∧
       let v := if (y.toInt - x.toInt).natAbs ≤ z.toNat then y else if x.toInt < y.toInt then x + z else x - z
       Gives s t c f.ra n 1 1 v (flagsZ fl (decide (v = y)))) ∧
     (∃ t, exec (.limitOp c f) s = .next t ∧
       let v := if (if x.toInt ≤ z.toInt then x else z).toInt < y.toInt then y else if x.toInt ≤ z.toInt then x else z
       Gives s t c f.ra n 1 1 v (flagsZNC fl v (decide (v ≠ x)))))) ∧
  (
  ∀ (s : State) (c : CoreId) (f : XF),
    let sh : Shape := { src := if xInd f then [f.ra, f.rc] else [f.ra], dst := [], readFl := false, flL := some 3, macD := none }
    let n := issueAt s.core[c] sh
    let ch := xChan s c f n
    let mine := isOutMode (modeA s ch) && decide (writerA s ch = 1 + c.val)
    Executes s c (chanLegal f) sh 3 →
    ∃ t, exec (.pout c f) s = .next t ∧
      Registers s t c zeroField n 3 0 0 (flagsZ s.core[c].st (!mine)) (s.core[c].pc + 4) ∧
      (mine = true → t.pi.outw = s.pi.outw.set ch (rdReg s c f.ra n &&& 0xFFFFFF00) ∧ t.ch[ch].out.accepted = true ∧
        t = { s with now := t.now, core := s.core.set c t.core[c], pi := { s.pi with outw := t.pi.outw },
                     ch := s.ch.set ch { s.ch[ch] with out := { s.ch[ch].out with accepted := true } } }) ∧
      (mine = false → t.pi.outw = s.pi.outw ∧ Raised 68 (BitVec.ofNat 32 (256 * (1 + c.val) + ch.val)) s t ∧
        ButEvents { t with core := t.core.set c s.core[c], now := s.now } s)) ∧
  (
  ∀ (s : State) (c : CoreId) (f : XF),
    let k := s.core[c]
    let sh : Shape := { src := if xInd f then [f.ra, f.rc] else [f.ra], dst := [], readFl := false, flL := some 2, macD := none }
    let n := issueAt k sh
    let e : Fin 128 := ⟨(if xInd f then (rdReg s c f.rc n).toNat else f.lo.toNat) % 128, Nat.mod_lt _ (by decide)⟩
    let legal := !isM f.ra && !isM f.rc && f.rb = 0 && f.lo.toNat / 128 % 8 = 0 &&
      (if xInd f then decide (f.lo.toNat % 128 = 0) else f.rc = 0)
    Executes s c legal sh 2 →
    ∃ t, exec (.evraise c f) s = .next t ∧
      (k.run = .nmi → Gives s t c zeroField n 2 0 0 k.st) ∧
      (k.run ≠ .nmi → e.val < 124 → Gives s t c zeroField n 2 0 0 (flagsZ k.st true)) ∧
      (k.run ≠ .nmi → 124 ≤ e.val → Raised e (rdReg s c f.ra n) s t ∧
        Registers s t c zeroField n 2 0 0 (flagsZ k.st false) (k.pc + 4) ∧
        ButEvents { t with core := t.core.set c k, now := s.now } s))

/-- PIDS (R205, R206): on a 32-byte-aligned block in data memory the output, INTEG, PREV and CTL.INIT are as the algorithm
of R206 gives them, with Z, N and C of the output; no other byte of data memory changes. A misaligned block is MISALIGN and
a block outside data memory BUSFAULT with sub-cause 8. TICKWAIT, CHECKIN and END (R208, R209, R213, R218, R345): TICKWAIT
lets the next instruction issue in the first cycle at or after the slot time and clears Z, or sets Z and waits not at all
where the slot is past, is not below GAIT_LEN or the core runs its NMI handler; CHECKIN counts one check-in of a task that
declares a TALLY; END ends the task, and halts the core in the handler. -/
def Obligations.PidUpdateWaitCheckInAndEnd : Prop :=
  (
  ∀ (s : State) (c : CoreId) (f : XF),
    let k := s.core[c]
    let sh : Shape := { src := [f.rb, f.rc], dst := [(f.ra, 6)], readFl := false, flL := some 6, macD := none }
    let n := issueAt k sh
    let a := rdReg s c f.rc n
    let legal := !isM f.ra && !isM f.rb && isA f.rc && f.lo = 0
    let o := a.toNat - 0x10000000
    let w := fun i : Nat => (dmemWord s c (o + 4 * i)).toInt
    let ctl := dmemWord s c (o + 28)
    let e := rdReg s c f.rb n
    let p := w 0 * e.toInt / 65536
    let i := w 1 * e.toInt / 65536
    let d := if ctl.getLsbD 0 then w 2 * (e.toInt - w 6) / 65536 else 0
    let raw := p + (w 5 + i) + d
    let u := max (min raw (w 4)) (w 3)
    let wind := (w 4 < raw ∧ 0 < i) ∨ (raw < w 3 ∧ i < 0)
    let integ := if ctl.getLsbD 1 = false ∧ ¬wind then max (min (w 5 + i) (w 4)) (w 3) else w 5
    (Executes s c legal sh 6 → a.toNat % 32 = 0 → window a = .dmem → spWf Config.memDefault k.dmem = true →
      ∃ t, exec (.pids c f) s = .next t ∧
        Registers s t c f.ra n 6 6 (BitVec.ofInt 32 u) (flagsZNC k.st (BitVec.ofInt 32 u) (decide (u ≠ raw))) (k.pc + 4) ∧
        dmemWord t c (o + 20) = BitVec.ofInt 32 integ ∧ dmemWord t c (o + 24) = e ∧ dmemWord t c (o + 28) = ctl ||| 1 ∧
        (∀ b, b < o + 20 ∨ o + 32 ≤ b → memGet t.core[c].dmem b = memGet k.dmem b) ∧
        CoreOnly s t c ∧ RegistersOnly { k with dmem := t.core[c].dmem } t.core[c]) ∧
    (Begins s c → legal = true → exceeds s c n 1 = false →
      (a.toNat % 32 ≠ 0 → ∃ t, exec (.pids c f) s = .next t ∧ TakesException s t c 2 0 a n ∧ ExceptionFrame s t c) ∧
      (a.toNat % 32 = 0 → window a ≠ .dmem →
        ∃ t, exec (.pids c f) s = .next t ∧ TakesException s t c 3 8 a n ∧ ExceptionFrame s t c))) ∧
  (
  ∀ (s : State) (c : CoreId) (f : XF),
    let k := s.core[c]
    let none_ : Shape := { src := [], dst := [], readFl := false, flL := none, macD := none }
    (let sh : Shape := { none_ with flL := some 1, tw := true }
     let n := issueAt k sh
     let slot := f.lo.toNat % 256
     let late := k.run = .nmi ∨ fld (act s 0x0110) 8 0 ≤ slot ∨ slotTime s.cfg.active slot + 1 < 2 * n
     let cost := if late then 1 else max 1 ((slotTime s.cfg.active slot + 1) / 2 - n)
     Executes s c (noRegs f && f.lo.toNat < 256) sh cost →
     ∃ t, exec (.tickwait c f) s = .next t ∧ Gives s t c zeroField n cost 0 0 (flagsZ k.st (decide late))) ∧
    (Executes s c (noRegs f && f.lo = 0) none_ 1 →
      (∃ t, exec (.checkin c f) s = .next t ∧
        let i := k.taskId.1.toNat
        let counts := k.run ≠ .nmi ∧ ∃ x, findTask s c k.taskId.1 = some x ∧ 0 < x.tally
        (counts → t.core[c].checkins = k.checkins.set i (k.checkins[i] + 1)) ∧ (¬counts → t.core[c].checkins = k.checkins) ∧
        Registers s t c zeroField (issueAt k none_) 1 0 0 k.st (k.pc + 4) ∧ CoreOnly s t c ∧
        RegistersOnly { k with checkins := t.core[c].checkins } t.core[c]) ∧
      (∃ t, exec (.endTask c f) s = .next t ∧ CoreOnly s t c ∧
        t.core[c].run = (if k.run = .nmi then .halted else .idle) ∧
        (k.run = .nmi → t.core[c].cause = 6 ∧ t.core[c].cnt = inc16 k.cnt) ∧
        (k.run ≠ .nmi → t.core[c].cause = k.cause ∧ t.core[c].cnt = k.cnt) ∧
        t.core[c].d = k.d ∧ t.core[c].a = k.a ∧ t.core[c].m = k.m ∧ t.core[c].st = k.st ∧ t.core[c].dmem = k.dmem)))

/-- LEAVE (R210, R254, R255): a descriptor with an invalid field is refused with status 0x8000_0001, one that can never fit
with 0x8000_0002, one for channels of another writer with 0x8000_0004, and one that finds no free shared slot with
0x8000_0003, each with Z at 1 and no request made; an accepted one is pending in a shared slot under a new generation, its
handle in ra and Z at 0. LEAVE with OPT[0] at 1 (R210, R255): the status word of the request that the handle names, Z at 0;
for a handle that names no request Z is 1 (the value in ra is then a free value, log entry 14). No request changes. Where a
clause rests on a reading of the model's own, log entry 17 names it. -/
def Obligations.LeaveRequestsAndQueries : Prop :=
  (
  ∀ (s : State) (c : CoreId) (f : XF),
    let k := s.core[c]
    let sh : Shape := { src := [f.rb], dst := [(f.ra, 4)], readFl := false, flL := some 4, macD := none }
    let n := issueAt k sh
    let d := rdReg s c f.rb n
    let q := descReq s d
    let never := (∃ g : GroupId, budG s g < q.2.2.1[g]) ∨ budD s < (groups.map fun g => q.2.2.1[g]).sum + q.2.2.2
    let refusedWith := fun (t : State) (v : W32) => Gives s t c f.ra n 4 4 v (flagsZ k.st true)
    Executes s c (!isM f.ra && !isM f.rb && f.rc = 0 && f.lo = 0) sh 4 → k.run ≠ .nmi →
    ∃ t, exec (.leave c f) s = .next t ∧
      (descOk d = false → refusedWith t 0x80000001) ∧
      (descOk d = true → never → refusedWith t 0x80000002) ∧
      (descOk d = true → ¬never →
        (freeShared s = none → refusedWith t 0x80000003) ∧
        ∀ i, freeShared s = some i →
          ((∃ ch ∈ q.2.1, isOutMode (modeA s ch) = false ∨ writerA s ch ≠ 1 + c.val) → refusedWith t 0x80000004) ∧
          ((∀ ch ∈ q.2.1, isOutMode (modeA s ch) = true ∧ writerA s ch = 1 + c.val) →
            let x := t.pgv.slots[i]
            x.st = .pending ∧ x.gen = s.pgv.slots[i].gen + 1 ∧ x.op = q.1 ∧ x.cls = BitVec.ofNat 2 (d.toNat / 2 ^ 30) ∧
            x.gcost = q.2.2.1 ∧ x.dcost = q.2.2.2 ∧ x.frames = d.toNat % 65536 ∧ 64 ≤ i.val ∧
            Registers s t c f.ra n 4 4 (BitVec.ofNat 32 (256 * x.gen.toNat + i.val)) (flagsZ k.st false) (k.pc + 4) ∧
            t = { s with now := t.now, core := s.core.set c t.core[c],
                         pgv := { s.pgv with slots := s.pgv.slots.set i x, seq := s.pgv.seq + 1 } }))) ∧
  (
  ∀ (s : State) (c : CoreId) (f : XF),
    let k := s.core[c]
    let sh : Shape := { src := [f.rb], dst := [(f.ra, 4)], readFl := false, flL := some 4, macD := none }
    let n := issueAt k sh
    let h := rdReg s c f.rb n
    Executes s c (!isM f.ra && !isM f.rb && f.rc = 0 && f.lo = 1) sh 4 → k.run ≠ .nmi →
    ∃ t, exec (.leaveQuery c f) s = .next t ∧ t.pgv = s.pgv ∧
      (∀ i : Fin 96, h.toNat = 256 * s.pgv.slots[i].gen.toNat + i.val → s.pgv.slots[i].st ≠ .free →
        Gives s t c f.ra n 4 4 (slotStatus s.pgv.slots[i]) (flagsZ k.st false)) ∧
      ((∀ i : Fin 96, h.toNat ≠ 256 * s.pgv.slots[i].gen.toNat + i.val ∨ s.pgv.slots[i].st = .free) →
        ∃ v, Registers s t c f.ra n 4 4 v (flagsZ k.st true) (k.pc + 4)))

/-- The services with a fixed time (R212, R236, R331, R218): SVC_NOP gives 0, SVC_NETTIME network time at the issue cycle,
SVC_FRMNO the frame number, SVC_DEVINFO the item that d0 names, an unassigned number 1; the flags and every other register
are unchanged and the cost is 4 cycles plus the service time. In the NMI handler SYSCALL has no effect but its cost.
SVC_JOURNAL (R236, R331): status 0 and one record more in buffer 1, which takes 32 bytes with type 2, the core, and the
words of d0 to d3; DROPPED (7) and nothing written where buffer 1 has SIZE 0. The services without a fixed time (R212,
R236): called from a background task, XI_SEND, XI_RECV, LOG_READ, NV_READ and NV_WRITE are passed to the Groom core with d0
to d3, and the core waits; nothing else changes, but NV_WRITE with valid arguments also asks for its leave. SERVICE_COMPLETE
ends a wait whose result is there: the waiting task gets its status in d0. Where a clause rests on a reading of the model's
own, log entries 14, 26, 27, 65 name it. -/
def Obligations.Services : Prop :=
  (
  ∀ (s : State) (c : CoreId) (f : SvcF),
    let k := s.core[c]
    let plain := fun (i : Instr) (l : Nat) (v0 : W32) (v1 : Option W32) =>
      Executes s c (svcLegal f) (svcShape l) (4 + l) →
      ∃ t, exec i s = .next t ∧ CoreOnly s t c ∧ RegistersOnly k t.core[c] ∧ t.core[c].a = k.a ∧ t.core[c].m = k.m ∧
        t.core[c].st = k.st ∧ t.core[c].pc = k.pc + 4 ∧ t.core[c].freeAt = issueAt k (svcShape l) + (4 + l) ∧
        t.core[c].d = (if k.run = .nmi then k.d else match v1 with
          | some v => (k.d.set 0 v0).set 1 v
          | none => k.d.set 0 v0)
    let time := max s.now (s.frm.tickT + 2 * issueAt k (svcShape 12))
    let item : W32 := if k.d[0] = 0 then s.sys.addr.setWidth 32 else if k.d[0] = 1 then BitVec.ofNat 32 (fld (act s 0x080D) 15 12)
      else if k.d[0] = 2 then (act s 0x080C).setWidth 32 else if k.d[0] = 3 then BitVec.ofNat 32 c.val else 0xFFFFFFFF
    plain (.svcNop c f) 0 0 none ∧
    plain (.svcNettime c f) 12 (BitVec.ofNat 32 time) (some (BitVec.ofNat 32 (time / 2 ^ 32))) ∧
    plain (.svcFrmno c f) 4 (s.frm.no.setWidth 32) (some ((s.frm.no >>> 32).setWidth 32)) ∧
    plain (.svcDevinfo c f) 4 item none ∧
    (∀ v, svcAssigned v = false → plain (.svcUnassigned c v f) 0 1 none)) ∧
  (
  ∀ (s : State) (c : CoreId) (f : SvcF), Executes s c (svcLegal f) (svcShape 20) 24 → s.core[c].run ≠ .nmi →
    ∃ t, exec (.svcJournal c f) s = .next t ∧ ButEvents { t with core := t.core.set c s.core[c], now := s.now } s ∧
      t.core[c].st = s.core[c].st ∧ t.core[c].a = s.core[c].a ∧
      (fld (act s 0x0C09) 10 0 = 0 → t.core[c].d = s.core[c].d.set 0 7 ∧ t.log = s.log) ∧
      (fld (act s 0x0C09) 10 0 ≠ 0 → t.core[c].d = s.core[c].d.set 0 0 ∧
        t.log.journal.head? ≠ none ∧ (bufFull s 1 = false → t.log.bufs[(1 : Fin 5)].next = s.log.bufs[(1 : Fin 5)].next + 1 ∧
          t.log.journal.head? = some (progEntry (atCycle (issueAt s.core[c] (svcShape 20)) s) c)))) ∧
  (
  ∀ (s : State) (c : CoreId) (f : SvcF),
    let k := s.core[c]
    let sh : Shape := { svcShape 0 with dst := [] }
    let passes := fun (i : Instr) (num : Byte) =>
      ∃ t, exec i s = .next t ∧
        t.core[c].svc = some { num := num, d0 := k.d[0], d1 := k.d[1], d2 := k.d[2], d3 := k.d[3], granted := false,
                               denied := false, written := false } ∧
        t.core[c].d = k.d ∧ t.core[c].a = k.a ∧ t.core[c].st = k.st ∧ t.core[c].pc = k.pc + 4 ∧
        t = { s with now := t.now, core := s.core.set c t.core[c], pgv := t.pgv } ∧ (num ≠ 0x14 → t.pgv = s.pgv)
    (Executes s c (svcLegal f) sh 4 → inBg s c = true →
      passes (.svcXiSend c f) 0x10 ∧ passes (.svcXiRecv c f) 0x11 ∧ passes (.svcLogRead c f) 0x12 ∧
      passes (.svcNvRead c f) 0x13 ∧ passes (.svcNvWrite c f) 0x14) ∧
    (∀ w e t0 r, coreOn s = true → k.svc = some w → svcResult c w e (atTime t0 s) = some r →
      (inBg s c = true →
        ∃ t, exec (.serviceComplete c ⟨e, t0⟩) s = .next t ∧ t.core[c].svc = none ∧ t.core[c].d[0] = r.d0 ∧
          (∀ v, r.d1 = some v → t.core[c].d[1] = v) ∧ (∀ i : Fin 16, 2 ≤ i.val → t.core[c].d[i] = r.s.core[c].d[i]) ∧
          t.core[c].st = r.s.core[c].st ∧ t.core[c].a = r.s.core[c].a ∧
          t.core[c].freeAt = max r.s.core[c].freeAt (cycleNow (atTime t0 s)) ∧
          t = { r.s with core := r.s.core.set c t.core[c], sec := t.sec }) ∧
      (∀ x, inBg s c = false → k.susp = some x → s.frm.bgOpen = false →
        ∃ t, exec (.serviceComplete c ⟨e, t0⟩) s = .next t ∧ t.core[c].svc = none ∧ t.core[c].d = k.d ∧
          t.core[c].susp.map (fun y => (y.task, y.d[0], y.st, y.pc)) = some (x.task, r.d0, x.st, x.pc))) ∧
    (∀ w e t0, coreOn s = true → k.svc = some w → svcResult c w e (atTime t0 s) = none →
      exec (.serviceComplete c ⟨e, t0⟩) s = .next (atTime t0 s)))

/-- POWER_ON_RESET, BROWNOUT, PORST_N_ASSERT of 1 µs or more, HARD_RESET once its timer runs, and RESET_COMMAND on a
requested reset (R384 to R388, R344): the cause is recorded, the mode is BOOT (OFF while PORST_N is low), cores, events,
Reins, sessions, watchdog and update session are as after reset, the staged set is the active one, and eFlash, keys,
calibration, committed set and fuses are kept. A PORST_N pulse below 100 ns has no effect. Where a clause rests on a reading
of the model's own, log entries 7, 55 name it. -/
def Obligations.ResetsClearAndKeep : Prop :=
  ∀ s : State,
    let after := fun (cause : BitVec 4) (m : Mode) (t : State) =>
      t.sys.mode = m ∧ t.sys.bootReady = false ∧ t.sys.cause = cause ∧
      t.sys.hist = setBit (if cause = 1 ∨ cause = 2 then 0 else s.sys.hist) (cause.toNat - 1) true ∧
      t.cfg.staged = s.cfg.active ∧ t.cfg.active = s.cfg.active ∧ t.cfg.committed = s.cfg.committed ∧
      (∀ c : CoreId, t.core[c] = { Core.reset with nv := s.core[c].nv, nvNext := s.core[c].nvNext }) ∧
      t.evt = State.reset.evt ∧ t.pgv = State.reset.pgv ∧ t.sec.sess = State.reset.sec.sess ∧ t.sec.cache = [] ∧
      t.wdt.run = false ∧ t.wdt.fuseOn = s.wdt.fuseOn ∧ t.wdt.fuseWin = s.wdt.fuseWin ∧ t.wdt.fuseHrt = s.wdt.fuseHrt ∧
      t.upd.lock = none ∧ t.upd.staged = none ∧ t.upd.trialFlag = s.upd.trialFlag ∧ t.upd.active = s.upd.active ∧
      t.sec.gen = s.sec.gen ∧ t.sec.roots = s.sec.roots ∧ t.sec.epoch = s.sec.epoch ∧ t.sec.hpTrust = s.sec.hpTrust ∧
      t.sec.fuses = s.sec.fuses ∧ t.sec.idKey = s.sec.idKey ∧ t.sec.dbgUnlk = false ∧ t.cal.tables = s.cal.tables ∧
      t.cal.atTest = s.cal.atTest ∧ (∀ g : GroupId, t.grp[g].rot = Rot.reset) ∧ t.eflash = s.eflash ∧
      t.log.mem = s.log.mem ∧ t.net.mac = s.net.mac ∧ t.pending = s.pending
    (∃ t, exec .powerOnReset s = .next t ∧ after 1 .boot t ∧ t.frz = State.reset.frz) ∧
    (∃ t, exec .brownout s = .next t ∧ after 2 .boot t ∧ t.frz = State.reset.frz) ∧
    (∀ w, w < 100 → exec (.porstNAssert w) s = .next s) ∧
    (∀ w, 100 ≤ w → w < 1000 → exec (.porstNAssert w) s = .fault .undefinedPulse) ∧
    (∀ w, 1000 ≤ w → ∃ t, exec (.porstNAssert w) s = .next t ∧ after 3 .off t) ∧
    (s.sys.hrtRun = true → ∃ t, exec .hardReset s = .next t ∧ after 4 .boot t) ∧
    (coreOn s = true → s.sys.rstReq = true → ∃ t, exec .resetCommand s = .next t ∧ after 7 .boot t)

/-- RESET_RELEASE (R389, R390, R8, R395, R397): BOOT begins, HP_READY goes high, the pins are latched; unless recovery is
entered the committed set (or the values of the Reset columns) becomes active and staged and the device address is read from
its straps. A second release changes nothing. BOOT_END and RECOVERY_RESET (R389 step 9, R391, R372, R432, R390): BOOT ends
in RUN where SYS_CFG.AUTOSTART and the conditions of R391 allow it and in COMMISSION otherwise, in TRIAL or COMMISSION with
a trial flag; the first tick is at this instant, the frame number starts at 0 or from valid network time, the watchdog
starts where enabled, and the fault bits of every channel are compared (R153). A staged recovery set resets with cause 6.
Where a clause rests on a reading of the model's own, log entries 8, 36, 40 name it. -/
def Obligations.BootLoadsAndEnds : Prop :=
  (
  ∀ (s : State) (b : BootIn),
    (s.sys.bootReady = true → exec (.resetRelease b) s = .next s) ∧
    (s.sys.bootReady = false →
      let trial := s.upd.trialFlag && decide (s.sys.cause = 5)
      ∃ t, exec (.resetRelease b) s = .next t ∧ t.sys.mode = .boot ∧ t.sys.bootReady = true ∧ t.hp.ready = true ∧
        t.sys.bootsel = b.bootsel ∧ t.sys.xpMode = b.xpMode ∧ t.sys.claimN = b.claimN ∧ t.sec.claimPin = (!b.claimN) ∧
        (b.bootsel = false ∨ (b.firmwareOk = false ∧ trial = false) →
          t.sys.recov = true ∧ t.cfg.active = .none ∧ t.cfg.staged = .none) ∧
        (b.bootsel = true → b.firmwareOk = true ∨ trial = true →
          t.sys.recov = s.sys.recov ∧ t.cfg.active = s.cfg.committed.getD .none ∧ t.cfg.staged = t.cfg.active ∧
          t.cfg.committed = s.cfg.committed ∧
          t.sys.addr = BitVec.ofNat 6 (8 * (strapLevel b.strapB).1 + (strapLevel b.strapA).1) ∧
          t.sys.strapBad = ((strapLevel b.strapA).2 || (strapLevel b.strapB).2) ∧
          t.frm.srcAct = (t.cfg.active.reg 0x0100).setWidth 2))) ∧
  (
  ∀ s : State, coreOn s = true →
    (∀ (i : TickIn) (dur : Nat), s.sys.mode = .boot → s.sys.recov = false → s.upd.revert = none →
      ∃ t, exec (.bootEnd i dur) s = .next t ∧
        t.sys.mode = (if s.upd.trialFlag then
            (if s.upd.actMode = .run ∨ s.upd.actMode = .degraded then .trial else .commission)
          else if autoRun s then .run else .commission) ∧
        t.sys.bootTime = sat16u (dur / 10000) ∧ t.frm.tickT = i.t ∧
        t.frm.no = (if fld (act s 0x0100) 1 0 = 0 ∧ s.frm.srcValid then netFrameNo s.cfg.active i.t else 0) ∧
        t.wdt.run = (s.wdt.fuseOn || (act s 0x0300).getLsbD 15) ∧ t.wdt.cnt = 0 ∧ t.tal.started = true ∧ t.cfg.active = s.cfg.active ∧
        (∀ n : ChanId, t.ch[n].flt.seen = faultBits t.ch[n].flt)) ∧
    (s.sys.recov = true → s.upd.st = .staged →
      ∃ t, exec .recoveryReset s = .next t ∧ t.sys.cause = 6 ∧ t.sys.mode = .boot ∧ t.sys.bootReady = false ∧
        t.upd.active = s.upd.staged ∧ t.upd.old = none))

/-- FRAME_TICK (R28 to R32, R48, R217, R183): the frame number follows its source or counts up, the tick instant is taken,
the overrun run restarts unless the ended frame was an overrun frame, cores asked to stop are stopped, core cycles count
from the tick, every powered channel's edge window is closed and, where its group takes no new portion at this tick, its
edges are shown as they stood, and the mode and the active set do not change. Where a clause rests on a reading of the
model's own, log entry 8 names it. -/
def Obligations.FrameTickAdvancesTheFrame : Prop :=
  ∀ (s : State) (i : TickIn), inService s = true →
    ∃ t, exec (.frameTick i) s = .next t ∧ t.frm.tickT = i.t ∧ t.now = i.t ∧ t.frm.prev = s.frm.no ∧
      t.frm.no = (if fld (act s 0x0100) 1 0 = 0 ∧ s.frm.srcValid ∧ s.frm.holdover = false ∧
          (s.frm.slew = false ∨ i.onSource) then netFrameNo s.cfg.active i.t else s.frm.no + 1) ∧
      t.frm.overrun = false ∧ t.frm.ovrCnt = s.frm.ovrCnt ∧ t.frm.run = (if s.frm.overrun then s.frm.run else 0) ∧
      t.sys.stopped = s.sys.stopped ||| s.sys.stopReq ∧ t.sys.stopReq = 0 ∧ t.sys.mode = s.sys.mode ∧ t.cfg = s.cfg ∧
      (∀ c : CoreId, t.core[c].freeAt = s.core[c].freeAt - i.dt / 2 ∧ t.core[c].d = s.core[c].d ∧
        t.core[c].dmem = s.core[c].dmem) ∧
      (∀ n : ChanId, alive s (chGroup n) = true → t.ch[n].di.edges = [] ∧ t.ch[n].di.nEdges = 0 ∧
        (s.grp[chGroup n].resend = false → s.grp[chGroup n].rstRec = false →
          t.ch[n].di.snapEdges = BitVec.ofNat 8 (min 255 s.ch[n].di.nEdges) ∧ t.ch[n].di.snapRecs = recsOf s.ch[n].di.edges)) ∧
      t.pi.sys[0] = t.frm.no.setWidth 32 ∧ t.pi.outw = s.pi.outw ∧ t.pending = s.pending

/-- SYNC_IN_EDGE and HOLDOVER_ENTRY (R28, R30, R49): an edge of less than 100 ns, or one away from where a tick can be, is
ignored with SYNCERR; a valid first edge makes the source valid; after a switch of period, phase or source the first edge at
least one period after it is accepted where it comes; in holdover, two edges one period apart within 1 % end it. Three sync
intervals or three frame periods without valid time information enter holdover once and raise its event; with the local time
base, or before the three sync intervals have passed, nothing happens. The gPTP rows (R30, R288, R289): a Sync of the
device's domain on its slave port corrects network time and the offset register and raises TIME_STEP beyond 1 µs, any other
Sync corrects nothing; a master port sends a two-step Sync and its Follow_Up once its interval has passed; a peer delay is
measured, and DLYOVER holds while it exceeds NET_HOPDLY; the first Announce heard makes its grandmaster the device's where
it beats the device's own priority vector, and a device with GMCAP that no Announce beats is grandmaster itself; a changed
grandmaster raises TIME_STEP. Where a clause rests on a reading of the model's own, log entries 58, 60, 62, 66 name it. -/
def Obligations.FrameSourcesAndTime : Prop :=
  (
  ∀ s : State, inService s = true →
    (∀ (t0 w : Nat) (r : Bool), fld (act s 0x0100) 1 0 = 1 → (act s 0x0100).getLsbD 2 ≠ r →
      let tol := period s.cfg.active / 100
      (w < 100 → exec (.syncInEdge t0 w r) s = .next { s with frm := { s.frm with syncErr := true } }) ∧
      (100 ≤ w → s.frm.holdover = false → s.frm.srcValid = false →
        exec (.syncInEdge t0 w r) s =
          .next { s with now := max s.now t0, frm := { s.frm with lastEdgeT := some t0, srcValid := true, validT := t0 } }) ∧
      (100 ≤ w → s.frm.holdover = false → s.frm.srcValid = true → ∀ u, s.frm.edgeFrom = some u →
        let taken := if u + period s.cfg.active ≤ t0 then { s.frm with lastEdgeT := some t0, srcValid := true, validT := t0 }
          else { s.frm with lastEdgeT := some t0, syncErr := true }
        exec (.syncInEdge t0 w r) s = .next { s with now := max s.now t0, frm := taken }) ∧
      (100 ≤ w → s.frm.holdover = false → s.frm.srcValid = true → s.frm.edgeFrom = none → within s.frm.tickT t0 (period s.cfg.active) tol = false →
        within s.frm.tickT t0 0 tol = false →
        exec (.syncInEdge t0 w r) s = .next { s with frm := { s.frm with syncErr := true } }) ∧
      (100 ≤ w → s.frm.holdover = true → ∀ u, s.frm.lastEdgeT = some u → within u t0 (period s.cfg.active) tol = true →
        exec (.syncInEdge t0 w r) s = .next { s with now := max s.now t0, frm := { s.frm with
          lastEdgeT := some t0, holdover := false, slew := true, srcValid := true, validT := t0 } })) ∧
    (∀ t0 : Nat, 2 ≤ fld (act s 0x0100) 1 0 ∨ s.frm.holdover = true → exec (.holdoverEntry t0) s = .next s) ∧
    (∀ t0 : Nat, s.frm.holdover = false → fld (act s 0x0100) 1 0 = 0 → s.net.gm = false →
      (∀ k : Nat, s.net.syncLog.getD (-(fld (act s 0x0833) 2 0 : Int)) = -(k : Int) → (t0 - s.frm.validT) * 2 ^ k < 3000000000 →
        exec (.holdoverEntry t0) s = .next s)) ∧
    (∀ t0 : Nat, s.frm.holdover = false →
      (fld (act s 0x0100) 1 0 = 0 ∧ s.net.gm = false ∧ ∃ k : Nat, s.net.syncLog.getD (-(fld (act s 0x0833) 2 0 : Int)) = -(k : Int) ∧
          3000000000 ≤ (t0 - s.frm.validT) * 2 ^ k) ∨
        (fld (act s 0x0100) 1 0 = 1 ∧ s.frm.validT + 3 * period s.cfg.active ≤ t0) →
      ∃ t, exec (.holdoverEntry t0) s = .next t ∧ t.frm = { s.frm with holdover := true, slew := false, lastEdgeT := none } ∧
        Raised 66 (s.frm.srcAct.setWidth 32) s t)) ∧
  (
  ∀ s : State, inService s = true →
    (∀ (p : PortId) (t0 : Nat) (ofs : Int) (x : SyncHdr),
      (portUp s p = true → tapDrops s p = false → x.dom = ptpDom s → portRole s p = 2 →
        ∃ t, exec (.gptpSyncRx p t0 ofs x) s = .next t ∧ t.now = t0 ∧ t.net.offset = satOfs ofs ∧ t.net.synced = true ∧
          t.net.syncLog = some x.logInt ∧ (fld (act s 0x0100) 1 0 = 0 → t.frm.holdover = false ∧ t.frm.srcValid = true) ∧
          (1000 < ofs.natAbs → Raised 120 0 s t) ∧ (ofs.natAbs ≤ 1000 → t.evt = s.evt)) ∧
      (portUp s p = false ∨ tapDrops s p = true ∨ x.dom ≠ ptpDom s ∨ portRole s p ≠ 2 →
        ∃ t, exec (.gptpSyncRx p t0 ofs x) s = .next t ∧ t = { s with sent := t.sent })) ∧
    (∀ (p : PortId) (t0 : Nat), portUp s p = true → portRole s p = 1 →
      1000000000 ≤ (t0 - s.net.ports[p].syncT) * 2 ^ fld (act s 0x0833) 2 0 →
      ∃ t, exec (.gptpSyncTx ⟨p, t0⟩) s = .next t ∧ t.net.ports[p].syncT = t0 ∧ t.now = max s.now t0 ∧
        t.sent = .gptpFollowUp p (ptpDom s) t0 :: .gptpSync p (ptpDom s) (-(fld (act s 0x0833) 2 0 : Int)) :: s.sent) ∧
    (∀ (p : PortId) (d : Nat) (corr : Int), portUp s p = true → tapDrops s p = false →
      ∃ t, exec (.gptpPdelay p d corr) s = .next t ∧ t.now = ((s.now : Int) + corr).toNat ∧ t.net.ports[p].dly = d ∧
        (∀ hop : HWord, (pstatReg hop t.net.ports[p]).getLsbD 13 = decide (hop.toNat < d)) ∧
        (1000 < corr.natAbs → t.evt.pend.getLsbD 120 = true) ∧ (corr.natAbs ≤ 1000 → t.evt = s.evt)) ∧
    (∀ (p : PortId) (t0 : Nat) (a : AnnIn), portUp s p = true → tapDrops s p = false → a.steps < 255 →
      a.src.extractLsb' 16 64 ≠ Config.clockId → (∀ q : PortId, s.net.ports[q].ann = none) →
      ∃ t, exec (.gptpAnnounce p t0 (ptpDom s) a) s = .next t ∧ t.net.ports[p].ann = some a ∧
        (vecLt (annVec a (a.steps + 1)) (ownVec s) = true →
          t.net.gm = false ∧ t.net.gmId = some a.gmId ∧ portRole t p = 2) ∧
        (vecLt (annVec a (a.steps + 1)) (ownVec s) = false → gmCap s = true →
          t.net.gm = true ∧ t.net.gmId = some Config.clockId ∧ t.net.synced = false) ∧
        (∀ x, s.net.gmId = some x → t.net.gmId ≠ some x → t.evt.pend.getLsbD 120 = true)))

/-- A COMMIT up to its acceptance (R19, R20, R22): the key starts it, the discard key copies the active set back; the checks
refuse with the cause of the first failing check, changing no set, or send the portions; each portion is acknowledged; a
powered group that has not acknowledged in the 4 frames from the first transfer of its own portion refuses it with cause 9;
the last acknowledgement accepts it. The active set changes in none of these. EFLASH_WRITE_DONE (R141, R236, R246, R376,
R339): a sector of a record is written under its own leave; the last one makes the written set the committed one outside a
trial, an earlier one, of at most 48, asks leave for the next; a program's store takes the bytes of shared SRAM that its
service names. Where a clause rests on a reading of the model's own, log entry 60 names it. -/
def Obligations.CommitUpToAcceptanceAndEflashWrites : Prop :=
  (
  ∀ s : State,
    (∀ acc, coreOn s = true → (∀ c, acc ≠ .core c) → writeCause s acc 0x0010 0xC3A5 = none → cmtPend s = false →
      ∃ t, exec (.commitKey acc) s = .next t ∧ t.cmt.phase = .requested ∧ t.cmt.src = 2 ∧ t.cfg = s.cfg) ∧
    (∀ acc, coreOn s = true → (∀ c, acc ≠ .core c) → writeCause s acc 0x0010 0x3C5A = none →
      exec (.discardKey acc) s = .next { s with cfg := { s.cfg with staged := s.cfg.active } }) ∧
    (∀ t0, coreOn s = true → s.cmt.phase = .requested →
      ∃ t, exec (.commitChecks t0) s = .next t ∧ t.cfg = s.cfg ∧
        ((stage3Checks s).cause ≠ 0 → t.cmt.phase = .idle ∧ t.cmt.cause = (stage3Checks s).cause ∧
          Raised 81 ((stage3Checks s).cause.setWidth 32) s t) ∧
        ((stage3Checks s).cause = 0 → t.cmt.phase =
          (if groups.all (fun g => decide (s.grp[g].supply = .unpowered)) then .accepted else .portions))) ∧
    (∀ g t0, coreOn s = true → s.cmt.phase = .portions → alive s g = true → s.grp[g].link = false →
      (∃ k, s.cmt.frames[g] = some k ∧ k ≤ 4) →
      ∃ t, exec (.groupPortionAck g t0) s = .next t ∧ t.cfg = s.cfg ∧ t.grp[g].portionNext = some s.cfg.staged ∧
        t.cmt.acked = setBit s.cmt.acked g.val true ∧
        t.cmt.phase = (if groups.all (fun h => decide (s.grp[h].supply = .unpowered) || decide (h = g) ||
          s.cmt.acked.getLsbD h.val) then .accepted else .portions)) ∧
    (∀ g, coreOn s = true → s.cmt.phase = .portions → alive s g = true → s.cmt.acked.getLsbD g.val = false →
      (∃ k, s.cmt.frames[g] = some k ∧ 4 ≤ k) →
      ∃ t, exec (.commitLinkTimeout g) s = .next t ∧ t.cfg = s.cfg ∧ t.cmt.phase = .idle ∧ t.cmt.cause = 9 ∧
        ∀ h : GroupId, t.grp[h].portionNext = none)) ∧
  (
  ∀ s : State, coreOn s = true →
    (∀ c, s.cfg.writing = some c →
      (s.cfg.leave = true → s.upd.trialFlag = false → exec (.eflashWriteDone (.record true)) s =
        .next { s with cfg := { s.cfg with writing := none, committed := some c, wrote := s.cfg.wrote + 1, leave := false }
                       cal := { s.cal with persist := false }, far := { s.far with recErase := s.far.recErase + 1 } }) ∧
      (s.cfg.leave = true → s.cfg.wrote < 47 → ∃ t, exec (.eflashWriteDone (.record false)) s = .next t ∧
        t.cfg = { s.cfg with wrote := s.cfg.wrote + 1, leave := false } ∧ t.far.recErase = s.far.recErase + 1 ∧
        reqPending t .record = true) ∧
      (s.cfg.leave = false → ∀ last, exec (.eflashWriteDone (.record last)) s = .next s)) ∧
    (∀ (c : CoreId) (w : SvcWait), s.core[c].svc = some w → w.num = 0x14 → nvStatus w = 0 → w.granted = true →
      s.upd.trialFlag = false →
      ∃ t, exec (.eflashWriteDone (.nvStore c)) s = .next t ∧
        t.core[c].nv = memPuts (s.core[c].nvNext.getD s.core[c].nv) w.d1.toNat
          (memGets s.sram (w.d0.toNat - 0x20000000) w.d2.toNat) ∧
        t.core[c].svc = some { w with written := true } ∧ t.far.nvErase = s.far.nvErase.set c (s.far.nvErase[c] + 1) ∧
        t.sram = s.sram ∧ t.eflash = s.eflash))

/-- COMMIT_SWITCH (R21, R6, R15): at the first tick at least 2 µs after the acceptance, and at no other instant, the staged
set becomes the active set and the portion of every powered, linked group; stopped cores run again, CMT_FRM takes the frame
number, and COMMIT_DONE is raised. -/
def Obligations.TheSwitchMakesTheStagedSetActive : Prop :=
  ∀ (s : State) (t0 : Nat),
    (coreOn s = true → s.cmt.phase = .accepted → s.cmt.acceptT + 2000 ≤ t0 → s.frm.tickT = t0 →
      ∃ t, exec (.commitSwitch t0) s = .next t ∧ t.cfg.active = s.cfg.staged ∧ t.cfg.staged = s.cfg.staged ∧
        (∀ g : GroupId, alive s g = true → s.grp[g].link = false → t.grp[g].portion = s.cfg.staged) ∧
        t.cmt.phase = .idle ∧ t.cmt.frm = s.frm.no ∧ t.cmt.cause = 0 ∧ t.sys.stopped = 0 ∧ t.sys.stopReq = 0 ∧
        t.sys.mode = s.sys.mode ∧ t.evt.pend.getLsbD 80 = true) ∧
    (¬(coreOn s = true ∧ s.cmt.phase = .accepted ∧ s.cmt.acceptT + 2000 ≤ t0 ∧ s.frm.tickT = t0) →
      exec (.commitSwitch t0) s = .next s)

/-- MODE_CHANGE at a tick (R25 to R27, R392, R393): a trigger takes RUN or DEGRADED to SAFE; an allowed request takes
effect, RUN becoming DEGRADED with its mask while a group is out of service; with no request, RUN and DEGRADED follow the
groups out of service. At any other instant nothing changes. Where a clause rests on a reading of the model's own, log entry
37 names it. -/
def Obligations.ModeChangesAtATick : Prop :=
  ∀ (s : State) (t0 : Nat), inService s = true →
    (s.frm.tickT ≠ t0 → exec (.modeChange t0) s = .next s) ∧
    (s.frm.tickT = t0 →
      ∃ t, exec (.modeChange t0) s = .next t ∧ t.sys.safeReq = false ∧ t.sys.modeReq = none ∧
        (s.sys.safeReq = true → s.sys.mode = .run ∨ s.sys.mode = .degraded → s.sys.modeReq = none → t.sys.mode = .safe) ∧
        (s.sys.safeReq = false →
          (∀ m, s.sys.modeReq = some m → setOk s m = true → m ≠ .run → t.sys.mode = m ∧ t.sys.degMask = 0) ∧
          (s.sys.modeReq = some .run → setOk s .run = true →
            t.sys.mode = (if oosMask s = 0 then .run else .degraded) ∧ t.sys.degMask = oosMask s) ∧
          (s.sys.modeReq = none →
            t.sys.mode = (if s.sys.mode = .run ∧ oosMask s ≠ 0 then (if degPol s then .degraded else .safe)
              else if s.sys.mode = .degraded ∧ oosMask s = 0 then .run else s.sys.mode))))

/-- LANE_START, ENTRY_END, RESULT_WRITE and SCAN_END (R106 to R108, R111, R113, R115, R123): outside scan-mask mode a
started lane begins at entry 0 with no result done; each entry's end moves to the next and stops the lane after the last,
and the channel whose held value it converted may track again; a result not yet written sets its DONE and NEW bits, LOST
where NEW was still set, its OVR and its code; a finished scan restarts every role. Where a clause rests on a reading of the
model's own, log entries 32, 60, 63 name it. -/
def Obligations.LaneSequences : Prop :=
  ∀ (s : State) (g : GroupId),
    (∀ slot : BitVec 8, inService s = true → slotIs s slot 1 = true → g ∈ slotGroups s slot → alive s g = true →
      s.grp[g].scan = false → s.grp[g].ilv = false → (slotArg s slot).testBit 8 = true → 0 < laneLen s g .a →
      ∃ t, exec (.laneStart slot) s = .next t ∧ t.grp[g].lanes[(0 : Fin 3)].running = true ∧ t.grp[g].lanes[(0 : Fin 3)].entry = 0 ∧
        t.grp[g].lanes[(0 : Fin 3)].done = 0 ∧ t.grp[g].lanes[(0 : Fin 3)].res = s.grp[g].lanes[(0 : Fin 3)].res ∧
        (∀ h : GroupId, h ∉ slotGroups s slot → t.grp[h] = s.grp[h]) ∧ t = { s with now := t.now, grp := t.grp }) ∧
    (∀ r : Role, alive s g = true → s.grp[g].lanes[roleIx r].running = true →
      ∃ t, exec (.entryEnd g r) s = .next t ∧ t.grp[g].lanes[roleIx r].entry = s.grp[g].lanes[roleIx r].entry + 1 ∧
        t.grp[g].lanes[roleIx r].running = decide (s.grp[g].lanes[roleIx r].entry + 1 < laneLen s g r) ∧
        t.grp[g].lanes[roleIx r].res = s.grp[g].lanes[roleIx r].res ∧
        t = { s with ch := t.ch, grp := s.grp.set g { s.grp[g] with
          lanes := s.grp[g].lanes.set (roleIx r) t.grp[g].lanes[roleIx r] } } ∧
        (∀ k : ChanId, t.ch[k] = { s.ch[k] with ai := { s.ch[k].ai with
          trackFrom := t.ch[k].ai.trackFrom, heldEnd := t.ch[k].ai.heldEnd } }) ∧
        (∀ k : ChanId, (entryOf s g r s.grp[g].lanes[roleIx r].entry).src = .chan k true → t.ch[k].ai.heldEnd = true ∧
          t.grp[g].lanes[roleIx r].t ≤ t.ch[k].ai.trackFrom)) ∧
    (∀ (r : Role) (i : Fin 16) (x : ConvIn), alive s g = true → s.grp[g].ilv = false → s.grp[g].lanes[roleIx r].entry = i.val + 1 →
      s.grp[g].lanes[roleIx r].done.getLsbD i.val = false →
      let l := s.grp[g].lanes[roleIx r]
      let e := entryOf s g r i.val
      let d := deliverCode e.uns ((readingOf s g r l e x :: l.win[i]).take e.avg)
      ∃ t, exec (.resultWrite g r x) s = .next t ∧
        (let m := t.grp[g].lanes[roleIx r]
         m.done = setBit l.done i.val true ∧ m.new = setBit l.new i.val true ∧
         m.lost = (if l.new.getLsbD i.val then setBit l.lost i.val true else l.lost) ∧
         m.ovr = setBit l.ovr i.val d.2 ∧ m.code[i] = d.1 ∧
         m.res[i] = (if e.left then (d.1 ++ 0#8 : BitVec 32) else d.1.signExtend 32) ∧
         (∀ j : Fin 16, j ≠ i → m.res[j] = l.res[j])) ∧
        t = { s with grp := t.grp, ch := t.ch } ∧ (∀ h : GroupId, h ≠ g → t.grp[h] = s.grp[h])) ∧
    (∀ x : ConvIn, alive s g = true → s.grp[g].ilv = true →
      (∀ r : Role, r ≠ .s ∨ inOverlap s.grp[g] .s = false → exec (.resultWrite g r x) s = .next s) ∧
      (inOverlap s.grp[g] .s = true →
        let l := s.grp[g].lanes[roleIx .s]
        let d := deliverCode false [readingOf s g .s l (ilvEntry s g) x]
        ∃ t, exec (.resultWrite g .s x) s = .next t ∧ t = { s with grp := s.grp.set g t.grp[g] } ∧
          t.grp[g].lanes[roleIx .s].code[0] = d.1 ∧ t.grp[g].lanes[roleIx .s].new = setBit l.new 0 true ∧
          t.grp[g].lanes[roleIx .s].done =
            setBit l.done 0 (!s.grp[g].lanes[targetRole s.grp[g].shadow].done.getLsbD 0))) ∧
    (alive s g = true → s.grp[g].scan = true → 0 < laneLen s g .a → (∀ r : Fin 3, s.grp[g].lanes[r].running = false) →
      s.grp[g].selfChk = false →
      ∃ t, exec (.scanEnd g) s = .next t ∧ t = { s with grp := s.grp.set g t.grp[g] } ∧
        ∀ r : Fin 3, t.grp[g].lanes[r].running = true ∧ t.grp[g].lanes[r].entry = 0 ∧ t.grp[g].lanes[r].done = 0)

/-- SCAN_MODE_EXIT and the self-check (R122 to R125, R169, R170): a second good scan in a row passes the self-check and asks
for the exit, the eighth scan without such a pair fails it and takes the group out of service; the exit ends a start-up or
recovery and leaves scan-mask mode unless the mode of the device keeps it. INTERLEAVE_SAMPLE, SWEEP_END and OVERLAP_END
(R126 to R128, R144 to R149): sample 0 is the channel's reading, even samples are lane A's and odd ones lane B's, and one
beyond the clamp of a mode-8 or mode-9 channel with wire-break detection sets its OPEN; a sweep stores the new correction
and begins the overlap of its target; an overlap that does not match counts a mismatch, one whose target drives no mode-11
channel and matches changes places at once. Where a clause rests on a reading of the model's own, log entries 32, 60 name
it. -/
def Obligations.SelfCheckInterleaveAndRotation : Prop :=
  (
  ∀ (s : State) (g : GroupId), coreOn s = true → alive s g = true →
    (s.grp[g].scan = true → 0 < laneLen s g .a → (∀ r : Fin 3, s.grp[g].lanes[r].running = false) → s.grp[g].selfChk = true →
      ∃ t, exec (.scanEnd g) s = .next t ∧
        (scanMeets s g = true → s.grp[g].scanOk = true → t.grp[g].exitReq = true ∧ t.grp[g].selfChk = false ∧
          t.grp[g].supply = s.grp[g].supply) ∧
        ((scanMeets s g && s.grp[g].scanOk) = false → 7 ≤ s.grp[g].scans → t.grp[g].supply = .selfFailed ∧
          t.grp[g].selfFail = true ∧ Raised 113 (BitVec.ofNat 32 g.val) s t) ∧
        ((scanMeets s g && s.grp[g].scanOk) = false → s.grp[g].scans < 7 → t.grp[g].scanOk = scanMeets s g ∧
          t.grp[g].scans = s.grp[g].scans + 1 ∧ t.evt = s.evt)) ∧
    (s.grp[g].exitReq = true →
      ∃ t, exec (.scanModeExit g) s = .next t ∧ t.grp[g].exitReq = false ∧
        t.grp[g].supply = (if s.grp[g].supply = .startup ∨ s.grp[g].supply = .recovery ∨ s.grp[g].supply = .selfFailed
          then .normal else s.grp[g].supply) ∧
        t.grp[g].scan = (s.grp[g].scan && (s.sys.mode = .boot || s.sys.mode = .commission)))) ∧
  (
  ∀ (s : State) (g : GroupId),
    (∀ x : ConvIn, alive s g = true → s.grp[g].ilv = true → s.grp[g].supply = .normal → 0 < period s.cfg.active →
      let e := ilvEntry s g
      let d := deliverCode false [readingOf s g .a s.grp[g].lanes[roleIx .a] e x]
      let n := chanAt g (fld (grpG s g 0x11) 2 0)
      ∃ t, exec (.interleaveSample g 0 x) s = .next t ∧ t.ch[n].ai.val = d.1 ∧ t.ch[n].ai.ovr = d.2 ∧ t.ch[n].ai.fresh = true ∧
        (∀ k : ChanId, k ≠ n → t.ch[k] = s.ch[k]) ∧ t.pi = s.pi) ∧
    (∀ (j : Nat) (x : ConvIn), j ≠ 0 → alive s g = true → s.grp[g].ilv = true → s.grp[g].supply = .normal →
      j * 500 < period s.cfg.active →
      let n := chanAt g (fld (grpG s g 0x11) 2 0)
      let r : Role := if j % 2 = 0 then .a else .b
      ∃ t, exec (.interleaveSample g j x) s = .next t ∧ t.ch[n].ai = s.ch[n].ai ∧ (∀ k : ChanId, k ≠ n → t.ch[k] = s.ch[k]) ∧
        (wbEnabled s n = true → modeG s n = 8 ∨ modeG s n = 9 →
          entryC s g (ilvEntry s g) < (correct s g r (ilvEntry s g) x.q).2.1 → t.ch[n].flt.opn = true) ∧
        t.grp[g].lanes[roleIx (if j % 2 = 0 then .b else .a)] = s.grp[g].lanes[roleIx (if j % 2 = 0 then .b else .a)]) ∧
    (∀ corr : List W32, coreOn s = true → s.grp[g].rot.step = 2 →
      ∃ t, exec (.sweepEnd g corr) s = .next t ∧ t.grp[g].rot.step = 3 ∧ t.grp[g].rot.frames = 0 ∧ t.grp[g].rot.pairs = 0 ∧
        t.grp[g].shadow = shadowRole s.grp[g].rot ∧
        (spWf calNominal s.cal.tables = true → ∀ i < 144,
          calGet t 5 (laneCorrIdx g (convOf s g 2) 0 0 + i) = corr.getD i 0)) ∧
    (coreOn s = true → s.grp[g].rot.step = 3 → s.grp[g].rot.restart = false → fld (act s 0x3006) 9 0 ≤ s.grp[g].rot.frames →
      s.grp[g].rot.other = false → 0 < s.grp[g].rot.pairs →
      ∃ t, exec (.overlapEnd g) s = .next t ∧ t.grp[g].rot.rms = rmsReg s.grp[g].rot ∧
        (matchOk s s.grp[g].rot = false → t.grp[g].rot.misCnt = inc16 s.grp[g].rot.misCnt ∧ t.grp[g].conv = s.grp[g].conv) ∧
        (matchOk s s.grp[g].rot = true → convertsAo s g s.grp[g].rot.target = true → t.grp[g].rot.step = 4 ∧
          t.grp[g].conv = s.grp[g].conv) ∧
        (matchOk s s.grp[g].rot = true → convertsAo s g s.grp[g].rot.target = false → t.grp[g].conv ≠ s.grp[g].conv ∨
          s.grp[g].conv[(2 : Fin 3)] = s.grp[g].conv[targetRole s.grp[g].rot.target])))

/-- IN_XFER and IN_XFER_END (R34, R35, R39, R25, R177): the named powered groups send the words their channels form; at the
end of the transfer they replace the earlier words of those groups in one step, with SUBST and without VALID where the
channel's configuration mismatches; a powered group with a link error keeps its latest words with HELD and counts the error;
the words of groups the slot does not name do not change. Where a clause rests on a reading of the model's own, log entry 60
names it. -/
def Obligations.InputTransfers : Prop :=
  ∀ (s : State) (slot : BitVec 8), inService s = true → slotIs s slot 2 = true →
    (∃ t, exec (.inXfer slot) s = .next t ∧ t.pi = s.pi ∧
      (∀ g ∈ slotGroups s slot, alive s g = true → ∃ tx, t.grp[g].tx = some tx ∧
        ∀ p : Fin 8, tx.words[p] = formWord s (grpCh g p) ∧ tx.recs[p] = formRecs s (grpCh g p)) ∧
      (∀ g : GroupId, g ∉ slotGroups s slot → t.grp[g] = s.grp[g])) ∧
    (∀ x : InXferIn,
      ∃ t, exec (.inXferEnd slot x) s = .next t ∧ t.pi.outw = s.pi.outw ∧
        (∀ g ∈ slotGroups s slot, wordsOut s.grp[g] = false → s.sys.degMask.getLsbD g.val = false → ∀ p : Fin 8,
          let n := grpCh g p
          let shown := fun w : W32 => if s.ch[n].flt.cfgmm then (w ||| 0x40) &&& 0xFFFFFFFE else w
          (x.linkErr.getLsbD g.val = false → ∀ tx, s.grp[g].tx = some tx → t.pi.inw[n] = shown tx.words[p] ∧
            t.pi.last[n] = tx.words[p] ∧ t.pi.recs[n] = tx.recs[p]) ∧
          (x.linkErr.getLsbD g.val = true → t.pi.inw[n] = shown (s.pi.last[n] ||| 0x20) ∧ t.pi.last[n] = s.pi.last[n])) ∧
        (∀ g ∈ slotGroups s slot, alive s g = true → x.linkErr.getLsbD g.val = true →
          t.far.linkErr[g] = inc16 s.far.linkErr[g]) ∧
        (∀ g : GroupId, g ∉ slotGroups s slot → ∀ p : Fin 8, t.pi.inw[grpCh g p] = s.pi.inw[grpCh g p]))

/-- OUT_XFER and OUT_XFER_END (R37, R40, R46, R47): a task whose deadline the slot is and that has not ended makes the frame
an overrun frame, is stopped, and no transfer starts; otherwise each named powered, linked group is sent, for every channel,
its output word, or the value applied last where its writer has had none accepted, and the end of the transfer delivers
them. OUT_APPLY and CHANNEL_APPLY (R34, R37, R50, R67, R96, R97, R100): at the slot a channel of a group that drives its
outputs, with no delay of its own, no shutdown and no safe value in force, applies the delivered word as its mode uses it
(mode 10 without a ramp clamps it to its span) and latches the quality of that instant; a channel with CH_OUTDLY is armed
and applies it when its delay ends; other groups do not move. Where a clause rests on a reading of the model's own, log
entries 60, 61 name it. -/
def Obligations.OutputTransfersAndApply : Prop :=
  (
  ∀ (s : State) (slot : BitVec 8), inService s = true → slotIs s slot 4 = true →
    let due := fun r : BitVec 8 => deadlineOf s r.toNat = some slot.toNat
    (s.frm.ovrXfer = false → (∀ c : CoreId, (∀ i r, s.core[c].run = .fg i r → ¬due r) ∧ ∀ q ∈ s.core[c].queue, ¬due q.2) →
      ∃ t, exec (.outXfer slot) s = .next t ∧ t.frm = s.frm ∧ t.evt = s.evt ∧
        (∀ g ∈ slotGroups s slot, alive s g = true → s.grp[g].link = false → t.grp[g].xfer = some slot ∧
          ∀ p : Fin 8, t.ch[grpCh g p].out.next = some (if s.ch[grpCh g p].out.accepted then s.pi.outw[grpCh g p]
            else s.ch[grpCh g p].out.applied)) ∧
        (∀ g : GroupId, g ∉ slotGroups s slot → t.grp[g] = s.grp[g])) ∧
    (∀ (c : CoreId) (i : BitVec 4) (r : BitVec 8), fgMode s.sys.mode = true → s.core[c].run = .fg i r → due r →
      ∃ t, exec (.outXfer slot) s = .next t ∧ t.frm.overrun = true ∧ t.frm.ovrXfer = true ∧ t.core[c].run = .idle ∧
        (∀ g : GroupId, t.grp[g].xfer = s.grp[g].xfer)) ∧
    (∃ t, exec (.outXferEnd slot) s = .next t ∧
      (∀ g : GroupId, s.grp[g].xfer = some slot → alive s g = true → s.grp[g].link = false →
        t.grp[g].xfer = none ∧ t.grp[g].xferNew = true ∧
        ∀ p : Fin 8, t.ch[grpCh g p].out.xfer = s.ch[grpCh g p].out.next.getD s.ch[grpCh g p].out.xfer ∧
          t.ch[grpCh g p].out.applied = s.ch[grpCh g p].out.applied) ∧
      t.pi = s.pi)) ∧
  (
  ∀ (s : State) (n : ChanId),
    let g := chGroup n
    let x := s.grp[g]
    let o := s.ch[n].out
    let drives := groupOff x = false ∧ x.hold = false ∧ safeInForce s n = false ∧ forced s n = false ∧ busy s n = false ∧
      heldOff s n = false
    let applies := fun t : State =>
      (modeG s n = 4 → t.ch[n].out.applied = o.xfer &&& 0x80000000 ∧ t.ch[n].out.subst = false) ∧
      (modeG s n = 5 → t.ch[n].out.applied = o.xfer &&& 0xFFFF0000 ∧ t.ch[n].out.subst = false) ∧
      (modeG s n = 3 → o.xfer.msb = false → t.ch[n].out.applied = 0) ∧
      (modeG s n = 3 → o.xfer.msb = true → inrushG s n = 0 → t.ch[n].out.applied = 0x80000000)
    (∀ slot : BitVec 8, inService s = true → slotIs s slot 5 = true → g ∈ slotGroups s slot → alive s g = true → x.link = false →
      drives → chG s n 0x0C = 0 →
      ∃ t, exec (.outApply slot) s = .next t ∧ applies t ∧ (isOutMode (modeG s n) = true → t.ch[n].out.qual = outQual t n) ∧
        (modeG s n = 10 → fld (chG s n 0x14) 11 0 = 0 → x.xferNew = true → x.xfer = none → o.keep = false →
          t.ch[n].out.applied = aoWord (aoClamp 10 (spanG s n) (aoVal o.xfer)))) ∧
    (∀ slot : BitVec 8, inService s = true → slotIs s slot 5 = true → g ∈ slotGroups s slot → alive s g = true → x.link = false →
      chG s n 0x0C ≠ 0 → isOutMode (modeG s n) = true →
      ∃ t, exec (.outApply slot) s = .next t ∧ t.ch[n].out.armed = some (x.xferNew && x.xfer.isNone) ∧
        t.ch[n].out.applied = o.applied) ∧
    (∀ slot : BitVec 8, inService s = true → slotIs s slot 5 = true → g ∉ slotGroups s slot →
      ∃ t, exec (.outApply slot) s = .next t ∧ t.ch[n] = s.ch[n]) ∧
    (∀ fresh, o.armed = some fresh → drives → ∃ t, exec (.channelApply n) s = .next t ∧ applies t ∧ t.ch[n].out.armed = none ∧
      (isOutMode (modeG s n) = true → t.ch[n].out.qual = outQual t n)) ∧
    (o.armed = none → exec (.channelApply n) s = .next s))

/-- TASK_REL and TASK_START (R41, R42, R184, R227, R345): in RUN, DEGRADED and TRIAL the slot releases its task, which is
counted; an idle core starts its next released task with d, a0 to a6, m and st at 0, a7 at the declared stack, pc at the
entry, 4 cycles after the later of its slot and the end of the previous task. No memory changes. BG_OPEN, BG_CLOSE and
BG_TASK_START (R43, R208, R228, R229): a window opens and a suspended task goes on with its registers; at its close a
running background task is suspended with all of them, at the TICKWAIT if it was waiting in one; while a window is open an
idle core with nothing released or suspended starts its ready task of the lowest BGPRI. -/
def Obligations.TasksAndBackgroundWindows : Prop :=
  (
  ∀ s : State, inService s = true →
    (∀ (slot : BitVec 8) (x : Task), slotIs s slot 3 = true → fgMode s.sys.mode = true → released s slot = some x →
      ∃ t, exec (.taskRel slot) s = .next t ∧ t.core[x.core].queue = s.core[x.core].queue ++ [(x.index, slot)] ∧
        t.core[x.core].releases = s.core[x.core].releases.set x.index.toNat (s.core[x.core].releases[x.index.toNat] + 1) ∧
        t = { s with now := t.now, core := s.core.set x.core { s.core[x.core] with
          queue := t.core[x.core].queue, releases := t.core[x.core].releases } }) ∧
    (∀ slot : BitVec 8, fgMode s.sys.mode = false → exec (.taskRel slot) s = .next s) ∧
    (∀ (c : CoreId) (i : BitVec 4) (slot : BitVec 8) (rest : List (BitVec 4 × BitVec 8)) (x : Task),
      s.core[c].run = .idle → s.core[c].queue = (i, slot) :: rest → findTask s c i = some x →
      ∃ t, exec (.taskStart c) s = .next t ∧
        (let k := t.core[c]
         k.run = .fg i slot ∧ k.queue = rest ∧ k.pc = x.entry ∧ k.st = 0 ∧ (∀ r : Fin 16, k.d[r] = 0) ∧
         (∀ r : Fin 7, k.a[r.val] = 0) ∧ k.a[7] = x.stack ∧ (∀ r : Fin 4, k.m[r] = 0) ∧
         k.startAt = max ((slotTime s.cfg.active slot.toNat + 1) / 2) s.core[c].freeAt + 4 ∧ k.freeAt = k.startAt ∧
         k.dmem = s.core[c].dmem ∧ k.imem = s.core[c].imem) ∧ t.sram = s.sram ∧
        t = { s with core := s.core.set c t.core[c] })) ∧
  (
  ∀ s : State, inService s = true →
    (∀ slot : BitVec 8, slotIs s slot 8 = true →
      ∃ t, exec (.bgOpen slot) s = .next t ∧ t.frm = { s.frm with bgOpen := true } ∧
        ∀ (c : CoreId) (x : BgCtx), bgMode s.sys.mode = true → s.core[c].susp = some x → s.core[c].run = .idle →
          s.core[c].svc = none → coreFree s c = true → t.core[c].run = .bg x.task ∧ t.core[c].susp = none ∧ t.core[c].d = x.d ∧ t.core[c].a = x.a ∧
            t.core[c].m = x.m ∧ t.core[c].st = x.st ∧ t.core[c].pc = x.pc) ∧
    (∀ slot : BitVec 8, slotIs s slot 9 = true →
      ∃ t, exec (.bgClose slot) s = .next t ∧ t.frm = { s.frm with bgOpen := false } ∧
        ∀ (c : CoreId), (∀ i, s.core[c].run = .bg i → t.core[c].run = .idle ∧ ∃ x, t.core[c].susp = some x ∧ x.task = i ∧
            x.d = s.core[c].d ∧ x.a = s.core[c].a ∧ x.m = s.core[c].m ∧ x.st = s.core[c].st ∧
            x.pc = (if s.core[c].tw = true ∧ (slotTime s.cfg.active slot.toNat + 1) / 2 < s.core[c].freeAt
              then s.core[c].pc - 4 else s.core[c].pc)) ∧
          ((∀ i, s.core[c].run ≠ .bg i) → t.core[c] = s.core[c])) ∧
    (∀ (c : CoreId) (x : Task), s.frm.bgOpen = true → bgMode s.sys.mode = true → coreFree s c = true → s.core[c].run = .idle →
      s.core[c].queue = [] → s.core[c].susp = none → nextBg s c = some x →
      ∃ t, exec (.bgTaskStart c) s = .next t ∧ t.core[c].run = .bg x.index ∧ t.core[c].pc = x.entry ∧ t.core[c].a[7] = x.stack ∧
        t.core[c].st = 0 ∧ (∀ r : Fin 16, t.core[c].d[r] = 0) ∧ t.core[c].bgReady = setBit s.core[c].bgReady x.index.toNat false ∧
        t.core[c].freeAt = max s.core[c].freeAt (cycleNow s) + 4 ∧ t = { s with core := s.core.set c t.core[c] }))

/-- DI_RAW_CHANGE, DI_FILTER_CHANGE, FREQ_GATE_END and COUNTER_CLEAR (R51, R55 to R58, R60, R62, R65, R66): the raw state
changes with its instant and the filter count as of then; the filtered state follows at the computed instant, an edge of
mode 1 or 2 is recorded, the first four of a frame with their timestamp; in any other mode the raw state alone follows; in
mode 2 a counted edge adds one modulo 2^32 and WRAP is set at the wrap; a gate's end takes its frequency; a requested clear
zeroes the counter. Nothing else changes. Test pulses and the PWM of outputs (R71, R75 to R79, R158, R163): an allowed test
pulse starts, dark while ON and light while OFF, and ends with its verdict: open load below 2 mA for a light one, stuck
where RAW stays 1 through a dark one, for which no suspect of the group waits any longer (R162); the inrush window ends; PWM
phases alternate. The applied word never changes here. Where a clause rests on a reading of the model's own, log entry 60
names it. -/
def Obligations.DigitalInputsAndPulses : Prop :=
  (
  ∀ (s : State) (n : ChanId) (t0 : Nat),
    let d := s.ch[n].di
    let only := fun t : State => t = { s with now := max s.now t0, ch := s.ch.set n { s.ch[n] with di := t.ch[n].di } }
    (∀ r : Bool, isDigMode (modeG s n) = true → alive s (chGroup n) = true → d.raw ≠ r →
      ∃ t, exec (.diRawChange n r t0) s = .next t ∧ only t ∧
        t.ch[n].di = { d with raw := r, tRaw := t0, tPh := t0, fcnt := fcntAt s n t0 }) ∧
    (∀ r : Bool, isDigMode (modeG s n) = false → alive s (chGroup n) = true → d.raw ≠ r →
      ∃ t, exec (.diRawChange n r t0) s = .next t ∧ only t ∧ t.ch[n].di = { d with raw := r, tRaw := t0 }) ∧
    (isDigMode (modeG s n) = true → alive s (chGroup n) = true → d.raw ≠ d.state → edgeTime s n ≤ t0 →
      ∃ t, exec (.diFilterChange n t0) s = .next t ∧ only t ∧
        (let d' := t.ch[n].di
         let rise := d.raw != invG s n
         let counted := modeG s n = 2 ∧ (fld (chG s n 7) 15 14 = 2 ∨ (fld (chG s n 7) 15 14 = 0 ∧ rise = true) ∨
           (fld (chG s n 7) 15 14 = 1 ∧ rise = false))
         d'.state = d.raw ∧ d'.raw = d.raw ∧ d'.fcnt = (if d.raw then topG s n else 0) ∧
         (modeG s n = 1 ∨ modeG s n = 2 → d'.nEdges = d.nEdges + 1 ∧
           d'.edges = if d.edges.length < 4 then d.edges ++ [bit rise ++ BitVec.ofNat 63 (edgeTime s n)] else d.edges) ∧
         d'.count = (if counted then d.count + 1 else d.count) ∧
         d'.wrap = (d.wrap || decide (counted ∧ d.count = 0xFFFFFFFF)))) ∧
    (modeG s n = 2 → alive s (chGroup n) = true → s.frm.no.toNat % 2 ^ fld (chG s n 7) 7 4 = 0 →
      ∃ t, exec (.freqGateEnd n) s = .next t ∧ t.ch[n].di.freq = (if d.gateOn then some (gateFreq d) else d.freq) ∧
        t.ch[n].di.gateOn = true ∧ t.ch[n].di.gateM = 0 ∧ t.ch[n].di.gateFirst = none ∧ t.ch[n].di.count = d.count) ∧
    (d.clrReq = true → exec (.counterClear n) s =
      .next { s with ch := s.ch.set n { s.ch[n] with di := { d with count := 0, clrReq := false } } })) ∧
  (
  ∀ (s : State) (n : ChanId),
    let x := s.ch[n]
    (∀ light : Bool, modeG s n = 3 → s.grp[chGroup n].supply = .normal → (chG s n 0x10).getLsbD (if light then 14 else 15) = true →
      noPulse s n = false → pulseIn s (chGroup n) = false → x.out.applied.msb ≠ light →
      exec (.testPulseStart n light) s = .next { s with ch := s.ch.set n { x with out := { x.out with pulse := some light } } }) ∧
    (∀ (ma t0 : Nat) (light : Bool), x.out.pulse = some light →
      ∃ t, exec (.testPulseEnd n ma t0) s = .next t ∧ t.ch[n].out = { x.out with pulse := none, pulseT := t0 } ∧
        (light = true → t.ch[n].flt = { x.flt with opn := decide (ma < 2) } ∧ t.evt = s.evt) ∧
        (light = false → t.ch[n].flt.stuck = (x.flt.stuck || x.di.raw) ∧
          ∀ k ∈ chansOf (chGroup n), t.ch[k].flt.darkWait.getLsbD (chPos n).val = false) ∧
        (light = false → x.di.raw = true → x.flt.stuck = false → coreOn s = true → Raised 93 (BitVec.ofNat 32 n.val) s t)) ∧
    (x.out.inrush = true →
      exec (.inrushWindowEnd n) s = .next { s with ch := s.ch.set n { x with out := { x.out with inrush := false } } }) ∧
    (modeG s n = 5 → x.out.started = true → x.out.off = false →
      ∃ t, exec (.pwmTransition n) s = .next t ∧ t.ch[n].out.applied = x.out.applied ∧
        t.ch[n].out.pwmHigh = (if x.out.pwmHigh then decide (x.out.pwmLow = 0)
          else decide (0 < pwmHighOf s n (x.out.applied.toNat / 65536))) ∧
        t = { s with ch := s.ch.set n { x with out := { x.out with pwmHigh := t.ch[n].out.pwmHigh } } }))

/-- Detected faults of a channel (R157, R158, R162 to R164): each observation in its mode sets or clears the named bits and
no other; CROSS is set on both channels of a pair; the sink test of a suspected output, which waits for a dark pulse of each
other channel of the group that is ON with DARK_EN, ends in STUCK, with its event, or clears the suspicion. The sense path
of mode 7 (R89): an overload opens the path, sets OVLDEV and raises the channel's summary event, and is no wire break; the
reclosure is a trial; its check closes the path or opens it again. Where a clause rests on a reading of the model's own, log
entries 29, 33, 60 name it. -/
def Obligations.FaultsAndTheSensePath : Prop :=
  (
  ∀ (s : State) (n : ChanId), alive s (chGroup n) = true →
    let x := s.ch[n]
    let flt := fun (f : ChFlt) => { s with ch := s.ch.set n { x with flt := f } }
    (wbEnabled s n = true → exec (.wireBreak n) s = .next (flt { x.flt with wbOpen := true, opn := true })) ∧
    (x.flt.wbOpen = true → exec (.wireBreakClear n) s = .next (flt { x.flt with wbOpen := false, opn := false })) ∧
    (modeG s n = 3 → (chG s n 0x19).getLsbD 14 = true → x.out.applied.msb = true → x.out.iload < 2 →
      exec (.openLoad n) s = .next (flt { x.flt with opn := true })) ∧
    (modeG s n = 3 → x.out.applied.msb = false → x.flt.busy = 0 → x.di.raw = true → x.flt.suspect = false →
      exec (.suspect n) s = .next (flt { x.flt with suspect := true, darkWait := darkMates s n })) ∧
    (x.flt.suspect = true → darkOwed s n = true → ∀ still, exec (.stuckTestEnd n still) s = .next s) ∧
    (x.flt.suspect = true → darkOwed s n = false →
      exec (.stuckTestEnd n false) s = .next (flt { x.flt with suspect := false })) ∧
    (x.flt.suspect = true → darkOwed s n = false → ∃ t, exec (.stuckTestEnd n true) s = .next t ∧
      t.ch[n].flt = { x.flt with stuck := true, suspect := false } ∧
      (x.flt.stuck = false → coreOn s = true → Raised 93 (BitVec.ofNat 32 n.val) s t)) ∧
    (∀ (light : Bool) (before after : BitVec 64), modeG s n = 3 →
      ∃ t, exec (.crossSample n light before after) s = .next t ∧
        ∀ b : ChanId, b ∈ offMates s n →
          (before.getLsbD b.val = light → after.getLsbD b.val = (!light) → t.ch[b].flt.cross = true ∧ t.ch[n].flt.cross = true) ∧
          (before.getLsbD b.val ≠ light ∨ after.getLsbD b.val = light → t.ch[b] = s.ch[b]))) ∧
  (
  ∀ (s : State) (n : ChanId), alive s (chGroup n) = true →
    let x := s.ch[n]
    (modeG s n = 7 → x.ai.senseOpen = false →
      ∃ t, exec (.sensePathOpen n) s = .next t ∧ t.ch[n].ai.senseOpen = true ∧ t.ch[n].ai.ovldev = true ∧ t.ch[n].flt = x.flt ∧
        (coreOn s = true → Raised (chEvent n) ((chFaultReg x.flt).setWidth 32) s t)) ∧
    (x.ai.senseOpen = true → exec (.sensePathReclose n) s =
      .next { s with ch := s.ch.set n { x with ai := { x.ai with senseTrial := true } } }) ∧
    (x.ai.senseTrial = true →
      (∃ t, exec (.sensePathCheck n true) s = .next t ∧ t.ch[n].ai.senseOpen = false ∧ t.ch[n].ai.senseTrial = false ∧
        t.ch[n].flt = x.flt ∧ t.evt = s.evt) ∧
      (∃ t, exec (.sensePathCheck n false) s = .next t ∧ t.ch[n].ai.senseOpen = true ∧ t.ch[n].ai.senseTrial = false)))

/-- Limits and thermal protection (R70, R71, R74, R99, R159 to R161): a current that reaches the limit of the mode (250 mA +
50 mA · ILIM, 2.0 A in an inrush window, 300 mA or 25 mA) is reported and the output goes on delivering; a thermal shutdown
switches the output off and sets THERM, and a shutdown that runs goes on; a retry applies the value it should have again;
THERM clears only after a retry with RETRY not 0; above 6 A the group switches off its output with the highest current; OVC
follows its comparison. Running shutdowns and what waits behind them (R73, R101, R179): the end of a demagnetisation, of a
ramp-down (the stage then opens) or of a discharge clears BUSY of that kind and no other; a queued value, or a queued safe
value, is applied at the first tick after it, and nothing is applied while the shutdown runs. Where a clause rests on a
reading of the model's own, log entries 18, 29, 61, 64 name it. -/
def Obligations.ThermalProtectionAndShutdowns : Prop :=
  (
  ∀ (s : State) (n : ChanId), alive s (chGroup n) = true →
    let x := s.ch[n]
    limitMa s n = (if modeG s n = 3 then some (if x.out.inrush then 2000 else 250 + 50 * fld (chG s n 0x0D) 4 0)
      else if modeG s n = 4 ∨ modeG s n = 5 then some 300 else if modeG s n = 10 then some 25 else none) ∧
    (∀ ma k : Nat, limitMa s n = some k → k ≤ ma →
      ∃ t, exec (.currentLimit ⟨n, ma⟩) s = .next t ∧ t.ch[n].flt = { x.flt with limit := true } ∧ t.ch[n].out.applied = x.out.applied) ∧
    (∀ ma : Nat, (∀ k, limitMa s n = some k → ma < k) → exec (.currentLimit ⟨n, ma⟩) s = .next s) ∧
    (∀ ind : Bool, modeG s n = 3 ∨ modeG s n = 4 ∨ modeG s n = 5 → busy s n = true →
      ∃ t, exec (.thermalShutdown n ind) s = .next t ∧ t.ch[n].flt.therm = true ∧ t.ch[n].flt.busy = x.flt.busy) ∧
    (∀ ind : Bool, modeG s n = 3 ∨ modeG s n = 4 ∨ modeG s n = 5 → busy s n = false →
      ∃ t, exec (.thermalShutdown n ind) s = .next t ∧ t.ch[n].flt.therm = true ∧ t.ch[n].flt.limit = false ∧
        t.ch[n].out.applied = 0 ∧ t.ch[n].out.off = true ∧ t.ch[n].flt.busy = (if ind = true ∧ modeG s n = 3 then 1 else 0) ∧
        ∀ k : ChanId, k ≠ n → t.ch[k] = s.ch[k]) ∧
    (x.flt.therm = true → x.out.off = true → fld (chG s n 0x19) 10 8 ≠ 0 → busy s n = false → x.flt.tripped = false →
      groupOff s.grp[chGroup n] = false → holdOff s (chGroup n) = false → outBits (modeG s n) (wanted s n) ≠ 0 →
      ∃ t, exec (.thermalRetry n) s = .next t ∧ t.ch[n].out.applied = outBits (modeG s n) (wanted s n) ∧
        t.ch[n].out.off = false ∧ t.ch[n].flt.therm = true) ∧
    (x.flt.therm = true → x.out.off = false → fld (chG s n 0x19) 10 8 ≠ 0 →
      exec (.thermClear n) s = .next { s with ch := s.ch.set n { x with flt := { x.flt with therm := false } } }) ∧
    (∀ ma : List Nat, 6000 < (ma.take 8).sum → highest s (chGroup n) ma = some n →
      ∃ t, exec (.groupOvercurrent (chGroup n) ma) s = .next t ∧ t.ch[n].flt.therm = true ∧ t.ch[n].out.applied = 0 ∧
        t.ch[n].out.off = true ∧ ∀ k : ChanId, k ≠ n → t.ch[k] = s.ch[k]) ∧
    (∀ above : Bool, exec (.ovc (chGroup n) above) s =
      .next { s with grp := s.grp.set (chGroup n) { s.grp[chGroup n] with ovc := above } })) ∧
  (
  ∀ (s : State) (n : ChanId),
    let x := s.ch[n]
    let idle := { s with ch := s.ch.set n { x with flt := { x.flt with busy := 0 } } }
    (x.flt.busy = 1 → exec (.demagEnd n) s = .next idle) ∧ (x.flt.busy ≠ 1 → exec (.demagEnd n) s = .next s) ∧
    (x.flt.busy = 3 → exec (.dischargeEnd n) s = .next idle) ∧ (x.flt.busy ≠ 3 → exec (.dischargeEnd n) s = .next s) ∧
    (x.flt.busy = 2 → ∃ t, exec (.aoRampdownEnd n) s = .next t ∧ t.ch[n].flt.busy = 0 ∧ t.ch[n].out.stageOn = false ∧
      t.ch[n].out.applied = 0 ∧ t.ch[n].out.off = true) ∧
    (x.flt.busy ≠ 0 → exec (.queuedRequestApply n) s = .next s) ∧
    (∀ w : W32, x.flt.busy = 0 → x.flt.queued = some (.value w) → modeG s n = 4 → groupOff s.grp[chGroup n] = false →
      s.grp[chGroup n].hold = false → safeInForce s n = false → heldOff s n = false →
      ∃ t, exec (.queuedRequestApply n) s = .next t ∧ t.ch[n].out.applied = w &&& 0x80000000 ∧ t.ch[n].flt.queued = none ∧
        t.ch[n].out.held = false) ∧
    (x.flt.busy = 0 → x.flt.queued = some .safe → modeG s n = 4 → groupOff s.grp[chGroup n] = false →
      holdOff s (chGroup n) = false → safeInForce s n = true → heldOff s n = false →
      ∃ t, exec (.queuedRequestApply n) s = .next t ∧ t.ch[n].out.applied = safeValue s n ∧ t.ch[n].out.subst = true ∧
        t.ch[n].flt.queued = none))

/-- Field supply (R166 to R169, R10): a warning and its end; a supply out of range takes the group's outputs off and raises
LPFAIL with the state's code; a supply lost stops the group die with its converters in their first places and its lane
corrections as stored at test (R143); a supply that returns starts it up, or recovers it, with its strap code read and the
active set as its portion. HOLD (R11, R174 to R176): a group die that has heard the core die and loses its heartbeat holds
its outputs, and with hold code 6 or 7 ends the holding at once; codes 1 to 5 end it at their time-out, code 0 never; the
second heartbeat in consecutive frames ends HOLD and raises the event, and a holding that ended waits for a fault clear
unless RESTORE_POL is AUTO. Where a clause rests on a reading of the model's own, log entries 12, 36 name it. -/
def Obligations.FieldSupplyAndHold : Prop :=
  (
  ∀ (s : State) (g : GroupId) (mv : HWord),
    let x := s.grp[g]
    (alive s g = true → x.lpwarn = false → coreOn s = true → ∃ t, exec (.lpwarn g mv) s = .next t ∧
      t.grp = s.grp.set g { x with lpwarn := true, lplus := mv } ∧ Raised (evLpwarn g) (mv.setWidth 32) s t) ∧
    (alive s g = true → x.lpwarn = true → exec (.lpwarnEnd g mv) s =
      .next { s with grp := s.grp.set g { x with lpwarn := false, lplus := mv } }) ∧
    (alive s g = true → x.supply ≠ .uvoff → ∃ t, exec (.uvoff g mv) s = .next t ∧ t.grp[g].supply = .uvoff ∧
      (∀ p : Fin 8, isOutMode (modeG s (grpCh g p)) = true →
        t.ch[grpCh g p].out.applied = 0 ∧ t.ch[grpCh g p].out.off = true ∧ t.ch[grpCh g p].out.subst = true) ∧
      (coreOn s = true → t.evt.pend.getLsbD (evLpfail g).val = true ∧ t.evt.recs[evLpfail g].payload = 3)) ∧
    (alive s g = true → x.supply ≠ .overvoltage → ∃ t, exec (.overvoltage g mv) s = .next t ∧ t.grp[g].supply = .overvoltage ∧
      (∀ p : Fin 8, isOutMode (modeG s (grpCh g p)) = true →
        t.ch[grpCh g p].out.applied = 0 ∧ t.ch[grpCh g p].out.off = true) ∧
      (coreOn s = true → t.evt.recs[evLpfail g].payload = 4)) ∧
    (alive s g = true → ∃ t, exec (.fieldUnpowered g) s = .next t ∧ t.grp[g].supply = .unpowered ∧ t.grp[g].hold = false ∧
      t.grp[g].heard = false ∧ t.grp[g].conv = #v[0, 1, 2] ∧ t.grp[g].lplus = 0 ∧
      (∀ h : GroupId, h ≠ g → t.grp[h] = s.grp[h]) ∧
      (spWf calNominal s.cal.tables = true → spWf calNominal s.cal.atTest = true → ∀ i < 432,
        calGet t 5 (432 * g.val + i) = spGet calNominal s.cal.atTest (5 * 65536 + 432 * g.val + i))) ∧
    (∀ fbs : Option Nat, x.supply = .unpowered ∨ x.supply = .uvoff ∨ x.supply = .overvoltage →
      ∃ t, exec (.supplyRestored g fbs mv) s = .next t ∧
        t.grp[g].supply = (if x.supply = .unpowered then .startup else .recovery) ∧ t.grp[g].lplus = mv ∧
        t.grp[g].fbs = (fbsCode fbs).1 ∧ t.grp[g].strapBad = (fbsCode fbs).2 ∧
        (coreOn s = true → t.grp[g].portion = s.cfg.active))) ∧
  (
  ∀ (s : State) (g : GroupId), alive s g = true →
    let x := s.grp[g]
    (x.heard = true → x.hold = false → ∃ t, exec (.holdEntry g) s = .next t ∧ t.grp[g].hold = true ∧ t.grp[g].hbRun = 0 ∧
      t.grp[g].holdDone = decide (6 ≤ holdCode x g) ∧
      (holdCode x g < 6 → ∀ p : Fin 8, t.ch[grpCh g p].out.applied = s.ch[grpCh g p].out.applied)) ∧
    (x.heard = false → exec (.holdEntry g) s = .next s) ∧
    (x.hold = true → x.holdDone = false → 1 ≤ holdCode x g →
      ∃ t, exec (.holdTimeout g) s = .next t ∧ t.grp[g].holdDone = true ∧ t.grp[g].hold = true ∧
        (holdCode x g = 7 → ∀ p : Fin 8, isOutMode (modeG s (grpCh g p)) = true →
          t.ch[grpCh g p].out.applied = 0 ∧ t.ch[grpCh g p].out.off = true)) ∧
    (x.hold = true → holdCode x g = 0 → exec (.holdTimeout g) s = .next s) ∧
    (coreOn s = true → x.link = false → s.wdt.fired = false → x.hbFrm ≠ some s.frm.no →
      ∃ t, exec (.heartbeat g) s = .next t ∧ t.grp[g].heard = true ∧ t.grp[g].hbFrm = some s.frm.no ∧
        (x.hold = true → x.hbFrm = some (s.frm.no - 1) → 1 ≤ x.hbRun → t.grp[g].hold = false ∧ t.grp[g].holdSeen = true ∧
          Raised 95 (BitVec.ofNat 32 g.val) s t ∧
          t.grp[g].restWait = (x.restWait || (x.holdDone && !(grpG s g 0x26).getLsbD 15))) ∧
        (x.hold = true → x.hbFrm ≠ some (s.frm.no - 1) → t.grp[g].hold = true)) ∧
    (s.wdt.fired = true → exec (.heartbeat g) s = .next s))

/-- Links, group firmware, mismatches and fault clears (R156, R176, R177, R371, R379): a lost link is noted and a link that
comes up agrees the lower minor version; a group without the active image goes to start-up until its firmware is loaded;
four mismatching frames of a channel set its CFGMM, four of the group's own settings set it on all, and CFGMM asks for the
portion again; an accepted fault clear clears its held bits and request at the tick. Where a clause rests on a reading of
the model's own, log entries 29, 36 name it. -/
def Obligations.LinksMismatchesAndFaultClears : Prop :=
  ∀ (s : State) (g : GroupId), coreOn s = true →
    let x := s.grp[g]
    (alive s g = true → exec (.linkLoss g) s = .next { s with grp := s.grp.set g { x with link := true } }) ∧
    (∀ (minor : Nat) (ok : Bool), alive s g = true → ∃ t, exec (.ihlileLinkUp g minor ok) s = .next t ∧ t.grp[g].link = false ∧
      t.upd.linkVer[g] = some (min minor 3) ∧ t.grp[g].bankOk = ok ∧ (ok = false → t.grp[g].supply = .startup)) ∧
    (alive s g = true → x.bankOk = false → ∃ t, exec (.groupFwLoaded g) s = .next t ∧ t.grp[g].bankOk = true ∧
      t.grp[g].portion = s.cfg.active ∧ t.grp[g].rstRec = true) ∧
    (∃ t, exec (.cfgmmSet g) s = .next t ∧ t.grp[g].cfgmm = (x.cfgmm || decide (4 ≤ x.mmFrames)) ∧
      ∀ p : Fin 8, t.ch[grpCh g p].flt.cfgmm =
        (s.ch[grpCh g p].flt.cfgmm || decide (4 ≤ x.mmFrames) || decide (4 ≤ s.ch[grpCh g p].flt.mmFrames))) ∧
    (x.cfgmm = true ∨ (∃ p : Fin 8, s.ch[grpCh g p].flt.cfgmm = true) → exec (.cfgResend g) s = .next { s with grp := s.grp.set g { x with resend := true } }) ∧
    (∃ t, exec .faultClearApply s = .next t ∧ (∀ n : ChanId, t.ch[n].flt.clrReq = false ∧
        t.ch[n].di = s.ch[n].di ∧ t.ch[n].ai = s.ch[n].ai ∧
        (s.ch[n].flt.clrReq = true →
          t.ch[n].flt.cfgmm = (s.ch[n].flt.cfgmm && (s.ch[n].flt.mm || s.grp[chGroup n].grpMm)) ∧
          t.ch[n].flt.cross = (s.ch[n].flt.cross && s.ch[n].flt.crossSeen) ∧
          t.ch[n].flt.tripped = (s.ch[n].flt.tripped && s.ch[n].flt.crossSeen)) ∧
        (s.ch[n].flt.clrReq = false → t.ch[n].flt =
          { s.ch[n].flt with suspect := t.ch[n].flt.suspect, busy := t.ch[n].flt.busy, queued := t.ch[n].flt.queued }) ∧
        (s.ch[n].flt.clrReq = false → safeInForce s n = false → modeG s n ≠ 11 → t.ch[n] = s.ch[n])) ∧
      (x.fltClr = true → t.grp[g].fltClr = false ∧ t.grp[g].holdSeen = false ∧ t.grp[g].restWait = false ∧
        t.grp[g].selfFail = false) ∧ (x.fltClr = false → t.grp[g] = x))

/-- LEAVE_GRANT, LEASE_END and REINS_DENY (R248 to R251, R255): a request found to fit becomes a lease of its duration and
its operation may start, for the members that the request names where it is a set's; a lease due to end ends and its slot
stays readable or goes to a waiting request; a failed request is counted and raises REINS_DENY with its handle. A slot whose
condition does not hold is left as it is. Where a clause rests on a reading of the model's own, log entries 16, 17, 34 name
it. -/
def Obligations.LeasesBeginAndEnd : Prop :=
  ∀ (s : State) (i : Fin 96), coreOn s = true →
    let x := s.pgv.slots[i]
    (x.st = .pending → x.grantable = true → ∃ t, exec (.leaveGrant i) s = .next t ∧ t.pgv.slots[i].st = .granted) ∧
    (x.st = .pending → x.grantable = true → (∀ g, x.op ≠ .handover g) →
      (x.op = .burst → ∀ m b ok, s.sec.sigQ.head? ≠ some (.cert m b ok)) → (x.op = .readOut → s.log.waitReads = []) →
      ∃ t, exec (.leaveGrant i) s = .next t ∧
        t.pgv.slots[i] = { x with st := .granted, left := x.frames, grantable := false, deny := false, due := false } ∧
        (∀ j : Fin 96, j ≠ i → t.pgv.slots[j] = s.pgv.slots[j]) ∧
        (∀ n, x.op = .turnOn n ∨ x.op = .aoEnable n → t.ch[n].out.granted = (s.ch[n].out.granted || s.ch[n].out.leave)) ∧
        (∀ n, x.op = .excite n → s.ch[n].ai.excLeave = true → t.ch[n].ai.exc = true) ∧
        (∀ (k : Fin 8) (n : ChanId), x.op = .atomSet k → t.ch[n].out.granted =
          (s.ch[n].out.granted || (x.members.getLsbD n.val && s.ch[n].out.leave))) ∧
        (x.op = .record → t.cfg.leave = s.cfg.writing.isSome) ∧ t.evt = s.evt ∧ t.cfg = { s.cfg with leave := t.cfg.leave }) ∧
    (∀ g, x.st = .pending → x.grantable = true → x.op = .handover g →
      ∃ t, exec (.leaveGrant i) s = .next t ∧ (s.grp[g].rot.step = 4 → t.grp[g].rot.rotCnt = s.grp[g].rot.rotCnt + 1)) ∧
    (¬(x.st = .pending ∧ x.grantable = true) → exec (.leaveGrant i) s = .next s) ∧
    (x.st = .granted → x.due = true → s.pgv.wait = [] →
      exec (.leaseEnd i) s = .next { s with pgv := { s.pgv with
        slots := s.pgv.slots.set i { x with st := .ended, left := 0, due := false } } }) ∧
    (x.st = .pending → x.deny = true → s.pgv.wait = [] → (∀ g, x.op ≠ .handover g) →
      ∃ t, exec (.reinsDeny i) s = .next t ∧ t.pgv.slots[i] = { x with st := .failed, grantable := false, deny := false } ∧
        t.pgv.denyCnt = inc16 s.pgv.denyCnt ∧ Raised 88 (BitVec.ofNat 32 (256 * x.gen.toNat + i.val)) s t) ∧
    (¬(x.st = .pending ∧ x.deny = true) → exec (.reinsDeny i) s = .next s)

/-- The watchdog (R341 to R343, R26): a service by the source of WDT_CTL inside the window restarts the period; a wrong key,
a service before the window or after the period, and an expiry fire it: every core gets its NMI once, with the address of a
SYSCALL or TICKWAIT that still waits as its PC, the count stops, the hard reset timer runs, WDT_NMI is raised and, in RUN or
DEGRADED, SAFE is triggered; a write of another source only sets FOREIGN. The Tally (R345 to R348): at the end of a period
every count starts again from 0; where every monitored task has its expected check-ins, the run of mismatching periods ends
and no event is raised. At other ticks nothing happens. Where a clause rests on a reading of the model's own, log entries
35, 53, 57 name it. -/
def Obligations.WatchdogAndTally : Prop :=
  (
  ∀ (s : State), coreOn s = true → s.wdt.fired = false → s.wdt.run = true →
    let fires := fun (t : State) (p : W32) =>
      t.wdt.fired = true ∧ t.wdt.run = false ∧ t.sys.hrtRun = true ∧ Raised 70 p s t ∧
      (s.sys.mode = .run ∨ s.sys.mode = .degraded → t.sys.safeReq = true) ∧
      ∀ c : CoreId, t.core[c].nmiSeen = true ∧ (s.core[c].run ≠ .halted →
        t.core[c].xpc = (if (inBg s c = true ∧ s.core[c].svc.isSome = true) ∨
          (s.core[c].tw = true ∧ cycleNow t < s.core[c].freeAt) then s.core[c].pc - 4 else s.core[c].pc) ∧ t.core[c].d = s.core[c].d ∧
        (s.img.nmi[c] ≠ 0xFFFFFFFF → t.core[c].run = .nmi ∧ t.core[c].pc = s.img.nmi[c] ∧ t.core[c].cause = 5) ∧
        (s.img.nmi[c] = 0xFFFFFFFF → t.core[c].run = .halted ∧ t.core[c].cause = 6))
    (∃ t, exec .watchdogExpiry s = .next t ∧ fires t 0) ∧
    (∀ (acc : Access) (v : HWord) (cyc : Nat), (∀ c, acc ≠ .core c) → writeCause s acc 0x0301 v = none →
      (serveCode acc ≠ some (fld (act s 0x0300) 14 12) →
        ∃ t, exec (.wdtServe acc v cyc) s = .next t ∧ t.wdt = { s.wdt with foreign := true } ∧ t.evt = s.evt) ∧
      (serveCode acc = some (fld (act s 0x0300) 14 12) → s.wdt.start + 2 * cyc ≥ s.now → cyc < 2 ^ 32 →
        (v ≠ 0x6E5A → ∃ t, exec (.wdtServe acc v cyc) s = .next t ∧ fires t 1) ∧
        (v = 0x6E5A → wdtPeriod s ≤ cyc → ∃ t, exec (.wdtServe acc v cyc) s = .next t ∧ fires t 0) ∧
        (v = 0x6E5A → cyc < wdtPeriod s → cyc < wdtWindow s → ∃ t, exec (.wdtServe acc v cyc) s = .next t ∧ fires t 1) ∧
        (v = 0x6E5A → wdtWindow s ≤ cyc → cyc < wdtPeriod s →
          ∃ t, exec (.wdtServe acc v cyc) s = .next t ∧ t.wdt = { s.wdt with start := s.wdt.start + 2 * cyc } ∧
            t.now = s.wdt.start + 2 * cyc ∧ t.evt = s.evt ∧ t.core = s.core)))) ∧
  (
  ∀ s : State, inService s = true →
    (s.frm.no.toNat % 2 ^ fld (act s 0x0310) 3 0 ≠ 0 → exec .tallyPeriodEnd s = .next s) ∧
    (s.frm.no.toNat % 2 ^ fld (act s 0x0310) 3 0 = 0 →
      ∃ t, exec .tallyPeriodEnd s = .next t ∧ t.tal.started = true ∧
        (∀ c : CoreId, (∀ i : Fin 16, t.core[c].checkins[i] = 0 ∧ t.core[c].releases[i] = 0) ∧
          t.core[c].d = s.core[c].d ∧ t.core[c].pc = s.core[c].pc) ∧
        (s.tal.started = true →
          (∀ x ∈ monitored s, ∀ e, talExpected s x = some e → s.core[x.core].checkins[x.index.toNat] = e) →
          t.tal.run = 0 ∧ t.tal.mmCnt = s.tal.mmCnt ∧ t.evt = s.evt ∧ t.sys = s.sys) ∧
        (s.tal.started = true →
          (∃ x ∈ monitored s, ∃ e, talExpected s x = some e ∧ s.core[x.core].checkins[x.index.toNat] ≠ e) →
          t.tal.run = inc8 s.tal.run ∧ t.tal.mmCnt = inc16 s.tal.mmCnt ∧
          (t.evt.pend.getLsbD 71 = true ∨ t.evt.pend.getLsbD 72 = true))))

/-- Freeze and snapshot (R349 to R351, R353, R358): a request of the pin, where enabled, or of JTAG is kept with its source;
the stop enters FROZEN, takes the links down and changes no register of a core; the clocks being stopped, a further request
or tick changes nothing; a requested snapshot is written once, to buffer 4, and the request is cleared. The debug port
(R284, R354, R355, R357): the TAP answers with the IDCODE, the unlock status and the stream of a frozen device (zeros
outside FROZEN), changing nothing but what it has sent; each challenge is a new draw; a valid response unlocks and raises
its event, an invalid one is counted and the third blocks further ones, which have no effect. Where a clause rests on a
reading of the model's own, log entries 13, 51 name it. -/
def Obligations.FreezeSnapshotAndDebugPort : Prop :=
  (
  ∀ s : State,
    (inService s = true → (act s 0x0320).getLsbD 15 = true →
      exec .freezeNRequest s = .next { s with frz := { s.frz with req := true, src := setBit s.frz.src 0 true } }) ∧
    (coreOn s = true → exec .jtagFreeze s = .next { s with frz := { s.frz with req := true, src := setBit s.frz.src 1 true } }) ∧
    (∀ t0, coreOn s = true → s.frz.req = true →
      ∃ t, exec (.freezeStop t0) s = .next t ∧ t.sys.mode = .frozen ∧ t.sys.prevMode = s.sys.mode ∧ t.core = s.core ∧ t.ch = s.ch ∧
        t.pi = s.pi ∧ t.evt = s.evt ∧ t.cfg = s.cfg ∧ t.sram = s.sram ∧ t.frz = { s.frz with req := false } ∧
        ∀ p : PortId, t.net.ports[p].link = false) ∧
    (s.sys.mode = .frozen → ∀ (i : TickIn) (c : CoreId) (t0 : Nat), exec (.frameTick i) s = .next s ∧
      exec .jtagFreeze s = .next s ∧ exec (.serviceComplete c ⟨true, t0⟩) s = .next s ∧ exec (.commitSwitch t0) s = .next s) ∧
    (inService s = true → s.frz.snapReq = true → ∃ t, exec .snapshotWrite s = .next t ∧ t.frz = { s.frz with snapReq := false } ∧
      (fld (act s 0x0C21) 10 0 = 0 → t.log = s.log) ∧
      (fld (act s 0x0C21) 10 0 ≠ 0 → bufFull s 4 = false → 0 < bufCap s.cfg.active 4 →
        t.log.bufs[(4 : Fin 5)].next = s.log.bufs[(4 : Fin 5)].next + 1)) ∧
    (∀ acc v, coreOn s = true → (∀ c, acc ≠ .core c) → writeCause s acc 0x0321 v = none →
      exec (.frzSnap acc v) s = .next { s with frz := { s.frz with snapReq := s.frz.snapReq || v.getLsbD 0 } })) ∧
  (
  ∀ s : State, s.sys.mode ≠ .off →
    (exec .jtagIdcode s = .next { s with sent := .tdo (leBytes 4 Config.idcode.toNat) :: s.sent }) ∧
    (exec .jtagUnlockStat s = .next { s with
      sent := .tdo [(0#5) ++ bit s.sec.dbgLast ++ bit s.sec.dbgBlock ++ bit s.sec.dbgUnlk] :: s.sent }) ∧
    (∀ n, ∃ l, exec (.frzRead n) s = .next { s with sent := .tdo l :: s.sent } ∧ l.length = n ∧
      (s.sys.mode ≠ .frozen → l = List.replicate n 0)) ∧
    (coreOn s = true → exec .jtagUnlockChal s = .next { s with
      sec := { s.sec with challenge := Config.random s.sec.draws, draws := s.sec.draws + 1 }
      sent := .chall (Config.random s.sec.draws) :: s.sent }) ∧
    (∀ (resp : List Byte) (x : UnlockSigs), coreOn s = true →
      (s.sec.dbgBlock = true → exec (.jtagUnlockResp resp x) s = .next s) ∧
      (s.sec.dbgBlock = false → s.sec.verifT = [] →
        (unlockCause s resp x.cert x.own = none → ∃ t, exec (.jtagUnlockResp resp x) s = .next t ∧ t.sec.dbgUnlk = true ∧
          t.sec.dbgLast = false ∧ Raised 77 0 s t) ∧
        (∀ c, unlockCause s resp x.cert x.own = some c → ∃ t, exec (.jtagUnlockResp resp x) s = .next t ∧ t.sec.dbgUnlk = s.sec.dbgUnlk ∧
          t.sec.dbgFails = s.sec.dbgFails + 1 ∧ t.sec.dbgBlock = decide (3 ≤ s.sec.dbgFails + 1) ∧ t.sec.dbgLast = true ∧
          t.sec.refuseCnt = inc16 s.sec.refuseCnt ∧ t.sec.refuseCause = c))))

/-- Logbook records and captures (R328 to R334): with room in its buffer, a frame record at the frames of DIV and a
telemetry record are written as one record more and the bytes of its layout; a full waveform block of 254 samples is written
and its samples begin again; arming sets ARMED, and POST frames after the trigger the capture stops with TRIGD. Farrier and
monitors (R139, R334, R337, R339, R340): a temperature or supply that passes its limit raises its event once an episode;
each corrected or uncorrected word a scrub finds is counted or raised, and no pass runs outside a background window (R43); a
factory block that fails sets its flag; a starved guarantee is raised once and its lapse kept. Where a clause rests on a
reading of the model's own, log entries 15, 19 name it. -/
def Obligations.LogbookFarrierAndMonitors : Prop :=
  (
  ∀ s : State,
    let room := fun b : Fin 5 => bufFull s b = false ∧ 0 < bufCap s.cfg.active b.val
    (inService s = true → s.frm.no.toNat % 2 ^ fld (act s 0x0C28) 3 0 = 0 → room 0 →
      ∃ t, exec .frameRecord s = .next t ∧ t.log.bufs[(0 : Fin 5)].next = s.log.bufs[(0 : Fin 5)].next + 1 ∧
        t.log.mem = memPuts s.log.mem (recAddr s 0 s.log.bufs[(0 : Fin 5)].next.toNat) (frameBytes s) ∧
        t = { s with log := t.log }) ∧
    (inService s = true → s.frm.no.toNat % 2 ^ fld (act s 0x0C28) 3 0 ≠ 0 → exec .frameRecord s = .next s) ∧
    (∀ (t0 : Nat) (temps : List Int) (sups : List HWord), inService s = true → room 3 →
      ∃ t, exec (.telemetryRecord t0 temps sups) s = .next t ∧ t.log.bufs[(3 : Fin 5)].next = s.log.bufs[(3 : Fin 5)].next + 1 ∧
        (∀ i : Fin 10, t.far.temps[i] = BitVec.ofInt 16 (temps.getD i.val 0)) ∧ (∀ i : Fin 4, t.far.sups[i] = sups.getD i.val 0) ∧
        (∀ g : GroupId, t.far.link100[g] = 0) ∧ t.evt = s.evt) ∧
    (∀ g : GroupId, coreOn s = true → 254 ≤ s.log.wave[g].samples.length → room 2 →
      ∃ t, exec (.waveBlockWrite g) s = .next t ∧ t.log.bufs[(2 : Fin 5)].next = s.log.bufs[(2 : Fin 5)].next + 1 ∧
        t.log.wave[g].samples = [] ∧ ∀ h : GroupId, h ≠ g → t.log.wave[h] = s.log.wave[h]) ∧
    (∀ acc v, coreOn s = true → (∀ c, acc ≠ .core c) → writeCause s acc 0x0C35 v = none →
      v.getLsbD 0 = true → s.log.bufs[(2 : Fin 5)].armed = false →
      ∃ t, exec (.logWfarm acc v) s = .next t ∧ t.log.bufs[(2 : Fin 5)].armed = true ∧ t.log.trigFrm = none ∧ t = { s with log := t.log }) ∧
    (coreOn s = true → s.log.trigFrm = some 0 →
      ∃ t, exec .waveCaptureStop s = .next t ∧ t.log.bufs[(2 : Fin 5)].armed = false ∧ t.log.bufs[(2 : Fin 5)].trigd = true ∧
        t.log.trigFrm = none ∧ t = { s with log := t.log })) ∧
  (
  ∀ s : State,
    (∀ (d : Fin 10) (p : Bool), coreOn s = true → ∃ t, exec (.tempWarn d p) s = .next t ∧
      t.far = { s.far with tempWarn := setBit s.far.tempWarn d.val p } ∧
      (p = true → s.far.tempWarn.getLsbD d.val = false → Raised 116 (BitVec.ofNat 32 d.val) s t) ∧
      (p = false ∨ s.far.tempWarn.getLsbD d.val = true → t.evt = s.evt)) ∧
    (∀ (d : Fin 4) (p : Bool), coreOn s = true → ∃ t, exec (.supplyWarn d p) s = .next t ∧
      t.far = { s.far with supWarn := setBit s.far.supWarn d.val p } ∧
      (p = true → s.far.supWarn.getLsbD d.val = false → Raised 117 (BitVec.ofNat 32 d.val) s t) ∧
      (p = false ∨ s.far.supWarn.getLsbD d.val = true → t.evt = s.evt)) ∧
    (∀ x : ScrubIn, inService s = true → s.frm.bgOpen = false → exec (.sramScrubDone x) s = .next s ∧
      exec (.logbookScrubDone x) s = .next s ∧ exec (.eflashVerifyDone x) s = .next s) ∧
    (∀ x : ScrubIn, inService s = true → s.frm.bgOpen = true → x.corrected = 1 → x.uncorrected = 0 →
      (∃ t, exec (.sramScrubDone x) s = .next t ∧ t.far.ecc = inc16 s.far.ecc ∧ Raised 114 0 s t ∧
        t.far.starved = setBit s.far.starved 1 false ∧ t.sram = s.sram) ∧
      (∃ t, exec (.logbookScrubDone x) s = .next t ∧ t.far.ecc = inc16 s.far.ecc ∧ Raised 114 1 s t ∧
        t.far.starved = setBit s.far.starved 2 false ∧ t.sram = s.sram) ∧
      (x.factoryBad = [] → x.rewritten = 0 → ∃ t, exec (.eflashVerifyDone x) s = .next t ∧ t.far.ecc = inc16 s.far.ecc ∧
        Raised 114 2 s t ∧ t.far.starved = setBit s.far.starved 3 false ∧ t.cal = s.cal)) ∧
    (∀ (x : ScrubIn) (b : Nat × Nat), inService s = true → s.frm.bgOpen = true → x.factoryBad = [b] →
      ∃ t, exec (.eflashVerifyDone x) s = .next t ∧ t.cal.factErr = true ∧ b ∈ t.cal.bad ∧ t.evt.pend.getLsbD 91 = true) ∧
    (∀ c : Fin 6, coreOn s = true → c ≠ 0 →
      (s.far.starved.getLsbD c.val = true → exec (.backgroundStarved c) s = .next s) ∧
      (s.far.starved.getLsbD c.val = false → ∃ t, exec (.backgroundStarved c) s = .next t ∧
        t.far.starved = setBit s.far.starved c.val true ∧ t.far.lapse = setBit s.far.lapse c.val true ∧
        Raised 90 (BitVec.ofNat 32 c.val) s t)))

/-- A write that the Bridle refuses (R277, R281) changes nothing but what a refusal changes, for a CM register and for every
register command; a read it refuses likewise. A forbidden write of a running core is an exception of bus cause 3 (R17). A
message refused before its own checks, and a record whose tag fails or whose session is not live, has no effect but that of
a refusal (R268, R281, R302 to R304): whatever it carries, the device's own state does not change. Where a clause rests on a
reading of the model's own, log entries 24, 46 name it. -/
def Obligations.RefusalsHaveNoEffect : Prop :=
  (
  ∀ (s : State) (acc : Access) (a v : HWord), coreOn s = true →
    ((∀ c, acc ≠ .core c) → ∀ cause same, writeCause s acc a.toNat v = some cause →
      ∃ t, exec (.registerWrite acc a ⟨v, same⟩) s = .next t ∧ RefusalOnly s t (accIf acc) cause) ∧
    (∀ cause, readCause s acc a.toNat = some cause →
      ∃ t, exec (.readWithSnapshot acc a) s = .next t ∧ RefusalOnly s t (accIf acc) cause) ∧
    (∀ c same, acc = .core c → coreForbidden a.toNat = true → canRun s c = true → s.core[c].run ≠ .nmi →
      ∃ t, exec (.registerWrite acc a ⟨v, same⟩) s = .next t ∧ t.cfg = s.cfg ∧ t.ch = s.ch ∧ t.core[c].cause = 3 ∧ t.core[c].bus = 3 ∧
        t.core[c].xaddr = BitVec.ofNat 32 (0x40000000 + 2 * a.toNat) ∧ t.core[c].d = s.core[c].d ∧
        t.core[c].dmem = s.core[c].dmem ∧ t.evt.pend.getLsbD 69 = true)) ∧
  (
  ∀ s : State,
    (∀ (m : MsgCtx) (body : List Byte) (ok z : Bool) (c : Byte), Arrives s m → m.inRec = none →
      (∀ i, i = .certLoad m body ok ∨ i = .sessInit m body ∨ i = .sessFin m body ok z →
        msgCause s m false false = some c → ∃ t, exec i s = .next t ∧ RefusalOnly s t (ifCode m.iface) c) ∧
      (∀ i, i = .claim m body ok ∨ i = .transfer m body ok →
        msgCause s m true false = some c → ∃ t, exec i s = .next t ∧ RefusalOnly s t (ifCode m.iface) c) ∧
      (msgCause s m true true = some c → ∃ t, exec (.idRead m) s = .next t ∧ RefusalOnly s t (ifCode m.iface) c)) ∧
    (∀ (m : MsgCtx) (x : RecIn) (body : List Byte) (ok z : Bool) (i : Instr), Arrives s m → m.inRec = some x →
      msgCause s m false false = none → SendsOn s x.sid →
      (i = .certLoad m body ok ∨ i = .sessInit m body ∨ i = .sessFin m body ok z ∨ i = .claim m body ok ∨
        i = .transfer m body ok ∨ i = .idRead m ∨ (∃ a l, i = .hello m a l)) →
      ∃ t, exec i s = .next t ∧
        (isLive s x.sid = false ∨ x.tagOk = false → RefusalOnly s t (ifCode m.iface) cTag) ∧
        (isLive s x.sid = true → x.tagOk = true → ∃ c, (c = cReplay ∨ c = cFormat) ∧ RefusalOnly s t (ifCode m.iface) c)) ∧
    (∀ (r : RecCtx) (i : Instr), Arrives s r.msg → msgCause s r.msg false false = none →
      (r.bare = true ∨ isLive s r.sid = false ∨ r.tagOk = false) →
      (i = .sessClose r ∨ (∃ a n, i = .regRead r a n) ∨ (∃ a n l, i = .regWrite r a n l) ∨ (∃ k, i = .eventSub r k) ∨
        i = .cyclicBind r ∨ i = .cyclicUnbind r ∨ (∃ c n d, i = .app r c n d) ∨ (∃ m, i = .signed r m) ∨ i = .updateBegin r ∨
        (∃ b n f e, i = .logRead r b n f e) ∨ (∃ b x y, i = .manifest (.session r) b x y) ∨ (∃ e n o d, i = .chunk (.session r) e n o d) ∨ i = .updateAbort r ∨
        i = .updateStatus (.session r) ∨ i = .healthConfirm r ∨ i = .updateRevert r) →
      ∃ t, exec i s = .next t ∧ RefusalOnly s t (ifCode r.msg.iface) (if r.bare then cNoSession else cTag)))

/-- REGISTER_WRITE (R6, R314, R429, R240): an allowed write of a CM register, or of its STG view, writes its CM bits in the
staged set and nothing else; a W1C write of EVT_PEND clears the bits it names, less those that a hardware event sets in the
same cycle (R4); a write of a hole or of the mirror does nothing. No register write changes the active set. What a write of
the configuration does to later reads of it (R4 to R6): in a canonical set, the register reads as the written value in its
CM bits, and every other register of the set as before; the reset value makes the set what it was. Where a clause rests on a
reading of the model's own, log entry 59 names it. -/
def Obligations.RegisterWrites : Prop :=
  (
  ∀ (s : State) (acc : Access) (a v same : HWord), WriteAllowed s acc a.toNat v →
    (∃ t, exec (.registerWrite acc a ⟨v, same⟩) s = .next t ∧ t.cfg.active = s.cfg.active ∧ t.sys.mode = s.sys.mode) ∧
    (plainCm a.toNat = true →
      exec (.registerWrite acc a ⟨v, same⟩) s =
        .next { s with cfg := { s.cfg with staged := s.cfg.staged.setReg a.toNat v } }) ∧
    (0x4000 ≤ a.toNat → plainCm (a.toNat - 0x4000) = true → isMirror a.toNat = false →
      exec (.registerWrite acc a ⟨v, same⟩) s =
        .next { s with cfg := { s.cfg with staged := s.cfg.staged.setReg (a.toNat - 0x4000) v } }) ∧
    (0x0280 ≤ a.toNat → a.toNat < 0x0288 →
      let m : BitVec 128 := ~~~((v &&& ~~~same).setWidth 128 <<< (16 * (a.toNat - 0x0280)))
      exec (.registerWrite acc a ⟨v, same⟩) s =
        .next { s with evt := { s.evt with pend := s.evt.pend &&& m, irq := s.evt.irq &&& m } }) ∧
    (isReg a.toNat = false ∨ isMirror a.toNat = true → exec (.registerWrite acc a ⟨v, same⟩) s = .next s)) ∧
  (
  ∀ (c : CfgSet) (a : Nat) (v : HWord), c.wf = true →
    (c.setReg a v).reg a = v &&& cmMask a ∧ (∀ b, b ≠ a → (c.setReg a v).reg b = c.reg b) ∧ (c.setReg a v).wf = true ∧
    (c.reg a &&& cmMask a = c.reg a → (c.setReg a v).setReg a (c.reg a) = c))

/-- The keyed and clearing registers (R66, R156, R238, R388, R142, R374, R375, R278): SYS_RST asks for a reset for its key
alone and never from a core; CH_CNTCLR in mode 2, CH_FLTCLR and GRP_FLTCLR ask their channels to clear (no fault clear comes
from Malkait firmware); EVT_RECCLR empties the selected record; CAL_USER_RESET puts identity into tables 3 and 4 and 0 into
their enables and CH_DITHR in the staged set; a wrong key there sets BADKEY. Calibration entries and results (R137, R140,
R118 to R120): a write of CAL_DATA_HI stages the selected entry of table 3 or 4 with the latched low half, sets RDONLY for
another table and BADIDX for none; a read of a lane result's low word takes a snapshot of both words and clears NEW, and a
wide read takes the high word with it. Where a clause rests on a reading of the model's own, log entries 31, 46 name it. -/
def Obligations.KeyedAndCalibrationRegisters : Prop :=
  (
  ∀ (s : State) (acc : Access) (v : HWord),
    (WriteAllowed s acc 0x0006 v → exec (.sysRst acc v) s =
      .next (if (∀ c, acc ≠ .core c) ∧ v = 0x9A3C then { s with sys := { s.sys with rstReq := true } } else s)) ∧
    (∀ n : ChanId, WriteAllowed s acc (chAddr n.val 0x08) v → exec (.chCntclr acc n v) s =
      .next (if v.getLsbD 0 = true ∧ modeA s n = 2 then { s with ch := s.ch.set n { s.ch[n] with di := { s.ch[n].di with clrReq := true } } } else s)) ∧
    (∀ n : ChanId, WriteAllowed s acc (chAddr n.val 0x1B) v → exec (.chFltclr acc n v) s =
      .next (if v = 0x4B1D ∧ acc ≠ .groom then { s with ch := s.ch.set n { s.ch[n] with flt := { s.ch[n].flt with clrReq := true } } } else s)) ∧
    (∀ g : GroupId, WriteAllowed s acc (grpAddr g.val 0x29) v →
      ∃ t, exec (.grpFltclr acc g v) s = .next t ∧ t = { s with ch := t.ch, grp := t.grp } ∧
        (v ≠ 0x4B2D ∨ acc = .groom → t = s) ∧
        (v = 0x4B2D → acc ≠ .groom → t.grp = s.grp.set g { s.grp[g] with fltClr := true } ∧
          ∀ n : ChanId, t.ch[n] = (if n.val / 8 = g.val then { s.ch[n] with flt := { s.ch[n].flt with clrReq := true } }
            else s.ch[n]))) ∧
    (WriteAllowed s acc 0x029D v →
      let e : Nat := fld s.rdr[rdrOf acc].evtSel 6 0
      ∃ t, exec (.evtRecclr acc v) s = .next t ∧ t = { s with evt := { s.evt with recs := t.evt.recs } } ∧
        ∀ i : Fin 128, t.evt.recs[i] = (if v = 0xE7C1 ∧ i.val = e then { count := 0, payload := 0, frm := 0 } else s.evt.recs[i])) ∧
    (WriteAllowed s acc 0x3005 v → cmtPend s = false → s.cfg.staged.wf = true →
      (v ≠ 0x5A1C → exec (.calUserReset acc v) s = .next { s with cal := { s.cal with badKey := true } }) ∧
      (v = 0x5A1C → ∃ t, exec (.calUserReset acc v) s = .next t ∧ t = { s with cfg := { s.cfg with staged := t.cfg.staged } } ∧
        (∀ k, t.cfg.staged.t3 k = trimReset k ∧ t.cfg.staged.t4 k = ulinReset k) ∧
        (∀ a, t.cfg.staged.reg a = (if inBlock a 0x3010 1 32 ∨ (∃ n : ChanId, a = chAddr n.val 4) then 0
          else s.cfg.staged.reg a))))) ∧
  (
  ∀ (s : State) (acc : Access),
    let q := rdrOf acc
    (∀ v : HWord, WriteAllowed s acc 0x3003 v → s.cfg.staged.wf = true →
      let word : W32 := v ++ s.rdr[q].calLo
      ∃ t, exec (.calDataWrite acc v) s = .next t ∧
        t = { s with cfg := { s.cfg with staged := t.cfg.staged }, cal := t.cal, rdr := t.rdr } ∧
        (∀ i, calPick s.rdr[q] = some (3, i) → (∀ k, t.cfg.staged.t3 k = if k = i then word else s.cfg.staged.t3 k) ∧
          t.cal = s.cal ∧ t.cfg.staged.ulin = s.cfg.staged.ulin ∧ t.cfg.staged.regs = s.cfg.staged.regs) ∧
        (∀ i, calPick s.rdr[q] = some (4, i) → (∀ k, t.cfg.staged.t4 k = if k = i then word else s.cfg.staged.t4 k) ∧
          t.cal = s.cal ∧ t.cfg.staged.trim = s.cfg.staged.trim ∧ t.cfg.staged.regs = s.cfg.staged.regs) ∧
        (∀ tb i, calPick s.rdr[q] = some (tb, i) → tb ≠ 3 → tb ≠ 4 → t.cfg = s.cfg ∧ t.cal = { s.cal with rdOnly := true }) ∧
        (calPick s.rdr[q] = none → t.cfg = s.cfg ∧ t.cal = { s.cal with badIdx := true })) ∧
    (∀ (g : GroupId) (r : Role) (e : Fin 16) (wide : Bool), ReadAllowed s acc (resAddr g r e) →
      let l := s.grp[g].lanes[roleIx r]
      ∃ t, exec (.cnvResRead acc g r e wide) s = .next t ∧
        t = { s with rdr := t.rdr, grp := s.grp.set g { s.grp[g] with
          lanes := s.grp[g].lanes.set (roleIx r) { l with new := setBit l.new e.val false } } } ∧
        (∃ x, t.rdr[q].snap = some x ∧ x.base = resAddr g r e ∧
          x.words = [(l.res[e]).setWidth 16, (l.res[e] >>> 16).setWidth 16]) ∧
        (wide = true → t.rdr[q].cnvMiss = false) ∧ (wide = false → t.rdr[q].cnvMiss = s.rdr[q].cnvMiss)) ∧
    (∀ a : HWord, ReadAllowed s acc a.toNat →
      ∃ t, exec (.readWithSnapshot acc a) s = .next t ∧
        t = { s with rdr := t.rdr, grp := t.grp, cal := { s.cal with badIdx := t.cal.badIdx },
                     sec := { s.sec with mbOut := t.sec.mbOut } } ∧
        (∀ len, snapGroup a.toNat = some (a.toNat, len) →
          ∃ x, t.rdr[q].snap = some x ∧ x.base = a.toNat ∧ x.words.length = len)))

/-- The check-value contexts (R325 to R327): CRC_CFG loads the initial value of the algorithm, CRC_DIN8 and CRC_DIN16
advance the running value by one byte and by two, high byte first, a restore loads what is within the width; while a port
holds the context none of them has effect and CONFLICT is set, as by a write of CRC_CHK; a save takes both halves of the
running value. The four algorithms have the check values of R325's table for "123456789". HP_LEN and the mailbox (R315,
R278, R433): a legal length in bits 12:0 waits for the next frame, another sets LENERR; SEC_MBIN takes two bytes from a
host-port access up to 1,536; SEND submits them, is refused while one is processed and for a wrong length, CLEAR empties the
inbound buffer, a reply ends the SEND, and each read of SEC_MBOUT by the host takes two bytes. Where a clause rests on a
reading of the model's own, log entries 47, 49 name it. -/
def Obligations.CheckValuesFrameLengthAndMailbox : Prop :=
  (
  let nine : List Byte := [0x31, 0x32, 0x33, 0x34, 0x35, 0x36, 0x37, 0x38, 0x39]
  (crcOf 0 nine = 0xCBF43926 ∧ crcOf 1 nine = 0xE3069283 ∧ crcOf 2 nine = 0x29B1 ∧ crcOf 3 nine = 0xF4) ∧
  ∀ (s : State) (acc : Access) (x : CtxId),
    let k := s.crc[x]
    let writes := fun (mk : Access → CtxId → HWord → Instr) (o : Nat) (f : HWord → Crc) =>
      ∀ v, WriteAllowed s acc (crcAddr x o) v → exec (mk acc x v) s =
        .next (if k.held then { s with log := { s.log with crcStat := true } } else { s with crc := s.crc.set x (f v) })
    writes .crcCfg 0 (fun v => { k with poly := v.setWidth 2, run := crcInit (v.setWidth 2) }) ∧
    writes .crcDin8 1 (fun v => { k with run := crcByte k.poly k.run (v.setWidth 8) }) ∧
    writes .crcDin16 2 (fun v =>
      { k with run := crcByte k.poly (crcByte k.poly k.run (v.extractLsb' 8 8)) (v.setWidth 8) }) ∧
    writes .crcRunRestore 4 (fun v =>
      { k with run := (v ++ k.latch : BitVec 32) &&& BitVec.ofNat 32 (2 ^ crcWidth k.poly - 1) }) ∧
    (ReadAllowed s acc (crcAddr x 3) →
      ∃ t, exec (.crcRunSave acc x) s = .next t ∧ t = { s with rdr := t.rdr } ∧
        ∃ y, t.rdr[rdrOf acc].snap = some y ∧ y.base = crcAddr x 3 ∧
          y.words = [k.runReg.setWidth 16, (k.runReg >>> 16).setWidth 16]) ∧
    (∀ a v same : HWord, a.toNat = crcAddr x 5 ∨ a.toNat = crcAddr x 6 → WriteAllowed s acc a.toNat v →
      exec (.registerWrite acc a ⟨v, same⟩) s =
        .next (if k.held then { s with log := { s.log with crcStat := true } } else s))) ∧
  (
  ∀ (s : State) (acc : Access) (v : HWord),
    let host := acc = .hostUntagged ∨ ∃ i, acc = .hostTagged i
    (WriteAllowed s acc 0x0700 v → let w := v &&& 0x1FFF
      exec (.hpLen acc v) s =
      .next { s with hp := if w.toNat % 16 = 0 ∧ 96 ≤ w.toNat ∧ w.toNat ≤ 4096 then { s.hp with lenNext := some w }
        else { s.hp with stat := s.hp.stat ||| 1 } }) ∧
    (WriteAllowed s acc 0x0580 v →
      (host → s.sec.mbIn.length + 2 ≤ 1536 → exec (.secMbin acc v) s =
        .next { s with sec := { s.sec with mbIn := s.sec.mbIn ++ [(v >>> 8).setWidth 8, v.setWidth 8] } }) ∧
      (¬host ∨ 1536 < s.sec.mbIn.length + 2 → exec (.secMbin acc v) s = .next s)) ∧
    (WriteAllowed s acc 0x0581 v → host →
      let n := v.toNat % 2048
      (v.getLsbD 15 = true → v.getLsbD 14 = false →
        (s.sec.mbBusy = false → n ≠ 0 → n ≤ 1536 → n ≤ s.sec.mbIn.length → exec (.mailboxSend acc v) s =
          .next { s with sec := { s.sec with
            mbIn := [], mbMsg := s.sec.mbIn.take n, mbTaken := false, mbOut := [], mbReply := [], mbBusy := true } }) ∧
        (s.sec.mbBusy = true ∨ n = 0 ∨ 1536 < n ∨ s.sec.mbIn.length < n →
          ∃ t, exec (.mailboxSend acc v) s = .next t ∧ Refused s t ifHost cFormat ∧ t.sec.mbIn = [] ∧
            t.sec.mbBusy = s.sec.mbBusy ∧ t.cfg = s.cfg)) ∧
      (v.getLsbD 15 = false → v.getLsbD 14 = true → exec (.mailboxClear acc v) s =
        .next { s with sec := { s.sec with mbIn := [] } })) ∧
    (coreOn s = true → s.sec.mbBusy = true → s.sec.mbReply ≠ [] → exec .mailboxReply s =
      .next { s with sec := { s.sec with mbOut := s.sec.mbReply, mbReply := [], mbBusy := false, mbMsg := [] } }) ∧
    (ReadAllowed s acc 0x0582 → exec (.mailboxOutRead acc) s =
      .next { s with sec := { s.sec with mbOut := if isHost acc then s.sec.mbOut.drop 2 else s.sec.mbOut } }))

/-- Frames on the host port (R309 to R316, R277, R279): a frame whose checks hold and whose accesses are allowed does them
in order and prepares its reply with status OK and the echo of its header; reads return the active values; a header check
that fails is counted, raises HP_FRAME_ERR and accesses nothing, and a frame that begins while HP_READY is low, or whose
edges are not HP_LEN, is discarded. While a frame comes in, the reply prepared for the one before goes out, NOREPLY for the
first. Where a clause rests on a reading of the model's own, log entry 49 names it. -/
def Obligations.HostPortFrames : Prop :=
  ∀ (s : State) (f : HpFrame), coreOn s = true →
    let len := s.hp.len
    let len' := s.hp.lenNext.getD s.hp.len
    let area := areaLen len f.tag
    let sid : Option (Fin 16) := if f.tag then some f.sid else none
    let acc : Access := if f.tag then .hostTagged f.sid else .hostUntagged
    let good := fun (cmd : BitVec 4) (words : Nat) => s.hp.ready = true ∧ s.hp.lenNext = none ∧ f.rsv = false ∧ f.ext = 0 ∧
      f.hcrc = crc8 (reqHead cmd f) ∧ f.trailer = crc32c (padTo area f.payload) ∧ words ≤ area / 2 ∧
      (f.tag = true → 224 ≤ len.toNat ∧ liveHost s f.sid = true ∧ f.tagOk = true ∧ f.tagCnt = s.sec.sess[f.sid].tagCnt)
    let out := if s.hp.reply = [] then repFrame s s.hp.len false none noReply else s.hp.reply
    let answers := fun (t : State) (x : Rep) =>
      t.hp.reply = repFrame s len' f.tag sid x ∧ t.hp.ready = false ∧ .hpReply out ∈ t.sent ∧
      (f.tag = true → t.sec.sess[f.sid].tagCnt = f.tagCnt + 1)
    let echo : Rep := { cmd := 0, seq := f.seq, addr := f.addr, status := 0, ext := 0, ovf := false, hole := false, words := [] }
    let reads := fun (mk : HpFrame → Instr) (cmd : BitVec 4) (fixed : Bool) =>
      good cmd (f.cnt.toNat + 1) → blockReadCause s acc (blockOf fixed f) = none →
      ∃ t, ∃ ws : List HWord, exec (mk f) s = .next t ∧ ws.length = f.cnt.toNat + 1 ∧ t.cfg = s.cfg ∧
        answers t { echo with cmd := cmd, ovf := (blockOf fixed f).any fun a => decide (0x7FFF < a)
                              hole := (blockOf fixed f).any fun a => decide (a ≤ 0x7FFF) && !isReg a, words := ws } ∧
        (∀ i, i ≤ f.cnt.toNat → let a := f.addr.toNat + (if fixed then 0 else i)
          (plainCm a = true → ws[i]? = some (act s a)) ∧ (0x7FFF < a ∨ isReg a = false → ws[i]? = some 0))
    let writes := fun (mk : HpFrame → Instr) (cmd : BitVec 4) (fixed : Bool) =>
      let l := (blockOf fixed f).zipIdx.map fun p =>
        (p.1, BitVec.ofNat 16 (ofBe (((padTo area f.payload).drop (2 * p.2)).take 2)))
      good cmd (f.cnt.toNat + 1) → blockWriteCause s acc l = none →
      ∃ t, exec (mk f) s = .next t ∧ t.cfg.active = s.cfg.active ∧
        ((∀ p ∈ l, plainCm p.1 = true) → t.cfg.staged = l.foldl (fun c p => c.setReg p.1 p.2) s.cfg.staged ∧
          answers t { echo with cmd := cmd })
    (good 0 (f.cnt.toNat + 1) → ∃ t, exec (.hpNop 0 f) s = .next t ∧ t.cfg = s.cfg ∧ t.core = s.core ∧ t.evt = s.evt ∧
      answers t echo) ∧
    reads .hpRead 1 false ∧ reads .hpReadFixed 2 true ∧ writes .hpWrite 3 false ∧ writes .hpWriteFixed 4 true ∧
    (∀ cmd, s.hp.ready = true → f.hcrc ≠ crc8 (reqHead cmd f) →
      ∃ t, exec (.hpNop cmd f) s = .next t ∧ t.cfg = s.cfg ∧ t.hp.crcErr = inc16 s.hp.crcErr ∧ t.hp.ready = false ∧
        Raised 122 4 s t) ∧
    (∀ edges t0 : Nat, s.hp.ready = false ∨ edges ≠ len.toNat →
      ∃ t, exec (.hpFrameDiscard edges (!s.hp.ready) t0) s = .next t ∧ t.cfg = s.cfg ∧ t.hp.bits = sat16u edges ∧ t.hp.ready = false ∧
        t.hp.frmErr = inc16 s.hp.frmErr ∧ t.hp.len = len' ∧ .hpReply out ∈ t.sent ∧
        Raised 122 (if s.hp.ready then 2 else 3) s t) ∧
    exec .hpReplyReady s = .next { s with hp := { s.hp with ready := true } }

/-- The expansion port (R318 to R325): a start that R318 accepts begins a transfer of the buffer's bits, or waits behind a
line fill and the fills that waited before it, and holds the contexts it names; one it does not accept sets CMDERR and
starts nothing; at its end the received bits are in the buffer, BUSY is 0 and DONE is set; a ready timeout ends it, is
counted and raises XP_ERR; a line fill reads one line for its requester, or fails. Where a clause rests on a reading of the
model's own, log entry 28 names it. -/
def Obligations.ExpansionPort : Prop :=
  ∀ s : State, coreOn s = true →
    (∀ acc v, WriteAllowed s acc 0x0786 v →
      let dev := v.toNat / 2048 % 16
      let job := fun (n : Nat) (tx rx : Option CtxId) =>
        let j : XpJob := { dev := BitVec.ofNat 4 dev, bits := n, start := s.xp.crcStart.toNat, txCrc := tx, rxCrc := rx
                           started := false, ahead := s.xp.fillWait.length, rdy := false }
        if s.xp.fill = none then { j with started := true, ahead := 0, rdy := (act s (0x0791 + 2 * dev)).getLsbD 7 } else j
      let refused := (act s 0x0780).getLsbD 15 = false ∨ s.xp.job ≠ none ∨ (if s.sys.xpMode then 14 else 3) < dev ∨
        s.xp.len.toNat = 0 ∨ 4096 < s.xp.len.toNat
      (v.getLsbD 15 = false → exec (.xpStart acc v) s = .next s) ∧
      (v.getLsbD 15 = true → refused → exec (.xpStart acc v) s = .next { s with xp := { s.xp with cmdErr := true } }) ∧
      (v.getLsbD 15 = true → ¬refused → v.getLsbD 10 = false → v.getLsbD 7 = false →
        ∃ t, exec (.xpStart acc v) s = .next t ∧ t.xp.buf = s.xp.buf ∧ t.crc = s.crc ∧ t.xp.cmdErr = s.xp.cmdErr ∧
          t.xp.job = some (job s.xp.len.toNat none none) ∧
          (s.xp.fill = none → ∃ l, .xpCommand (BitVec.ofNat 4 dev) s.xp.len.toNat l ∈ t.sent)) ∧
      (v.getLsbD 15 = true → ∀ n tx rx, xpAccept s v = some (n, tx, rx) →
        ∃ t, exec (.xpStart acc v) s = .next t ∧
          t.xp.job = some (job n tx rx) ∧
          (∀ x : CtxId, t.crc[x].held = (s.crc[x].held || decide (tx = some x) || decide (rx = some x))))) ∧
    (∀ (j : XpJob) (rx : List Bool), s.xp.job = some j → j.started = true → s.xp.fillWait = [] →
      (j.rxCrc = none → ∃ t, exec (.xpTransferDone rx) s = .next t ∧ t.xp.job = none ∧ t.xp.done = true ∧
        (∀ i, i < 4096 → bufBit t.xp.buf i = (if i < j.bits then (rx[i]?).getD (bufBit s.xp.buf i) else bufBit s.xp.buf i)) ∧
        (∀ x : CtxId, t.crc[x] = (if j.txCrc = some x then { s.crc[x] with held := false } else s.crc[x])) ∧
        t = { s with xp := t.xp, crc := t.crc }) ∧
      (j.rdy = true →
        ∃ t, exec (.xpReadyTimeout rx) s = .next t ∧ t.xp.job = none ∧ t.xp.done = true ∧ t.xp.timeout = true ∧
          t.xp.errCnt = inc16 s.xp.errCnt ∧ Raised 123 (j.dev.setWidth 32) s t)) ∧
    exec .xpReadyResume s = .next s ∧
    (∀ (q : FillReq) (a : W32), 0x60000000 ≤ a.toNat → a.toNat < 0x64000000 → mayFill s q a = true →
      (xpBusy s = true → exec (.xipLineFill q a) s = .next { s with xp := { s.xp with fillWait := s.xp.fillWait ++ [(q, a)] } }) ∧
      (xpBusy s = false → xipOn s = true → (act s 0x0781).getLsbD 13 = true →
        ∃ t, exec (.xipLineFill q a) s = .next t ∧
          t = { s with sent := t.sent, xp := { s.xp with fill := some (q, a), fillRdy := (act s 0x0791).getLsbD 7 } } ∧
          .xpCommand 0 (8 * (fillCmd s a).length + 128) (fillCmd s a) ∈ t.sent) ∧
      (xpBusy s = false → xipOn s = false →
        ∃ t, exec (.xipLineFill q a) s = .next t ∧ t.xp = { s.xp with xipErr := true } ∧
          ∀ c, q = .core c → TakesException s t c 3 5 a (max s.core[c].freeAt (cycleNow s)))) ∧
    (∀ (q : FillReq) (a : W32), s.xp.fill = some (q, a) → s.xp.fillWait = [] →
      (∀ j bytes, s.xp.job = some j → j.started = false →
        ∃ t l, exec (.xipFillDone (.line bytes)) s = .next t ∧ t.xp.fill = none ∧ .xpCommand j.dev j.bits l ∈ t.sent ∧
          t.xp.job = some { j with started := true, ahead := 0, rdy := (act s (0x0791 + 2 * j.dev.toNat)).getLsbD 7 }) ∧
      (∀ bytes, s.xp.job = none → ∃ t, exec (.xipFillDone (.line bytes)) s = .next t ∧ t.xp.fill = none ∧ t.evt = s.evt ∧
        (q = .groom → t.xp.groomLine = some (a &&& 0xFFFFFFF0, bytes) ∧ t.core = s.core) ∧
        (∀ c, q = .core c → t.core = s.core.set c { s.core[c] with lineBuf := some (a &&& 0xFFFFFFF0, bytes) })) ∧
      (s.xp.job = none → ∃ t, exec (.xipFillDone .timeout) s = .next t ∧ t.xp.fill = none ∧ t.xp.timeout = true ∧ t.xp.xipErr = true ∧
        t.xp.errCnt = inc16 s.xp.errCnt ∧ Raised 123 0 s t ∧
        ∀ c, q = .core c → canRun s c = true → inBg s c = true → t.core[c].cause = 3 ∧ t.core[c].bus = 5 ∧ t.core[c].xaddr = a))

/-- Contexts and handshakes (R262, R265 to R267, R274, R304): HELLO makes the peer's context with the highest common minor
version; ID_READ answers the identity key and the certificate; SESS_INIT takes a free session into handshake and answers;
SESS_FIN with its signature makes the session live under the keys of its transcript and shared secret, stops the loss timer
and answers in it, and without it is refused with SIGNATURE; CERT_LOAD puts the key of a valid certificate into the cache
once what waits before it is done. Any of these that arrives while 64 acyclic frames are held is dropped without a reply and
counted (R305). Where a clause rests on a reading of the model's own, log entries 5, 39, 54 name it. -/
def Obligations.SessionsOpen : Prop :=
  ∀ (s : State) (m : MsgCtx),
    let now' := max s.now m.t
    (∀ i, (∃ majors minors, i = .hello m majors minors) ∨ i = .idRead m ∨ (∃ body, i = .sessInit m body) ∨
        (∃ body ok z, i = .sessFin m body ok z) ∨ (∃ cert ok, i = .certLoad m cert ok) →
      coreOn s = true → m.iface ≠ .host → s.sys.mode ≠ .boot → tapDrops s m.port = false → m.rxFull = true →
      ∃ t, exec i s = .next t ∧ (tapOn s = false → t.sent = s.sent) ∧ t = { s with now := now', sent := t.sent, net := { s.net with
        rxDrop := if msgServed s m then inc16 s.net.rxDrop else s.net.rxDrop } }) ∧
    (∀ (majors : BitVec 16) (minors : List Byte), Arrives s m → m.inRec = none → helloOk m majors minors = true →
      (majors.getLsbD 1 = false → ∃ t, exec (.hello m majors minors) s = .next t ∧ RefusalOnly s t (ifCode m.iface) cVersion) ∧
      (majors.getLsbD 1 = true →
        m.iface = .host ∨
          (s.sec.peers.filter fun p => decide (p.iface ≠ .host ∧ ¬(p.iface = m.iface ∧ p.peer = m.peer))).length < 32 →
        ∃ t body, exec (.hello m majors minors) s = .next t ∧ BridleOnly s t ∧ Answered s t m none 0x0001 body ∧
          ({ iface := m.iface, peer := m.peer, ver := BitVec.ofNat 8 (16 + min 2 (minors.getD 1 0).toNat), t := now' } : Peer) ∈
            t.sec.peers ∧
          (∀ p, ¬(p.iface = m.iface ∧ p.peer = m.peer) → (p ∈ t.sec.peers ↔ p ∈ s.sec.peers)) ∧
          (∀ i : Fin 16, t.sec.sess[i].st = s.sec.sess[i].st ∧ t.sec.sess[i].kid = s.sec.sess[i].kid))) ∧
    (Accepted s m true true → ∃ t, exec (.idRead m) s = .next t ∧
      Answered s t m none 0x0002 (beBytes 32 s.sec.idKey.toNat ++ deviceCert s) ∧
      t = { s with now := now', sent := t.sent, sec := { s.sec with
        peers := t.sec.peers, mbTaken := t.sec.mbTaken, mbReply := t.sec.mbReply } }) ∧
    (∀ body : List Byte, Accepted s m false false → body.length = 64 → ofBe (slice body 0x38 8) = (devId s).toNat →
      (4 ≤ hsCount s → ∃ t, exec (.sessInit m body) s = .next t ∧ RefusalOnly s t (ifCode m.iface) cBusy) ∧
      (hsCount s < 4 → ∀ i, freeSid s = some i →
        ∃ t resp, exec (.sessInit m body) s = .next t ∧ BridleOnly s t ∧ Answered s t m none 0x0011 resp ∧
          t.sec.sess[i].st = .hs ∧ t.sec.sess[i].iface = m.iface ∧ t.sec.sess[i].peer = m.peer ∧
          t.sec.sess[i].kid = BitVec.ofNat 64 (ofBe (slice body 0x30 8)) ∧ t.sec.sess[i].lastT = now' ∧
          t.sec.sess[i].init = body ∧ t.sec.sess[i].resp = resp ∧ t.sec.sess[i].th = Config.sha512 (body ++ resp) ∧
          (∀ j : Fin 16, j ≠ i → t.sec.sess[j] = s.sec.sess[j]))) ∧
    (∀ (body : List Byte) (sigOk : Bool) (i : Fin 16), Accepted s m false false → body.length = 72 →
      ofBe (slice body 1 7) = 0 → (body.getD 0 0).toNat = i.val → s.sec.sess[i].st = .hs → s.sec.sess[i].iface = m.iface →
      s.sec.sess[i].peer = m.peer → now' ≤ s.sec.sess[i].lastT + 1000000000 → keyCause s s.sec.sess[i].kid = none →
      EngineFree s now' →
      (sigOk = true → ∃ t, exec (.sessFin m body sigOk false) s = .next t ∧ BridleOnly s t ∧ isLive t i = true ∧
        t.sec.sess[i].kid = s.sec.sess[i].kid ∧ t.sec.lossAt = none ∧ t.sec.sess[i].sendSeq = 1 ∧
        (let y := s.sec.sess[i]
         let th := Config.sha512 (y.init ++ y.resp ++ body)
         t.sec.sess[i].th = th ∧
         t.sec.sess[i].okm = sessOkm th (Config.x25519 y.eph (BitVec.ofNat 256 (ofBe (slice y.init 0 32))))) ∧
        (∀ j : Fin 16, j ≠ i → t.sec.sess[j] = s.sec.sess[j]) ∧
        Answered s t m (some i) 0x0013 (BitVec.ofNat 8 i.val :: beBytes 2 (permOf s s.sec.sess[i].kid).toNat)) ∧
      (sigOk = false → ∀ z, ∃ t, exec (.sessFin m body sigOk z) s = .next t ∧ Refused s t (ifCode m.iface) cSignature ∧
        t.sec.sess = s.sec.sess ∧ BridleOnly s t) ∧
      (sigOk = true → ∃ t, exec (.sessFin m body sigOk true) s = .next t ∧ Refused s t (ifCode m.iface) cHandshake ∧
        t.sec.sess = s.sec.sess.set i Sess.reset ∧ BridleOnly s t)) ∧
    (∀ (cert : List Byte) (sigOk : Bool), Accepted s m false false →
      (s.sec.sigQ = [] → EngineFree s now' →
        (∀ c, certCause s cert sigOk = some c → ∃ t, exec (.certLoad m cert sigOk) s = .next t ∧
          Refused s t (ifCode m.iface) c ∧ t.sec.cache = s.sec.cache ∧ BridleOnly s t) ∧
        (certCause s cert sigOk = none → ∀ l, cacheKey (certKey cert) s = some l →
          ∃ t, exec (.certLoad m cert sigOk) s = .next t ∧ BridleOnly s t ∧ t.sec.cache = l ∧ l.head? = some (certKey cert) ∧
            Answered s t m none 0x0004 [])) ∧
      (certOk cert = true → ∀ q, s.sec.sigQ.head? = some (.cmd q) →
        (s.sec.sigQ.length < 32 → ∃ t, exec (.certLoad m cert sigOk) s = .next t ∧ BridleOnly s t ∧
          t.sec.sigQ = s.sec.sigQ ++ [.cert m cert sigOk] ∧ t.sec.cache = s.sec.cache) ∧
        (32 ≤ s.sec.sigQ.length → ∃ t, exec (.certLoad m cert sigOk) s = .next t ∧ RefusalOnly s t (ifCode m.iface) cBusy)))

/-- The end of sessions (R267, R268, R270 to R272, R304, R26, R375): SESS_CLOSE answers and frees its session with its
binding and its queued commands, as the record before the SEQ that is never sent does, and the last live session starts the
loss timer; a handshake ends after 1 s, an idle session after SEC_IDLE, and not before; at the instant at which the loss
timer has run for SEC_LOSSHOLD, which comes within the running frame or has come, SESSION_LOST is raised, SAFE is asked for,
and a trial reverts with reason SESSION; a peer's context ends 10 s after its latest message if it has no live session.
Where a clause rests on a reading of the model's own, log entry 39 names it. -/
def Obligations.SessionsEnd : Prop :=
  ∀ s : State,
    (∀ r : RecCtx, RecAccepted s r →
      ∃ t, exec (.sessClose r) s = .next t ∧ t.sec.sess[r.sid] = Sess.reset ∧
        (∀ j : Fin 16, j ≠ r.sid → t.sec.sess[j] = s.sec.sess[j]) ∧ Answered s t r.msg (some r.sid) 0x0014 [] ∧
        t.sec.bound = (if s.sec.bound = some r.sid then none else s.sec.bound) ∧
        (∀ x, x ∈ t.sec.sigQ ↔ x ∈ s.sec.sigQ ∧ ∀ q, x = .cmd q → q.sid ≠ r.sid) ∧
        t.sec.lossAt = (if liveCount s = 1 then some (max s.now r.msg.t) else s.sec.lossAt) ∧
        t = { s with now := t.now, sent := t.sent, sec := t.sec, cmt := { s.cmt with answer := t.cmt.answer },
                     upd := { s.upd with lockOpen := t.upd.lockOpen } }) ∧
    (∀ r : RecCtx, RecPasses s r → ¬SendsOn s r.sid → ∀ k, 1 ≤ s.sec.sess[r.sid].minor →
      ∃ t, exec (.eventSub r k) s = .next t ∧ t.sec.sess[r.sid] = Sess.reset ∧ Answered s t r.msg (some r.sid) 0x0121 [] ∧
        t.sec.bound = (if s.sec.bound = some r.sid then none else s.sec.bound)) ∧
    (∀ (i : Fin 16) (t0 : Nat), coreOn s = true →
      exec (.handshakeTimeout i t0) s =
        .next (if s.sec.sess[i].st = .hs ∧ s.sec.sess[i].lastT + 1000000000 ≤ t0 then
          { s with now := max s.now t0, sec := { s.sec with sess := s.sec.sess.set i Sess.reset } } else s) ∧
      (isLive s i = true → s.sec.sess[i].lastT + 100000000 * fld (act s 0x0506) 9 0 ≤ t0 →
        ∃ t, exec (.sessionIdle i t0) s = .next t ∧ t.sec.sess = s.sec.sess.set i Sess.reset ∧ t.cfg = s.cfg ∧ t.evt = s.evt) ∧
      (s.sec.sess[i].st = .live → isSpent s i = true →
        ∃ t, exec (.sessionIdle i t0) s = .next t ∧ t.sec.sess = s.sec.sess.set i Sess.reset ∧
          (liveCount s = 0 → t.sec.lossAt = some (max s.now t0)) ∧ t.cfg = s.cfg ∧ t.evt = s.evt) ∧
      (s.sec.sess[i].st ≠ .live ∨ (isSpent s i = false ∧ t0 < s.sec.sess[i].lastT + 100000000 * fld (act s 0x0506) 9 0) →
        exec (.sessionIdle i t0) s = .next s)) ∧
    (coreOn s = true →
      ((∀ u, s.sec.lossAt = some u → s.now < u + 10000000 * (act s 0x0505).toNat ∧
          s.frm.tickT + 2 * period s.cfg.active < u + 10000000 * (act s 0x0505).toNat) → exec .sessionLoss s = .next s) ∧
      (∀ u, s.sec.lossAt = some u → u + 10000000 * (act s 0x0505).toNat ≤ max s.now (s.frm.tickT + 2 * period s.cfg.active) →
        ∃ t, exec .sessionLoss s = .next t ∧ t.now = max s.now (u + 10000000 * (act s 0x0505).toNat) ∧
        t.sec = { s.sec with lossAt := none } ∧
        Raised 74 0 s t ∧
        t.sys.mode = s.sys.mode ∧ t.sys.safeReq = (s.sys.safeReq || s.sys.mode = .run || s.sys.mode = .degraded) ∧
        (s.upd.st = .trial → t.upd.st = .reverting ∧ t.upd.revert = some 6) ∧ (s.upd.st ≠ .trial → t.upd = s.upd))) ∧
    (∀ (f : Iface) (p t0 : Nat), coreOn s = true →
      (∀ i : Fin 16, isLive s i = true → ¬(s.sec.sess[i].iface = f ∧ s.sec.sess[i].peer = p)) →
      exec (.peerContextEnd f p t0) s = .next { s with now := max s.now t0, sec := { s.sec with
        peers := s.sec.peers.filter fun x => ¬(x.iface = f ∧ x.peer = p ∧ x.t + 10000000000 ≤ t0) } })

/-- CLAIM and TRANSFER (R257 to R259): an unclaimed device whose CLAIM_N is low takes the roots of a valid CLAIM as
generation 0, their keys in the fuses; a TRANSFER that names the next of four generations takes its roots, empties the key
cache, clears HP_TRUST and the debug unlock and closes every session; any other is refused with CLAIM and changes nothing.
Where a clause rests on a reading of the model's own, log entry 39 names it. -/
def Obligations.OwnershipIsClaimedAndTransferred : Prop :=
  ∀ (s : State) (m : MsgCtx) (body : List Byte), Accepted s m true false →
    let fused := (List.range (body.getD 0 0).toNat).map fun i => BitVec.ofNat 256 (ofBe (slice body (0x10 + 32 * i) 32))
    (ownerBody body 1 = true → s.sec.claimPin = false ∨ s.sec.gen.isSome = true →
      ∀ ok, ∃ t, exec (.claim m body ok) s = .next t ∧ RefusalOnly s t (ifCode m.iface) cClaim) ∧
    (ownerBody body 1 = true → s.sec.claimPin = true → s.sec.gen = none → ofBe (slice body 8 8) = (devId s).toNat →
      EngineFree s (max s.now m.t) →
      ∃ t, exec (.claim m body true) s = .next t ∧ BridleOnly s t ∧ t.sec.gen = some 0 ∧ t.sec.roots = ownerRoots body ∧
        t.sec.roots.length = (body.getD 0 0).toNat ∧ t.sec.dbgUnlk = false ∧ t.sec.sess = s.sec.sess ∧
        t.sec.epoch = s.sec.epoch ∧ Raised 76 0 s t ∧ Answered s t m none 0x0020 (deviceCert s) ∧
        t.sec.fuses[0] = fused) ∧
    (ownerBody body 2 = true → (s.sec.gen = none ∨ s.sec.gen = some 3) →
      ∀ ok, ∃ t, exec (.transfer m body ok) s = .next t ∧ RefusalOnly s t (ifCode m.iface) cClaim) ∧
    (∀ g h : Fin 4, ownerBody body 2 = true → s.sec.gen = some g → h.val = g.val + 1 → (body.getD 1 0).toNat = h.val →
      ofBe (slice body 8 8) = (devId s).toNat → EngineFree s (max s.now m.t) →
      ∃ t, exec (.transfer m body true) s = .next t ∧ t.sec.gen = some h ∧ t.sec.fuses = s.sec.fuses.set h fused ∧ t.sec.roots = ownerRoots body ∧ t.sec.cache = [] ∧
        t.sec.hpTrust = false ∧ t.sec.dbgUnlk = false ∧ (∀ i : Fin 16, t.sec.sess[i] = Sess.reset) ∧
        t.sec.epoch = s.sec.epoch ∧ t.cfg = s.cfg ∧ Raised 76 0 s t ∧ Answered s t m none 0x0021 [])

/-- The messages of a session (R272, R303, R306, R335): REG_READ answers the words of its block and REG_WRITE writes a block
whose every write is allowed and none of one that is not; LOG_READ answers from its buffer, or waits behind a held one, and
leaves the Logbook; EVENT_SUB sets the mask; CYCLIC_BIND binds a network session with CYCLIC while none is bound,
CYCLIC_UNBIND unbinds its own; APP queues its bytes for a core; SIGNED joins the queue of at most 32 commands. Where a
clause rests on a reading of the model's own, log entries 39, 47 name it. -/
def Obligations.SessionMessages : Prop :=
  ∀ (s : State) (r : RecCtx), RecAccepted s r →
    let x := s.sec.sess[r.sid]
    let refused := fun (i : Instr) (c : Byte) => ∃ t, exec i s = .next t ∧ Refused s t (ifCode r.msg.iface) c ∧ t.cfg = s.cfg ∧
      t.sec.bound = s.sec.bound ∧ t.sec.sigQ = s.sec.sigQ ∧ t.sec.sess[r.sid].evMask = x.evMask ∧
      (∀ c : CoreId, t.core[c].inbox = s.core[c].inbox)
    let answers := fun (t : State) (msg : HWord) (body : List Byte) => Answered s t r.msg (some r.sid) msg body ∧
      t.sec.sess[r.sid].sendSeq = x.sendSeq + 1
    let block := fun (a n : HWord) => (List.range n.toNat).map fun i => a.toNat + i
    (∀ a n : HWord, 1 ≤ n.toNat → n.toNat ≤ 64 → a.toNat + n.toNat ≤ 0x8000 →
      (blockReadCause s (.xiram r.sid) (block a n) = none →
        ∃ t, ∃ ws : List HWord, exec (.regRead r a n) s = .next t ∧ t.cfg = s.cfg ∧ ws.length = n.toNat ∧
          answers t 0x0100 (ws.flatMap fun w => beBytes 2 w.toNat) ∧
          ∀ i, i < n.toNat → plainCm (a.toNat + i) = true → ws[i]? = some (act s (a.toNat + i))) ∧
      (∀ vals : List HWord, vals.length = n.toNat →
        let l := vals.zipIdx.map fun p => (a.toNat + p.2, p.1)
        ((∀ p ∈ l, writeCause s (.xiram r.sid) p.1 p.2 = none) →
          ∃ t, exec (.regWrite r a n vals) s = .next t ∧ t.cfg.active = s.cfg.active ∧
            ((∀ p ∈ l, plainCm p.1 = true) → answers t 0x0101 [] ∧
              t.cfg.staged = l.foldl (fun c p => c.setReg p.1 p.2) s.cfg.staged)) ∧
        (∀ c, l.findSome? (fun p => writeCause s (.xiram r.sid) p.1 p.2) = some c → refused (.regWrite r a n vals) c))) ∧
    (s.log.heldRead = false → ∀ (b : Byte) (n : HWord) (first : W32),
      (5 ≤ b.toNat → ∀ e, refused (.logRead r b n first e) cFormat) ∧
      (b.toNat < 5 → ∃ t body, exec (.logRead r b n first false) s = .next t ∧ answers t 0x0110 body ∧ body.head? = some b ∧
        t.log.mem = s.log.mem ∧ t.log.bufs = s.log.bufs ∧ t.cfg = s.cfg)) ∧
    (s.log.heldRead = true → ∀ (b : Fin 5) (n : HWord) (first : W32) (ecc : Bool),
      ∃ t, exec (.logRead r (BitVec.ofNat 8 b.val) n first ecc) s = .next t ∧ t.sec.sess[r.sid].sendSeq = x.sendSeq ∧
        t.log = { s.log with waitReads := s.log.waitReads ++ [{ r := r, buf := b, count := n, first := first, ecc := ecc }] }) ∧
    (∀ k : BitVec 128, (x.minor < 1 → refused (.eventSub r k) cFormat) ∧
      (1 ≤ x.minor → ∃ t, exec (.eventSub r k) s = .next t ∧ t.sec.sess[r.sid].evMask = k ∧ answers t 0x0121 [] ∧
        BridleOnly s t)) ∧
    (x.iface = .host ∨ sessPerm s r.sid 0 = false → refused (.cyclicBind r) cPermission) ∧
    (x.iface ≠ .host → sessPerm s r.sid 0 = true →
      (∀ i, s.sec.bound = some i → i ≠ r.sid → refused (.cyclicBind r) cBound) ∧
      (s.sec.bound = some r.sid → ∃ t, exec (.cyclicBind r) s = .next t ∧ t.sec.bound = s.sec.bound ∧
        t.sec.cycSend = s.sec.cycSend ∧ answers t 0x0130 [] ∧ BridleOnly s t) ∧
      (s.sec.bound = none → ∃ t, exec (.cyclicBind r) s = .next t ∧ t.sec.bound = some r.sid ∧ t.sec.boundSeq = none ∧
        t.sec.cycSend = 0 ∧ answers t 0x0130 [] ∧ BridleOnly s t)) ∧
    (∃ t, exec (.cyclicUnbind r) s = .next t ∧ t.sec.bound = (if s.sec.bound = some r.sid then none else s.sec.bound) ∧
      answers t 0x0131 [] ∧ BridleOnly s t) ∧
    (∀ (c : CoreId) (data : List Byte), 2 ≤ x.minor → 1 ≤ data.length → data.length ≤ 1024 →
      let i : Instr := .app r (BitVec.ofNat 8 c.val) (BitVec.ofNat 16 data.length) data
      (8 ≤ s.core[c].inbox.length → refused i cBusy) ∧
      (s.core[c].inbox.length < 8 → ∃ t, exec i s = .next t ∧ answers t 0x0140 [] ∧
        t.core = s.core.set c { s.core[c] with inbox := s.core[c].inbox ++ [data] } ∧
        BridleOnly s { t with core := s.core })) ∧
    (∀ m : SignedMsg, (cmdFormat m = false → refused (.signed r m) cFormat) ∧
      (cmdFormat m = true → 32 ≤ s.sec.sigQ.length → refused (.signed r m) cBusy) ∧
      (cmdFormat m = true → s.sec.sigQ.length < 32 → ∃ t, exec (.signed r m) s = .next t ∧
        (∀ y ∈ t.sent, y ∈ s.sent ∨ ∃ z, y = .tapped z) ∧ BridleOnly s t ∧
        t.sec.sigQ = s.sec.sigQ ++
          [.cmd { sid := r.sid, iface := r.msg.iface, peer := r.msg.peer, txid := r.msg.txid, m := m, gone := false }]))

/-- The signed commands (R276, R19, R22, R264, R275, R280, R349, R367, R393): the command at the head of the queue that
passes the steps of R275 leaves the queue, becomes the latest of its session, and does what R276 gives it; one that fails a
step is refused with that step's cause and does nothing else. (Certificates that wait behind it are verified in the same
course: SessionsOpen.) Where a clause rests on a reading of the model's own, log entries 22, 24, 39, 60 name it. -/
def Obligations.SignedCommands : Prop :=
  ∀ (s : State) (sigOk : Bool) (t0 : Nat) (q : QCmd),
    let passes := fun code : HWord => SignedPasses s code sigOk t0 q
    let answered := fun (t : State) (st : Byte) =>
      isLive s q.sid = true → .response q.iface q.peer (some q.sid) 0x0102 q.txid [st] (msgTag s q.iface) ∈ t.sent
    let taken := fun t : State => TakenFromQueue s t q
    let b0 := q.m.payload.getD 0 0
    (passes 0x0101 →
      (cmtPend s = false → ∃ t, exec (.commitCmd sigOk t0) s = .next t ∧ taken t ∧ t.cmt.phase = .requested ∧
        t.cmt.src = (if q.iface = .host then 2 else 1) ∧ t.cmt.answer = some q ∧ t.cfg = s.cfg) ∧
      (cmtPend s = true → ∃ t, exec (.commitCmd sigOk t0) s = .next t ∧ taken t ∧ answered t 1 ∧ t.cmt = s.cmt ∧
        t.cfg = s.cfg ∧ Raised 81 1 s t)) ∧
    (passes 0x0102 → ∃ t, exec (.modeSet sigOk t0) s = .next t ∧ taken t ∧ t.sys.mode = s.sys.mode ∧ t.cfg = s.cfg ∧
      (∀ m, setTarget b0 = some m → s.sys.mode ≠ .boot → s.sys.mode ≠ .trial → s.upd.trialFlag = false →
        (setSame s m = true → t.sys = s.sys ∧ answered t 0) ∧
        (setSame s m = false → setOk s m = true → t.sys = { s.sys with modeReq := some m } ∧ answered t 0) ∧
        (setSame s m = false → setOk s m = false → t.sys = s.sys ∧ answered t 2)) ∧
      (setTarget b0 = none ∨ s.sys.mode = .boot ∨ s.sys.mode = .trial ∨ s.upd.trialFlag = true → t.sys = s.sys ∧ answered t 2)) ∧
    (passes 0x0103 →
      let n := forceCh b0
      let release := (q.m.payload.getD 1 0).getLsbD 0
      let word : W32 := BitVec.ofNat 32 (ofBe (slice q.m.payload 2 4))
      ∃ t, exec (.force sigOk t0) s = .next t ∧ taken t ∧ t.cfg = s.cfg ∧
        (s.sys.mode ≠ .commission → t.ch = s.ch ∧ answered t 2) ∧
        (s.sys.mode = .commission → release = true → t.ch[n].out.force = none ∧ answered t 0) ∧
        (s.sys.mode = .commission → release = false → answered t 0 ∧ Raised 78 (BitVec.ofNat 32 n.val) s t ∧
          t.ch = s.ch.set n { s.ch[n] with out := { s.ch[n].out with force := some word } })) ∧
    (passes 0x0104 → ∃ t, exec (.freeze sigOk t0) s = .next t ∧ taken t ∧ t.frz.req = true ∧ t.frz.src.getLsbD 2 = true ∧
      t.sent = s.sent ∧ t.sys = s.sys ∧ BridleOnly s { t with frz := s.frz }) ∧
    (passes 0x0105 →
      ((∃ i, s.upd.lock = some i ∧ (i ≠ q.sid ∨ s.upd.lockOpen = false)) →
        ∃ t, exec (.activate sigOk t0) s = .next t ∧ Refused s t (ifCode q.iface) cUpdBusy ∧ t.upd = s.upd) ∧
      (s.upd.lock = none ∨ (s.upd.lock = some q.sid ∧ s.upd.lockOpen = true) →
        ∃ t, exec (.activate sigOk t0) s = .next t ∧ taken t ∧ answered t (activateStatus s q) ∧ t.cfg = s.cfg ∧
          (activateStatus s q ≠ 0 → t.upd = s.upd) ∧
          (activateStatus s q = 0 → t.upd = { s.upd with
            st := .activating, lock := none, acceptT := max s.now t0, actMode := s.sys.mode }))) ∧
    (passes 0x0106 → NoCerts s →
      let kid : BitVec 64 := BitVec.ofNat 64 (ofBe q.m.payload)
      ∃ t, exec (.keyDrop sigOk t0) s = .next t ∧ t.cfg = s.cfg ∧ answered t 0 ∧ (∀ k ∈ t.sec.cache, k.kid ≠ kid ∧ k ∈ s.sec.cache) ∧
        (∀ k ∈ s.sec.cache, k.kid ≠ kid → k.kid ≠ q.m.signer → k ∈ t.sec.cache) ∧
        (findKey s kid = none → taken t ∧ t.evt = s.evt) ∧ (findKey s kid ≠ none → Raised 76 0 s t ∧
          (isRoot s kid = false → ∀ i : Fin 16, isLive s i = true → s.sec.sess[i].kid = kid → t.sec.sess[i] = Sess.reset) ∧
          (∀ i : Fin 16, i ≠ q.sid → (s.sec.sess[i].st ≠ .live ∨ s.sec.sess[i].kid ≠ kid) → t.sec.sess[i] = s.sec.sess[i]))) ∧
    (passes 0x0107 → NoCerts s →
      let v : W32 := BitVec.ofNat 32 (ofBe q.m.payload)
      (v ≤ s.sec.epoch → ∃ t, exec (.epochRaise sigOk t0) s = .next t ∧ Refused s t (ifCode q.iface) cEpoch ∧
        t.sec.epoch = s.sec.epoch ∧ t.sec.sess[q.sid].cmdSeq = s.sec.sess[q.sid].cmdSeq) ∧
      (s.sec.epoch < v → ∃ t, exec (.epochRaise sigOk t0) s = .next t ∧ t.sec.epoch = v ∧ answered t 0 ∧ Raised 75 v s t ∧
        (∀ k ∈ t.sec.cache, v ≤ k.epoch ∧ k ∈ s.sec.cache) ∧
        (∀ k ∈ s.sec.cache, k.epoch < v → isRoot s k.kid = false → ∀ i : Fin 16, isLive s i = true →
          s.sec.sess[i].kid = k.kid → t.sec.sess[i] = Sess.reset))) ∧
    (passes 0x0108 → ∃ t, exec (.hpTrust sigOk t0) s = .next t ∧ taken t ∧ t.sec.hpTrust = decide (b0 = 1) ∧ answered t 0 ∧
      BridleOnly s t) ∧
    (∀ c, coreOn s = true → EngineFree s (max s.now t0) → s.sec.sigQ.head? = some (.cmd q) → cmdCause s q sigOk = some c →
      NoCertNext s → SendsOn s q.sid →
      ∀ i, (q.m.code = 0x0101 ∧ i = .commitCmd sigOk t0) ∨ (q.m.code = 0x0102 ∧ i = .modeSet sigOk t0) ∨
          (q.m.code = 0x0103 ∧ i = .force sigOk t0) ∨ (q.m.code = 0x0104 ∧ i = .freeze sigOk t0) ∨
          (q.m.code = 0x0105 ∧ i = .activate sigOk t0) ∨ (q.m.code = 0x0106 ∧ i = .keyDrop sigOk t0) ∨
          (q.m.code = 0x0107 ∧ i = .epochRaise sigOk t0) ∨ (q.m.code = 0x0108 ∧ i = .hpTrust sigOk t0) →
      ∃ t, exec i s = .next t ∧ Refused s t (ifCode q.iface) c ∧ t.sec.sigQ = s.sec.sigQ.drop 1 ∧ BridleOnly s t ∧
        t.sec.cache = s.sec.cache ∧ t.sec.epoch = s.sec.epoch ∧ t.sec.hpTrust = s.sec.hpTrust)

/-- Bridging and the ports (R285 to R290, R299, R302): ARP and echo requests for NET_IP are answered and no other; a good
frame on a linked port that is a member of its VLAN goes out of the port its destination was learned on, else of every other
linked member, never back, at once or, where the gate of its class does not let it finish, from a queue; a tapped P2 gets a
copy and takes in nothing; a bad check sequence sets FCSERR and forwards nothing; an entry not refreshed for 300 s is
forgotten; a gate list moves on up to its last entry; a change of link raises PORT_LINK, an unchanged one nothing. Where a
clause rests on a reading of the model's own, log entries 43, 62 name it. -/
def Obligations.BridgingAndPorts : Prop :=
  ∀ (s : State) (p : PortId), netUp s = true →
    let hears := portUp s p = true ∧ ¬(p = 2 ∧ tapOn s = true)
    let tap := fun x : Tapped => if tapOn s && p ≠ 2 && portUp s 2 then [Sent.tapped x] else []
    (∀ (ip : W32) (mac : BitVec 48), exec (.arpRequest p ip mac) s =
      .next (if hears then { s with sent := (if ip ≠ 0 ∧ ip = netIp s then [.arp p mac] else []) ++ tap (.arp ip mac) ++ s.sent } else s)) ∧
    (∀ (ip : W32) (frag : Bool) (data : List Byte), exec (.icmpEcho p ip frag data) s =
      .next (if hears then { s with sent :=
        (if ip ≠ 0 ∧ ip = netIp s ∧ frag = false then [.icmp p data] else []) ++ tap (.icmp ip data) ++ s.sent } else s)) ∧
    (∀ f : EthFrame,
      (portUp s p = false → exec (.ethFrameForward p f) s = .next s) ∧
      (portUp s p = true → f.fcsOk = false → ∃ t, exec (.ethFrameForward p f) s = .next t ∧ t.sent = s.sent ∧
        t.net.table = s.net.table ∧ t.net.ports[p] = { s.net.ports[p] with fcsErr := true }) ∧
      (portUp s p = true → f.fcsOk = true → 1522 < f.len → ∃ t, exec (.ethFrameForward p f) s = .next t ∧ t.sent = s.sent ∧
        t.net = s.net) ∧
      (f.fcsOk = true → f.len ≤ 1522 → tapOn s = true → portUp s p = true →
        (p = 2 → exec (.ethFrameForward p f) s = .next (atTime f.t s)) ∧
        (p ≠ 2 → portUp s 2 = true → (act s 0x0882).getLsbD 15 = false → s.net.ports[2].waiting = [] →
          ∃ t, exec (.ethFrameForward p f) s = .next t ∧ .ethOut 2 f (vidOf s p f) f.tag.isNone ∈ t.sent)) ∧
      (∀ member untag, portUp s p = true → f.fcsOk = true → f.len ≤ 1522 → tapOn s = false → vlanOf s (vidOf s p f) = some (member, untag) →
        member.getLsbD p.val = true → f.da ≠ s.net.mac →
        let u := fun q : PortId => untag.getLsbD q.val
        let starts := fun q : PortId => mayStart (atTime f.t s) q (classOf f) (outLen f (u q))
        ∃ t, ∃ out : List PortId, exec (.ethFrameForward p f) s = .next t ∧ out.Nodup ∧
          ((∀ q, q ∈ out → starts q = true ∧ s.net.ports[q].waiting = []) →
            t.sent = (out.map fun q => .ethOut q f (vidOf s p f) (u q)) ++ s.sent) ∧
          (∀ q ∈ out, starts q = false → (f, vidOf s p f, u q) ∈ t.net.ports[q].waiting) ∧
          (∀ q ∈ out, starts q = true → (∀ w ∈ s.net.ports[q].waiting, classOf w.1 ≠ classOf f) →
            .ethOut q f (vidOf s p f) (u q) ∈ t.sent) ∧
          (∀ q, q ∈ out ↔ q ≠ p ∧ member.getLsbD q.val = true ∧ portUp s q = true ∧ ringBlocks s p q = false ∧
            (isGroupMac f.da = true ∨ ∀ e, (t.net.table.find? fun e => decide (e.1 = f.da ∧ e.2.1 = vidOf s p f)) = some e → e.2.2.1 = q)) ∧
          (isGroupMac f.sa = false → s.net.table.length < 1024 → (f.sa, vidOf s p f, p, f.t) ∈ t.net.table))) ∧
    (∀ (mac : BitVec 48) (vid : BitVec 12) (t0 : Nat), ∃ t, exec (.macAgeing mac vid t0) s = .next t ∧
      ∀ e, e ∈ t.net.table ↔ e ∈ s.net.table ∧ ¬(e.1 = mac ∧ e.2.1 = vid ∧ e.2.2.2 + 300000000000 ≤ t0)) ∧
    (let c := act s (0x0880 + p.val)
     let k := s.net.ports[p].gate + 1
     (c.getLsbD 15 = false ∨ fld c 6 0 ≤ k → exec (.gateEntryEnd p) s = .next s) ∧
     (c.getLsbD 15 = true → k < fld c 6 0 → ∃ t, exec (.gateEntryEnd p) s = .next t ∧
      t.net = { s.net with ports := s.net.ports.set p { s.net.ports[p] with gate := k, waiting := t.net.ports[p].waiting } } ∧
      t = { s with now := max s.now (s.frm.tickT + gateStart (gateList s p) k), net := t.net, sent := t.sent } ∧
      (∀ w ∈ t.net.ports[p].waiting, w ∈ s.net.ports[p].waiting) ∧ (s.net.ports[p].waiting = [] → t.sent = s.sent))) ∧
    (∀ up spd : Bool,
      let on := up && (act s (0x0800 + p.val)).getLsbD 15
      ∃ t, exec (.portLinkChange p up spd) s = .next t ∧ t.net.ports[p] = { s.net.ports[p] with
          link := on, spd := spd, ann := if on then s.net.ports[p].ann else none
          waiting := if on then s.net.ports[p].waiting else [] } ∧
        t.cfg = s.cfg ∧ (s.net.ports[p].link = on → t.evt = s.evt) ∧
        (s.net.ports[p].link ≠ on → Raised 118 (BitVec.ofNat 32 (256 * p.val + (if on then 1 else 0))) s t) ∧
        (s.net.ports[p].link = true → on = false → turns s p = true → Raised 119 (BitVec.ofNat 32 p.val) s t))

/-- The device's own segment (R38, R273, R291 to R297): XI_SEND prepares the replacement segment, sealed under the bound
session and counted where there is one, NOBIND with zeros where there is none; the segment that waits first for verification
is verified once a frame, a wrong tag or an old number is refused as a segment; XI_DEADLINE puts the verified words into the
output words of the channels whose writer is Xiram, or marks the frame and raises XIRAM_LATE. The summation train (R290,
R292, R295, R296, R298 to R300): a carriage of the ring that holds the device's segment goes on with it replaced and nothing
else changed, out of the other ring port, and the segment goes to verification; one that is not the device's, or whose
segment does not fit, goes on unchanged and is counted; what comes back to the originator is taken off the ring; the
originator takes feed carriages for the running or next frame once each and launches the train, NULL segments where it was
not fed; copies that do not return 3 frames in a row open the ring, 3 good frames close it. Where a clause rests on a
reading of the model's own, log entries 44, 62, 66 name it. -/
def Obligations.OwnSegmentAndSummationTrain : Prop :=
  (
  ∀ (s : State) (slot : BitVec 8), inService s = true →
    (slotIs s slot 6 = true → ∀ n, ownLen s s.cfg.active = some n →
      ∃ t r, exec (.xiSend slot) s = .next t ∧ t.net = { s.net with xiSent := true, repl := some r } ∧
        r.addr = s.sys.addr.setWidth 8 ∧ r.len = BitVec.ofNat 16 n ∧ r.res = 0 ∧
        (s.sec.bound = none → r.flags = 5 ∧ r.seq = 0 ∧ r.data = List.replicate n 0 ∧ r.tag = 0 ∧ t.sec = s.sec) ∧
        (∀ i, s.sec.bound = some i →
          let x := s.sec.sess[i]
          r.flags = 1 ∧ r.seq = s.sec.cycSend ∧ r.tag = segTag x 3 r ∧
          r.data = gcmText (sessKey x 3) (nonceOf (sessIv x 3) s.sec.cycSend) (inPlain s n) ∧
          t.sec = { s.sec with cycSend := s.sec.cycSend + 1 })) ∧
    (slotIs s slot 7 = true → 0 < ringN s.cfg.active →
      (s.net.verified = none → ∃ t, exec (.xiDeadline slot) s = .next t ∧ t.frm = { s.frm with xiLate := true, xiHeld := true } ∧
        Raised 65 0 s t ∧ t.pi = s.pi) ∧
      (∀ fr words, s.net.verified = some (fr, words) → words.length = (mapped s.cfg.active 0x0814).length →
        ∃ t, exec (.xiDeadline slot) s = .next t ∧ t.net = { s.net with verified := none, xiPast := true } ∧
          t.frm = { s.frm with xiHeld := false } ∧
          ∀ n : ChanId, t.pi.outw[n] = (match ((mapped s.cfg.active 0x0814).zip words).find? fun x => decide (x.1 = n) with
            | some x => if writerA s n = 5 then x.2 &&& 0xFFFFFF00 else s.pi.outw[n]
            | none => s.pi.outw[n]))) ∧
    (∀ (g : SegIn) (d : Bool) (t0 : Nat), s.net.verifyQ.head? ≠ some (g, d) → exec (.segmentVerified g d t0) s = .next s) ∧
    (∀ (g : SegIn) (d : Bool) (rest : List (SegIn × Bool)) (t0 : Nat), s.net.verifyQ = (g, d) :: rest →
      let took : State := { s with now := max s.now t0, net := { s.net with verifyQ := rest } }
      let refused := fun cause : Byte => ∃ t, exec (.segmentVerified g d t0) s = .next t ∧ t.net = { s.net with verifyQ := rest } ∧
        RefusalOnly s { t with net := s.net } ifSeg cause
      (ringN s.cfg.active = 0 ∨ s.net.xiPast = true → exec (.segmentVerified g d t0) s = .next took) ∧
      (0 < ringN s.cfg.active → s.net.xiPast = false →
        (s.sec.bound = none → refused cTag) ∧
        (∀ i, s.sec.bound = some i →
          let x := s.sec.sess[i]
          let plain := gcmText (sessKey x 2) (nonceOf (sessIv x 2) g.seq) g.data
          (g.tag ≠ segTag x 2 g → refused cTag) ∧
          (g.tag = segTag x 2 g → s.net.xiDone = true → s.sec.boundSeq = some g.seq → exec (.segmentVerified g d t0) s = .next took) ∧
          (g.tag = segTag x 2 g → ∀ h, s.sec.boundSeq = some h → g.seq ≤ h → (s.net.xiDone = false ∨ g.seq ≠ h) → refused cReplay) ∧
          (g.tag = segTag x 2 g → (∀ h, s.sec.boundSeq = some h → h < g.seq) →
            ∃ t fr words, exec (.segmentVerified g d t0) s = .next t ∧ t.sec.boundSeq = some g.seq ∧ t.net.xiDone = true ∧
              t.net.verified = some (fr, words) ∧ fr = s.frm.no ∧ words.length = (mapped s.cfg.active 0x0814).length ∧
              (∀ k, k < words.length → words[k]? = some (BitVec.ofNat 32 (ofBe ((plain.drop (4 * k)).take 4)))) ∧
              t.sec.sess[i].lastT = max s.now t0 ∧ t.pi = s.pi ∧ t.evt = s.evt))))) ∧
  (
  ∀ s : State, inService s = true → netUp s = true → 0 < ringN s.cfg.active → tapOn s = false →
    let fits := fun x : Carriage => ringMatch s.cfg.active x = true ∧ ∀ k, ownIdx s s.cfg.active x = some k →
      ∃ g, x.segs[k]? = some g ∧ segFits s s.cfg.active g = true
    (∀ (p q : PortId) (x : Carriage), (p = 0 ∧ q = 1) ∨ (p = 1 ∧ q = 0) → portUp s p = true → portUp s q = true →
      isCarriage s x = true → x.flags &&& 6 = 0 → x.fcsOk = true →
      (ringOrig s.cfg.active = false →
        (∀ k g r, x.frm = s.frm.no → fits x → ownIdx s s.cfg.active x = some k → x.segs[k]? = some g → s.net.repl = some r →
          exec (.carriageRx p x false) s = .next { s with
            sent := .carriage q (carriageBytes { x with segs := x.segs.set k r }) true :: s.sent
            net := { s.net with verifyQ := s.net.verifyQ ++ (if g.flags.getLsbD 1 then [] else [(g, x.flags.getLsbD 0)]) } }) ∧
        (x.frm = s.frm.no → fits x → ownIdx s s.cfg.active x = none →
          exec (.carriageRx p x false) s = .next { s with sent := .carriage q (carriageBytes x) true :: s.sent })) ∧
      ((x.frm ≠ s.frm.no ∧ x.frm ≠ s.frm.prev) ∨ (x.frm = s.frm.no ∧ ¬fits x) →
        exec (.carriageRx p x false) s =
          .next { s with net := { s.net with segErr := inc16 s.net.segErr }, sent := .carriage q (carriageBytes x) true :: s.sent }) ∧
      (ringOrig s.cfg.active = true → x.frm = s.frm.no → fits x → s.net.out = true → s.net.launched.map (·.1) = some x.frm →
        exec (.carriageRx p x false) s = .next { s with net := { s.net with ret := s.net.ret ++ [x] } })) ∧
    (∀ (p : PortId) (x : Carriage), portUp s p = true → ringOrig s.cfg.active = true → x.flags.getLsbD 1 = true →
      isCarriage s x = true → x.da = s.net.mac → x.fcsOk = true →
      let again := ∃ y ∈ s.net.feed, y.frm = x.frm ∧ y.cidx = x.cidx
      let timely := (x.frm = s.frm.no ∧ s.net.xiSent = false) ∨ x.frm = s.frm.no + 1
      (feedFits s s.cfg.active x = false → exec (.feedRx p x) s = .next { s with net := { s.net with segErr := inc16 s.net.segErr } }) ∧
      (feedFits s s.cfg.active x = true → timely → ¬again → exec (.feedRx p x) s = .next { s with net := { s.net with
        feed := x :: s.net.feed, feedFrm := some s.frm.no, feedMac := x.sa, feedPort := p
        verifyQ := s.net.verifyQ ++ (if x.frm = s.frm.no then feedSegs x else []) } }) ∧
      (feedFits s s.cfg.active x = true → ¬timely ∨ again →
        exec (.feedRx p x) s = .next { s with net := { s.net with feedLate := true } })) ∧
    (ringOrig s.cfg.active = true → s.net.launched.map (·.1) ≠ some s.frm.no → s.net.xiSent = true →
      ∃ t, ∃ cars : List (PortId × Carriage), exec .trainLaunch s = .next t ∧
        t = { s with sent := t.sent, net := { s.net with
          launched := t.net.launched, ret := [], out := decide (2 ≤ ringN s.cfg.active), launchRed := ringRed s.cfg.active
          clearT := s.frm.tickT + ringClearNs s.cfg.active } } ∧
        t.net.launched.map (·.1) = some s.frm.no ∧
        (2 ≤ ringN s.cfg.active ∨ fedLately s = false → t.sent = (cars.map fun c => .carriage c.1 (carriageBytes c.2) true) ++ s.sent) ∧
        cars.length = (if 2 ≤ ringN s.cfg.active then
          (carriages s.cfg.active).length * (if ringRed s.cfg.active then 2 else 1) else 0) ∧
        (∀ c ∈ cars, c.2.frm = s.frm.no ∧ c.2.domain = act s 0x080C ∧ c.2.k = (carriages s.cfg.active).length ∧
          c.2.etype = act s 0x0808 ∧ c.2.kind = 0x10 ∧ c.2.sa = s.net.mac ∧
          (c.1 = 0 ∧ c.2.flags = 0 ∨ c.1 = 1 ∧ c.2.flags = 1 ∧ ringRed s.cfg.active = true)) ∧
        (s.net.feed = [] → s.net.repl = none → ∀ c ∈ cars, ∀ g ∈ c.2.segs, g.flags = 2)) ∧
    (∀ (t0 : Nat) (fr : BitVec 48) (cars : List Carriage), s.net.launched = some (fr, cars) →
      let m1 := missing s false cars.length
      let m2 := s.net.launchRed && missing s true cars.length
      (s.net.out = false ∨ ((m1 || m2) = true ∧ t0 < s.net.clearT) → exec (.trainReturn t0) s = .next s) ∧
      (s.net.out = true → (m1 || m2) = false ∨ s.net.clearT ≤ t0 →
        ∃ t, exec (.trainReturn t0) s = .next t ∧ (fedLately s = false → t.sent = s.sent) ∧
          t = { s with now := max s.now t0, sent := t.sent, net := { s.net with
            out := false, ret := [], missPort := if m1 then 0 else if m2 then 1 else s.net.missPort
            missRun := if m1 || m2 then s.net.missRun + 1 else 0, backRun := if m1 || m2 then 0 else s.net.backRun + 1 } })) ∧
    (ringOrig s.cfg.active = true →
      (3 ≤ s.net.missRun → s.net.noReturn = false → ∃ t, exec (.ringOpen s.net.missPort) s = .next t ∧
        t.net = { s.net with noReturn := true, table := [] } ∧ Raised 119 (BitVec.ofNat 32 s.net.missPort.val) s t) ∧
      (∀ p : PortId, s.net.missRun < 3 ∨ p ≠ s.net.missPort → exec (.ringOpen p) s = .next s)) ∧
    (3 ≤ s.net.backRun → s.net.noReturn = true → exec .ringClose s = .next { s with net := { s.net with noReturn := false } }) ∧
    (s.net.backRun < 3 → exec .ringClose s = .next s))

/-- EVENT messages (R239, R306, R380): the raises of the frames that have ended leave the queue and go to every live network
session of minor version 1 or more whose mask names the event, each with its own body; those of the running frame stay.
Where a clause rests on a reading of the model's own, log entry 45 names it. -/
def Obligations.EventMessages : Prop :=
  ∀ s : State, inService s = true → (∀ i : Fin 16, s.sec.sess[i].sendSeq.toNat + s.evt.xi.length < 2 ^ 64 - 1) →
    ∃ t, exec .eventMsg s = .next t ∧ t.evt = { s.evt with xi := s.evt.xi.filter fun x => decide (x.frm = s.frm.no) } ∧
      t.cfg = s.cfg ∧ t.core = s.core ∧
      (∀ x ∈ s.evt.xi, x.frm ≠ s.frm.no → ∀ i : Fin 16, isLive s i = true → s.sec.sess[i].iface ≠ .host →
        s.sec.sess[i].evMask.getLsbD x.ev.val = true → 1 ≤ s.sec.sess[i].minor →
        .event i ([BitVec.ofNat 8 x.ev.val, 0] ++ beBytes 2 (min 0xFFFF x.merged) ++ beBytes 4 x.payload.toNat ++
          beBytes 6 x.frm.toNat ++ [0, 0] ++ beBytes 8 x.t) (msgTag s s.sec.sess[i].iface) ∈ t.sent) ∧
      (∀ m ∈ t.sent, m ∈ s.sent ∨ ∃ i b g, m = .event i b g) ∧
      ∀ i : Fin 16, t.sec.sess[i].sendSeq = s.sec.sess[i].sendSeq + BitVec.ofNat 64
        ((s.evt.xi.filter fun x => decide (x.frm ≠ s.frm.no) && decide (i ∈ evSessions s x.ev)).length)

/-- The update lock and staging (R361 to R366, R390): UPDATE_BEGIN takes the lock in IDLE and is UPD_BUSY otherwise; a
manifest whose checks hold is staged, one that fails a check is answered with its status; a chunk in order is written and
then joins its entry, one out of order is answered with the length held; a last chunk whose hash holds makes the entry's
image staged, another discards the entry; a program image passes the checks of R225 first; the group firmware waits for the
groups; UPDATE_ABORT and the lock timeout release the lock. Where a clause rests on a reading of the model's own, log entry
41 names it. -/
def Obligations.UpdateStaging : Prop :=
  ∀ s : State,
    (∀ r : RecCtx, UpdAccepted s (.session r) →
      (s.upd.st = .idle → s.upd.trialFlag = false → ∃ t, exec (.updateBegin r) s = .next t ∧
        t.upd = { s.upd with st := .locked, lock := some r.sid, lockOpen := true, lockT := max s.now r.msg.t, staged := none,
                             parts := [] } ∧
        Raised 82 (BitVec.ofNat 32 r.sid.val) s t ∧ UpdAnswered s t (.session r) 0x0200 0 []) ∧
      (s.upd.st ≠ .idle ∨ s.upd.trialFlag = true → ∃ t, exec (.updateBegin r) s = .next t ∧
        Refused s t (ifCode r.msg.iface) cUpdBusy ∧ t.upd = s.upd) ∧
      (holds s (.session r) = true → ∃ t, exec (.updateAbort r) s = .next t ∧ t.upd.st = .idle ∧ t.upd.lock = none ∧
        t.upd.staged = none ∧ t.upd.store = s.upd.store ∧ t.upd.active = s.upd.active ∧
        UpdAnswered s t (.session r) 0x0203 0 [])) ∧
    (∀ u : UpdCtx, UpdAccepted s u →
      (∃ t body, exec (.updateStatus u) s = .next t ∧ UpdAnswered s t u 0x0204 0 (beBytes 2 (updStatReg s).toNat ++ body) ∧
        t.upd = { s.upd with lockT := t.upd.lockT }) ∧
      (∀ (b : List Byte) (o m : Bool), holds s u = true → EngineFree s (updNow s u) →
        (mfStatus s b o m ≠ 0 → ∃ t, exec (.manifest u b o m) s = .next t ∧ UpdAnswered s t u 0x0201 (mfStatus s b o m) [] ∧
          t.upd = { s.upd with lockT := updNow s u } ∧ t.evt = s.evt) ∧
        (mfStatus s b o m = 0 → ∃ t body, exec (.manifest u b o m) s = .next t ∧ UpdAnswered s t u 0x0201 0 body ∧
          body.length = mfCount b ∧ t.upd.staged = some { toManifest b with cert := signerCert s b } ∧ t.upd.parts = [] ∧ t.upd.active = s.upd.active ∧
          ((∀ e ∈ mfEntries b, entryState s e ≠ 0) → t.upd.st = .staged ∧ Raised 83 0 s t) ∧
          ((∃ e ∈ mfEntries b, entryState s e = 0) → t.upd.st = .locked ∧ t.evt = s.evt))) ∧
      (∀ (i : Byte) (e : MfEntry) (ofs : W32) (data : List Byte), holds s u = true → (stagedEntries s)[i.toNat]? = some e →
        4 ≤ data.length → data.length ≤ 1024 → data.length % 4 = 0 →
        let have_ := (partOf s i.toNat).length
        let good := ofs.toNat = have_ ∧ have_ + data.length ≤ e.length ∧ entryState s e = 0 ∧ s.upd.writing = none
        let cmd : Instr := .chunk u i (BitVec.ofNat 16 data.length) ofs data
        (good → ∃ t, exec cmd s = .next t ∧ t.upd = { s.upd with lockT := updNow s u, writing := some (u, i.toNat, data), leave := false } ∧
          (∀ y ∈ t.sent, y ∈ s.sent ∨ ∃ z, y = .tapped z) ∧ (s.sys.recov = false → reqPending t .chunk = true)) ∧
        (¬good → ∃ t, exec cmd s = .next t ∧ t.upd = { s.upd with lockT := updNow s u } ∧
          UpdAnswered s t u 0x0202 2 (beBytes 4 have_)))) ∧
    (∀ (u : UpdCtx) (i : Nat) (e : MfEntry) (data : List Byte) (hashOk imgOk : Bool), coreOn s = true →
      s.upd.writing = some (u, i, data) → s.upd.imgWait = none → s.sys.recov = true ∨ s.upd.leave = true →
      (stagedEntries s)[i]? = some e →
      let l := partOf s i ++ data
      (l.length < e.length → ∃ t, exec (.chunkWritten hashOk imgOk) s = .next t ∧ partOf t i = l ∧ t.upd.writing = none ∧
        UpdAnswered s t u 0x0202 0 (beBytes 4 l.length) ∧ t.upd.store = s.upd.store) ∧
      (e.length ≤ l.length → e.typ ≠ 5 → hashOk = false → ∃ t, exec (.chunkWritten hashOk imgOk) s = .next t ∧ partOf t i = [] ∧
        t.upd.writing = none ∧ t.upd.store = s.upd.store ∧ UpdAnswered s t u 0x0202 3 (beBytes 4 0)) ∧
      (e.length ≤ l.length → e.typ ≠ 5 → e.typ ≠ 3 → hashOk = true → ∃ t, exec (.chunkWritten hashOk imgOk) s = .next t ∧
        t.upd.store = { hash := e.hash, bytes := l, cert := signerCert s l, ok := true } :: s.upd.store ∧ t.upd.writing = none ∧
        UpdAnswered s t u 0x0202 0 (beBytes 4 l.length)) ∧
      (e.length ≤ l.length → e.typ = 5 → hashOk = true → EngineFree s s.now →
        let r := imageCheck (companions s i) (imageKey s l) imgOk l
        ∃ t, exec (.chunkWritten hashOk imgOk) s = .next t ∧ t.upd.writing = none ∧
          (r.1 = 0 → t.upd.store = { hash := e.hash, bytes := l, cert := signerCert s l, ok := true } :: s.upd.store ∧
            UpdAnswered s t u 0x0202 0 (beBytes 4 l.length)) ∧
          (r.1 ≠ 0 → t.upd.store = s.upd.store ∧ partOf t i = [] ∧ t.img.statCause = r.1 ∧ t.img.statIndex = r.2 ∧
            UpdAnswered s t u 0x0202 0x0C (beBytes 4 0))) ∧
      (e.length ≤ l.length → e.typ = 3 → s.sys.recov = false → powered s ≠ [] → hashOk = true →
        ∃ t, exec (.chunkWritten hashOk imgOk) s = .next t ∧ t.upd.imgWait = some i ∧ t.sent = s.sent ∧
          ∀ g : GroupId, t.grp[g].imgAck = false)) ∧
    (∀ (u : UpdCtx) (i : Nat) (e : MfEntry) (d : List Byte) (g : GroupId), coreOn s = true → alive s g = true → s.upd.imgWait = some i →
      s.upd.writing = some (u, i, d) → (stagedEntries s)[i]? = some e →
      (∃ t, exec (.groupImageAck g false) s = .next t ∧ t.upd.imgWait = none ∧ partOf t i = [] ∧
        UpdAnswered s t u 0x0202 0x0A (beBytes 4 0)) ∧
      (s.grp[g].imgAck = false → ∃ t, exec (.groupImageTimeout g) s = .next t ∧ t.upd.imgWait = none ∧ partOf t i = [] ∧
        UpdAnswered s t u 0x0202 0x0A (beBytes 4 0)) ∧
      ((∀ h : GroupId, h ≠ g → alive s h = true → s.grp[h].imgAck = true) → ∃ t, exec (.groupImageAck g true) s = .next t ∧
        t.upd.imgWait = none ∧ t.upd.store = { hash := e.hash, bytes := partOf s i, cert := signerCert s (partOf s i), ok := true } :: s.upd.store ∧
        UpdAnswered s t u 0x0202 0 (beBytes 4 (partOf s i).length)) ∧
      ((∃ h : GroupId, h ≠ g ∧ alive s h = true ∧ s.grp[h].imgAck = false) →
        exec (.groupImageAck g true) s = .next { s with grp := s.grp.set g { s.grp[g] with imgAck := true } })) ∧
    (coreOn s = true →
      (∀ t0 : Nat, s.upd.lock = none ∨ t0 < s.upd.lockT + 30000000000 → exec (.updateLockTimeout t0) s = .next s) ∧
      (∀ t0 : Nat, s.upd.lock ≠ none → s.upd.lockT + 30000000000 ≤ t0 → ∃ t, exec (.updateLockTimeout t0) s = .next t ∧ t.upd.st = .idle ∧ t.upd.lock = none ∧
        t.upd.staged = none ∧ t.upd.store = s.upd.store ∧ t.evt = s.evt))

/-- Activation, trial and revert (R367 to R376): at the marker tick the banks of the staged manifest become active and the
core die resets with cause UPDATE and the trial flag; in a trial the passed checks are recorded, a confirmation ends it,
UPDATE_REVERT, UPD_REVERT and the time limit start a revert with their reason and, outside a trial, do nothing; the revert's
marker makes the old banks active again and resets. Where a clause rests on a reading of the model's own, log entries 41, 57
name it. -/
def Obligations.TrialAndRevert : Prop :=
  ∀ s : State,
    (coreOn s = true → s.upd.st = .activating → s.upd.acceptT + 2000 ≤ s.frm.tickT →
      ∃ t, exec .activateMarker s = .next t ∧ t.upd.active = s.upd.staged ∧ t.upd.old = s.upd.active ∧
        t.upd.oldImages = s.upd.images ∧ t.upd.trialFlag = true ∧ t.sys.cause = 5 ∧ t.sys.mode = .boot ∧
        t.sys.bootReady = false ∧ t.cfg.active = s.cfg.active ∧ t.cfg.committed = s.cfg.committed) ∧
    (s.upd.st ≠ .activating ∨ s.frm.tickT < s.upd.acceptT + 2000 → exec .activateMarker s = .next s) ∧
    (coreOn s = true → s.upd.st = .trial → trialOk s = true → exec .trialChecks s = .next { s with upd := { s.upd with
      checks := true, confReq := s.upd.confReq || !(act s 0x0601).getLsbD 15 } }) ∧
    (s.upd.st ≠ .trial ∨ trialOk s = false → exec .trialChecks s = .next s) ∧
    (∀ r : RecCtx, UpdAccepted s (.session r) →
      let ready := s.upd.st = .trial ∧ s.upd.checks = true
      (ready → ∃ t, exec (.healthConfirm r) s = .next t ∧ t.upd = { s.upd with confReq := true } ∧
        UpdAnswered s t (.session r) 0x0205 0 []) ∧
      (¬ready → ∃ t, exec (.healthConfirm r) s = .next t ∧ t.upd = s.upd ∧ UpdAnswered s t (.session r) 0x0205 1 []) ∧
      (s.upd.st = .trial → ∃ t, exec (.updateRevert r) s = .next t ∧ t.upd.st = .reverting ∧ t.upd.revert = some 9 ∧
        t.upd.confReq = false ∧ UpdAnswered s t (.session r) 0x0206 0 []) ∧
      (s.upd.st ≠ .trial → ∃ t, exec (.updateRevert r) s = .next t ∧ t.upd = s.upd ∧
        UpdAnswered s t (.session r) 0x0206 1 [])) ∧
    (∀ (acc : Access) (v : HWord),
      (WriteAllowed s acc 0x0603 v → exec (.updHealth acc v) s =
        .next (if (∀ c, acc ≠ .core c) ∧ v = 0x4E1C ∧ s.upd.st = .trial ∧ s.upd.checks = true then
          { s with upd := { s.upd with confReq := true } } else s)) ∧
      (WriteAllowed s acc 0x0604 v → exec (.updRevert acc v) s =
        .next (if (∀ c, acc ≠ .core c) ∧ v = 0x4E2C ∧ s.upd.st = .trial then
          { s with upd := { s.upd with st := .reverting, revert := some (if acc = .groom then 2 else 9), acceptT := s.now,
                                       confReq := false } }
          else s))) ∧
    (∀ t0 : Nat, coreOn s = true → s.upd.trialEnd ≤ t0 → s.upd.st = .trial → exec (.trialTimeout t0) s =
      .next { s with now := max s.now t0, upd := { s.upd with
        st := .reverting, revert := some 1, acceptT := max s.now t0, confReq := false } }) ∧
    (∀ t0 : Nat, t0 < s.upd.trialEnd → exec (.trialTimeout t0) s = .next s) ∧
    (coreOn s = true → s.upd.st = .trial → s.upd.confReq = true →
      ∃ t, exec .confirmation s = .next t ∧ t.upd.st = .idle ∧ t.upd.trialFlag = false ∧ t.upd.old = none ∧
        t.upd.outcome = 1 ∧ t.upd.reason = 0 ∧ t.upd.active = s.upd.active ∧ Raised 85 0 s t ∧
        t.sys.mode = (if s.sys.mode = .trial then .run else s.sys.mode) ∧ t.cfg.active = s.cfg.active ∧
        ∀ c : CoreId, t.core[c].nv = s.core[c].nvNext.getD s.core[c].nv ∧ t.core[c].nvNext = none) ∧
    (s.upd.st ≠ .trial ∨ s.upd.confReq = false → exec .confirmation s = .next s) ∧
    (∀ why, coreOn s = true → s.upd.revert = some why → s.sys.mode = .boot ∨ s.upd.acceptT + 2000 ≤ s.frm.tickT →
      ∃ t, exec .revertMarker s = .next t ∧ t.upd.active = s.upd.old ∧ t.upd.images = s.upd.oldImages ∧
        t.upd.trialFlag = false ∧ t.upd.outcome = 2 ∧ t.upd.reason = why ∧ t.upd.st = .reverting ∧ t.sys.cause = 5 ∧
        t.sys.bootReady = false ∧ (∀ c : CoreId, t.core[c].nv = s.core[c].nv ∧ t.core[c].nvNext = none)) ∧
    (s.upd.revert = none → exec .revertMarker s = .next s)

/-- Where the commands of channels and groups complete (R50, R67 to R79, R89, R99, R120, R123, R144, R146, R156 to R176,
R248 to R250): in the states that the rules name for each, CROSS_SAMPLE, SUSPECT, STUCK_TEST_END, OPEN_LOAD, WIRE_BREAK and
its end, CURRENT_LIMIT, the thermal commands, the ends of shutdowns, the sense path, scans and interleave, the rotation, the
field supply, HOLD, links, fault clears and the Reins answer a next state that shows their effect. -/
def Obligations.ChannelAndGroupCommandsComplete : Prop :=
  (∀ (s : State) (n : ChanId), alive s (chGroup n) = true →
    let x := s.ch[n]
    (modeG s n = 3 → ∀ light before after, CompletesWith (.crossSample n light before after) s fun t => ∀ b : ChanId,
      b ∈ offMates s n → before.getLsbD b.val = light → after.getLsbD b.val = (!light) → t.ch[b].flt.cross = true) ∧
    (modeG s n = 3 → x.out.applied.msb = false → x.flt.busy = 0 → x.di.raw = true →
      CompletesWith (.suspect n) s fun t => t.ch[n].flt.suspect = true) ∧
    (x.flt.suspect = true → darkOwed s n = false → ∀ still,
      CompletesWith (.stuckTestEnd n still) s fun t => t.ch[n].flt.suspect = false ∧ (still = true → t.ch[n].flt.stuck = true)) ∧
    (modeG s n = 3 → (chG s n 0x19).getLsbD 14 = true → x.out.applied.msb = true → x.out.iload < 2 →
      CompletesWith (.openLoad n) s fun t => t.ch[n].flt.opn = true) ∧
    (wbEnabled s n = true → CompletesWith (.wireBreak n) s fun t => t.ch[n].flt.opn = true) ∧
    (x.flt.wbOpen = true → CompletesWith (.wireBreakClear n) s fun t => t.ch[n].flt.opn = false) ∧
    (∀ k ma, limitMa s n = some k → k ≤ ma → CompletesWith (.currentLimit ⟨n, ma⟩) s fun t => t.ch[n].flt.limit = true) ∧
    (modeG s n = 3 ∨ modeG s n = 4 ∨ modeG s n = 5 → ∀ k, CompletesWith (.thermalShutdown n k) s fun t => t.ch[n].flt.therm = true) ∧
    (x.flt.therm = true → x.out.off = true → fld (chG s n 0x19) 10 8 ≠ 0 → busy s n = false → x.flt.tripped = false →
      groupOff s.grp[chGroup n] = false → holdOff s (chGroup n) = false → outBits (modeG s n) (wanted s n) ≠ 0 →
      CompletesWith (.thermalRetry n) s fun t => t.ch[n].out.off = false) ∧
    (x.flt.therm = true → x.out.off = false → fld (chG s n 0x19) 10 8 ≠ 0 →
      CompletesWith (.thermClear n) s fun t => t.ch[n].flt.therm = false) ∧
    (∀ ma, 6000 < (ma.take 8).sum → highest s (chGroup n) ma = some n →
      CompletesWith (.groupOvercurrent (chGroup n) ma) s fun t => t.ch[n].out.off = true) ∧
    (∀ above, CompletesWith (.ovc (chGroup n) above) s fun t => t.grp[chGroup n].ovc = above) ∧
    (x.flt.busy = 1 → CompletesWith (.demagEnd n) s fun t => t.ch[n].flt.busy = 0) ∧
    (x.flt.busy = 2 → CompletesWith (.aoRampdownEnd n) s fun t => t.ch[n].out.stageOn = false) ∧
    (x.flt.busy = 3 → CompletesWith (.dischargeEnd n) s fun t => t.ch[n].flt.busy = 0) ∧
    (∀ w, x.flt.busy = 0 → x.flt.queued = some (.value w) → modeG s n = 4 → groupOff s.grp[chGroup n] = false →
      s.grp[chGroup n].hold = false → safeInForce s n = false → heldOff s n = false →
      CompletesWith (.queuedRequestApply n) s fun t => t.ch[n].flt.queued = none ∧ t.ch[n].out.applied = w &&& 0x80000000) ∧
    (modeG s n = 7 → x.ai.senseOpen = false → CompletesWith (.sensePathOpen n) s fun t => t.ch[n].ai.senseOpen = true) ∧
    (x.ai.senseOpen = true → CompletesWith (.sensePathReclose n) s fun t => t.ch[n].ai.senseTrial = true) ∧
    (x.ai.senseTrial = true → ∀ below, CompletesWith (.sensePathCheck n below) s fun t => t.ch[n].ai.senseOpen = !below) ∧
    (x.out.inrush = true → CompletesWith (.inrushWindowEnd n) s fun t => t.ch[n].out.inrush = false) ∧
    (modeG s n = 5 → x.out.started = true → x.out.off = false → x.out.pwmHigh = true →
      CompletesWith (.pwmTransition n) s fun t => t.ch[n].out.pwmHigh = decide (x.out.pwmLow = 0)) ∧
    (∀ acc, acc ≠ .groom → WriteAllowed s acc (chAddr n.val 0x1B) 0x4B1D →
      CompletesWith (.chFltclr acc n 0x4B1D) s fun t => t.ch[n].flt.clrReq = true)) ∧
  (∀ (s : State) (g : GroupId) (mv : HWord),
    let x := s.grp[g]
    (∀ acc r e wide, ReadAllowed s acc (resAddr g r e) →
      CompletesWith (.cnvResRead acc g r e wide) s fun t => (t.grp[g].lanes[roleIx r]).new.getLsbD e.val = false) ∧
    (coreOn s = true → x.rot.step = 2 → ∀ corr, CompletesWith (.sweepEnd g corr) s fun t => t.grp[g].rot.step = 3) ∧
    (coreOn s = true → x.rot.step = 3 → x.rot.restart = false → fld (act s 0x3006) 9 0 ≤ x.rot.frames → x.rot.pairs ≠ 0 →
      matchOk s x.rot = false → CompletesWith (.overlapEnd g) s fun t => t.grp[g].rot.misCnt = inc16 x.rot.misCnt) ∧
    (alive s g = true →
      (x.scan = true → x.selfChk = false → 0 < laneLen s g .a → (∀ r : Fin 3, x.lanes[r].running = false) →
        CompletesWith (.scanEnd g) s fun t => ∀ r : Fin 3, t.grp[g].lanes[r].entry = 0) ∧
      (coreOn s = true → x.exitReq = true → CompletesWith (.scanModeExit g) s fun t => t.grp[g].exitReq = false) ∧
      (x.ilv = true → x.supply = .normal → 0 < period s.cfg.active → ∀ i,
        CompletesWith (.interleaveSample g 0 i) s fun t => t.ch[chanAt g (fld (grpG s g 0x11) 2 0)].ai.has = true) ∧
      CompletesWith (.lpwarn g mv) s (fun t => t.grp[g].lpwarn = true) ∧
      (x.lpwarn = true → CompletesWith (.lpwarnEnd g mv) s fun t => t.grp[g].lpwarn = false) ∧
      CompletesWith (.uvoff g mv) s (fun t => t.grp[g].supply = .uvoff) ∧
      CompletesWith (.overvoltage g mv) s (fun t => t.grp[g].supply = .overvoltage) ∧
      CompletesWith (.fieldUnpowered g) s (fun t => t.grp[g].supply = .unpowered) ∧
      (x.heard = true → CompletesWith (.holdEntry g) s fun t => t.grp[g].hold = true) ∧
      (x.hold = true → 1 ≤ holdCode x g → CompletesWith (.holdTimeout g) s fun t => t.grp[g].holdDone = true) ∧
      (coreOn s = true → x.link = false → s.wdt.fired = false →
        CompletesWith (.heartbeat g) s fun t => t.grp[g].hbFrm = some s.frm.no) ∧
      (coreOn s = true → CompletesWith (.linkLoss g) s (fun t => t.grp[g].link = true) ∧
        (∀ minor ok, CompletesWith (.ihlileLinkUp g minor ok) s fun t => t.grp[g].link = false) ∧
        CompletesWith (.groupFwLoaded g) s fun t => t.grp[g].bankOk = true)) ∧
    (x.supply = .unpowered ∨ x.supply = .uvoff ∨ x.supply = .overvoltage → ∀ fbs,
      CompletesWith (.supplyRestored g fbs mv) s fun t => t.grp[g].lplus = mv) ∧
    (∀ acc, acc ≠ .groom → WriteAllowed s acc (grpAddr g.val 0x29) 0x4B2D →
      CompletesWith (.grpFltclr acc g 0x4B2D) s fun t => t.grp[g].fltClr = true) ∧
    (coreOn s = true → CompletesWith .faultClearApply s fun t => t.grp[g].fltClr = false)) ∧
  (∀ (s : State) (i : Fin 96), coreOn s = true →
    let x := s.pgv.slots[i]
    (x.st = .pending → x.grantable = true → CompletesWith (.leaveGrant i) s fun t => t.pgv.slots[i].st = .granted) ∧
    (x.st = .granted → x.due = true → s.pgv.wait = [] → CompletesWith (.leaseEnd i) s fun t => t.pgv.slots[i].st = .ended) ∧
    (x.st = .pending → x.deny = true → CompletesWith (.reinsDeny i) s fun t => t.pgv.denyCnt = inc16 s.pgv.denyCnt))

/-- Where the messages, the signed queue and the network complete (R239, R262 to R276, R286, R290, R295 to R306): a message
that passes its checks answers a next state with its response sent or its effect made, a SIGNED joins the queue, and the
commands of the ports, the carriages and the ring show theirs. -/
def Obligations.MessageAndNetworkCommandsComplete : Prop :=
  (∀ (s : State) (m : MsgCtx),
    let sends := fun (t : State) (sid : Option (Fin 16)) (msg : HWord) => ∃ body, Answered s t m sid msg body
    (∀ majors minors, Arrives s m → m.inRec = none → helloOk m majors minors = true → majors.getLsbD 1 = true → m.iface = .host →
      CompletesWith (.hello m majors minors) s fun t => sends t none 0x0001) ∧
    (Accepted s m true true → CompletesWith (.idRead m) s fun t => sends t none 0x0002) ∧
    (Accepted s m false false →
      (∀ cert l, s.sec.sigQ = [] → EngineFree s (max s.now m.t) → certCause s cert true = none → cacheKey (certKey cert) s = some l →
        CompletesWith (.certLoad m cert true) s fun t => t.sec.cache = l ∧ sends t none 0x0004) ∧
      (∀ body i, body.length = 64 → ofBe (slice body 0x38 8) = (devId s).toNat → hsCount s < 4 → freeSid s = some i →
        CompletesWith (.sessInit m body) s fun t => t.sec.sess[i].st = .hs ∧ sends t none 0x0011) ∧
      (∀ (body : List Byte) (i : Fin 16), body.length = 72 → ofBe (slice body 1 7) = 0 → (body.getD 0 0).toNat = i.val →
        s.sec.sess[i].st = .hs → s.sec.sess[i].iface = m.iface → s.sec.sess[i].peer = m.peer →
        max s.now m.t ≤ s.sec.sess[i].lastT + 1000000000 → keyCause s s.sec.sess[i].kid = none → EngineFree s (max s.now m.t) →
        CompletesWith (.sessFin m body true false) s fun t => isLive t i = true ∧ sends t (some i) 0x0013)) ∧
    (Accepted s m true false → EngineFree s (max s.now m.t) → ∀ body, ofBe (slice body 8 8) = (devId s).toNat →
      (ownerBody body 1 = true → s.sec.claimPin = true → s.sec.gen = none →
        CompletesWith (.claim m body true) s fun t => t.sec.gen = some 0) ∧
      (∀ g h : Fin 4, ownerBody body 2 = true → s.sec.gen = some g → h.val = g.val + 1 → (body.getD 1 0).toNat = h.val →
        CompletesWith (.transfer m body true) s fun t => t.sec.gen = some h))) ∧
  (∀ (s : State) (r : RecCtx), RecAccepted s r →
    let sends := fun (t : State) (msg : HWord) => ∃ body, Answered s t r.msg (some r.sid) msg body
    CompletesWith (.sessClose r) s (fun t => t.sec.sess[r.sid] = Sess.reset ∧ sends t 0x0014) ∧
    (∀ a n : HWord, 1 ≤ n.toNat → n.toNat ≤ 64 → a.toNat + n.toNat ≤ 0x8000 →
      CompletesWith (.regRead r a n) s fun t => sends t 0x0100) ∧
    (∀ (a v : HWord), plainCm a.toNat = true → writeCause s (.xiram r.sid) a.toNat v = none →
      CompletesWith (.regWrite r a 1 [v]) s fun t => sends t 0x0101 ∧ t.cfg.staged = s.cfg.staged.setReg a.toNat v) ∧
    (s.log.heldRead = false → ∀ b : Byte, b.toNat < 5 → ∀ n first, CompletesWith (.logRead r b n first false) s fun t => sends t 0x0110) ∧
    (1 ≤ s.sec.sess[r.sid].minor → ∀ k, CompletesWith (.eventSub r k) s fun t => t.sec.sess[r.sid].evMask = k) ∧
    (s.sec.sess[r.sid].iface ≠ .host → sessPerm s r.sid 0 = true → s.sec.bound = none →
      CompletesWith (.cyclicBind r) s fun t => t.sec.bound = some r.sid) ∧
    CompletesWith (.cyclicUnbind r) s (fun t => t.sec.bound ≠ some r.sid) ∧
    (∀ (c : CoreId) (data : List Byte), 2 ≤ s.sec.sess[r.sid].minor → 1 ≤ data.length → data.length ≤ 1024 →
      s.core[c].inbox.length < 8 → CompletesWith (.app r (BitVec.ofNat 8 c.val) (BitVec.ofNat 16 data.length) data) s
        fun t => t.core[c].inbox = s.core[c].inbox ++ [data]) ∧
    (∀ m : SignedMsg, cmdFormat m = true → s.sec.sigQ.length < 32 → CompletesWith (.signed r m) s
      fun t => t.sec.sigQ.length = s.sec.sigQ.length + 1)) ∧
  (∀ (s : State) (i : Fin 16) (t0 : Nat), coreOn s = true →
    (s.sec.sess[i].st = .hs → s.sec.sess[i].lastT + 1000000000 ≤ t0 →
      CompletesWith (.handshakeTimeout i t0) s fun t => t.sec.sess[i] = Sess.reset) ∧
    (isLive s i = true → s.sec.sess[i].lastT + 100000000 * fld (act s 0x0506) 9 0 ≤ t0 →
      CompletesWith (.sessionIdle i t0) s fun t => t.sec.sess[i] = Sess.reset) ∧
    (∀ u, s.sec.lossAt = some u → u + 10000000 * (act s 0x0505).toNat ≤ s.now →
      CompletesWith .sessionLoss s fun t => t.sec.lossAt = none ∧ Raised 74 0 s t) ∧
    (∀ f p, (∀ i : Fin 16, isLive s i = false) → CompletesWith (.peerContextEnd f p t0) s fun t =>
      ∀ x ∈ t.sec.peers, ¬(x.iface = f ∧ x.peer = p ∧ x.t + 10000000000 ≤ t0))) ∧
  (∀ (s : State) (p : PortId), netUp s = true → tapOn s = false →
    (portUp s p = true → netIp s ≠ 0 →
      (∀ mac, CompletesWith (.arpRequest p (netIp s) mac) s fun t => .arp p mac ∈ t.sent) ∧
      (∀ data, CompletesWith (.icmpEcho p (netIp s) false data) s fun t => .icmp p data ∈ t.sent)) ∧
    (∀ f member untag, portUp s p = true → f.fcsOk = true → f.len ≤ 1522 → vlanOf s (vidOf s p f) = some (member, untag) →
      member.getLsbD p.val = true → isGroupMac f.sa = false → s.net.table.length < 1024 →
      CompletesWith (.ethFrameForward p f) s fun t => (f.sa, vidOf s p f, p, f.t) ∈ t.net.table) ∧
    (∀ mac vid t0, CompletesWith (.macAgeing mac vid t0) s fun t =>
      ∀ e ∈ t.net.table, ¬(e.1 = mac ∧ e.2.1 = vid ∧ e.2.2.2 + 300000000000 ≤ t0)) ∧
    ((act s (0x0880 + p.val)).getLsbD 15 = true → s.net.ports[p].gate + 1 < fld (act s (0x0880 + p.val)) 6 0 →
      CompletesWith (.gateEntryEnd p) s fun t => t.net.ports[p].gate = s.net.ports[p].gate + 1) ∧
    (∀ up spd, CompletesWith (.portLinkChange p up spd) s fun t =>
      t.net.ports[p].link = (up && (act s (0x0800 + p.val)).getLsbD 15)) ∧
    (inService s = true → 0 < ringN s.cfg.active →
      (∀ x, portUp s p = true → ringOrig s.cfg.active = true → x.flags.getLsbD 1 = true → isCarriage s x = true → x.da = s.net.mac →
        x.fcsOk = true → feedFits s s.cfg.active x = true → x.frm = s.frm.no + 1 → (∀ y ∈ s.net.feed, y.frm ≠ x.frm) →
        CompletesWith (.feedRx p x) s fun t => t.net.feed = x :: s.net.feed) ∧
      (∀ x, p = 0 → portUp s 0 = true → portUp s 1 = true → ringOrig s.cfg.active = false → isCarriage s x = true → x.flags &&& 6 = 0 →
        x.fcsOk = true → x.frm = s.frm.no → ringMatch s.cfg.active x = true → ownIdx s s.cfg.active x = none →
        CompletesWith (.carriageRx p x false) s fun t => .carriage 1 (carriageBytes x) true ∈ t.sent))) ∧
  (∀ s : State, inService s = true →
    (s.evt.xi = [] → CompletesWith .eventMsg s fun t => t.sent = s.sent) ∧
    (netUp s = true → ringOrig s.cfg.active = true → 0 < ringN s.cfg.active → s.net.launched.map (·.1) ≠ some s.frm.no →
      s.net.xiSent = true → CompletesWith .trainLaunch s fun t => t.net.launched.map (·.1) = some s.frm.no) ∧
    (∀ g d rest t0, s.net.verifyQ = (g, d) :: rest → CompletesWith (.segmentVerified g d t0) s fun t => t.net.verifyQ = rest) ∧
    (∀ x t0, s.net.launched = some x → s.net.out = true → s.net.clearT ≤ t0 →
      CompletesWith (.trainReturn t0) s fun t => t.net.out = false) ∧
    (ringOrig s.cfg.active = true → 3 ≤ s.net.missRun → CompletesWith (.ringOpen s.net.missPort) s fun t => t.net.noReturn = true) ∧
    (3 ≤ s.net.backRun → CompletesWith .ringClose s fun t => t.net.noReturn = false) ∧
    (∀ acc, WriteAllowed s acc 0x029D 0xE7C1 → CompletesWith (.evtRecclr acc 0xE7C1) s fun t =>
      t.evt.recs[evPick s.rdr[rdrOf acc]].count = 0))

/-- Where the commands of the host port, the expansion port, the check-value units, the Logbook, the supervision, the debug
port and the update complete (R140, R142, R278, R309 to R327, R330 to R345, R349 to R376, R429, R431): in the states that
the rules name for each they answer a next state that shows their effect. -/
def Obligations.PortRecordAndUpdateCommandsComplete : Prop :=
  (∀ s : State, coreOn s = true →
    (∀ f : HpFrame, s.hp.ready = true → s.hp.lenNext = none → f.tag = false → f.rsv = false → f.ext = 0 →
      f.trailer = crc32c (padTo (areaLen s.hp.len false) f.payload) → f.cnt.toNat + 1 ≤ areaLen s.hp.len false / 2 →
      s.sec.hpTrust = true → s.sys.recov = false → cmtPend s = false →
      let frame := fun (i : Instr) (cmd : BitVec 4) => f.hcrc = crc8 (reqHead cmd f) →
        CompletesWith i s fun t => t.hp.ready = false ∧ t.sec.refuseCnt = s.sec.refuseCnt ∧ t.hp.crcErr = s.hp.crcErr
      frame (.hpNop 0 f) 0 ∧ frame (.hpRead f) 1 ∧ frame (.hpReadFixed f) 2 ∧
      ((∀ a ∈ blockOf false f, plainCm a = true) → frame (.hpWrite f) 3) ∧
      ((∀ a ∈ blockOf true f, plainCm a = true) → frame (.hpWriteFixed f) 4)) ∧
    (∀ edges t0, s.hp.ready = false → CompletesWith (.hpFrameDiscard edges true t0) s fun t => t.hp.frmErr = inc16 s.hp.frmErr) ∧
    CompletesWith .hpReplyReady s (fun t => t.hp.ready = true) ∧
    (∀ (acc : Access) (v : HWord),
      (WriteAllowed s acc 0x0700 v → v.toNat % 16 = 0 → 96 ≤ v.toNat → v.toNat ≤ 4096 →
        CompletesWith (.hpLen acc v) s fun t => t.hp.lenNext = some v) ∧
      (WriteAllowed s acc 0x0580 v → isHost acc = true → s.sec.mbIn.length + 2 ≤ 1536 →
        CompletesWith (.secMbin acc v) s fun t => t.sec.mbIn.length = s.sec.mbIn.length + 2) ∧
      (WriteAllowed s acc 0x0581 v → isHost acc = true →
        (v.getLsbD 15 = true → v.getLsbD 14 = false → s.sec.mbBusy = false → 0 < v.toNat % 2048 → v.toNat % 2048 ≤ 1536 →
          v.toNat % 2048 ≤ s.sec.mbIn.length → CompletesWith (.mailboxSend acc v) s fun t => t.sec.mbBusy = true) ∧
        (v.getLsbD 15 = false → v.getLsbD 14 = true → CompletesWith (.mailboxClear acc v) s fun t => t.sec.mbIn = [])) ∧
      (ReadAllowed s acc 0x0582 → isHost acc = true → CompletesWith (.mailboxOutRead acc) s fun t => t.sec.mbOut = s.sec.mbOut.drop 2) ∧
      (WriteAllowed s acc 0x0786 v → v.getLsbD 15 = true → ∀ x, xpAccept s v = some x → CompletesWith (.xpStart acc v) s fun t => t.xp.job.isSome = true) ∧
      (∀ x : CtxId, s.crc[x].held = false →
        (WriteAllowed s acc (crcAddr x 0) v → CompletesWith (.crcCfg acc x v) s fun t => t.crc[x].run = crcInit (v.setWidth 2)) ∧
        (WriteAllowed s acc (crcAddr x 1) v → CompletesWith (.crcDin8 acc x v) s fun t =>
          t.crc[x].run = crcByte s.crc[x].poly s.crc[x].run (v.setWidth 8)) ∧
        (WriteAllowed s acc (crcAddr x 2) v → CompletesWith (.crcDin16 acc x v) s fun t =>
          t.crc[x].run = crcByte s.crc[x].poly (crcByte s.crc[x].poly s.crc[x].run (v.extractLsb' 8 8)) (v.setWidth 8)) ∧
        (WriteAllowed s acc (crcAddr x 4) v → CompletesWith (.crcRunRestore acc x v) s fun t =>
          t.crc[x].run = (v ++ s.crc[x].latch : BitVec 32) &&& BitVec.ofNat 32 (2 ^ crcWidth s.crc[x].poly - 1)) ∧
        (ReadAllowed s acc (crcAddr x 3) → CompletesWith (.crcRunSave acc x) s fun t => t.rdr[rdrOf acc].snap.isSome = true)) ∧
      (WriteAllowed s acc 0x0C35 v → v.getLsbD 0 = true → CompletesWith (.logWfarm acc v) s fun t => t.log.bufs[(2 : Fin 5)].armed = true) ∧
      (WriteAllowed s acc 0x0321 v → v.getLsbD 0 = true → CompletesWith (.frzSnap acc v) s fun t => t.frz.snapReq = true) ∧
      (WriteAllowed s acc 0x0301 v → s.wdt.fired = false → serveCode acc ≠ some (fld (act s 0x0300) 14 12) → ∀ cyc,
        CompletesWith (.wdtServe acc v cyc) s fun t => t.wdt.foreign = true) ∧
      (WriteAllowed s acc 0x3005 0x5A1C → cmtPend s = false → CompletesWith (.calUserReset acc 0x5A1C) s fun t =>
        t.cfg.staged.trim = [] ∧ t.cfg.staged.ulin = []) ∧
      (WriteAllowed s acc 0x3003 v → s.cfg.staged.wf = true → ∀ i, calPick s.rdr[rdrOf acc] = some (3, i) →
        CompletesWith (.calDataWrite acc v) s fun t => t.cfg.staged.t3 i = v ++ s.rdr[rdrOf acc].calLo) ∧
      (∀ a same, WriteAllowed s acc a.toNat v → plainCm a.toNat = true →
        CompletesWith (.registerWrite acc a ⟨v, same⟩) s fun t => t.cfg.staged = s.cfg.staged.setReg a.toNat v) ∧
      (∀ (a : HWord) (len : Nat), ReadAllowed s acc a.toNat → snapGroup a.toNat = some (a.toNat, len) →
        CompletesWith (.readWithSnapshot acc a) s fun t => t.rdr[rdrOf acc].snap.isSome = true)) ∧
    (s.sec.mbBusy = true → s.sec.mbReply ≠ [] → CompletesWith .mailboxReply s fun t => t.sec.mbBusy = false ∧ t.sec.mbOut = s.sec.mbReply) ∧
    CompletesWith .xpReadyResume s (fun t => t = s) ∧
    (∀ j rx, s.xp.job = some j → j.started = true → s.xp.fillWait = [] →
      CompletesWith (.xpTransferDone rx) s (fun t => t.xp.done = true ∧ t.xp.job = none) ∧
      (j.rdy = true → CompletesWith (.xpReadyTimeout rx) s fun t => t.xp.timeout = true)) ∧
    (∀ q a, 0x60000000 ≤ a.toNat → a.toNat < 0x64000000 → mayFill s q a = true → xipOn s = true → (act s 0x0781).getLsbD 13 = true →
      xpBusy s = false → CompletesWith (.xipLineFill q a) s fun t => t.xp.fill = some (q, a)) ∧
    (∀ q a res, s.xp.fill = some (q, a) → s.xp.fillWait = [] → CompletesWith (.xipFillDone res) s fun t => t.xp.fill = none) ∧
    (∀ g : GroupId, 254 ≤ s.log.wave[g].samples.length → CompletesWith (.waveBlockWrite g) s fun t => t.log.wave[g].samples = []) ∧
    (s.log.trigFrm = some 0 → CompletesWith .waveCaptureStop s fun t => t.log.bufs[(2 : Fin 5)].trigd = true) ∧
    (∀ d p, CompletesWith (.tempWarn d p) s fun t => t.far.tempWarn = setBit s.far.tempWarn d.val p) ∧
    (∀ d p, CompletesWith (.supplyWarn d p) s fun t => t.far.supWarn = setBit s.far.supWarn d.val p) ∧
    (∀ c : Fin 6, c ≠ 0 → CompletesWith (.backgroundStarved c) s fun t => t.far.starved.getLsbD c.val = true) ∧
    (s.wdt.run = true → s.wdt.fired = false → CompletesWith .watchdogExpiry s fun t => t.wdt.fired = true) ∧
    CompletesWith .jtagFreeze s (fun t => t.frz.req = true) ∧
    (∀ t0, s.frz.req = true → CompletesWith (.freezeStop t0) s fun t => t.sys.mode = .frozen) ∧
    CompletesWith .jtagIdcode s (fun t => .tdo (leBytes 4 Config.idcode.toNat) ∈ t.sent) ∧
    CompletesWith .jtagUnlockStat s (fun t => t.sent.length = s.sent.length + 1) ∧
    (∀ n, CompletesWith (.frzRead n) s fun t => .tdo (List.replicate n 0) ∈ t.sent) ∧
    CompletesWith .jtagUnlockChal s (fun t => t.sec.challenge = Config.random s.sec.draws) ∧
    (∀ resp x, s.sec.dbgBlock = false → s.sec.verifT = [] → unlockCause s resp x.cert x.own = none →
      CompletesWith (.jtagUnlockResp resp x) s fun t => t.sec.dbgUnlk = true) ∧
    (∀ u i e d h k, s.upd.writing = some (u, i, d) → s.upd.imgWait = none → s.upd.leave = true → (stagedEntries s)[i]? = some e →
      (partOf s i ++ d).length < e.length → CompletesWith (.chunkWritten h k) s fun t => t.upd.writing = none ∧ partOf t i = partOf s i ++ d) ∧
    (∀ u i d g, alive s g = true → s.upd.imgWait = some i → s.upd.writing = some (u, i, d) →
      CompletesWith (.groupImageAck g false) s (fun t => t.upd.imgWait = none) ∧
      (s.grp[g].imgAck = false → CompletesWith (.groupImageTimeout g) s fun t => t.upd.imgWait = none)) ∧
    (∀ t0, s.upd.lock ≠ none → s.upd.lockT + 30000000000 ≤ t0 → CompletesWith (.updateLockTimeout t0) s fun t => t.upd.lock = none) ∧
    (s.upd.st = .activating → s.upd.acceptT + 2000 ≤ s.frm.tickT → CompletesWith .activateMarker s fun t => t.upd.trialFlag = true) ∧
    (s.upd.st = .trial → trialOk s = true → CompletesWith .trialChecks s fun t => t.upd.checks = true) ∧
    (s.upd.st = .trial → s.upd.confReq = true → CompletesWith .confirmation s fun t => t.upd.st = .idle ∧ t.upd.outcome = 1) ∧
    (∀ t0, s.upd.st = .trial → s.upd.trialEnd ≤ t0 → CompletesWith (.trialTimeout t0) s fun t => t.upd.revert = some 1) ∧
    (∀ why, s.upd.revert = some why → s.upd.acceptT + 2000 ≤ s.frm.tickT → CompletesWith .revertMarker s fun t => t.upd.outcome = 2) ∧
    (∀ acc, acc = .hostUntagged → s.upd.st = .trial →
      (WriteAllowed s acc 0x0603 0x4E1C → s.upd.checks = true → CompletesWith (.updHealth acc 0x4E1C) s fun t => t.upd.confReq = true) ∧
      (WriteAllowed s acc 0x0604 0x4E2C → CompletesWith (.updRevert acc 0x4E2C) s fun t => t.upd.revert = some 9))) ∧
  (∀ s : State, inService s = true →
    (s.frm.no.toNat % 2 ^ fld (act s 0x0C28) 3 0 = 0 → bufFull s 0 = false → 0 < bufCap s.cfg.active 0 →
      CompletesWith .frameRecord s fun t => t.log.bufs[(0 : Fin 5)].next = s.log.bufs[(0 : Fin 5)].next + 1) ∧
    (∀ t0 temps sups, CompletesWith (.telemetryRecord t0 temps sups) s fun t => ∀ g : GroupId, t.far.link100[g] = 0) ∧
    (s.frz.snapReq = true → CompletesWith .snapshotWrite s fun t => t.frz.snapReq = false) ∧
    (s.frm.no.toNat % 2 ^ fld (act s 0x0310) 3 0 = 0 → CompletesWith .tallyPeriodEnd s fun t => t.tal.started = true) ∧
    ((act s 0x0320).getLsbD 15 = true → CompletesWith .freezeNRequest s fun t => t.frz.req = true) ∧
    (∀ x, s.frm.bgOpen = true →
      CompletesWith (.sramScrubDone x) s (fun t => t.far.starved.getLsbD 1 = false) ∧
      CompletesWith (.logbookScrubDone x) s (fun t => t.far.starved.getLsbD 2 = false) ∧
      CompletesWith (.eflashVerifyDone x) s fun t => t.far.starved.getLsbD 3 = false)) ∧
  (∀ (s : State) (r : RecCtx), UpdAccepted s (.session r) →
    let u : UpdCtx := .session r
    (s.upd.st = .idle → s.upd.trialFlag = false → CompletesWith (.updateBegin r) s fun t => t.upd.lock = some r.sid) ∧
    (holds s u = true →
      CompletesWith (.updateAbort r) s (fun t => t.upd.lock = none) ∧
      (∀ b o m, EngineFree s (updNow s u) → mfStatus s b o m = 0 → CompletesWith (.manifest u b o m) s fun t => t.upd.staged.isSome = true) ∧
      (∀ (i : Byte) (e : MfEntry) (data : List Byte), (stagedEntries s)[i.toNat]? = some e → 4 ≤ data.length → data.length ≤ 1024 →
        data.length % 4 = 0 → (partOf s i.toNat).length + data.length ≤ e.length → e.length < 2 ^ 32 → entryState s e = 0 → s.upd.writing = none →
        CompletesWith (.chunk u i (BitVec.ofNat 16 data.length) (BitVec.ofNat 32 (partOf s i.toNat).length) data) s
          fun t => t.upd.writing = some (u, i.toNat, data))) ∧
    CompletesWith (.updateStatus u) s (fun t => ∃ body, Answered s t r.msg (some r.sid) 0x0204 body) ∧
    (s.upd.st = .trial → s.upd.checks = true → CompletesWith (.healthConfirm r) s fun t => t.upd.confReq = true) ∧
    (s.upd.st = .trial → CompletesWith (.updateRevert r) s fun t => t.upd.revert = some 9))

/-- The words of a core's program (R189, R190, R192 to R199, R202): the words that chapter 08 writes out spell their
instructions, SYSCALL spells the service in its low byte, the words that R190 names and every unassigned major opcode spell
none; a core runs a word as the instruction it spells, and a word that spells none is ILLEGAL. Where a clause rests on a
reading of the model's own, log entry 9 names it. -/
def Obligations.CoreWordsAreInstructions : Prop :=
  (∀ c : CoreId,
    decodeCanter c 0x3A001000 = some (.lui c { rd := 16, rs1 := 0, imm := 0x1000 }) ∧
    decodeCanter c 0xC0200100 = some (.pin c { ra := 1, rb := 0, rc := 0, lo := 0x100 }) ∧
    decodeCanter c 0x4800000C = some (.bcc c { rd := 0, rs1 := 0, imm := 0x000C }) ∧
    decodeCanter c 0x44210008 = some (.srai c { rd := 1, rs1 := 1, imm := 8 }) ∧
    decodeCanter c 0x80408000 = some (.ld c { rt := 2, ab := 0, am := 0, sz := 4, disp := 0 }) ∧
    decodeCanter c 0x00620803 = some (.sub c { rd := 3, rs1 := 2, rs2 := 1, md := 0 }) ∧
    decodeCanter c 0x22300040 = some (.addi c { rd := 17, rs1 := 16, imm := 0x0040 }) ∧
    decodeCanter c 0xC8838800 = some (.pids c { ra := 4, rb := 3, rc := 17, lo := 0 }) ∧
    decodeCanter c 0x04843001 = some (.mul c { rd := 4, rs1 := 4, rs2 := 6, md := 0 }) ∧
    decodeCanter c 0xC4800380 = some (.pout c { ra := 4, rb := 0, rc := 0, lo := 0x380 }) ∧
    decodeCanter c 0xD8000000 = some (.checkin c { ra := 0, rb := 0, rc := 0, lo := 0 }) ∧
    decodeCanter c 0xE8000000 = some (.endTask c { ra := 0, rb := 0, rc := 0, lo := 0 }) ∧
    decodeCanter c 0 = none ∧ decodeCanter c 0xFFFFFFFF = none) ∧
  (∀ (c : CoreId) (w : W32),
    (majorOf w ∈ [0x06, 0x07, 0x13, 0x14, 0x15, 0x16, 0x17, 0x1A, 0x1B, 0x1C, 0x1D, 0x1E, 0x1F] ∨ (0x22 ≤ majorOf w ∧ majorOf w < 0x30) ∨
      0x3A < majorOf w → decodeCanter c w = none) ∧
    (majorOf w = 0x39 → ∃ f : SvcF, f.ra = w.extractLsb' 21 5 ∧ f.rb = w.extractLsb' 16 5 ∧ f.rc = w.extractLsb' 11 5 ∧
      (w.setWidth 8 = 0x03#8 → decodeCanter c w = some (.svcJournal c f)) ∧
      (0x15 ≤ (w.setWidth 8).toNat → decodeCanter c w = some (.svcUnassigned c (w.setWidth 8) f)))) ∧
  ∀ (s : State) (c : CoreId) (w : W32),
    (∀ i, decodeCanter c w = some i → runWord c w s = exec i s) ∧
    (decodeCanter c w = none → Begins s c → exceeds s c s.core[c].freeAt 1 = false →
      ∃ t, runWord c w s = .next t ∧ TakesException s t c 1 0 0 s.core[c].freeAt ∧ ExceptionFrame s t c) ∧
    (fetchOk s c s.core[c].pc = true → lineMissing s c s.core[c].pc = false → runCore c s = runWord c (fetchWord s c) s)
end

