-- ==== Sys2Proof/Laws/Bytes.lean ====
section
/-! SUPPORT. Byte strings: numbers laid out as bytes read back, and their lengths. -/

namespace Sys2Proof.Machine

/-- A number laid out in `n` bytes has `n` of them. -/
@[simp] theorem leBytes_length (n v : Nat) : (leBytes n v).length = n := by
  induction n generalizing v with
  | zero => rfl
  | succ n ih => simp [leBytes, ih]

@[simp] theorem beBytes_length (n v : Nat) : (beBytes n v).length = n := by simp [beBytes]

/-- Laid out least significant first and read back, a number is itself modulo the bytes it had. -/
theorem ofLe_leBytes (n v : Nat) : ofLe (leBytes n v) = v % 256 ^ n := by
  induction n generalizing v with
  | zero => simp [leBytes, ofLe, Nat.mod_one]
  | succ n ih =>
    rw [leBytes, ofLe, ih, BitVec.toNat_ofNat, show 256 ^ (n + 1) = 256 * 256 ^ n from Nat.pow_succ']
    exact (Nat.mod_mul (x := v) (a := 256) (b := 256 ^ n)).symm

/-- The same, most significant first. -/
theorem ofBe_beBytes (n v : Nat) : ofBe (beBytes n v) = v % 256 ^ n := by
  simp [ofBe, beBytes, ofLe_leBytes]

/-- A slice that begins where the first part ends. -/
theorem slice_append_right (l r : List Byte) (n : Nat) : slice (l ++ r) l.length n = r.take n := by
  simp [slice]

/-- A slice of the first part. -/
theorem slice_append_left (l r : List Byte) : slice (l ++ r) 0 l.length = l := by
  simp [slice]

end Sys2Proof.Machine
end

