-- ==== Sys2Proof/Laws/Sparse.lean ====
section
/-! SUPPORT. Sparse stores: reading after writing, and that every memory operation keeps the canonical form. -/

namespace Sys2Proof.Machine

variable {w : Nat} {d : Nat → BitVec w}

/-- A canonical store from `hi` on is canonical from any lower bound on. -/
theorem spWfFrom_mono {m : Sparse w} {lo hi : Nat} (hle : lo ≤ hi) (h : spWfFrom d hi m = true) : spWfFrom d lo m = true := by
  cases m with
  | nil => rfl
  | cons x t =>
    obtain ⟨a, v⟩ := x
    simp only [spWfFrom, Bool.and_eq_true, decide_eq_true_eq] at h ⊢
    exact ⟨⟨by omega, h.1.2⟩, h.2⟩

/-- A key below every key of a canonical store reads as the default. -/
theorem spGet_below {m : Sparse w} {lo k : Nat} (h : spWfFrom d lo m = true) (hk : k < lo) : spGet d m k = d k := by
  induction m generalizing lo with
  | nil => rfl
  | cons x t ih =>
    obtain ⟨a, v⟩ := x
    simp only [spWfFrom, Bool.and_eq_true, decide_eq_true_eq] at h
    have hne : a ≠ k := by omega
    simpa only [spGet, if_neg hne] using ih h.2 (by omega)

/-- Removing a key keeps the canonical form. -/
theorem spDel_wfFrom {m : Sparse w} {lo k : Nat} (h : spWfFrom d lo m = true) : spWfFrom d lo (spDel m k) = true := by
  induction m generalizing lo with
  | nil => rfl
  | cons x t ih =>
    obtain ⟨a, v⟩ := x
    simp only [spWfFrom, Bool.and_eq_true, decide_eq_true_eq] at h
    unfold spDel
    split
    · exact spWfFrom_mono (by omega) h.2
    · simp only [spWfFrom, Bool.and_eq_true, decide_eq_true_eq]
      exact ⟨h.1, ih h.2⟩

/-- Inserting a value that is not the default keeps the canonical form. -/
theorem spIns_wfFrom {m : Sparse w} {lo k : Nat} {x : BitVec w} (hx : x ≠ d k) (hk : lo ≤ k) (h : spWfFrom d lo m = true) :
    spWfFrom d lo (spIns m k x) = true := by
  induction m generalizing lo with
  | nil => simp [spIns, spWfFrom, hx, hk]
  | cons y t ih =>
    obtain ⟨a, v⟩ := y
    simp only [spWfFrom, Bool.and_eq_true, decide_eq_true_eq] at h
    unfold spIns
    split
    · simp only [spWfFrom, Bool.and_eq_true, decide_eq_true_eq]
      exact ⟨⟨hk, hx⟩, ⟨by omega, h.1.2⟩, h.2⟩
    · split
      · subst_vars
        simp only [spWfFrom, Bool.and_eq_true, decide_eq_true_eq]
        exact ⟨⟨hk, hx⟩, h.2⟩
      · simp only [spWfFrom, Bool.and_eq_true, decide_eq_true_eq]
        exact ⟨h.1, ih (by omega) h.2⟩

/-- A write keeps the canonical form. -/
theorem spPut_wf {m : Sparse w} {k : Nat} {x : BitVec w} (h : spWf d m = true) : spWf d (spPut d m k x) = true := by
  unfold spPut
  split
  · exact spDel_wfFrom h
  · exact spIns_wfFrom ‹_› (Nat.zero_le _) h

/-- The removed key reads as the default, every other as before. -/
theorem spGet_spDel {m : Sparse w} {lo k j : Nat} (h : spWfFrom d lo m = true) :
    spGet d (spDel m k) j = if j = k then d k else spGet d m j := by
  induction m generalizing lo with
  | nil => simp only [spDel, spGet]; split <;> simp_all
  | cons y t ih =>
    obtain ⟨a, v⟩ := y
    simp only [spWfFrom, Bool.and_eq_true, decide_eq_true_eq] at h
    unfold spDel
    split
    · subst_vars
      split
      · subst_vars; exact spGet_below h.2 (Nat.lt_succ_self _)
      · simp only [spGet, if_neg (Ne.symm ‹_›)]
    · simp only [spGet]
      split
      · subst_vars; rw [if_neg ‹_›]
      · exact ih h.2

/-- The inserted key reads as its value, every other as before. -/
theorem spGet_spIns {m : Sparse w} {k j : Nat} {x : BitVec w} :
    spGet d (spIns m k x) j = if j = k then x else spGet d m j := by
  induction m with
  | nil =>
    simp only [spIns, spGet, eq_comm (a := k)]
  | cons y t ih =>
    obtain ⟨a, v⟩ := y
    unfold spIns
    by_cases hj : j = k
    · subst hj
      rw [if_pos rfl]
      split
      · simp only [spGet, if_true]
      · split
        · simp only [spGet, if_true]
        · rw [spGet, if_neg ‹_›, ih, if_pos rfl]
    · rw [if_neg hj]
      have hk : ¬k = j := Ne.symm hj
      split
      · rw [spGet, if_neg hk]
      · split
        · subst_vars; rw [spGet, if_neg hk, spGet, if_neg hk]
        · simp only [spGet, ih, if_neg hj]

/-- Reading a canonical store after a write: the written key reads as the value, every other as before. -/
theorem spGet_spPut {m : Sparse w} {k j : Nat} {x : BitVec w} (h : spWf d m = true) :
    spGet d (spPut d m k x) j = if j = k then x else spGet d m j := by
  unfold spPut
  split
  · subst_vars; exact spGet_spDel h
  · exact spGet_spIns

/-- Writing a byte keeps a memory in canonical form. -/
theorem memPut_wf {m : Mem} {a : Nat} {b : Byte} (h : spWf Config.memDefault m = true) :
    spWf Config.memDefault (memPut m a b) = true := spPut_wf h

/-- Writing a byte string keeps a memory in canonical form. -/
theorem memPuts_wf {m : Mem} {a : Nat} {l : List Byte} (h : spWf Config.memDefault m = true) :
    spWf Config.memDefault (memPuts m a l) = true := by
  induction l generalizing m a with
  | nil => exact h
  | cons b t ih => exact ih (memPut_wf h)

/-- A byte outside a written string reads as before. -/
theorem memGet_memPuts_out {m : Mem} {a j : Nat} {l : List Byte} (h : spWf Config.memDefault m = true)
    (hj : j < a ∨ a + l.length ≤ j) : memGet (memPuts m a l) j = memGet m j := by
  induction l generalizing m a with
  | nil => rfl
  | cons b t ih =>
    simp only [List.length_cons] at hj
    rw [memPuts, ih (memPut_wf h) (by omega), memGet, memPut, spGet_spPut h, if_neg (by omega), memGet]

/-- A byte of a written string reads as written. -/
theorem memGet_memPuts_in {m : Mem} {a i : Nat} {l : List Byte} (h : spWf Config.memDefault m = true) (hi : i < l.length) :
    memGet (memPuts m a l) (a + i) = l[i] := by
  induction l generalizing m a i with
  | nil => simp at hi
  | cons b t ih =>
    cases i with
    | zero =>
      rw [memPuts, memGet_memPuts_out (memPut_wf h) (by omega), memGet, memPut, spGet_spPut h, if_pos (by omega)]
      rfl
    | succ n =>
      have := ih (m := memPut m a b) (a := a + 1) (i := n) (memPut_wf h) (by simpa using hi)
      rw [memPuts, show a + (n + 1) = a + 1 + n by omega, this]
      rfl

/-- A write to a register of a set keeps the set in canonical form. -/
theorem setReg_wf {c : CfgSet} {a : Nat} {v : HWord} (h : c.wf = true) : (c.setReg a v).wf = true := by
  simp only [CfgSet.wf, CfgSet.setReg, Bool.and_eq_true] at h ⊢
  exact ⟨⟨⟨⟨⟨⟨spPut_wf h.1.1.1.1.1.1, h.1.1.1.1.1.2⟩, h.1.1.1.1.2⟩, h.1.1.1.2⟩, h.1.1.2⟩, h.1.2⟩, h.2⟩

/-- The memories of the machine right after reset are in canonical form. -/
theorem reset_memories_wf : spWf Config.memDefault State.reset.sram = true ∧ spWf Config.memDefault State.reset.eflash = true ∧
    spWf Config.memDefault State.reset.log.mem = true := ⟨rfl, rfl, rfl⟩

end Sys2Proof.Machine
end

