-- ==== Sys2Proof/Laws/State.lean ====
section
/-! SUPPORT. What each state update changes and leaves: one lemma for each field and update, each true by computation. -/

namespace Sys2Proof.Machine

variable (s : State)

/-! ### modCore -/

@[simp] theorem modCore_now (c : CoreId) (f : Core → Core) : (modCore s c f).now = s.now := rfl
@[simp] theorem modCore_sys (c : CoreId) (f : Core → Core) : (modCore s c f).sys = s.sys := rfl
@[simp] theorem modCore_cfg (c : CoreId) (f : Core → Core) : (modCore s c f).cfg = s.cfg := rfl
@[simp] theorem modCore_cmt (c : CoreId) (f : Core → Core) : (modCore s c f).cmt = s.cmt := rfl
@[simp] theorem modCore_frm (c : CoreId) (f : Core → Core) : (modCore s c f).frm = s.frm := rfl
@[simp] theorem modCore_img (c : CoreId) (f : Core → Core) : (modCore s c f).img = s.img := rfl
@[simp] theorem modCore_grp (c : CoreId) (f : Core → Core) : (modCore s c f).grp = s.grp := rfl
@[simp] theorem modCore_ch (c : CoreId) (f : Core → Core) : (modCore s c f).ch = s.ch := rfl
@[simp] theorem modCore_pi (c : CoreId) (f : Core → Core) : (modCore s c f).pi = s.pi := rfl
@[simp] theorem modCore_rdr (c : CoreId) (f : Core → Core) : (modCore s c f).rdr = s.rdr := rfl
@[simp] theorem modCore_evt (c : CoreId) (f : Core → Core) : (modCore s c f).evt = s.evt := rfl
@[simp] theorem modCore_wdt (c : CoreId) (f : Core → Core) : (modCore s c f).wdt = s.wdt := rfl
@[simp] theorem modCore_tal (c : CoreId) (f : Core → Core) : (modCore s c f).tal = s.tal := rfl
@[simp] theorem modCore_frz (c : CoreId) (f : Core → Core) : (modCore s c f).frz = s.frz := rfl
@[simp] theorem modCore_pgv (c : CoreId) (f : Core → Core) : (modCore s c f).pgv = s.pgv := rfl
@[simp] theorem modCore_sec (c : CoreId) (f : Core → Core) : (modCore s c f).sec = s.sec := rfl
@[simp] theorem modCore_net (c : CoreId) (f : Core → Core) : (modCore s c f).net = s.net := rfl
@[simp] theorem modCore_hp (c : CoreId) (f : Core → Core) : (modCore s c f).hp = s.hp := rfl
@[simp] theorem modCore_xp (c : CoreId) (f : Core → Core) : (modCore s c f).xp = s.xp := rfl
@[simp] theorem modCore_crc (c : CoreId) (f : Core → Core) : (modCore s c f).crc = s.crc := rfl
@[simp] theorem modCore_log (c : CoreId) (f : Core → Core) : (modCore s c f).log = s.log := rfl
@[simp] theorem modCore_far (c : CoreId) (f : Core → Core) : (modCore s c f).far = s.far := rfl
@[simp] theorem modCore_cal (c : CoreId) (f : Core → Core) : (modCore s c f).cal = s.cal := rfl
@[simp] theorem modCore_upd (c : CoreId) (f : Core → Core) : (modCore s c f).upd = s.upd := rfl
@[simp] theorem modCore_sram (c : CoreId) (f : Core → Core) : (modCore s c f).sram = s.sram := rfl
@[simp] theorem modCore_eflash (c : CoreId) (f : Core → Core) : (modCore s c f).eflash = s.eflash := rfl
@[simp] theorem modCore_sent (c : CoreId) (f : Core → Core) : (modCore s c f).sent = s.sent := rfl
@[simp] theorem modCore_pending (c : CoreId) (f : Core → Core) : (modCore s c f).pending = s.pending := rfl

/-! ### modGrp -/

@[simp] theorem modGrp_now (g : GroupId) (f : Grp → Grp) : (modGrp s g f).now = s.now := rfl
@[simp] theorem modGrp_sys (g : GroupId) (f : Grp → Grp) : (modGrp s g f).sys = s.sys := rfl
@[simp] theorem modGrp_cfg (g : GroupId) (f : Grp → Grp) : (modGrp s g f).cfg = s.cfg := rfl
@[simp] theorem modGrp_cmt (g : GroupId) (f : Grp → Grp) : (modGrp s g f).cmt = s.cmt := rfl
@[simp] theorem modGrp_frm (g : GroupId) (f : Grp → Grp) : (modGrp s g f).frm = s.frm := rfl
@[simp] theorem modGrp_core (g : GroupId) (f : Grp → Grp) : (modGrp s g f).core = s.core := rfl
@[simp] theorem modGrp_img (g : GroupId) (f : Grp → Grp) : (modGrp s g f).img = s.img := rfl
@[simp] theorem modGrp_ch (g : GroupId) (f : Grp → Grp) : (modGrp s g f).ch = s.ch := rfl
@[simp] theorem modGrp_pi (g : GroupId) (f : Grp → Grp) : (modGrp s g f).pi = s.pi := rfl
@[simp] theorem modGrp_rdr (g : GroupId) (f : Grp → Grp) : (modGrp s g f).rdr = s.rdr := rfl
@[simp] theorem modGrp_evt (g : GroupId) (f : Grp → Grp) : (modGrp s g f).evt = s.evt := rfl
@[simp] theorem modGrp_wdt (g : GroupId) (f : Grp → Grp) : (modGrp s g f).wdt = s.wdt := rfl
@[simp] theorem modGrp_tal (g : GroupId) (f : Grp → Grp) : (modGrp s g f).tal = s.tal := rfl
@[simp] theorem modGrp_frz (g : GroupId) (f : Grp → Grp) : (modGrp s g f).frz = s.frz := rfl
@[simp] theorem modGrp_pgv (g : GroupId) (f : Grp → Grp) : (modGrp s g f).pgv = s.pgv := rfl
@[simp] theorem modGrp_sec (g : GroupId) (f : Grp → Grp) : (modGrp s g f).sec = s.sec := rfl
@[simp] theorem modGrp_net (g : GroupId) (f : Grp → Grp) : (modGrp s g f).net = s.net := rfl
@[simp] theorem modGrp_hp (g : GroupId) (f : Grp → Grp) : (modGrp s g f).hp = s.hp := rfl
@[simp] theorem modGrp_xp (g : GroupId) (f : Grp → Grp) : (modGrp s g f).xp = s.xp := rfl
@[simp] theorem modGrp_crc (g : GroupId) (f : Grp → Grp) : (modGrp s g f).crc = s.crc := rfl
@[simp] theorem modGrp_log (g : GroupId) (f : Grp → Grp) : (modGrp s g f).log = s.log := rfl
@[simp] theorem modGrp_far (g : GroupId) (f : Grp → Grp) : (modGrp s g f).far = s.far := rfl
@[simp] theorem modGrp_cal (g : GroupId) (f : Grp → Grp) : (modGrp s g f).cal = s.cal := rfl
@[simp] theorem modGrp_upd (g : GroupId) (f : Grp → Grp) : (modGrp s g f).upd = s.upd := rfl
@[simp] theorem modGrp_sram (g : GroupId) (f : Grp → Grp) : (modGrp s g f).sram = s.sram := rfl
@[simp] theorem modGrp_eflash (g : GroupId) (f : Grp → Grp) : (modGrp s g f).eflash = s.eflash := rfl
@[simp] theorem modGrp_sent (g : GroupId) (f : Grp → Grp) : (modGrp s g f).sent = s.sent := rfl
@[simp] theorem modGrp_pending (g : GroupId) (f : Grp → Grp) : (modGrp s g f).pending = s.pending := rfl

/-! ### modCh -/

@[simp] theorem modCh_now (n : ChanId) (f : Chan → Chan) : (modCh s n f).now = s.now := rfl
@[simp] theorem modCh_sys (n : ChanId) (f : Chan → Chan) : (modCh s n f).sys = s.sys := rfl
@[simp] theorem modCh_cfg (n : ChanId) (f : Chan → Chan) : (modCh s n f).cfg = s.cfg := rfl
@[simp] theorem modCh_cmt (n : ChanId) (f : Chan → Chan) : (modCh s n f).cmt = s.cmt := rfl
@[simp] theorem modCh_frm (n : ChanId) (f : Chan → Chan) : (modCh s n f).frm = s.frm := rfl
@[simp] theorem modCh_core (n : ChanId) (f : Chan → Chan) : (modCh s n f).core = s.core := rfl
@[simp] theorem modCh_img (n : ChanId) (f : Chan → Chan) : (modCh s n f).img = s.img := rfl
@[simp] theorem modCh_grp (n : ChanId) (f : Chan → Chan) : (modCh s n f).grp = s.grp := rfl
@[simp] theorem modCh_pi (n : ChanId) (f : Chan → Chan) : (modCh s n f).pi = s.pi := rfl
@[simp] theorem modCh_rdr (n : ChanId) (f : Chan → Chan) : (modCh s n f).rdr = s.rdr := rfl
@[simp] theorem modCh_evt (n : ChanId) (f : Chan → Chan) : (modCh s n f).evt = s.evt := rfl
@[simp] theorem modCh_wdt (n : ChanId) (f : Chan → Chan) : (modCh s n f).wdt = s.wdt := rfl
@[simp] theorem modCh_tal (n : ChanId) (f : Chan → Chan) : (modCh s n f).tal = s.tal := rfl
@[simp] theorem modCh_frz (n : ChanId) (f : Chan → Chan) : (modCh s n f).frz = s.frz := rfl
@[simp] theorem modCh_pgv (n : ChanId) (f : Chan → Chan) : (modCh s n f).pgv = s.pgv := rfl
@[simp] theorem modCh_sec (n : ChanId) (f : Chan → Chan) : (modCh s n f).sec = s.sec := rfl
@[simp] theorem modCh_net (n : ChanId) (f : Chan → Chan) : (modCh s n f).net = s.net := rfl
@[simp] theorem modCh_hp (n : ChanId) (f : Chan → Chan) : (modCh s n f).hp = s.hp := rfl
@[simp] theorem modCh_xp (n : ChanId) (f : Chan → Chan) : (modCh s n f).xp = s.xp := rfl
@[simp] theorem modCh_crc (n : ChanId) (f : Chan → Chan) : (modCh s n f).crc = s.crc := rfl
@[simp] theorem modCh_log (n : ChanId) (f : Chan → Chan) : (modCh s n f).log = s.log := rfl
@[simp] theorem modCh_far (n : ChanId) (f : Chan → Chan) : (modCh s n f).far = s.far := rfl
@[simp] theorem modCh_cal (n : ChanId) (f : Chan → Chan) : (modCh s n f).cal = s.cal := rfl
@[simp] theorem modCh_upd (n : ChanId) (f : Chan → Chan) : (modCh s n f).upd = s.upd := rfl
@[simp] theorem modCh_sram (n : ChanId) (f : Chan → Chan) : (modCh s n f).sram = s.sram := rfl
@[simp] theorem modCh_eflash (n : ChanId) (f : Chan → Chan) : (modCh s n f).eflash = s.eflash := rfl
@[simp] theorem modCh_sent (n : ChanId) (f : Chan → Chan) : (modCh s n f).sent = s.sent := rfl
@[simp] theorem modCh_pending (n : ChanId) (f : Chan → Chan) : (modCh s n f).pending = s.pending := rfl

/-! ### modDi -/

@[simp] theorem modDi_now (n : ChanId) (f : ChDi → ChDi) : (modDi s n f).now = s.now := rfl
@[simp] theorem modDi_sys (n : ChanId) (f : ChDi → ChDi) : (modDi s n f).sys = s.sys := rfl
@[simp] theorem modDi_cfg (n : ChanId) (f : ChDi → ChDi) : (modDi s n f).cfg = s.cfg := rfl
@[simp] theorem modDi_cmt (n : ChanId) (f : ChDi → ChDi) : (modDi s n f).cmt = s.cmt := rfl
@[simp] theorem modDi_frm (n : ChanId) (f : ChDi → ChDi) : (modDi s n f).frm = s.frm := rfl
@[simp] theorem modDi_core (n : ChanId) (f : ChDi → ChDi) : (modDi s n f).core = s.core := rfl
@[simp] theorem modDi_img (n : ChanId) (f : ChDi → ChDi) : (modDi s n f).img = s.img := rfl
@[simp] theorem modDi_grp (n : ChanId) (f : ChDi → ChDi) : (modDi s n f).grp = s.grp := rfl
@[simp] theorem modDi_pi (n : ChanId) (f : ChDi → ChDi) : (modDi s n f).pi = s.pi := rfl
@[simp] theorem modDi_rdr (n : ChanId) (f : ChDi → ChDi) : (modDi s n f).rdr = s.rdr := rfl
@[simp] theorem modDi_evt (n : ChanId) (f : ChDi → ChDi) : (modDi s n f).evt = s.evt := rfl
@[simp] theorem modDi_wdt (n : ChanId) (f : ChDi → ChDi) : (modDi s n f).wdt = s.wdt := rfl
@[simp] theorem modDi_tal (n : ChanId) (f : ChDi → ChDi) : (modDi s n f).tal = s.tal := rfl
@[simp] theorem modDi_frz (n : ChanId) (f : ChDi → ChDi) : (modDi s n f).frz = s.frz := rfl
@[simp] theorem modDi_pgv (n : ChanId) (f : ChDi → ChDi) : (modDi s n f).pgv = s.pgv := rfl
@[simp] theorem modDi_sec (n : ChanId) (f : ChDi → ChDi) : (modDi s n f).sec = s.sec := rfl
@[simp] theorem modDi_net (n : ChanId) (f : ChDi → ChDi) : (modDi s n f).net = s.net := rfl
@[simp] theorem modDi_hp (n : ChanId) (f : ChDi → ChDi) : (modDi s n f).hp = s.hp := rfl
@[simp] theorem modDi_xp (n : ChanId) (f : ChDi → ChDi) : (modDi s n f).xp = s.xp := rfl
@[simp] theorem modDi_crc (n : ChanId) (f : ChDi → ChDi) : (modDi s n f).crc = s.crc := rfl
@[simp] theorem modDi_log (n : ChanId) (f : ChDi → ChDi) : (modDi s n f).log = s.log := rfl
@[simp] theorem modDi_far (n : ChanId) (f : ChDi → ChDi) : (modDi s n f).far = s.far := rfl
@[simp] theorem modDi_cal (n : ChanId) (f : ChDi → ChDi) : (modDi s n f).cal = s.cal := rfl
@[simp] theorem modDi_upd (n : ChanId) (f : ChDi → ChDi) : (modDi s n f).upd = s.upd := rfl
@[simp] theorem modDi_sram (n : ChanId) (f : ChDi → ChDi) : (modDi s n f).sram = s.sram := rfl
@[simp] theorem modDi_eflash (n : ChanId) (f : ChDi → ChDi) : (modDi s n f).eflash = s.eflash := rfl
@[simp] theorem modDi_sent (n : ChanId) (f : ChDi → ChDi) : (modDi s n f).sent = s.sent := rfl
@[simp] theorem modDi_pending (n : ChanId) (f : ChDi → ChDi) : (modDi s n f).pending = s.pending := rfl

/-! ### modOut -/

@[simp] theorem modOut_now (n : ChanId) (f : ChDo → ChDo) : (modOut s n f).now = s.now := rfl
@[simp] theorem modOut_sys (n : ChanId) (f : ChDo → ChDo) : (modOut s n f).sys = s.sys := rfl
@[simp] theorem modOut_cfg (n : ChanId) (f : ChDo → ChDo) : (modOut s n f).cfg = s.cfg := rfl
@[simp] theorem modOut_cmt (n : ChanId) (f : ChDo → ChDo) : (modOut s n f).cmt = s.cmt := rfl
@[simp] theorem modOut_frm (n : ChanId) (f : ChDo → ChDo) : (modOut s n f).frm = s.frm := rfl
@[simp] theorem modOut_core (n : ChanId) (f : ChDo → ChDo) : (modOut s n f).core = s.core := rfl
@[simp] theorem modOut_img (n : ChanId) (f : ChDo → ChDo) : (modOut s n f).img = s.img := rfl
@[simp] theorem modOut_grp (n : ChanId) (f : ChDo → ChDo) : (modOut s n f).grp = s.grp := rfl
@[simp] theorem modOut_pi (n : ChanId) (f : ChDo → ChDo) : (modOut s n f).pi = s.pi := rfl
@[simp] theorem modOut_rdr (n : ChanId) (f : ChDo → ChDo) : (modOut s n f).rdr = s.rdr := rfl
@[simp] theorem modOut_evt (n : ChanId) (f : ChDo → ChDo) : (modOut s n f).evt = s.evt := rfl
@[simp] theorem modOut_wdt (n : ChanId) (f : ChDo → ChDo) : (modOut s n f).wdt = s.wdt := rfl
@[simp] theorem modOut_tal (n : ChanId) (f : ChDo → ChDo) : (modOut s n f).tal = s.tal := rfl
@[simp] theorem modOut_frz (n : ChanId) (f : ChDo → ChDo) : (modOut s n f).frz = s.frz := rfl
@[simp] theorem modOut_pgv (n : ChanId) (f : ChDo → ChDo) : (modOut s n f).pgv = s.pgv := rfl
@[simp] theorem modOut_sec (n : ChanId) (f : ChDo → ChDo) : (modOut s n f).sec = s.sec := rfl
@[simp] theorem modOut_net (n : ChanId) (f : ChDo → ChDo) : (modOut s n f).net = s.net := rfl
@[simp] theorem modOut_hp (n : ChanId) (f : ChDo → ChDo) : (modOut s n f).hp = s.hp := rfl
@[simp] theorem modOut_xp (n : ChanId) (f : ChDo → ChDo) : (modOut s n f).xp = s.xp := rfl
@[simp] theorem modOut_crc (n : ChanId) (f : ChDo → ChDo) : (modOut s n f).crc = s.crc := rfl
@[simp] theorem modOut_log (n : ChanId) (f : ChDo → ChDo) : (modOut s n f).log = s.log := rfl
@[simp] theorem modOut_far (n : ChanId) (f : ChDo → ChDo) : (modOut s n f).far = s.far := rfl
@[simp] theorem modOut_cal (n : ChanId) (f : ChDo → ChDo) : (modOut s n f).cal = s.cal := rfl
@[simp] theorem modOut_upd (n : ChanId) (f : ChDo → ChDo) : (modOut s n f).upd = s.upd := rfl
@[simp] theorem modOut_sram (n : ChanId) (f : ChDo → ChDo) : (modOut s n f).sram = s.sram := rfl
@[simp] theorem modOut_eflash (n : ChanId) (f : ChDo → ChDo) : (modOut s n f).eflash = s.eflash := rfl
@[simp] theorem modOut_sent (n : ChanId) (f : ChDo → ChDo) : (modOut s n f).sent = s.sent := rfl
@[simp] theorem modOut_pending (n : ChanId) (f : ChDo → ChDo) : (modOut s n f).pending = s.pending := rfl

/-! ### modFlt -/

@[simp] theorem modFlt_now (n : ChanId) (f : ChFlt → ChFlt) : (modFlt s n f).now = s.now := rfl
@[simp] theorem modFlt_sys (n : ChanId) (f : ChFlt → ChFlt) : (modFlt s n f).sys = s.sys := rfl
@[simp] theorem modFlt_cfg (n : ChanId) (f : ChFlt → ChFlt) : (modFlt s n f).cfg = s.cfg := rfl
@[simp] theorem modFlt_cmt (n : ChanId) (f : ChFlt → ChFlt) : (modFlt s n f).cmt = s.cmt := rfl
@[simp] theorem modFlt_frm (n : ChanId) (f : ChFlt → ChFlt) : (modFlt s n f).frm = s.frm := rfl
@[simp] theorem modFlt_core (n : ChanId) (f : ChFlt → ChFlt) : (modFlt s n f).core = s.core := rfl
@[simp] theorem modFlt_img (n : ChanId) (f : ChFlt → ChFlt) : (modFlt s n f).img = s.img := rfl
@[simp] theorem modFlt_grp (n : ChanId) (f : ChFlt → ChFlt) : (modFlt s n f).grp = s.grp := rfl
@[simp] theorem modFlt_pi (n : ChanId) (f : ChFlt → ChFlt) : (modFlt s n f).pi = s.pi := rfl
@[simp] theorem modFlt_rdr (n : ChanId) (f : ChFlt → ChFlt) : (modFlt s n f).rdr = s.rdr := rfl
@[simp] theorem modFlt_evt (n : ChanId) (f : ChFlt → ChFlt) : (modFlt s n f).evt = s.evt := rfl
@[simp] theorem modFlt_wdt (n : ChanId) (f : ChFlt → ChFlt) : (modFlt s n f).wdt = s.wdt := rfl
@[simp] theorem modFlt_tal (n : ChanId) (f : ChFlt → ChFlt) : (modFlt s n f).tal = s.tal := rfl
@[simp] theorem modFlt_frz (n : ChanId) (f : ChFlt → ChFlt) : (modFlt s n f).frz = s.frz := rfl
@[simp] theorem modFlt_pgv (n : ChanId) (f : ChFlt → ChFlt) : (modFlt s n f).pgv = s.pgv := rfl
@[simp] theorem modFlt_sec (n : ChanId) (f : ChFlt → ChFlt) : (modFlt s n f).sec = s.sec := rfl
@[simp] theorem modFlt_net (n : ChanId) (f : ChFlt → ChFlt) : (modFlt s n f).net = s.net := rfl
@[simp] theorem modFlt_hp (n : ChanId) (f : ChFlt → ChFlt) : (modFlt s n f).hp = s.hp := rfl
@[simp] theorem modFlt_xp (n : ChanId) (f : ChFlt → ChFlt) : (modFlt s n f).xp = s.xp := rfl
@[simp] theorem modFlt_crc (n : ChanId) (f : ChFlt → ChFlt) : (modFlt s n f).crc = s.crc := rfl
@[simp] theorem modFlt_log (n : ChanId) (f : ChFlt → ChFlt) : (modFlt s n f).log = s.log := rfl
@[simp] theorem modFlt_far (n : ChanId) (f : ChFlt → ChFlt) : (modFlt s n f).far = s.far := rfl
@[simp] theorem modFlt_cal (n : ChanId) (f : ChFlt → ChFlt) : (modFlt s n f).cal = s.cal := rfl
@[simp] theorem modFlt_upd (n : ChanId) (f : ChFlt → ChFlt) : (modFlt s n f).upd = s.upd := rfl
@[simp] theorem modFlt_sram (n : ChanId) (f : ChFlt → ChFlt) : (modFlt s n f).sram = s.sram := rfl
@[simp] theorem modFlt_eflash (n : ChanId) (f : ChFlt → ChFlt) : (modFlt s n f).eflash = s.eflash := rfl
@[simp] theorem modFlt_sent (n : ChanId) (f : ChFlt → ChFlt) : (modFlt s n f).sent = s.sent := rfl
@[simp] theorem modFlt_pending (n : ChanId) (f : ChFlt → ChFlt) : (modFlt s n f).pending = s.pending := rfl

/-! ### modAi -/

@[simp] theorem modAi_now (n : ChanId) (f : ChAi → ChAi) : (modAi s n f).now = s.now := rfl
@[simp] theorem modAi_sys (n : ChanId) (f : ChAi → ChAi) : (modAi s n f).sys = s.sys := rfl
@[simp] theorem modAi_cfg (n : ChanId) (f : ChAi → ChAi) : (modAi s n f).cfg = s.cfg := rfl
@[simp] theorem modAi_cmt (n : ChanId) (f : ChAi → ChAi) : (modAi s n f).cmt = s.cmt := rfl
@[simp] theorem modAi_frm (n : ChanId) (f : ChAi → ChAi) : (modAi s n f).frm = s.frm := rfl
@[simp] theorem modAi_core (n : ChanId) (f : ChAi → ChAi) : (modAi s n f).core = s.core := rfl
@[simp] theorem modAi_img (n : ChanId) (f : ChAi → ChAi) : (modAi s n f).img = s.img := rfl
@[simp] theorem modAi_grp (n : ChanId) (f : ChAi → ChAi) : (modAi s n f).grp = s.grp := rfl
@[simp] theorem modAi_pi (n : ChanId) (f : ChAi → ChAi) : (modAi s n f).pi = s.pi := rfl
@[simp] theorem modAi_rdr (n : ChanId) (f : ChAi → ChAi) : (modAi s n f).rdr = s.rdr := rfl
@[simp] theorem modAi_evt (n : ChanId) (f : ChAi → ChAi) : (modAi s n f).evt = s.evt := rfl
@[simp] theorem modAi_wdt (n : ChanId) (f : ChAi → ChAi) : (modAi s n f).wdt = s.wdt := rfl
@[simp] theorem modAi_tal (n : ChanId) (f : ChAi → ChAi) : (modAi s n f).tal = s.tal := rfl
@[simp] theorem modAi_frz (n : ChanId) (f : ChAi → ChAi) : (modAi s n f).frz = s.frz := rfl
@[simp] theorem modAi_pgv (n : ChanId) (f : ChAi → ChAi) : (modAi s n f).pgv = s.pgv := rfl
@[simp] theorem modAi_sec (n : ChanId) (f : ChAi → ChAi) : (modAi s n f).sec = s.sec := rfl
@[simp] theorem modAi_net (n : ChanId) (f : ChAi → ChAi) : (modAi s n f).net = s.net := rfl
@[simp] theorem modAi_hp (n : ChanId) (f : ChAi → ChAi) : (modAi s n f).hp = s.hp := rfl
@[simp] theorem modAi_xp (n : ChanId) (f : ChAi → ChAi) : (modAi s n f).xp = s.xp := rfl
@[simp] theorem modAi_crc (n : ChanId) (f : ChAi → ChAi) : (modAi s n f).crc = s.crc := rfl
@[simp] theorem modAi_log (n : ChanId) (f : ChAi → ChAi) : (modAi s n f).log = s.log := rfl
@[simp] theorem modAi_far (n : ChanId) (f : ChAi → ChAi) : (modAi s n f).far = s.far := rfl
@[simp] theorem modAi_cal (n : ChanId) (f : ChAi → ChAi) : (modAi s n f).cal = s.cal := rfl
@[simp] theorem modAi_upd (n : ChanId) (f : ChAi → ChAi) : (modAi s n f).upd = s.upd := rfl
@[simp] theorem modAi_sram (n : ChanId) (f : ChAi → ChAi) : (modAi s n f).sram = s.sram := rfl
@[simp] theorem modAi_eflash (n : ChanId) (f : ChAi → ChAi) : (modAi s n f).eflash = s.eflash := rfl
@[simp] theorem modAi_sent (n : ChanId) (f : ChAi → ChAi) : (modAi s n f).sent = s.sent := rfl
@[simp] theorem modAi_pending (n : ChanId) (f : ChAi → ChAi) : (modAi s n f).pending = s.pending := rfl

/-! ### modRdr -/

@[simp] theorem modRdr_now (r : Fin 7) (f : Rdr → Rdr) : (modRdr s r f).now = s.now := rfl
@[simp] theorem modRdr_sys (r : Fin 7) (f : Rdr → Rdr) : (modRdr s r f).sys = s.sys := rfl
@[simp] theorem modRdr_cfg (r : Fin 7) (f : Rdr → Rdr) : (modRdr s r f).cfg = s.cfg := rfl
@[simp] theorem modRdr_cmt (r : Fin 7) (f : Rdr → Rdr) : (modRdr s r f).cmt = s.cmt := rfl
@[simp] theorem modRdr_frm (r : Fin 7) (f : Rdr → Rdr) : (modRdr s r f).frm = s.frm := rfl
@[simp] theorem modRdr_core (r : Fin 7) (f : Rdr → Rdr) : (modRdr s r f).core = s.core := rfl
@[simp] theorem modRdr_img (r : Fin 7) (f : Rdr → Rdr) : (modRdr s r f).img = s.img := rfl
@[simp] theorem modRdr_grp (r : Fin 7) (f : Rdr → Rdr) : (modRdr s r f).grp = s.grp := rfl
@[simp] theorem modRdr_ch (r : Fin 7) (f : Rdr → Rdr) : (modRdr s r f).ch = s.ch := rfl
@[simp] theorem modRdr_pi (r : Fin 7) (f : Rdr → Rdr) : (modRdr s r f).pi = s.pi := rfl
@[simp] theorem modRdr_evt (r : Fin 7) (f : Rdr → Rdr) : (modRdr s r f).evt = s.evt := rfl
@[simp] theorem modRdr_wdt (r : Fin 7) (f : Rdr → Rdr) : (modRdr s r f).wdt = s.wdt := rfl
@[simp] theorem modRdr_tal (r : Fin 7) (f : Rdr → Rdr) : (modRdr s r f).tal = s.tal := rfl
@[simp] theorem modRdr_frz (r : Fin 7) (f : Rdr → Rdr) : (modRdr s r f).frz = s.frz := rfl
@[simp] theorem modRdr_pgv (r : Fin 7) (f : Rdr → Rdr) : (modRdr s r f).pgv = s.pgv := rfl
@[simp] theorem modRdr_sec (r : Fin 7) (f : Rdr → Rdr) : (modRdr s r f).sec = s.sec := rfl
@[simp] theorem modRdr_net (r : Fin 7) (f : Rdr → Rdr) : (modRdr s r f).net = s.net := rfl
@[simp] theorem modRdr_hp (r : Fin 7) (f : Rdr → Rdr) : (modRdr s r f).hp = s.hp := rfl
@[simp] theorem modRdr_xp (r : Fin 7) (f : Rdr → Rdr) : (modRdr s r f).xp = s.xp := rfl
@[simp] theorem modRdr_crc (r : Fin 7) (f : Rdr → Rdr) : (modRdr s r f).crc = s.crc := rfl
@[simp] theorem modRdr_log (r : Fin 7) (f : Rdr → Rdr) : (modRdr s r f).log = s.log := rfl
@[simp] theorem modRdr_far (r : Fin 7) (f : Rdr → Rdr) : (modRdr s r f).far = s.far := rfl
@[simp] theorem modRdr_cal (r : Fin 7) (f : Rdr → Rdr) : (modRdr s r f).cal = s.cal := rfl
@[simp] theorem modRdr_upd (r : Fin 7) (f : Rdr → Rdr) : (modRdr s r f).upd = s.upd := rfl
@[simp] theorem modRdr_sram (r : Fin 7) (f : Rdr → Rdr) : (modRdr s r f).sram = s.sram := rfl
@[simp] theorem modRdr_eflash (r : Fin 7) (f : Rdr → Rdr) : (modRdr s r f).eflash = s.eflash := rfl
@[simp] theorem modRdr_sent (r : Fin 7) (f : Rdr → Rdr) : (modRdr s r f).sent = s.sent := rfl
@[simp] theorem modRdr_pending (r : Fin 7) (f : Rdr → Rdr) : (modRdr s r f).pending = s.pending := rfl

/-! ### modSess -/

@[simp] theorem modSess_now (i : Fin 16) (f : Sess → Sess) : (modSess s i f).now = s.now := rfl
@[simp] theorem modSess_sys (i : Fin 16) (f : Sess → Sess) : (modSess s i f).sys = s.sys := rfl
@[simp] theorem modSess_cfg (i : Fin 16) (f : Sess → Sess) : (modSess s i f).cfg = s.cfg := rfl
@[simp] theorem modSess_cmt (i : Fin 16) (f : Sess → Sess) : (modSess s i f).cmt = s.cmt := rfl
@[simp] theorem modSess_frm (i : Fin 16) (f : Sess → Sess) : (modSess s i f).frm = s.frm := rfl
@[simp] theorem modSess_core (i : Fin 16) (f : Sess → Sess) : (modSess s i f).core = s.core := rfl
@[simp] theorem modSess_img (i : Fin 16) (f : Sess → Sess) : (modSess s i f).img = s.img := rfl
@[simp] theorem modSess_grp (i : Fin 16) (f : Sess → Sess) : (modSess s i f).grp = s.grp := rfl
@[simp] theorem modSess_ch (i : Fin 16) (f : Sess → Sess) : (modSess s i f).ch = s.ch := rfl
@[simp] theorem modSess_pi (i : Fin 16) (f : Sess → Sess) : (modSess s i f).pi = s.pi := rfl
@[simp] theorem modSess_rdr (i : Fin 16) (f : Sess → Sess) : (modSess s i f).rdr = s.rdr := rfl
@[simp] theorem modSess_evt (i : Fin 16) (f : Sess → Sess) : (modSess s i f).evt = s.evt := rfl
@[simp] theorem modSess_wdt (i : Fin 16) (f : Sess → Sess) : (modSess s i f).wdt = s.wdt := rfl
@[simp] theorem modSess_tal (i : Fin 16) (f : Sess → Sess) : (modSess s i f).tal = s.tal := rfl
@[simp] theorem modSess_frz (i : Fin 16) (f : Sess → Sess) : (modSess s i f).frz = s.frz := rfl
@[simp] theorem modSess_pgv (i : Fin 16) (f : Sess → Sess) : (modSess s i f).pgv = s.pgv := rfl
@[simp] theorem modSess_net (i : Fin 16) (f : Sess → Sess) : (modSess s i f).net = s.net := rfl
@[simp] theorem modSess_hp (i : Fin 16) (f : Sess → Sess) : (modSess s i f).hp = s.hp := rfl
@[simp] theorem modSess_xp (i : Fin 16) (f : Sess → Sess) : (modSess s i f).xp = s.xp := rfl
@[simp] theorem modSess_crc (i : Fin 16) (f : Sess → Sess) : (modSess s i f).crc = s.crc := rfl
@[simp] theorem modSess_log (i : Fin 16) (f : Sess → Sess) : (modSess s i f).log = s.log := rfl
@[simp] theorem modSess_far (i : Fin 16) (f : Sess → Sess) : (modSess s i f).far = s.far := rfl
@[simp] theorem modSess_cal (i : Fin 16) (f : Sess → Sess) : (modSess s i f).cal = s.cal := rfl
@[simp] theorem modSess_upd (i : Fin 16) (f : Sess → Sess) : (modSess s i f).upd = s.upd := rfl
@[simp] theorem modSess_sram (i : Fin 16) (f : Sess → Sess) : (modSess s i f).sram = s.sram := rfl
@[simp] theorem modSess_eflash (i : Fin 16) (f : Sess → Sess) : (modSess s i f).eflash = s.eflash := rfl
@[simp] theorem modSess_sent (i : Fin 16) (f : Sess → Sess) : (modSess s i f).sent = s.sent := rfl
@[simp] theorem modSess_pending (i : Fin 16) (f : Sess → Sess) : (modSess s i f).pending = s.pending := rfl

/-! ### modSlot -/

@[simp] theorem modSlot_now (i : Fin 96) (f : Slot → Slot) : (modSlot s i f).now = s.now := rfl
@[simp] theorem modSlot_sys (i : Fin 96) (f : Slot → Slot) : (modSlot s i f).sys = s.sys := rfl
@[simp] theorem modSlot_cfg (i : Fin 96) (f : Slot → Slot) : (modSlot s i f).cfg = s.cfg := rfl
@[simp] theorem modSlot_cmt (i : Fin 96) (f : Slot → Slot) : (modSlot s i f).cmt = s.cmt := rfl
@[simp] theorem modSlot_frm (i : Fin 96) (f : Slot → Slot) : (modSlot s i f).frm = s.frm := rfl
@[simp] theorem modSlot_core (i : Fin 96) (f : Slot → Slot) : (modSlot s i f).core = s.core := rfl
@[simp] theorem modSlot_img (i : Fin 96) (f : Slot → Slot) : (modSlot s i f).img = s.img := rfl
@[simp] theorem modSlot_grp (i : Fin 96) (f : Slot → Slot) : (modSlot s i f).grp = s.grp := rfl
@[simp] theorem modSlot_ch (i : Fin 96) (f : Slot → Slot) : (modSlot s i f).ch = s.ch := rfl
@[simp] theorem modSlot_pi (i : Fin 96) (f : Slot → Slot) : (modSlot s i f).pi = s.pi := rfl
@[simp] theorem modSlot_rdr (i : Fin 96) (f : Slot → Slot) : (modSlot s i f).rdr = s.rdr := rfl
@[simp] theorem modSlot_evt (i : Fin 96) (f : Slot → Slot) : (modSlot s i f).evt = s.evt := rfl
@[simp] theorem modSlot_wdt (i : Fin 96) (f : Slot → Slot) : (modSlot s i f).wdt = s.wdt := rfl
@[simp] theorem modSlot_tal (i : Fin 96) (f : Slot → Slot) : (modSlot s i f).tal = s.tal := rfl
@[simp] theorem modSlot_frz (i : Fin 96) (f : Slot → Slot) : (modSlot s i f).frz = s.frz := rfl
@[simp] theorem modSlot_sec (i : Fin 96) (f : Slot → Slot) : (modSlot s i f).sec = s.sec := rfl
@[simp] theorem modSlot_net (i : Fin 96) (f : Slot → Slot) : (modSlot s i f).net = s.net := rfl
@[simp] theorem modSlot_hp (i : Fin 96) (f : Slot → Slot) : (modSlot s i f).hp = s.hp := rfl
@[simp] theorem modSlot_xp (i : Fin 96) (f : Slot → Slot) : (modSlot s i f).xp = s.xp := rfl
@[simp] theorem modSlot_crc (i : Fin 96) (f : Slot → Slot) : (modSlot s i f).crc = s.crc := rfl
@[simp] theorem modSlot_log (i : Fin 96) (f : Slot → Slot) : (modSlot s i f).log = s.log := rfl
@[simp] theorem modSlot_far (i : Fin 96) (f : Slot → Slot) : (modSlot s i f).far = s.far := rfl
@[simp] theorem modSlot_cal (i : Fin 96) (f : Slot → Slot) : (modSlot s i f).cal = s.cal := rfl
@[simp] theorem modSlot_upd (i : Fin 96) (f : Slot → Slot) : (modSlot s i f).upd = s.upd := rfl
@[simp] theorem modSlot_sram (i : Fin 96) (f : Slot → Slot) : (modSlot s i f).sram = s.sram := rfl
@[simp] theorem modSlot_eflash (i : Fin 96) (f : Slot → Slot) : (modSlot s i f).eflash = s.eflash := rfl
@[simp] theorem modSlot_sent (i : Fin 96) (f : Slot → Slot) : (modSlot s i f).sent = s.sent := rfl
@[simp] theorem modSlot_pending (i : Fin 96) (f : Slot → Slot) : (modSlot s i f).pending = s.pending := rfl

/-! ### modPort -/

@[simp] theorem modPort_now (p : PortId) (f : Port → Port) : (modPort s p f).now = s.now := rfl
@[simp] theorem modPort_sys (p : PortId) (f : Port → Port) : (modPort s p f).sys = s.sys := rfl
@[simp] theorem modPort_cfg (p : PortId) (f : Port → Port) : (modPort s p f).cfg = s.cfg := rfl
@[simp] theorem modPort_cmt (p : PortId) (f : Port → Port) : (modPort s p f).cmt = s.cmt := rfl
@[simp] theorem modPort_frm (p : PortId) (f : Port → Port) : (modPort s p f).frm = s.frm := rfl
@[simp] theorem modPort_core (p : PortId) (f : Port → Port) : (modPort s p f).core = s.core := rfl
@[simp] theorem modPort_img (p : PortId) (f : Port → Port) : (modPort s p f).img = s.img := rfl
@[simp] theorem modPort_grp (p : PortId) (f : Port → Port) : (modPort s p f).grp = s.grp := rfl
@[simp] theorem modPort_ch (p : PortId) (f : Port → Port) : (modPort s p f).ch = s.ch := rfl
@[simp] theorem modPort_pi (p : PortId) (f : Port → Port) : (modPort s p f).pi = s.pi := rfl
@[simp] theorem modPort_rdr (p : PortId) (f : Port → Port) : (modPort s p f).rdr = s.rdr := rfl
@[simp] theorem modPort_evt (p : PortId) (f : Port → Port) : (modPort s p f).evt = s.evt := rfl
@[simp] theorem modPort_wdt (p : PortId) (f : Port → Port) : (modPort s p f).wdt = s.wdt := rfl
@[simp] theorem modPort_tal (p : PortId) (f : Port → Port) : (modPort s p f).tal = s.tal := rfl
@[simp] theorem modPort_frz (p : PortId) (f : Port → Port) : (modPort s p f).frz = s.frz := rfl
@[simp] theorem modPort_pgv (p : PortId) (f : Port → Port) : (modPort s p f).pgv = s.pgv := rfl
@[simp] theorem modPort_sec (p : PortId) (f : Port → Port) : (modPort s p f).sec = s.sec := rfl
@[simp] theorem modPort_hp (p : PortId) (f : Port → Port) : (modPort s p f).hp = s.hp := rfl
@[simp] theorem modPort_xp (p : PortId) (f : Port → Port) : (modPort s p f).xp = s.xp := rfl
@[simp] theorem modPort_crc (p : PortId) (f : Port → Port) : (modPort s p f).crc = s.crc := rfl
@[simp] theorem modPort_log (p : PortId) (f : Port → Port) : (modPort s p f).log = s.log := rfl
@[simp] theorem modPort_far (p : PortId) (f : Port → Port) : (modPort s p f).far = s.far := rfl
@[simp] theorem modPort_cal (p : PortId) (f : Port → Port) : (modPort s p f).cal = s.cal := rfl
@[simp] theorem modPort_upd (p : PortId) (f : Port → Port) : (modPort s p f).upd = s.upd := rfl
@[simp] theorem modPort_sram (p : PortId) (f : Port → Port) : (modPort s p f).sram = s.sram := rfl
@[simp] theorem modPort_eflash (p : PortId) (f : Port → Port) : (modPort s p f).eflash = s.eflash := rfl
@[simp] theorem modPort_sent (p : PortId) (f : Port → Port) : (modPort s p f).sent = s.sent := rfl
@[simp] theorem modPort_pending (p : PortId) (f : Port → Port) : (modPort s p f).pending = s.pending := rfl

/-! ### modBuf -/

@[simp] theorem modBuf_now (b : Fin 5) (f : LogBuf → LogBuf) : (modBuf s b f).now = s.now := rfl
@[simp] theorem modBuf_sys (b : Fin 5) (f : LogBuf → LogBuf) : (modBuf s b f).sys = s.sys := rfl
@[simp] theorem modBuf_cfg (b : Fin 5) (f : LogBuf → LogBuf) : (modBuf s b f).cfg = s.cfg := rfl
@[simp] theorem modBuf_cmt (b : Fin 5) (f : LogBuf → LogBuf) : (modBuf s b f).cmt = s.cmt := rfl
@[simp] theorem modBuf_frm (b : Fin 5) (f : LogBuf → LogBuf) : (modBuf s b f).frm = s.frm := rfl
@[simp] theorem modBuf_core (b : Fin 5) (f : LogBuf → LogBuf) : (modBuf s b f).core = s.core := rfl
@[simp] theorem modBuf_img (b : Fin 5) (f : LogBuf → LogBuf) : (modBuf s b f).img = s.img := rfl
@[simp] theorem modBuf_grp (b : Fin 5) (f : LogBuf → LogBuf) : (modBuf s b f).grp = s.grp := rfl
@[simp] theorem modBuf_ch (b : Fin 5) (f : LogBuf → LogBuf) : (modBuf s b f).ch = s.ch := rfl
@[simp] theorem modBuf_pi (b : Fin 5) (f : LogBuf → LogBuf) : (modBuf s b f).pi = s.pi := rfl
@[simp] theorem modBuf_rdr (b : Fin 5) (f : LogBuf → LogBuf) : (modBuf s b f).rdr = s.rdr := rfl
@[simp] theorem modBuf_evt (b : Fin 5) (f : LogBuf → LogBuf) : (modBuf s b f).evt = s.evt := rfl
@[simp] theorem modBuf_wdt (b : Fin 5) (f : LogBuf → LogBuf) : (modBuf s b f).wdt = s.wdt := rfl
@[simp] theorem modBuf_tal (b : Fin 5) (f : LogBuf → LogBuf) : (modBuf s b f).tal = s.tal := rfl
@[simp] theorem modBuf_frz (b : Fin 5) (f : LogBuf → LogBuf) : (modBuf s b f).frz = s.frz := rfl
@[simp] theorem modBuf_pgv (b : Fin 5) (f : LogBuf → LogBuf) : (modBuf s b f).pgv = s.pgv := rfl
@[simp] theorem modBuf_sec (b : Fin 5) (f : LogBuf → LogBuf) : (modBuf s b f).sec = s.sec := rfl
@[simp] theorem modBuf_net (b : Fin 5) (f : LogBuf → LogBuf) : (modBuf s b f).net = s.net := rfl
@[simp] theorem modBuf_hp (b : Fin 5) (f : LogBuf → LogBuf) : (modBuf s b f).hp = s.hp := rfl
@[simp] theorem modBuf_xp (b : Fin 5) (f : LogBuf → LogBuf) : (modBuf s b f).xp = s.xp := rfl
@[simp] theorem modBuf_crc (b : Fin 5) (f : LogBuf → LogBuf) : (modBuf s b f).crc = s.crc := rfl
@[simp] theorem modBuf_far (b : Fin 5) (f : LogBuf → LogBuf) : (modBuf s b f).far = s.far := rfl
@[simp] theorem modBuf_cal (b : Fin 5) (f : LogBuf → LogBuf) : (modBuf s b f).cal = s.cal := rfl
@[simp] theorem modBuf_upd (b : Fin 5) (f : LogBuf → LogBuf) : (modBuf s b f).upd = s.upd := rfl
@[simp] theorem modBuf_sram (b : Fin 5) (f : LogBuf → LogBuf) : (modBuf s b f).sram = s.sram := rfl
@[simp] theorem modBuf_eflash (b : Fin 5) (f : LogBuf → LogBuf) : (modBuf s b f).eflash = s.eflash := rfl
@[simp] theorem modBuf_sent (b : Fin 5) (f : LogBuf → LogBuf) : (modBuf s b f).sent = s.sent := rfl
@[simp] theorem modBuf_pending (b : Fin 5) (f : LogBuf → LogBuf) : (modBuf s b f).pending = s.pending := rfl

/-! ### modCrc -/

@[simp] theorem modCrc_now (x : CtxId) (f : Crc → Crc) : (modCrc s x f).now = s.now := rfl
@[simp] theorem modCrc_sys (x : CtxId) (f : Crc → Crc) : (modCrc s x f).sys = s.sys := rfl
@[simp] theorem modCrc_cfg (x : CtxId) (f : Crc → Crc) : (modCrc s x f).cfg = s.cfg := rfl
@[simp] theorem modCrc_cmt (x : CtxId) (f : Crc → Crc) : (modCrc s x f).cmt = s.cmt := rfl
@[simp] theorem modCrc_frm (x : CtxId) (f : Crc → Crc) : (modCrc s x f).frm = s.frm := rfl
@[simp] theorem modCrc_core (x : CtxId) (f : Crc → Crc) : (modCrc s x f).core = s.core := rfl
@[simp] theorem modCrc_img (x : CtxId) (f : Crc → Crc) : (modCrc s x f).img = s.img := rfl
@[simp] theorem modCrc_grp (x : CtxId) (f : Crc → Crc) : (modCrc s x f).grp = s.grp := rfl
@[simp] theorem modCrc_ch (x : CtxId) (f : Crc → Crc) : (modCrc s x f).ch = s.ch := rfl
@[simp] theorem modCrc_pi (x : CtxId) (f : Crc → Crc) : (modCrc s x f).pi = s.pi := rfl
@[simp] theorem modCrc_rdr (x : CtxId) (f : Crc → Crc) : (modCrc s x f).rdr = s.rdr := rfl
@[simp] theorem modCrc_evt (x : CtxId) (f : Crc → Crc) : (modCrc s x f).evt = s.evt := rfl
@[simp] theorem modCrc_wdt (x : CtxId) (f : Crc → Crc) : (modCrc s x f).wdt = s.wdt := rfl
@[simp] theorem modCrc_tal (x : CtxId) (f : Crc → Crc) : (modCrc s x f).tal = s.tal := rfl
@[simp] theorem modCrc_frz (x : CtxId) (f : Crc → Crc) : (modCrc s x f).frz = s.frz := rfl
@[simp] theorem modCrc_pgv (x : CtxId) (f : Crc → Crc) : (modCrc s x f).pgv = s.pgv := rfl
@[simp] theorem modCrc_sec (x : CtxId) (f : Crc → Crc) : (modCrc s x f).sec = s.sec := rfl
@[simp] theorem modCrc_net (x : CtxId) (f : Crc → Crc) : (modCrc s x f).net = s.net := rfl
@[simp] theorem modCrc_hp (x : CtxId) (f : Crc → Crc) : (modCrc s x f).hp = s.hp := rfl
@[simp] theorem modCrc_xp (x : CtxId) (f : Crc → Crc) : (modCrc s x f).xp = s.xp := rfl
@[simp] theorem modCrc_log (x : CtxId) (f : Crc → Crc) : (modCrc s x f).log = s.log := rfl
@[simp] theorem modCrc_far (x : CtxId) (f : Crc → Crc) : (modCrc s x f).far = s.far := rfl
@[simp] theorem modCrc_cal (x : CtxId) (f : Crc → Crc) : (modCrc s x f).cal = s.cal := rfl
@[simp] theorem modCrc_upd (x : CtxId) (f : Crc → Crc) : (modCrc s x f).upd = s.upd := rfl
@[simp] theorem modCrc_sram (x : CtxId) (f : Crc → Crc) : (modCrc s x f).sram = s.sram := rfl
@[simp] theorem modCrc_eflash (x : CtxId) (f : Crc → Crc) : (modCrc s x f).eflash = s.eflash := rfl
@[simp] theorem modCrc_sent (x : CtxId) (f : Crc → Crc) : (modCrc s x f).sent = s.sent := rfl
@[simp] theorem modCrc_pending (x : CtxId) (f : Crc → Crc) : (modCrc s x f).pending = s.pending := rfl

/-! ### atTime -/

@[simp] theorem atTime_sys (t : Nat) : (atTime t s).sys = s.sys := rfl
@[simp] theorem atTime_cfg (t : Nat) : (atTime t s).cfg = s.cfg := rfl
@[simp] theorem atTime_cmt (t : Nat) : (atTime t s).cmt = s.cmt := rfl
@[simp] theorem atTime_frm (t : Nat) : (atTime t s).frm = s.frm := rfl
@[simp] theorem atTime_core (t : Nat) : (atTime t s).core = s.core := rfl
@[simp] theorem atTime_img (t : Nat) : (atTime t s).img = s.img := rfl
@[simp] theorem atTime_grp (t : Nat) : (atTime t s).grp = s.grp := rfl
@[simp] theorem atTime_ch (t : Nat) : (atTime t s).ch = s.ch := rfl
@[simp] theorem atTime_pi (t : Nat) : (atTime t s).pi = s.pi := rfl
@[simp] theorem atTime_rdr (t : Nat) : (atTime t s).rdr = s.rdr := rfl
@[simp] theorem atTime_evt (t : Nat) : (atTime t s).evt = s.evt := rfl
@[simp] theorem atTime_wdt (t : Nat) : (atTime t s).wdt = s.wdt := rfl
@[simp] theorem atTime_tal (t : Nat) : (atTime t s).tal = s.tal := rfl
@[simp] theorem atTime_frz (t : Nat) : (atTime t s).frz = s.frz := rfl
@[simp] theorem atTime_pgv (t : Nat) : (atTime t s).pgv = s.pgv := rfl
@[simp] theorem atTime_sec (t : Nat) : (atTime t s).sec = s.sec := rfl
@[simp] theorem atTime_net (t : Nat) : (atTime t s).net = s.net := rfl
@[simp] theorem atTime_hp (t : Nat) : (atTime t s).hp = s.hp := rfl
@[simp] theorem atTime_xp (t : Nat) : (atTime t s).xp = s.xp := rfl
@[simp] theorem atTime_crc (t : Nat) : (atTime t s).crc = s.crc := rfl
@[simp] theorem atTime_log (t : Nat) : (atTime t s).log = s.log := rfl
@[simp] theorem atTime_far (t : Nat) : (atTime t s).far = s.far := rfl
@[simp] theorem atTime_cal (t : Nat) : (atTime t s).cal = s.cal := rfl
@[simp] theorem atTime_upd (t : Nat) : (atTime t s).upd = s.upd := rfl
@[simp] theorem atTime_sram (t : Nat) : (atTime t s).sram = s.sram := rfl
@[simp] theorem atTime_eflash (t : Nat) : (atTime t s).eflash = s.eflash := rfl
@[simp] theorem atTime_sent (t : Nat) : (atTime t s).sent = s.sent := rfl
@[simp] theorem atTime_pending (t : Nat) : (atTime t s).pending = s.pending := rfl

/-! ### The changed element -/

theorem modCore_self (c : CoreId) (f : Core → Core) : (modCore s c f).core[c] = f s.core[c] := by simp [modCore]
theorem modGrp_self (g : GroupId) (f : Grp → Grp) : (modGrp s g f).grp[g] = f s.grp[g] := by simp [modGrp]
theorem modCh_self (n : ChanId) (f : Chan → Chan) : (modCh s n f).ch[n] = f s.ch[n] := by simp [modCh]
theorem modRdr_self (r : Fin 7) (f : Rdr → Rdr) : (modRdr s r f).rdr[r] = f s.rdr[r] := by simp [modRdr]
theorem modSess_self (i : Fin 16) (f : Sess → Sess) : (modSess s i f).sec.sess[i] = f s.sec.sess[i] := by simp [modSess]
theorem modSlot_self (i : Fin 96) (f : Slot → Slot) : (modSlot s i f).pgv.slots[i] = f s.pgv.slots[i] := by simp [modSlot]
theorem modPort_self (p : PortId) (f : Port → Port) : (modPort s p f).net.ports[p] = f s.net.ports[p] := by simp [modPort]
theorem modBuf_self (b : Fin 5) (f : LogBuf → LogBuf) : (modBuf s b f).log.bufs[b] = f s.log.bufs[b] := by simp [modBuf]
theorem modCrc_self (x : CtxId) (f : Crc → Crc) : (modCrc s x f).crc[x] = f s.crc[x] := by simp [modCrc]

/-! ### Every other element -/

/-- An element of a vector other than the one that is set. -/
theorem vec_set_other {α : Type} {n : Nat} (v : Vector α n) {i j : Fin n} (x : α) (h : j ≠ i) : (v.set i x)[j] = v[j] :=
  Vector.getElem_set_ne (i := i.val) (j := j.val) (by omega) (by omega) (by intro e; exact h (Fin.ext e.symm))

theorem modCore_other {c k : CoreId} (f : Core → Core) (h : k ≠ c) : (modCore s c f).core[k] = s.core[k] :=
  vec_set_other _ _ h
theorem modGrp_other {g k : GroupId} (f : Grp → Grp) (h : k ≠ g) : (modGrp s g f).grp[k] = s.grp[k] := vec_set_other _ _ h
theorem modCh_other {n k : ChanId} (f : Chan → Chan) (h : k ≠ n) : (modCh s n f).ch[k] = s.ch[k] := vec_set_other _ _ h
theorem modSess_other {i k : Fin 16} (f : Sess → Sess) (h : k ≠ i) : (modSess s i f).sec.sess[k] = s.sec.sess[k] :=
  vec_set_other _ _ h
theorem modSlot_other {i k : Fin 96} (f : Slot → Slot) (h : k ≠ i) : (modSlot s i f).pgv.slots[k] = s.pgv.slots[k] :=
  vec_set_other _ _ h
theorem modCrc_other {x k : CtxId} (f : Crc → Crc) (h : k ≠ x) : (modCrc s x f).crc[k] = s.crc[k] := vec_set_other _ _ h

/-- Two changes of one core are one. -/
theorem modCore_twice (c : CoreId) (f g : Core → Core) : modCore (modCore s c f) c g = modCore s c fun k => g (f k) := by
  simp [modCore]

end Sys2Proof.Machine
end

