-- ==== Sys2Proof/Laws/Events.lean ====
section
/-! SUPPORT. What raising an event, writing a Logbook record and refusing do, said once. -/

namespace Sys2Proof.Machine

/-- Being equal apart from events is an equivalence. -/
theorem ButEvents.refl (s : State) : ButEvents s s := rfl
theorem ButEvents.symm {s t : State} (h : ButEvents t s) : ButEvents s t := Eq.symm h
theorem ButEvents.trans {s t u : State} (h : ButEvents t s) (h' : ButEvents s u) : ButEvents t u := Eq.trans h h'

/-- A Logbook record changes the Logbook alone. -/
theorem logPut_frame (s : State) (b : Fin 5) (l : List Byte) : (logPut s b l).1 = { s with log := (logPut s b l).1.log } := by
  unfold logPut
  dsimp only
  split
  · rfl
  · split <;> rfl

/-- A Logbook record keeps the Logbook memory in canonical form. -/
theorem logPut_wf {s : State} {b : Fin 5} {l : List Byte} (h : spWf Config.memDefault s.log.mem = true) :
    spWf Config.memDefault (logPut s b l).1.log.mem = true := by
  unfold logPut
  dsimp only
  split
  · exact h
  · split
    · exact h
    · exact memPuts_wf h

/-- A journal entry changes the Logbook alone. -/
theorem journal_frame (s : State) (l : List Byte) : (journal s l).1 = { s with log := (journal s l).1.log } := by
  simp only [journal]
  rw [logPut_frame]

/-- A journal entry keeps the Logbook memory in canonical form. -/
theorem journal_wf {s : State} {l : List Byte} (h : spWf Config.memDefault s.log.mem = true) :
    spWf Config.memDefault (journal s l).1.log.mem = true := logPut_wf h

/-- Of a core, delivery changes its copy of the deliveries and its start requests alone. -/
def DeliveryOnly (k k' : Core) : Prop := k' = { k with dlv := k'.dlv, bgReady := k'.bgReady, bgAgain := k'.bgAgain }

/-- Every core of `t` differs from that of `s` by deliveries alone, and nothing else of the machine differs but events and the
Logbook. -/
def DeliveredOnly (s t : State) : Prop :=
  t = { s with evt := t.evt, log := t.log, core := t.core } ∧ ∀ c : CoreId, DeliveryOnly s.core[c] t.core[c]

theorem DeliveredOnly.refl (s : State) : DeliveredOnly s s := ⟨rfl, fun _ => rfl⟩

theorem DeliveredOnly.trans {s t u : State} (h : DeliveredOnly s t) (h' : DeliveredOnly t u) : DeliveredOnly s u := by
  obtain ⟨h1, h2⟩ := h
  obtain ⟨h3, h4⟩ := h'
  refine ⟨?_, fun c => ?_⟩
  · rw [h3, h1]
  · have a := h2 c
    have b := h4 c
    unfold DeliveryOnly at *
    rw [b, a]

/-- Delivery by itself is a change apart from events. -/
theorem DeliveredOnly.butEvents {s t : State} (h : DeliveredOnly s t) : ButEvents t s := by
  obtain ⟨h1, h2⟩ := h
  have hc : (t.core.map fun k => ({ k with dlv := 0, bgReady := 0, bgAgain := 0 } : Core)) =
      s.core.map fun k => { k with dlv := 0, bgReady := 0, bgAgain := 0 } := by
    ext i hi
    · all_goals
        have := h2 ⟨i, hi⟩
        simp only [DeliveryOnly, Fin.getElem_fin] at this
        simp only [Vector.getElem_map]
        rw [this]
  unfold ButEvents apartFromEvents
  rw [h1]
  simp only [hc]

/-- Delivery to one core. -/
theorem deliverCore_only (e : Fin 128) (c : CoreId) (s : State) : DeliveredOnly s (deliverCore e c s) := by
  unfold deliverCore
  split
  · refine ⟨rfl, fun k => ?_⟩
    by_cases hk : k = c
    · subst hk; rw [modCore_self]; rfl
    · rw [modCore_other s _ hk]; rfl
  · exact DeliveredOnly.refl s

/-- A list of deliveries. -/
theorem each_deliver_only (e : Fin 128) (l : List CoreId) (s : State) : DeliveredOnly s (each l (deliverCore e) s) := by
  unfold each
  induction l generalizing s with
  | nil => exact DeliveredOnly.refl s
  | cons c t ih => exact (deliverCore_only e c s).trans (ih _)

/-- Delivery on every route. -/
theorem deliver_only (e : Fin 128) (p : W32) (s : State) : DeliveredOnly s (deliver e p s) := by
  unfold deliver
  split
  · exact DeliveredOnly.refl s
  · obtain ⟨h1, h2⟩ := each_deliver_only e cores s
    refine ⟨?_, h2⟩
    dsimp only
    rw [h1]

/-- A change of the Logbook alone. -/
theorem DeliveredOnly.of_log {s t : State} (h : t = { s with log := t.log }) : DeliveredOnly s t := by
  refine ⟨?_, fun c => ?_⟩
  · rw [h]
  · rw [h]; rfl

/-- A change of the events alone. -/
theorem DeliveredOnly.of_evt {s t : State} (h : t = { s with evt := t.evt }) : DeliveredOnly s t := by
  refine ⟨?_, fun c => ?_⟩
  · rw [h]
  · rw [h]; rfl

/-- One raise changes events, the Logbook and deliveries alone. -/
theorem raiseOne_only (e : Fin 128) (p : W32) (s : State) : DeliveredOnly s (raiseOne e p s).1 := by
  unfold raiseOne
  dsimp only
  have h1 : DeliveredOnly s { s with evt := { s.evt with
      recs := s.evt.recs.set e { count := inc16 s.evt.recs[e].count, payload := p, frm := s.frm.no.setWidth 16 } } } :=
    DeliveredOnly.of_evt rfl
  refine h1.trans ?_
  generalize ({ s with evt := _ } : State) = s1
  have h2 : DeliveredOnly s1 (journal s1 (evEntry s1 e p)).1 := DeliveredOnly.of_log (journal_frame _ _)
  refine h2.trans ?_
  generalize (journal s1 (evEntry s1 e p)).1 = s2
  refine DeliveredOnly.trans (t := { s2 with evt := { s2.evt with pend := setBit s2.evt.pend e.val true } })
    (DeliveredOnly.of_evt rfl) ?_
  generalize ({ s2 with evt := _ } : State) = s3
  refine (deliver_only e p s3).trans ?_
  split
  · exact DeliveredOnly.of_log rfl
  · exact DeliveredOnly.refl _

/-- Raising an event changes events, the Logbook and deliveries alone (R238, R239). -/
theorem raise_only (e : Fin 128) (p : W32) (s : State) : DeliveredOnly s (raise e p s) := by
  unfold raise
  dsimp only
  split
  · exact (raiseOne_only e p s).trans (raiseOne_only _ _ _)
  · exact raiseOne_only e p s

/-- Raising an event is a change apart from events. -/
theorem raise_frame (e : Fin 128) (p : W32) (s : State) : ButEvents (raise e p s) s := (raise_only e p s).butEvents

/-- Delivery keeps the records, the pending bits and the Logbook. -/
theorem deliver_evt (e : Fin 128) (p : W32) (s : State) :
    (deliver e p s).evt.recs = s.evt.recs ∧ (deliver e p s).evt.pend = s.evt.pend ∧ (deliver e p s).log = s.log := by
  have h : ∀ (l : List CoreId) (s : State), (each l (deliverCore e) s).evt = s.evt ∧ (each l (deliverCore e) s).log = s.log := by
    intro l
    unfold each
    induction l with
    | nil => exact fun s => ⟨rfl, rfl⟩
    | cons c t ih =>
      intro s
      have a := ih (deliverCore e c s)
      refine ⟨a.1.trans ?_, a.2.trans ?_⟩ <;> (unfold deliverCore; split <;> rfl)
  unfold deliver
  split
  · exact ⟨rfl, rfl, rfl⟩
  · dsimp only
    exact ⟨by rw [(h _ _).1], by rw [(h _ _).1], (h _ _).2⟩

/-- What one raise does to the records and the pending bits. -/
theorem raiseOne_recs (e : Fin 128) (p : W32) (s : State) :
    (raiseOne e p s).1.evt.recs =
      s.evt.recs.set e { count := inc16 s.evt.recs[e].count, payload := p, frm := s.frm.no.setWidth 16 } ∧
    (raiseOne e p s).1.evt.pend = setBit s.evt.pend e.val true := by
  unfold raiseOne
  dsimp only
  have hj : ∀ (u : State) (l : List Byte), (journal u l).1.evt = u.evt := fun u l => by rw [journal_frame]
  split
  · dsimp only
    rw [(deliver_evt _ _ _).1, (deliver_evt _ _ _).2.1]
    dsimp only
    rw [hj]
    exact ⟨rfl, rfl⟩
  · rw [(deliver_evt _ _ _).1, (deliver_evt _ _ _).2.1]
    dsimp only
    rw [hj]
    exact ⟨rfl, rfl⟩

/-- A set bit reads 1, and a bit that was 1 stays 1 when another is set. -/
theorem setBit_self {n : Nat} (v : BitVec n) (i : Nat) (h : i < n) : (setBit v i true).getLsbD i = true := by
  simp [setBit, h]
theorem setBit_keeps {n : Nat} (v : BitVec n) (i j : Nat) (h : v.getLsbD j = true) : (setBit v i true).getLsbD j = true := by
  simp [setBit, h]

/-- Raising an event other than LOG_WRAP counts it once, keeps its payload and frame, and makes it pending (R238). -/
theorem raise_raised (e : Fin 128) (p : W32) (s : State) (h : e ≠ evLogWrap) : Raised e p s (raise e p s) := by
  obtain ⟨h1, h2⟩ := raiseOne_recs e p s
  have base : Raised e p s (raiseOne e p s).1 := by
    unfold Raised
    rw [h1, h2]
    exact ⟨by simp, by simp, by simp, setBit_self _ _ e.isLt⟩
  unfold raise
  dsimp only
  split
  · obtain ⟨h3, h4⟩ := raiseOne_recs evLogWrap 1 (raiseOne e p s).1
    unfold Raised at base ⊢
    rw [h3, h4, vec_set_other _ _ h]
    exact ⟨base.1, base.2.1, base.2.2.1, setBit_keeps _ _ _ base.2.2.2⟩
  · exact base

/-- One raise keeps the Logbook memory in canonical form. -/
theorem raiseOne_wf {e : Fin 128} {p : W32} {s : State} (h : spWf Config.memDefault s.log.mem = true) :
    spWf Config.memDefault (raiseOne e p s).1.log.mem = true := by
  unfold raiseOne
  dsimp only
  split
  · dsimp only
    rw [(deliver_evt _ _ _).2.2]
    exact journal_wf h
  · rw [(deliver_evt _ _ _).2.2]
    exact journal_wf h

/-- Raising an event keeps the Logbook memory in canonical form. -/
theorem raise_wf {e : Fin 128} {p : W32} {s : State} (h : spWf Config.memDefault s.log.mem = true) :
    spWf Config.memDefault (raise e p s).log.mem = true := by
  unfold raise
  dsimp only
  split
  · exact raiseOne_wf (raiseOne_wf h)
  · exact raiseOne_wf h

/-- A Logbook record with its LOG_WRAP changes events, the Logbook and deliveries alone. -/
theorem record_only (b : Fin 5) (l : List Byte) (s : State) : DeliveredOnly s (record b l s) := by
  have h : DeliveredOnly s (logPut s b l).1 := DeliveredOnly.of_log (logPut_frame s b l)
  unfold record
  dsimp only
  split
  · exact h.trans (raise_only _ _ _)
  · exact h

/-- A refusal counts itself, is the latest, and changes nothing else but the instant of its event and what raising one does
(R281, R283). -/
theorem refuse_spec (i : Fin 4) (c : Byte) (s : State) : Refused s (refuse i c s) i c ∧
    DeliveredOnly { s with sec := { s.sec with
      refuseCnt := inc16 s.sec.refuseCnt, refuseIf := BitVec.ofNat 2 i.val, refuseCause := c,
      evAt := (refuse i c s).sec.evAt } } (refuse i c s) := by
  unfold refuse
  dsimp only
  split
  · exact ⟨⟨rfl, rfl, rfl⟩, DeliveredOnly.refl _⟩
  · generalize hp : BitVec.ofNat 32 (256 * i.val + c.toNat) = p
    generalize hs : ({ s with sec := _ } : State) = s1
    have h := raise_only 73 p s1
    have hsec : (raise 73 p s1).sec = s1.sec := by rw [h.1]
    refine ⟨?_, ?_⟩
    · unfold Refused
      rw [hsec, ← hs]
      exact ⟨rfl, rfl, rfl⟩
    · rw [hsec, ← hs]
      rw [← hs] at h
      exact h

end Sys2Proof.Machine
end

