-- ==== Sys2Proof/Laws/Canter.lean ====
section
/-! SUPPORT. What the Canter operations do: an instruction that executes retires with its result, flags and costs. -/

namespace Sys2Proof.Machine
/-- The core that was changed reads as changed. -/
theorem modCore_get (s : State) (c : CoreId) (f) : (modCore s c f).core[c] = f s.core[c] := by simp [modCore]

/-- Changing a core changes nothing else. -/
theorem modCore_only (s : State) (c : CoreId) (f) : CoreOnly s (modCore s c f) c := by simp [modCore, CoreOnly]
/-- Moving the instant leaves the cores. -/
@[simp] theorem atCycle_core (n) (s : State) : (atCycle n s).core = s.core := rfl
/-- An instruction that executes and whose effect answers normally retires with its costs and its target (R185, R188). -/
theorem canter_ok {c legal sh eff s s1 tgt i} (h : Executes s c legal sh i)
   (he : eff (issueAt s.core[c] sh) (atCycle (issueAt s.core[c] sh) s) = .ok s1 tgt i) :
   canter c legal sh eff s = modCore s1 c fun k1 =>
          { k1.retire sh (issueAt s.core[c] sh) i with pc := tgt.getD (s.core[c].pc + 4), tw := sh.tw } := by
  obtain ⟨h1,h2,h3,h4⟩ := h
  simp only [canter, h1, h2, h3, h4, he, Bool.not_true, Bool.false_eq_true, if_false]

/-- A register write changes registers alone. -/
theorem wr_fields (k : Core) (f v) : RegistersOnly k (k.wr f v) := by
  unfold Core.wr RegistersOnly; dsimp only; split; · rfl
  split; · rfl
  split <;> rfl

/-- A scoreboard entry changes the scoreboard alone. -/
theorem setReady_fields (k : Core) (t f l) : RegistersOnly k (k.setReady t f l) := by
  unfold Core.setReady RegistersOnly; dsimp only; split; · split <;> rfl
  split <;> rfl

/-- Two changes of registers alone are one. -/
theorem RegistersOnly.trans {k k' k''} (h : RegistersOnly k k') (h' : RegistersOnly k' k'') : RegistersOnly k k'' := by
  unfold RegistersOnly at *; rw [h', h]

/-- Retiring an RR instruction. -/
theorem retire_rr (k : Core) (f : RR) (two rf wf l n i) : k.retire (rrShape f two rf wf l) n i =
  (let k1 := {k with freeAt := n + i}.setReady n f.rd l; if wf then {k1 with readyFl := n + l, macFl := n + l} else k1) := by
  cases wf <;> rfl

/-- The core after an instruction that gave `v` in rd and the flags `fl`. -/
def resultCore (k : Core) (sh : Shape) (rd : BitVec 5) (v : W32) (fl : Flags) (n i : Nat) : Core :=
  { ((({ k with st := fl } : Core).wr rd v).retire sh n i) with pc := k.pc + 4, tw := sh.tw }

/-- A result is one change of one core. -/
theorem wrResult_eq (c : CoreId) (rd : BitVec 5) (v : W32) (fl : Flags) (s) : wrResult c rd v fl s = modCore s c fun k => ({ k with st := fl } : Core).wr rd v := by
  simp only [wrResult, wrReg, wrFlags, modCore_twice]

/-- A scoreboard entry keeps every register. -/
theorem setReady_keeps (k : Core) (t f l) : (k.setReady t f l).d = k.d ∧ (k.setReady t f l).a = k.a ∧ (k.setReady t f l).m = k.m ∧ (k.setReady t f l).st = k.st ∧ (k.setReady t f l).freeAt = k.freeAt := by
  unfold Core.setReady; dsimp only; split
  · split <;> simp
  · split <;> simp

/-- What retiring an RR instruction leaves and sets (R185). -/
theorem retire_rr_keeps (k : Core) (f : RR) (two rf wf : Bool) (l n i : Nat) (k') (h : k' = k.retire (rrShape f two rf wf l) n i) :
   k'.d = k.d ∧ k'.a = k.a ∧ k'.m = k.m ∧ k'.st = k.st ∧ k'.freeAt = n + i ∧ RegistersOnly k k' ∧ (∀ h : f.rd.toNat < 28, k'.ready[f.rd.toNat] = n + l) := by
  subst h
  have h := setReady_keeps { k with freeAt := n + i } n f.rd l
  have h2 := setReady_fields { k with freeAt := n + i } n f.rd l
  have h3 : ∀ h : f.rd.toNat < 28, (Core.setReady { k with freeAt := n + i } n f.rd l).ready[f.rd.toNat] = n + l := by
    intro h; simp only [Core.setReady, if_pos h]; split <;> simp
  have h4 : RegistersOnly k { k with freeAt := n + i } := rfl
  have h5 := h4.trans h2
  rw [retire_rr]
  cases wf
  · exact ⟨h.1, h.2.1, h.2.2.1, h.2.2.2.1, h.2.2.2.2, h5, h3⟩
  · exact ⟨h.1, h.2.1, h.2.2.1, h.2.2.2.1, h.2.2.2.2, h5.trans rfl, h3⟩

/-- A register write changes the flags only through the destination st (R182). -/
theorem wr_st (k : Core) (f : BitVec 5) (v : W32) : (k.wr f v).st = if f = stField then v.setWidth 5 else k.st := by
  have h1 : f = stField ↔ f.toNat = 28 := ⟨fun h => by rw [h]; rfl, fun h => BitVec.eq_of_toNat_eq h⟩
  unfold Core.wr
  by_cases e : f.toNat = 28
  · simp [e, h1]
  · simp only [h1, e, if_false]; split
    · rfl
    · split <;> rfl

/-- A register write keeps the accumulators (R181). -/
theorem wr_m (k : Core) (f : BitVec 5) (v : W32) : (k.wr f v).m = k.m := by
  unfold Core.wr; dsimp only; split
  · rfl
  · split
    · rfl
    · split <;> rfl

/-- An RR result is what `Gives` says. -/
theorem gives_rr (s : State) (c : CoreId) (f : RR) (two rf wf : Bool) (n i l : Nat) (v : W32) (fl : Flags) :
   Gives s (modCore (atCycle n s) c fun k => resultCore k (rrShape f two rf wf l) f.rd v fl n i) c f.rd n i l v fl := by
  have hc : (modCore (atCycle n s) c fun k => resultCore k (rrShape f two rf wf l) f.rd v fl n i).core[c] = 
     resultCore s.core[c] (rrShape f two rf wf l) f.rd v fl n i := modCore_get _ _ _
  obtain ⟨hd, ha, hm, hst, hf, hr, hrd⟩ := retire_rr_keeps (({ s.core[c] with st := fl } : Core).wr f.rd v) f two rf wf l n i _ rfl
  refine ⟨⟨?_, ?_, ?_, ?_, ?_, ?_⟩, ?_, ?_⟩
  · intro r hr
    unfold rdReg
    rw [hc]
    simp only [resultCore, hd, ha]
    split
    · rename_i h16
      simp only [Core.wr]
      split
      · rename_i h; simp [Vector.getElem_set, BitVec.toNat_inj]; 
        by_cases e : f.rd = r
        · simp [e]
        · simp [e, Ne.symm e]
      · rename_i h
        have : r ≠ f.rd := by rintro rfl; omega
        simp only [this, if_false]
        split; · rfl
        split <;> rfl
    · rename_i h16
      have h24 : r.toNat < 24 := hr
      simp only [Core.wr]
      split
      · rename_i h
        have : r ≠ f.rd := by rintro rfl; omega
        simp [this]
      split
      · simp [Vector.getElem_set]
        by_cases e : f.rd = r
        · subst e; simp
        · have : f.rd.toNat - 16 ≠ r.toNat - 16 := by
            intro hh; apply e; apply BitVec.eq_of_toNat_eq; omega
          simp [this, Ne.symm e]
      · have : r ≠ f.rd := by rintro rfl; omega
        simp only [this, if_false]
        split <;> rfl
  · rw [hc]; simp only [resultCore, hst, wr_st]
  · rw [hc]; simp only [resultCore, hm, wr_m]
  · rw [hc]; rfl
  · rw [hc]; exact hf
  · rw [hc]; exact hrd
  · simp [CoreOnly, modCore, atCycle]
  · rw [hc]
    have h1 : RegistersOnly s.core[c] { s.core[c] with st := fl } := rfl
    exact ((h1.trans (wr_fields _ f.rd v)).trans hr).trans rfl

/-- Every instruction that is `rrInstr` of an operation gives what that operation says (R190). -/
theorem rr_gives {mk : CoreId → RR → Instr} {two rf wf i l} {op op' : AluOp}
   (h : ∀ c f s, exec (mk c f) s = .next (rrInstr c f two rf wf i l op s)) (ho : ∀ x y f, op x y f = op' x y f) :
   RrGives mk two rf wf i l op' := by
  intro s c f hx n r
  refine ⟨_, h c f s, ?_⟩
  have e : rrInstr c f two rf wf i l op s = modCore (wrResult c f.rd r.1 r.2 (atCycle n s)) c fun k1 =>
     { k1.retire (rrShape f two rf wf l) n i with pc := s.core[c].pc + 4, tw := false } := 
    canter_ok hx (tgt := none) (by dsimp only; rw [ho]; rfl)
  rw [e, wrResult_eq, modCore_twice]
  have g := gives_rr s c f two rf wf n i l r.1 r.2
  have e2 : ∀ F G : Core → Core, F s.core[c] = G s.core[c] → modCore (atCycle n s) c F = modCore (atCycle n s) c G := by
    intro F G h; unfold modCore; rw [atCycle_core, h]
  rw [e2 _ (fun k => resultCore k (rrShape f two rf wf l) f.rd r.1 r.2 n i) rfl]
  exact g

end Sys2Proof.Machine
end

