-- ==== Sys2Proof/Machine/Pins.lean ====
section
/-! DEFINITION. The logic-side pins as functions of the state (R155, R239, R320, R352, R395, R396). VIN and the VIO banks are
present in every state: without them the pins of a bank are released. -/

namespace Sys2Proof.Machine

/-- The level of a pin; `z` is high impedance. -/
inductive Level | low | high | z
  deriving DecidableEq, Repr

/-- What the device as a whole is doing, for its pins (the columns of R395, and R352). -/
inductive PinPhase | inReset | boot | frozen | running
  deriving DecidableEq, Repr

/-- The phase of a state. -/
def pinPhase (s : State) : PinPhase :=
  if s.sys.mode = .off ∨ s.sys.bootReady = false then .inReset
  else if s.sys.mode = .boot then .boot
  else if s.sys.mode = .frozen then .frozen
  else .running

/-- Low when a condition holds, else released: an open-drain pin. -/
def openDrain (b : Bool) : Level := if b then .low else .z
/-- A driven pin. -/
def driven (b : Bool) : Level := if b then .high else .low

/-- A pin that R395 and R352 give in every phase but running. -/
def pinIn (p : PinPhase) (inReset boot frozen running : Level) : Level :=
  match p with
  | .inReset => inReset
  | .boot => boot
  | .frozen => frozen
  | .running => running

/-- Some group reports a fault (R155). -/
def anyFault (s : State) : Bool := groups.any fun g => (grpFaultReg s g).getLsbD 15
/-- Some output is not known safe (R155, R396). -/
def anyUnsafe (s : State) : Bool :=
  channels.any (fun n => (s.ch[n]).flt.unsafe_ || forced s n) || groups.any fun g => (s.grp[g]).link

/-- FAULT_N (R155, R396). -/
def pinFaultN (s : State) : Level := pinIn (pinPhase s) .low .low .low (openDrain (anyFault s))
/-- SAFE_N (R155, R396). -/
def pinSafeN (s : State) : Level := pinIn (pinPhase s) .low .low .low (openDrain (anyUnsafe s))
/-- IRQ_N: low while an event delivered to it is pending (R239). -/
def pinIrqN (s : State) : Level := pinIn (pinPhase s) .z .z .z (openDrain (s.evt.irq ≠ 0))
/-- HP_READY (R316). -/
def pinHpReady (s : State) : Level := pinIn (pinPhase s) .z (driven s.hp.ready) .low (driven s.hp.ready)
/-- The device that a transfer or a line fill selects on the expansion port (R318, R323). -/
def xpSelected (s : State) : Option (BitVec 4) :=
  match s.xp.job with
  | some j => if j.started then some j.dev else s.xp.fill.map fun _ => 0
  | none => s.xp.fill.map fun _ => 0
/-- XP_SELi_N (R320): one of four selects in direct mode, the bits of the device number in decoded mode. -/
def pinXpSel (s : State) (i : Fin 4) : Level :=
  pinIn (pinPhase s) .z .high .high (driven (match xpSelected s with
    | none => true
    | some d => if s.sys.xpMode then d.getLsbD i.val else decide (d.toNat ≠ i.val)))
/-- Bit `i` of a byte string, most significant bit of the first byte first (R307). -/
def msbBit (l : List Byte) (i : Nat) : Bool := (l.getD (i / 8) 0).getLsbD (7 - i % 8)
/-- XP_MOSI after `i` rising edges of a command (R307, R395): bit `i` of what is sent; high impedance while no select is asserted. -/
def pinXpMosi (s : State) (cmd : List Byte) (i : Nat) : Level :=
  pinIn (pinPhase s) .z .low .low (if (xpSelected s).isNone then .z else driven (msbBit cmd i))
/-- XP_SCLK between edges (R307, R395): idle low. -/
def pinXpSclk (s : State) (high : Bool) : Level :=
  pinIn (pinPhase s) .z .low .low (driven (high && (xpSelected s).isSome))
/-- HP_MISO (R307, R352, R395): with HP_CS_N low, the bit that `i` rising edges of the frame have left on it; high impedance with
HP_CS_N high. -/
def pinHpMiso (s : State) (frame : Option (List Byte × Nat)) : Level :=
  let l := match frame with
    | some (bytes, i) => driven (msbBit bytes i)
    | none => .z
  pinIn (pinPhase s) .z l .z l
/-- PHY_RST_N: driven high from step 8 of BOOT, which RESET_RELEASE runs; low in FROZEN (R352, R395). -/
def pinPhyRstN (s : State) : Level := pinIn (pinPhase s) .z .high .low .high

end Sys2Proof.Machine
end

