-- ==== Sys2Proof/WellFormed.lean ====
section
/-! DEFINITION. Which commands are well formed: an observation of the environment gives one value for each group, channel,
die or byte it names. Messages have no check here: the device itself refuses an ill-formed message (R281). -/

namespace Sys2Proof

/-- A tick names every group and every channel. -/
def TickIn.wf (i : TickIn) : Bool := i.lplus.length = 8 && i.iload.length = 64 && i.temp.length = 8 && i.sample.length = 64

/-- The boot inputs name every image and every group. -/
def BootIn.wf (b : BootIn) : Bool := b.imageSigOk.length = 4 && b.imageCertOk.length = 4 && b.linkMinor.length = 8

/-- An input transfer's report names every group. -/
def InXferIn.wf (x : InXferIn) : Bool := x.power.length = 8 && x.dieTemp.length = 8

/-- A well-formed command. -/
def Instr.wf : Instr → Bool
  | .frameTick i => i.wf
  | .bootEnd i _ => i.wf
  | .resetRelease b => b.wf
  | .inXferEnd _ x => x.wf
  | .groupOvercurrent _ ma => ma.length = 8
  | .sweepEnd _ corr => corr.length = 144
  | .telemetryRecord _ temps sups => temps.length = 10 && sups.length = 4
  | .xipFillDone (.line bytes) => bytes.length = 16
  | .hpNop cmd _ => cmd = 0 || 4 < cmd.toNat
  | _ => true

end Sys2Proof
end

