-- ==== Sys2Proof/Tests/Slice0.lean ====
section
/-! SUPPORT. Tests: an ill-formed term for each check of WellFormed.lean; and, for the statements of Obligations.lean, states
and operands that meet their hypotheses clause by clause, most with the value the rules give for them. Expected values are
worked out by hand from the rules named. -/

open Sys2Proof Sys2Proof.Machine
namespace Sys2Proof.Tests

set_option Elab.async false

/-- The state after a command. -/
def run (i : Instr) (s : State) : State := match exec i s with
  | .next t => t
  | _ => s

/-- The running device in a mode, with the listed registers in the active, the staged and every group's set. -/
def dev (m : Mode) (l : List (Nat × HWord)) : State :=
  let c := l.foldl (fun c p => c.setReg p.1 p.2) CfgSet.none
  { State.reset with
    sys := { State.reset.sys with mode := m, bootReady := true }
    cfg := { State.reset.cfg with active := c, staged := c }
    grp := State.reset.grp.map fun g => { g with portion := c, supply := .normal, scan := false, heard := true } }

/-- The same with one Gait slot of an action and an argument (R33, R34). -/
def gait (m : Mode) (l : List (Nat × HWord)) (a : HWord) : State :=
  let s := dev m ((0x0110, 1) :: l)
  { s with cfg := { s.cfg with active := { s.cfg.active with gaitAct := spPut gaitActReset s.cfg.active.gaitAct 0 a } } }

/-- Core 0 runs a foreground task whose registers d0, d1, … and a0, a1, … hold the listed values. -/
def cpu (l : List W32) (a : List W32 := []) : State := modCore (dev .run []) 0 fun k =>
  { k with run := .fg 0 0, d := Vector.ofFn fun i => l.getD i.val 0, a := Vector.ofFn fun i => a.getD i.val 0 }

/-- The same in a background task. -/
def bgCpu (l : List W32) (a : List W32 := []) : State := modCore (cpu l a) 0 fun k => { k with run := .bg 1 }

/-- With HP_TRUST set (R280). -/
def trusted (s : State) : State := { s with sec := { s.sec with hpTrust := true } }

/-- A core's data memory. -/
def withDmem (s : State) (m : Mem) : State := modCore s 0 fun k => { k with dmem := m }

/-! ### Ill-formed commands -/

def tick : TickIn :=
  { t := 1000000, dt := 1000000, onSource := true, lplus := List.replicate 8 0, iload := List.replicate 64 0
    temp := List.replicate 8 0, limited := 0, compliance := 0, sample := List.replicate 64 0 }
def bootIn : BootIn :=
  { bootsel := true, xpMode := true, claimN := true, strapA := none, strapB := none, firmwareOk := true, manifestOk := true
    switchOk := true, farrierOk := true, imageSigOk := [true, true, true, true], imageCertOk := [true, true, true, true], manifestCertOk := true, groupBankOk := 0xFF
    linkMinor := List.replicate 8 (some 0), factoryBad := [], settingsReadable := true, timeValid := false, t := 0 }
def inx : InXferIn :=
  { linkErr := 0, chanMismatch := 0, groupMismatch := 0, power := List.replicate 8 none, dieTemp := List.replicate 8 0 }
def hpf : HpFrame :=
  { addr := 0, cnt := 0, seq := 0, tag := false, rsv := false, ext := 0, hcrc := 0, payload := [], trailer := 0
    tagOk := false, tagCnt := 0, sid := 0, t := 0 }

theorem test_wellFormed : Instr.wf (.frameTick tick) = true ∧ Instr.wf (.bootEnd tick 9) = true ∧ Instr.wf (.resetRelease bootIn) = true ∧
    Instr.wf (.inXferEnd 0 inx) = true ∧ Instr.wf (.hpNop 0 hpf) = true ∧ Instr.wf (.hpNop 5 hpf) = true := by decide +kernel
theorem test_illFormed_tick : Instr.wf (.frameTick { tick with lplus := [] }) = false ∧
    Instr.wf (.frameTick { tick with iload := [] }) = false ∧ Instr.wf (.frameTick { tick with temp := [0] }) = false ∧
    Instr.wf (.frameTick { tick with sample := [] }) = false ∧ Instr.wf (.bootEnd { tick with temp := [0] } 0) = false := by
  decide +kernel
theorem test_illFormed_boot : Instr.wf (.resetRelease { bootIn with imageSigOk := [] }) = false ∧
    Instr.wf (.resetRelease { bootIn with linkMinor := [] }) = false ∧
    Instr.wf (.resetRelease { bootIn with imageCertOk := [] }) = false := by decide +kernel
theorem test_illFormed_inXfer : Instr.wf (.inXferEnd 0 { inx with power := [] }) = false ∧
    Instr.wf (.inXferEnd 0 { inx with dieTemp := [] }) = false := by decide +kernel
theorem test_illFormed_others : Instr.wf (.groupOvercurrent 0 []) = false ∧ Instr.wf (.sweepEnd 0 []) = false ∧
    Instr.wf (.telemetryRecord 0 [] [0, 0, 0, 0]) = false ∧ Instr.wf (.telemetryRecord 0 (List.replicate 10 0) []) = false ∧
    Instr.wf (.xipFillDone (.line [])) = false ∧ Instr.wf (.hpNop 1 hpf) = false ∧ Instr.wf (.hpNop 4 hpf) = false := by
  decide +kernel

/-! ### The queue -/

theorem test_decodeTableWord_none (n w : Nat) (s : State) : decodeTableWord n w = none ∧ s.withFetchWord n w = s := ⟨rfl, rfl⟩
theorem wit_step : ({ State.reset with pending := [.jtagIdcode] } : State).pending = .jtagIdcode :: [] := rfl
theorem wit_step_idle : State.reset.pending = [] ∧ step State.reset = .next State.reset := ⟨rfl, rfl⟩
theorem wit_storesCanonical : StoresCanonical { State.reset with sram := [(0, 1)] } := by
  have hc : ∀ c : CoreId, State.reset.core[c].nvNext = none ∧ State.reset.core[c].dmem = [] ∧ State.reset.core[c].imem = [] ∧
      State.reset.core[c].nv = [] := by decide +kernel
  have hg : ∀ g : GroupId, State.reset.grp[g].portion.wf = true ∧ State.reset.grp[g].portionNext = none := by decide +kernel
  refine ⟨by decide +kernel, by decide +kernel, by decide +kernel, fun c => ?_, by decide +kernel, by decide +kernel,

    fun c h => absurd (show (none : Option CfgSet) = some c from h) (by simp),
    fun c h => absurd (show (none : Option CfgSet) = some c from h) (by simp),
    fun c h => absurd (show (none : Option CfgSet) = some c from h) (by simp), fun g => ⟨(hg g).1, fun c h => ?_⟩, by decide +kernel⟩
  · obtain ⟨h1, h2, h3, h4⟩ := hc c
    refine ⟨?_, ?_, ?_, fun m h => ?_⟩
    · show spWf _ State.reset.core[c].dmem = true
      rw [h2]; rfl
    · show spWf _ State.reset.core[c].imem = true
      rw [h3]; rfl
    · show spWf _ State.reset.core[c].nv = true
      rw [h4]; rfl
    · exact absurd (h1.symm.trans h) (by simp)
  · exact absurd ((hg g).2.symm.trans h) (by simp)
theorem wit_frozen : (dev .frozen []).sys.mode = .frozen ∧ (dev .frozen []).sys.bootReady = true := by decide +kernel
theorem wit_modeChanges : exec (.modeChange 0) { dev .run [] with sys := { (dev .run []).sys with safeReq := true } } =
      .next (run (.modeChange 0) { dev .run [] with sys := { (dev .run []).sys with safeReq := true } }) ∧
    (run (.modeChange 0) { dev .run [] with sys := { (dev .run []).sys with safeReq := true } }).sys.mode = .safe :=
  ⟨rfl, by decide +kernel⟩

/-! ### Canter cores (R180 to R231) -/

theorem wit_executes : Executes (cpu [5, 7]) 0 (rrLegal ⟨2, 0, 1, 0⟩ true false) (rrShape ⟨2, 0, 1, 0⟩ true false true 1) 1 := by
  unfold Executes; decide +kernel
theorem wit_executes_unary : Executes (cpu [5]) 0 (rrLegal ⟨2, 0, 0, 0⟩ false false) (rrShape ⟨2, 0, 0, 0⟩ false false true 1) 1 := by
  unfold Executes; decide +kernel
theorem wit_executes_div : Executes (cpu [5, 0]) 0 (rrLegal ⟨2, 0, 1, 0⟩ true false) (rrShape ⟨2, 0, 1, 0⟩ true false true 12) 12 := by
  unfold Executes; decide +kernel
theorem wit_executes_compare : Executes (cpu [5, 7]) 0 (rrLegal ⟨0, 0, 1, 0⟩ true false && (0 : BitVec 5) = 0)
    { src := [0, 1], dst := [], readFl := false, flL := some 1, macD := none } 1 := by unfold Executes; decide +kernel
theorem wit_executes_sel : Executes (cpu [5, 7]) 0 (rrLegal ⟨2, 0, 1, 14⟩ true true && !(14 : BitVec 5).msb)
    { src := [0, 1], dst := [(2, 1)], readFl := false, flL := none, macD := none } 1 := by unfold Executes; decide +kernel

/-- R193: carry out and no borrow, the shift taken modulo 32, CLZ of 0, ABS of the most negative number. -/
theorem test_integer : (run (.add 0 ⟨2, 0, 1, 0⟩) (cpu [0xFFFFFFFF, 1])).core[0].d[2] = 0 ∧
    (run (.add 0 ⟨2, 0, 1, 0⟩) (cpu [0xFFFFFFFF, 1])).core[0].st = mkFlags true false true false false ∧
    (run (.sub 0 ⟨2, 0, 1, 0⟩) (cpu [3, 5])).core[0].d[2] = 0xFFFFFFFE ∧
    (run (.sub 0 ⟨2, 0, 1, 0⟩) (cpu [3, 5])).core[0].st = mkFlags false true false false false ∧
    (run (.cmp 0 ⟨0, 0, 1, 0⟩) (cpu [0x80000000, 1])).core[0].st = mkFlags false false true true false ∧
    (run (.cmp 0 ⟨0, 0, 1, 0⟩) (cpu [0x80000000, 1])).core[0].d[0] = 0x80000000 ∧
    (run (.sll 0 ⟨2, 0, 1, 0⟩) (cpu [1, 33])).core[0].d[2] = 2 ∧
    (run (.sra 0 ⟨2, 0, 1, 0⟩) (cpu [0x80000000, 4])).core[0].d[2] = 0xF8000000 ∧
    (run (.ror 0 ⟨2, 0, 1, 0⟩) (cpu [1, 1])).core[0].d[2] = 0x80000000 ∧
    (run (.clz 0 ⟨2, 0, 0, 0⟩) (cpu [0])).core[0].d[2] = 32 ∧
    (run (.abs 0 ⟨2, 0, 0, 0⟩) (cpu [0x80000000])).core[0].d[2] = 0x7FFFFFFF := by decide +kernel
theorem test_integer2 : (run (.andn 0 ⟨2, 0, 1, 0⟩) (cpu [0xFF, 0x0F])).core[0].d[2] = 0xF0 ∧
    (run (.min 0 ⟨2, 0, 1, 0⟩) (cpu [0xFFFFFFFF, 1])).core[0].d[2] = 0xFFFFFFFF ∧
    (run (.minu 0 ⟨2, 0, 1, 0⟩) (cpu [0xFFFFFFFF, 1])).core[0].d[2] = 1 ∧
    (run (.sextb 0 ⟨2, 0, 0, 0⟩) (cpu [0x180])).core[0].d[2] = 0xFFFFFF80 ∧
    (run (.zexth 0 ⟨2, 0, 0, 0⟩) (cpu [0x12345678])).core[0].d[2] = 0x5678 ∧
    (run (.sel 0 ⟨2, 0, 1, 14⟩) (cpu [5, 7])).core[0].d[2] = 5 ∧
    (run (.sel 0 ⟨2, 0, 1, 0⟩) (cpu [5, 7])).core[0].d[2] = 7 := by decide +kernel
/-- R194: the high half of a signed product, a divisor 0, and the most negative number divided by −1. -/
theorem test_mulDiv : (run (.mulh 0 ⟨2, 0, 1, 0⟩) (cpu [0xFFFFFFFF, 2])).core[0].d[2] = 0xFFFFFFFF ∧
    (run (.mulhu 0 ⟨2, 0, 1, 0⟩) (cpu [0xFFFFFFFF, 2])).core[0].d[2] = 1 ∧
    (run (.div 0 ⟨2, 0, 1, 0⟩) (cpu [0xFFFFFFF9, 2])).core[0].d[2] = 0xFFFFFFFD ∧
    (run (.rem 0 ⟨2, 0, 1, 0⟩) (cpu [0xFFFFFFF9, 2])).core[0].d[2] = 0xFFFFFFFF ∧
    (run (.div 0 ⟨2, 0, 1, 0⟩) (cpu [5, 0])).core[0].d[2] = 0x7FFFFFFF ∧
    (run (.div 0 ⟨2, 0, 1, 0⟩) (cpu [0x80000000, 0xFFFFFFFF])).core[0].d[2] = 0x7FFFFFFF ∧
    (run (.remu 0 ⟨2, 0, 1, 0⟩) (cpu [5, 0])).core[0].d[2] = 5 ∧
    (run (.remu 0 ⟨2, 0, 1, 0⟩) (cpu [5, 0])).core[0].st = mkFlags false false false false true := by decide +kernel
/-- R195: clamping at both ends, the halfword lanes, QMUL of −1 by −1. -/
theorem test_saturating : (run (.qadd 0 ⟨2, 0, 1, 0⟩) (cpu [0x7FFFFFFF, 1])).core[0].d[2] = 0x7FFFFFFF ∧
    (run (.qsub 0 ⟨2, 0, 1, 0⟩) (cpu [0x80000000, 1])).core[0].d[2] = 0x80000000 ∧
    (run (.qneg 0 ⟨2, 0, 0, 0⟩) (cpu [0x80000000])).core[0].d[2] = 0x7FFFFFFF ∧
    (run (.qmul 0 ⟨2, 0, 1, 0⟩) (cpu [0x80000000, 0x80000000])).core[0].d[2] = 0x7FFFFFFF ∧
    (run (.qmul 0 ⟨2, 0, 1, 0⟩) (cpu [0x40000000, 0x40000000])).core[0].d[2] = 0x20000000 ∧
    (run (.qshl 0 ⟨2, 0, 1, 0⟩) (cpu [0x40000000, 1])).core[0].d[2] = 0x7FFFFFFF ∧
    (run (.qadd2 0 ⟨2, 0, 1, 0⟩) (cpu [0x7FFF0001, 0x00010002])).core[0].d[2] = 0x7FFF0003 ∧
    (run (.qmul2 0 ⟨2, 0, 1, 0⟩) (cpu [0x40008000, 0x40008000])).core[0].d[2] = 0x20007FFF := by decide +kernel
/-- R196: 1 + 1 = 2, 1.5 × 2 = 3, fma 1 + 2 × 3 = 7, −1 as an integer, FTOI of a NaN, an unordered comparison. -/
theorem test_floating : (run (.fadd 0 ⟨2, 0, 1, 0⟩) (cpu [0x3F800000, 0x3F800000])).core[0].d[2] = 0x40000000 ∧
    (run (.fmul 0 ⟨2, 0, 1, 0⟩) (cpu [0x3FC00000, 0x40000000])).core[0].d[2] = 0x40400000 ∧
    (run (.fma 0 ⟨2, 0, 1, 0⟩) (cpu [0x40000000, 0x40400000, 0x3F800000])).core[0].d[2] = 0x40E00000 ∧
    (run (.itof 0 ⟨2, 0, 0, 0⟩) (cpu [0xFFFFFFFF])).core[0].d[2] = 0xBF800000 ∧
    (run (.ftoi 0 ⟨2, 0, 0, 0⟩) (cpu [0x7FC00000])).core[0].d[2] = 0 ∧
    (run (.ftoi 0 ⟨2, 0, 0, 0⟩) (cpu [0x7FC00000])).core[0].st = mkFlags false false false false true ∧
    (run (.fcmp 0 ⟨0, 0, 1, 0⟩) (cpu [0x7FC00000, 0])).core[0].st = mkFlags false false false true false ∧
    (run (.fcmp 0 ⟨0, 0, 1, 0⟩) (cpu [0x80000000, 0])).core[0].st = mkFlags true false true false false := by decide +kernel
theorem wit_fma : Executes (cpu [5, 7, 9]) 0 (rrLegal ⟨2, 0, 1, 0⟩ true false)
    { src := [2, 0, 1], dst := [(2, 3)], readFl := false, flL := none, macD := none } 1 := by unfold Executes; decide +kernel
theorem wit_nan : (0x7FC00000 : W32).extractLsb' 23 8 = 255 ∧ (0x7FC00000 : W32).extractLsb' 0 23 ≠ 0 := by decide

/-- m0 is register field 24. -/
theorem wit_mac : Executes (cpu [3, 5]) 0 (isM 24 && !isM 0 && !isM 1 && (0 : BitVec 5) = 0)
      { src := [0, 1], dst := [], readFl := false, flL := none, macD := some 24 } 1 ∧
    Executes (cpu []) 0 (isM 24 && (0 : BitVec 5) = 0 && (0 : BitVec 5) = 0 && (0 : BitVec 5) = 0)
      { src := [], dst := [(24, 1)], readFl := false, flL := none, macD := none } 1 ∧
    Executes (cpu [3, 5]) 0 (isM 24 && !isM 0 && !isM 1 && (0 : BitVec 5) = 0)
      { src := [0, 1], dst := [(24, 1)], readFl := false, flL := none, macD := none } 1 ∧
    Executes (cpu []) 0 (!isM 2 && isM 24 && (0 : BitVec 5) = 0)
      { src := [24], dst := [(2, 1)], readFl := false, flL := some 1, macD := none } 1 ∧
    Executes (cpu []) 0 (!isM 2 && isM 24 && (0 : BitVec 5) = 0 && (0 : BitVec 5) = 0)
      { src := [24], dst := [(2, 1)], readFl := false, flL := none, macD := none } 1 := by unfold Executes; decide +kernel
theorem test_mac : (run (.mac 0 ⟨24, 0, 1, 0⟩) (cpu [3, 0xFFFFFFFB])).core[0].m[0] = 0xFFFFFFFFFFFFFFF1 ∧
    (run (.mac2 0 ⟨24, 0, 1, 0⟩) (cpu [0x00020003, 0x00040005])).core[0].m[0] = 23 ∧
    (run (.mtm 0 ⟨24, 0, 1, 0⟩) (cpu [1, 2])).core[0].m[0] = 0x100000002 ∧
    (run (.mfm 0 ⟨2, 24, 0, 4⟩) (run (.mtm 0 ⟨24, 0, 1, 0⟩) (cpu [0, 0x18]))).core[0].d[2] = 2 ∧
    (run (.mfm 0 ⟨2, 24, 0, 0⟩) (run (.mtm 0 ⟨24, 0, 1, 0⟩) (cpu [1, 0]))).core[0].d[2] = 0x7FFFFFFF := by decide +kernel

theorem wit_immediate : Executes (cpu [5]) 0 (riLegal ⟨2, 0, 0xFFFF⟩ true && true) (riShape ⟨2, 0, 0xFFFF⟩ true true) 1 ∧
    Executes (cpu [5]) 0 (riLegal ⟨2, 0, 0x12⟩ false && true) (riShape ⟨2, 0, 0x12⟩ false false) 1 ∧
    Executes (cpu [5]) 0 (riLegal ⟨2, 0, 31⟩ true && decide ((31 : BitVec 16).toNat < 32)) (riShape ⟨2, 0, 31⟩ true true) 1 ∧
    Executes (cpu [5]) 0 ((0 : BitVec 5) = 0 && !isM 0)
      { src := [0], dst := [], readFl := false, flL := some 1, macD := none } 1 := by unfold Executes; decide +kernel
theorem test_immediate : (run (.addi 0 ⟨2, 0, 0xFFFF⟩) (cpu [5])).core[0].d[2] = 4 ∧
    (run (.ori 0 ⟨2, 0, 0xFFFF⟩) (cpu [0])).core[0].d[2] = 0xFFFF ∧ (run (.li 0 ⟨2, 0, 0x8000⟩) (cpu [])).core[0].d[2] = 0xFFFF8000 ∧
    (run (.lui 0 ⟨2, 0, 0x8000⟩) (cpu [])).core[0].d[2] = 0x80000000 ∧ (run (.srai 0 ⟨2, 0, 31⟩) (cpu [0x80000000])).core[0].d[2] = 0xFFFFFFFF ∧
    (run (.slli 0 ⟨2, 0, 32⟩) (cpu [1])).core[0].cause = 1 := by decide +kernel
theorem wit_jump : Executes (cpu [8]) 0 true { src := [], dst := [], readFl := false, flL := none, macD := none } 2 ∧
    Executes (cpu [8]) 0 true { src := [], dst := [(a6Field, 2)], readFl := false, flL := none, macD := none } 2 ∧
    Executes (cpu [8]) 0 (!(14 : BitVec 5).msb && (0 : BitVec 5) = 0)
      { src := [], dst := [], readFl := false, flL := none, macD := none } 2 ∧
    Executes (cpu [8]) 0 (!(0 : BitVec 5).msb && (0 : BitVec 5) = 0)
      { src := [], dst := [], readFl := true, flL := none, macD := none } 1 ∧
    Executes (cpu [8]) 0 ((0 : BitVec 5) = 0 && !isM 0 && (0 : BitVec 5) = 0 && (0 : BitVec 5) = 0)
      { src := [0], dst := [], readFl := false, flL := none, macD := none } 2 ∧
    Executes (cpu [8]) 0 ((0 : BitVec 5) = 0 && !isM 0 && (0 : BitVec 5) = 0 && (0 : BitVec 5) = 0)
      { src := [0], dst := [(a6Field, 2)], readFl := false, flL := none, macD := none } 2 ∧
    (rdReg (cpu [8]) 0 0 0).toNat % 4 = 0 := by unfold Executes; decide +kernel
theorem test_jump : (run (.jump 0 3) (cpu [])).core[0].pc = 12 ∧ (run (.bcc 0 ⟨14, 0, 0xFFFF⟩) (cpu [])).core[0].pc = 0xFFFFFFFC ∧
    (run (.bcc 0 ⟨0, 0, 5⟩) (cpu [])).core[0].pc = 4 ∧ (run (.call 0 3) (cpu [])).core[0].a[6] = 4 ∧
    (run (.callr 0 ⟨0, 0, 0, 0⟩) (cpu [8])).core[0].pc = 8 ∧ (run (.callr 0 ⟨0, 0, 0, 0⟩) (cpu [8])).core[0].a[6] = 4 := by decide +kernel

/-! ### Loads, stores and exceptions (R187, R200, R214 to R217) -/

/-- LD d2, [a0] of a word in each window a foreground task may read. -/
theorem wit_ld_imem : Executes (cpu [] [0x100]) 0 (ldLegal ⟨2, 0, 0, 4, 0⟩) (ldShape (cpu [] [0x100]) 0 ⟨2, 0, 0, 4, 0⟩)
      (mCost (cpu [] [0x100]) 0 ⟨2, 0, 0, 4, 0⟩) ∧ (mEa (cpu [] [0x100]) 0 ⟨2, 0, 0, 4, 0⟩).toNat % 4 = 0 ∧
    mFault (cpu [] [0x100]) 0 ⟨2, 0, 0, 4, 0⟩ false = none ∧ ldWaits (cpu [] [0x100]) 0 ⟨2, 0, 0, 4, 0⟩ = false ∧
    window (mEa (cpu [] [0x100]) 0 ⟨2, 0, 0, 4, 0⟩) ≠ .regs := by unfold Executes; decide +kernel
theorem wit_ld_dmem_update : Executes (cpu [] [0x10000008]) 0 (ldLegal ⟨24, 0, 2, 5, 1⟩)
      (ldShape (cpu [] [0x10000008]) 0 ⟨24, 0, 2, 5, 1⟩) (mCost (cpu [] [0x10000008]) 0 ⟨24, 0, 2, 5, 1⟩) ∧
    (mEa (cpu [] [0x10000008]) 0 ⟨24, 0, 2, 5, 1⟩).toNat % mSize ⟨24, 0, 2, 5, 1⟩ = 0 ∧
    mFault (cpu [] [0x10000008]) 0 ⟨24, 0, 2, 5, 1⟩ false = none ∧ ldWaits (cpu [] [0x10000008]) 0 ⟨24, 0, 2, 5, 1⟩ = false ∧
    window (mEa (cpu [] [0x10000008]) 0 ⟨24, 0, 2, 5, 1⟩) ≠ .regs := by unfold Executes; decide +kernel
theorem wit_ld_windows : Executes (cpu [] [0x20000004]) 0 (ldLegal ⟨2, 0, 0, 4, 0⟩) (ldShape (cpu [] [0x20000004]) 0 ⟨2, 0, 0, 4, 0⟩) (mCost (cpu [] [0x20000004]) 0 ⟨2, 0, 0, 4, 0⟩) ∧
    mFault (cpu [] [0x20000004]) 0 ⟨2, 0, 0, 4, 0⟩ false = none ∧
    Executes (cpu [] [0x30000004]) 0 (ldLegal ⟨2, 0, 0, 4, 0⟩) (ldShape (cpu [] [0x30000004]) 0 ⟨2, 0, 0, 4, 0⟩) (mCost (cpu [] [0x30000004]) 0 ⟨2, 0, 0, 4, 0⟩) ∧
    mFault (cpu [] [0x30000004]) 0 ⟨2, 0, 0, 4, 0⟩ false = none ∧
    Executes (cpu [] [0x70000004]) 0 (ldLegal ⟨2, 0, 0, 4, 0⟩) (ldShape (cpu [] [0x70000004]) 0 ⟨2, 0, 0, 4, 0⟩) (mCost (cpu [] [0x70000004]) 0 ⟨2, 0, 0, 4, 0⟩) ∧
    mFault (cpu [] [0x70000004]) 0 ⟨2, 0, 0, 4, 0⟩ false = none := by unfold Executes; decide +kernel
theorem wit_ld_logbook : Executes (bgCpu [] [0x50000010]) 0 (ldLegal ⟨2, 0, 0, 4, 0⟩)
      (ldShape (bgCpu [] [0x50000010]) 0 ⟨2, 0, 0, 4, 0⟩) (mCost (bgCpu [] [0x50000010]) 0 ⟨2, 0, 0, 4, 0⟩) ∧
    mFault (bgCpu [] [0x50000010]) 0 ⟨2, 0, 0, 4, 0⟩ false = none ∧
    ldWaits (bgCpu [] [0x50000010]) 0 ⟨2, 0, 0, 4, 0⟩ = false := by unfold Executes; decide +kernel
/-- A byte load sign-extends with sz 0 and zero-extends with sz 1; am 1 and 2 update the base after and before the access. -/
theorem test_ld : (run (.ld 0 ⟨2, 0, 0, 0, 1⟩) (withDmem (cpu [] [0x10000000]) [(1, 0x80)])).core[0].d[2] = 0xFFFFFF80 ∧
    (run (.ld 0 ⟨2, 0, 0, 1, 1⟩) (withDmem (cpu [] [0x10000000]) [(1, 0x80)])).core[0].d[2] = 0x80 ∧
    (run (.ld 0 ⟨2, 0, 1, 4, 1⟩) (withDmem (cpu [] [0x10000000]) [(0, 0x11), (1, 0x22), (4, 0x33)])).core[0].d[2] = 0x2211 ∧
    (run (.ld 0 ⟨2, 0, 1, 4, 1⟩) (cpu [] [0x10000000])).core[0].a[0] = 0x10000004 ∧
    (run (.ld 0 ⟨2, 0, 2, 4, 1⟩) (withDmem (cpu [] [0x10000000]) [(4, 0x33)])).core[0].d[2] = 0x33 ∧
    (run (.ld 0 ⟨16, 0, 1, 4, 1⟩) (cpu [] [0x10000000])).core[0].cause = 1 := by decide +kernel

theorem wit_st_dmem : Executes (cpu [7] [0x1001FFFC]) 0 (stLegal ⟨0, 0, 0, 4, 0⟩) (stShape ⟨0, 0, 0, 4, 0⟩)
      (mCost (cpu [7] [0x1001FFFC]) 0 ⟨0, 0, 0, 4, 0⟩) ∧ (mEa (cpu [7] [0x1001FFFC]) 0 ⟨0, 0, 0, 4, 0⟩).toNat % 4 = 0 ∧
    window (mEa (cpu [7] [0x1001FFFC]) 0 ⟨0, 0, 0, 4, 0⟩) = .dmem ∧ spWf Config.memDefault (cpu [7]).core[0].dmem = true ∧
    spWf Config.memDefault (cpu [7]).sram = true := by unfold Executes; decide +kernel
theorem wit_st_sram : Executes (cpu [7] [0x20000000]) 0 (stLegal ⟨0, 0, 1, 4, 1⟩) (stShape ⟨0, 0, 1, 4, 1⟩)
      (mCost (cpu [7] [0x20000000]) 0 ⟨0, 0, 1, 4, 1⟩) ∧
    window (mEa (cpu [7] [0x20000000]) 0 ⟨0, 0, 1, 4, 1⟩) = .sram := by unfold Executes; decide +kernel
/-- The least significant byte first; a byte 0 is not listed. -/
theorem test_st : (run (.st 0 ⟨0, 0, 0, 4, 0⟩) (cpu [0x00221100] [0x10000010])).core[0].dmem = [(17, 0x11), (18, 0x22)] ∧
    (run (.st 0 ⟨0, 0, 1, 2, 1⟩) (cpu [0x1234] [0x20000010])).sram = [(16, 0x34), (17, 0x12)] ∧
    (run (.st 0 ⟨0, 0, 1, 2, 1⟩) (cpu [0x1234] [0x20000010])).core[0].a[0] = 0x20000012 := by decide +kernel

/-- Register 0x0280 is at core address 0x4000_0500 (R3). -/
theorem wit_register_space : mSize ⟨2, 0, 0, 3, 0⟩ = 2 ∧ (mEa (cpu [1] [0x40000500]) 0 ⟨2, 0, 0, 3, 0⟩).toNat % 2 = 0 ∧
    window (mEa (cpu [1] [0x40000500]) 0 ⟨2, 0, 0, 3, 0⟩) = .regs ∧
    Executes (cpu [1] [0x40000500]) 0 (ldLegal ⟨2, 0, 0, 3, 0⟩) (ldShape (cpu [1] [0x40000500]) 0 ⟨2, 0, 0, 3, 0⟩)
      (mCost (cpu [1] [0x40000500]) 0 ⟨2, 0, 0, 3, 0⟩) ∧
    Executes (cpu [1] [0x40000500]) 0 (stLegal ⟨0, 0, 0, 2, 0⟩) (stShape ⟨0, 0, 0, 2, 0⟩)
      (mCost (cpu [1] [0x40000500]) 0 ⟨0, 0, 0, 2, 0⟩) ∧
    [regAddr (mEa (cpu [1] [0x40000500]) 0 ⟨0, 0, 0, 2, 0⟩)].any coreForbidden = false := by unfold Executes; decide +kernel
theorem test_register_space : (run (.ld 0 ⟨2, 0, 0, 3, 0⟩) (cpu [1] [0x40000008])).core[0].d[2] = 3 := by decide +kernel
theorem wit_bus_faults : mFault (cpu [] [0x30000000]) 0 ⟨24, 0, 0, 5, 0⟩ false = some 9 ∧
    mFault (cpu [] [0x08000000]) 0 ⟨2, 0, 0, 4, 0⟩ false = some 5 ∧ mFault (cpu [] [0x40000000]) 0 ⟨2, 0, 0, 0, 0⟩ false = some 6 ∧
    mFault (cpu [] [0x50000000]) 0 ⟨2, 0, 0, 4, 0⟩ false = some 1 ∧ mFault (bgCpu [] [0x60000000]) 0 ⟨2, 0, 0, 4, 0⟩ true = some 4 ∧
    mFault (cpu [] [0x100]) 0 ⟨2, 0, 0, 4, 0⟩ true = some 4 ∧ mFault (cpu [] [0x40000000]) 0 ⟨2, 0, 0, 2, 0⟩ true = none ∧
    mFault (cpu [] [0x20000000]) 0 ⟨24, 0, 0, 5, 0⟩ true = none := by decide +kernel

theorem wit_exceptions : (cpu []).core[0].run ≠ .nmi ∧ canRun (cpu []) 0 = true ∧ exceeds (cpu []) 0 0 1 = false ∧
    fetchOk (cpu []) 0 (cpu []).core[0].pc = true ∧ rrLegal ⟨24, 0, 1, 0⟩ true false = false ∧
    fetchOk (modCore (cpu []) 0 fun k => { k with pc := 0x20000 }) 0 0x20000 = false ∧
    (rdReg (cpu [2]) 0 0 0).toNat % 4 ≠ 0 ∧ ldLegal ⟨2, 0, 0, 4, 0⟩ = true ∧
    (mEa (cpu [] [2]) 0 ⟨2, 0, 0, 4, 0⟩).toNat % mSize ⟨2, 0, 0, 4, 0⟩ ≠ 0 ∧
    mFault (cpu [] [0x08000000]) 0 ⟨2, 0, 0, 4, 0⟩ false = some 5 ∧ stLegal ⟨2, 0, 0, 4, 0⟩ = true ∧
    mFault (cpu [] [0x40000000]) 0 ⟨2, 0, 0, 2, 0⟩ true = none ∧
    regForbidden (mEa (cpu [] [0x40000020]) 0 ⟨2, 0, 0, 2, 0⟩) 2 = true ∧ svcLegal ⟨0, 0, 0, 0⟩ = true ∧
    inBg (cpu []) 0 = false := by decide +kernel
theorem test_exceptions : (run (.add 0 ⟨24, 0, 1, 0⟩) (cpu [])).core[0].cause = 1 ∧
    (run (.jr 0 ⟨0, 0, 0, 0⟩) (cpu [2])).core[0].cause = 2 ∧ (run (.jr 0 ⟨0, 0, 0, 0⟩) (cpu [2])).core[0].xaddr = 2 ∧
    (run (.ld 0 ⟨2, 0, 0, 4, 0⟩) (cpu [] [0x08000000])).core[0].bus = 5 ∧
    (run (.st 0 ⟨2, 0, 0, 2, 0⟩) (cpu [] [0x40000020])).core[0].bus = 3 ∧
    (run (.svcXiSend 0 ⟨0, 0, 0, 0⟩) (cpu [])).core[0].bus = 7 ∧
    (run (.svcXiSend 0 ⟨0, 0, 0, 0⟩) (cpu [])).evt.pend.getLsbD 69 = true ∧
    (run (.svcXiSend 0 ⟨0, 0, 0, 0⟩) (cpu [])).core[0].run = .idle := by decide +kernel

/-- A loaded task of core 0 with budget 100. -/
def task : Task :=
  { core := 0, index := 0, bg := false, k := 0, phase := 0, slot := 0, bgpri := 0, entry := 0x40, stack := 0x10001000
    budget := 100, tally := 1, start := none }
def tasked (s : State) : State := { s with img := { s.img with tasks := [task] } }
theorem wit_budget : canRun (tasked (cpu [])) 0 = true ∧ (tasked (cpu [])).core[0].run = .fg 0 0 ∧
    (findTask (tasked (cpu [])) 0 0).map (·.budget) = some 100 ∧ fgMode (tasked (cpu [])).sys.mode = true ∧
    (tasked (cpu [])).frm.overrun = false := by decide +kernel
theorem test_budget : (run (.budget 0) (tasked (cpu []))).core[0].cause = 4 ∧ (run (.budget 0) (tasked (cpu []))).frm.ovrCnt = 1 ∧
    (run (.budget 0) (run (.budget 0) (tasked (cpu [])))).frm.ovrCnt = 1 := by decide +kernel
theorem wit_budget_again : let s := { tasked (cpu []) with frm := { (tasked (cpu [])).frm with overrun := true } }
    canRun s 0 = true ∧ s.core[0].run = .fg 0 0 ∧ (findTask s 0 0).map (·.budget) = some 100 ∧ fgMode s.sys.mode = true ∧
      s.frm.overrun = true := by decide +kernel

/-! ### Channel, control and service instructions (R202 to R213, R236) -/

theorem wit_pin : Executes (cpu []) 0 (chanLegal ⟨2, 0, 0, 5 * 16⟩) { src := [], dst := [(2, 3)], readFl := false, flL := some 3, macD := none } 3 ∧
    Executes (cpu [0, 5]) 0 (chanLegal ⟨2, 0, 1, 0x400⟩) { src := [1], dst := [(2, 3)], readFl := false, flL := some 3, macD := none } 3 := by
  unfold Executes; decide +kernel
theorem test_pin : (run (.pin 0 ⟨2, 0, 0, 5 * 16⟩) { cpu [] with pi := { (cpu []).pi with inw := (cpu []).pi.inw.set 5 0x2C813B01 } }).core[0].d[2] =
      0x2C813B01 ∧
    (run (.pin 0 ⟨2, 0, 0, 5 * 16⟩) (cpu [])).core[0].st = mkFlags true false false false false := by decide +kernel
theorem wit_ramp : Executes (cpu [0, 10, 3]) 0 (!isM 0 && !isM 1 && !isM 2 && (0 : BitVec 11) = 0)
    { src := [0, 1, 2], dst := [(0, 1)], readFl := false, flL := some 1, macD := none } 1 := by unfold Executes; decide +kernel
theorem test_ramp : (run (.ramp 0 ⟨0, 1, 2, 0⟩) (cpu [0, 10, 3])).core[0].d[0] = 3 ∧
    (run (.ramp 0 ⟨0, 1, 2, 0⟩) (cpu [8, 10, 3])).core[0].d[0] = 10 ∧
    (run (.ramp 0 ⟨0, 1, 2, 0⟩) (cpu [0x80000000, 0x7FFFFFFF, 0xFFFFFFFE])).core[0].d[0] = 0x7FFFFFFE ∧
    (run (.limitOp 0 ⟨0, 1, 2, 0⟩) (cpu [20, 0, 10])).core[0].d[0] = 10 ∧
    (run (.limitOp 0 ⟨0, 1, 2, 0⟩) (cpu [20, 12, 10])).core[0].d[0] = 12 := by decide +kernel
/-- Channel 3 in mode 4 with writer CC0 (code 1) and channel 4 with no writer. -/
def poutDev : State := { cpu [0xABCDEF12] with cfg := (dev .run [(0x20C0, 0x0014), (0x2100, 0x0004)]).cfg }
theorem wit_pout : Executes poutDev 0 (chanLegal ⟨0, 0, 0, 3 * 16⟩) { src := [0], dst := [], readFl := false, flL := some 3, macD := none } 3 ∧
    (isOutMode (modeA poutDev 3) && decide (writerA poutDev 3 = 1 + 0)) = true ∧
    (isOutMode (modeA poutDev 4) && decide (writerA poutDev 4 = 1 + 0)) = false := by unfold Executes; decide +kernel
theorem test_pout : (run (.pout 0 ⟨0, 0, 0, 3 * 16⟩) poutDev).pi.outw[3] = 0xABCDEF00 ∧
    (run (.pout 0 ⟨0, 0, 0, 4 * 16⟩) poutDev).pi.outw[4] = 0 ∧
    (run (.pout 0 ⟨0, 0, 0, 4 * 16⟩) poutDev).evt.recs[68].payload = 0x104 := by decide +kernel
theorem wit_evraise : Executes (cpu [9]) 0 (!isM 0 && !isM 0 && (0 : BitVec 5) = 0 && (124 : BitVec 11).toNat / 128 % 8 = 0 && (0 : BitVec 5) = 0)
      { src := [0], dst := [], readFl := false, flL := some 2, macD := none } 2 ∧ (cpu []).core[0].run ≠ .nmi ∧
    Executes (modCore (cpu [9]) 0 fun k => { k with run := .nmi }) 0 true
      { src := [0], dst := [], readFl := false, flL := some 2, macD := none } 2 := by unfold Executes; decide +kernel
theorem test_evraise : (run (.evraise 0 ⟨0, 0, 0, 124⟩) (cpu [9])).evt.recs[124].payload = 9 ∧
    (run (.evraise 0 ⟨0, 0, 0, 123⟩) (cpu [9])).evt.pend = 0 ∧
    (run (.evraise 0 ⟨0, 0, 0, 123⟩) (cpu [9])).core[0].st = mkFlags true false false false false := by decide +kernel

/-- The first update of R206's example: KP 1.5, KI 3,277 / 65,536, OUT_MAX 5,000,000, INTEG 2,000,000, CTL 1, e 100,000. -/
def pidDev : State := withDmem (cpu [0, 100000] [0x10000040]) [(0x42, 1), (0x41, 0x80), (0x44, 0xCD), (0x45, 0x0C), (0x50, 0x40),
    (0x51, 0x4B), (0x52, 0x4C), (0x54, 0x80), (0x55, 0x84), (0x56, 0x1E), (0x5C, 1)]
def pidMem : Mem := [(0x41, 0x80), (0x42, 1), (0x44, 0xCD), (0x45, 0x0C), (0x50, 0x40), (0x51, 0x4B), (0x52, 0x4C),
    (0x54, 0x80), (0x55, 0x84), (0x56, 0x1E), (0x5C, 1)]
theorem wit_pids : let s := withDmem (cpu [0, 100000] [0x10000040]) pidMem
    Executes s 0 (!isM 2 && !isM 1 && isA 16 && (0 : BitVec 11) = 0)
      { src := [1, 16], dst := [(2, 6)], readFl := false, flL := some 6, macD := none } 6 ∧
    (rdReg s 0 16 0).toNat % 32 = 0 ∧ window (rdReg s 0 16 0) = .dmem ∧ spWf Config.memDefault s.core[0].dmem = true := by
  unfold Executes; decide +kernel
theorem wit_pids_traps : Begins (cpu []) 0 ∧ exceeds (cpu []) 0 0 1 = false ∧ (rdReg (cpu [] [0x10000004]) 0 16 0).toNat % 32 ≠ 0 ∧
    (rdReg (cpu [] [0x20000000]) 0 16 0).toNat % 32 = 0 ∧ window (rdReg (cpu [] [0x20000000]) 0 16 0) ≠ .dmem := by
  unfold Begins; decide +kernel
theorem test_pids : let t := run (.pids 0 ⟨2, 1, 16, 0⟩) (withDmem (cpu [0, 100000] [0x10000040]) pidMem)
    t.core[0].d[2] = 2155000 ∧ dmemWord t 0 0x54 = 2005000 ∧ dmemWord t 0 0x58 = 100000 ∧
      t.core[0].st = mkFlags false false false false false := by decide +kernel
/-- The second update of the example: e = 2,000,000 meets OUT_MAX, and the integrator stays. -/
theorem test_pids_limit : let t := run (.pids 0 ⟨2, 1, 16, 0⟩) (modCore (run (.pids 0 ⟨2, 1, 16, 0⟩)
      (withDmem (cpu [0, 100000] [0x10000040]) pidMem)) 0 fun k => { k with d := k.d.set 1 2000000 })
    t.core[0].d[2] = 5000000 ∧ dmemWord t 0 0x54 = 2005000 ∧ t.core[0].st = mkFlags false false true false false := by decide +kernel

theorem wit_tickwait : Executes (cpu []) 0 (noRegs ⟨0, 0, 0, 255⟩ && (255 : BitVec 11).toNat < 256)
      { src := [], dst := [], readFl := false, flL := some 1, macD := none, tw := true } 1 ∧
    fld (act (cpu []) 0x0110) 8 0 ≤ (255 : BitVec 11).toNat % 256 := by unfold Executes; decide +kernel
theorem wit_checkin : Executes (tasked (cpu [])) 0 (noRegs ⟨0, 0, 0, 0⟩ && (0 : BitVec 11) = 0)
      { src := [], dst := [], readFl := false, flL := none, macD := none } 1 ∧
    (tasked (cpu [])).core[0].run ≠ .nmi ∧ (findTask (tasked (cpu [])) 0 (tasked (cpu [])).core[0].taskId.1).isSome = true := by
  unfold Executes; decide +kernel
theorem test_checkin : (run (.checkin 0 ⟨0, 0, 0, 0⟩) (tasked (cpu []))).core[0].checkins[0] = 1 ∧
    (run (.checkin 0 ⟨0, 0, 0, 0⟩) (cpu [])).core[0].checkins[0] = 0 ∧
    (run (.endTask 0 ⟨0, 0, 0, 0⟩) (cpu [])).core[0].run = .idle ∧
    (run (.endTask 0 ⟨0, 0, 0, 0⟩) (modCore (cpu []) 0 fun k => { k with run := .nmi })).core[0].run = .halted := by decide +kernel

/-- Descriptors of LEAVE: an invalid one (no duration), one that can never fit, channel 3 for 5 frames, group 0 10 mW for 1. -/
theorem wit_leave : Executes poutDev 0 (!isM 2 && !isM 0 && (0 : BitVec 5) = 0 && (0 : BitVec 11) = 0)
      { src := [0], dst := [(2, 4)], readFl := false, flL := some 4, macD := none } 4 ∧ poutDev.core[0].run ≠ .nmi ∧
    descOk 0 = false ∧ descOk 0x00FF0001 = true ∧
    budG poutDev 0 < (descReq poutDev 0x00FF0001).2.2.1[0] ∧
    descOk 0x10030005 = true ∧ (∀ ch ∈ (descReq poutDev 0x10030005).2.1, isOutMode (modeA poutDev ch) = true ∧ writerA poutDev ch = 1) ∧
    (∃ ch ∈ (descReq poutDev 0x10040005).2.1, writerA poutDev ch ≠ 1) ∧ (freeShared poutDev).isSome = true := by
  unfold Executes; decide +kernel

/-! ### Services (R212, R236) -/

theorem wit_services : Executes (cpu []) 0 (svcLegal ⟨0, 0, 0, 0⟩) (svcShape 0) 4 ∧ Executes (cpu []) 0 (svcLegal ⟨0, 0, 0, 0⟩) (svcShape 12) 16 ∧
    Executes (cpu []) 0 (svcLegal ⟨0, 0, 0, 0⟩) (svcShape 4) 8 ∧ svcAssigned 0x7F = false ∧
    Executes (cpu []) 0 (svcLegal ⟨0, 0, 0, 0⟩) (svcShape 20) 24 ∧ (cpu []).core[0].run ≠ .nmi ∧
    fld (act (cpu []) 0x0C09) 10 0 ≠ 0 ∧ bufFull (cpu []) 1 = false ∧
    fld (act { cpu [] with cfg := (dev .run [(0x0C09, 0)]).cfg } 0x0C09) 10 0 = 0 := by unfold Executes; decide +kernel
theorem test_services : (run (.svcNop 0 ⟨0, 0, 0, 0⟩) (cpu [9])).core[0].d[0] = 0 ∧
    (run (.svcDevinfo 0 ⟨0, 0, 0, 0⟩) (cpu [9])).core[0].d[0] = 0xFFFFFFFF ∧
    (run (.svcUnassigned 0 0x7F ⟨0, 0, 0, 0⟩) (cpu [9])).core[0].d[0] = 1 ∧
    (run (.svcJournal 0 ⟨0, 0, 0, 0⟩) { cpu [9] with cfg := (dev .run [(0x0C09, 0)]).cfg }).core[0].d[0] = 7 ∧
    (run (.svcJournal 0 ⟨0, 0, 0, 0⟩) (cpu [9])).log.bufs[1].next = 1 := by decide +kernel
theorem wit_services_background : Executes (bgCpu []) 0 (svcLegal ⟨0, 0, 0, 0⟩) { svcShape 0 with dst := [] } 4 ∧
    inBg (bgCpu []) 0 = true ∧ coreOn (bgCpu []) = true := by unfold Executes; decide +kernel
/-- A NV_READ of 4 bytes to shared SRAM completes; a NV_WRITE without its leave waits. -/
def svcDev (n : Byte) : State := modCore (bgCpu []) 0 fun k =>
  { k with svc := some ⟨n, 0x20000000, 0, 4, 0, false, false, false⟩, nv := [(0, 0xAB)] }
theorem wit_serviceComplete : (svcDev 0x13).core[0].svc.isSome = true ∧ (svcDev 0x14).core[0].svc.isSome = true ∧
    (svcResult 0 ⟨0x13, 0x20000000, 0, 4, 0, false, false, false⟩ false (svcDev 0x13)).isSome = true ∧
    (svcResult 0 ⟨0x14, 0x20000000, 0, 4, 0, false, false, false⟩ false (svcDev 0x14)).isSome = false := by decide +kernel
theorem test_serviceComplete : (run (.serviceComplete 0 ⟨false, 0⟩) (svcDev 0x13)).sram = [(0, 0xAB)] ∧
    (run (.serviceComplete 0 ⟨false, 0⟩) (svcDev 0x13)).core[0].svc = none ∧ (run (.serviceComplete 0 ⟨false, 0⟩) (svcDev 0x14)).core[0].svc.isSome = true := by
  decide +kernel

/-! ### Resets and start-up (R384 to R391) -/

def hrt : State := { dev .run [] with sys := { (dev .run []).sys with hrtRun := true, rstReq := true } }
theorem wit_resets : hrt.sys.hrtRun = true ∧ coreOn hrt = true ∧ hrt.sys.rstReq = true := by decide +kernel
theorem test_resets : (run (.porstNAssert 1000) hrt).sys.mode = .off ∧ (run (.porstNAssert 99) hrt).sys.mode = .run ∧
    (run .hardReset hrt).sys.cause = 4 ∧ (run .resetCommand hrt).sys.cause = 7 ∧ (run .brownout hrt).sys.hist = 2 := by decide +kernel
theorem test_pulse : exec (.porstNAssert 100) hrt = .fault .undefinedPulse ∧ exec (.porstNAssert 999) hrt = .fault .undefinedPulse :=
  ⟨rfl, rfl⟩
def booting : State :=
  { dev .boot [] with sys := { (dev .boot []).sys with recov := true }, upd := { (dev .boot []).upd with st := .staged } }
theorem wit_boot : (dev .boot []).sys.bootReady = true ∧ State.reset.sys.bootReady = false ∧
    ((bootIn.bootsel = false ∨ (bootIn.firmwareOk = false ∧ (State.reset.upd.trialFlag && decide (State.reset.sys.cause = 5)) = false)) ∨
      (bootIn.bootsel = true ∧ bootIn.firmwareOk = true)) ∧ coreOn (dev .boot []) = true ∧ (dev .boot []).sys.recov = false ∧
    (dev .boot []).upd.revert = none ∧ coreOn booting = true ∧ booting.sys.recov = true ∧ booting.upd.st = .staged := by decide +kernel
theorem test_boot : (run (.resetRelease bootIn) State.reset).sys.bootReady = true ∧
    (run (.resetRelease { bootIn with bootsel := false }) State.reset).sys.recov = true ∧
    bootMode (dev .boot []) = .commission ∧ (firstTick 5000 (dev .boot [])).frm.tickT = 5000 ∧
    (run .recoveryReset booting).sys.cause = 6 := by decide +kernel
/-- R173: an unpowered group whose channel 0 has safe value ON reads UNSAFE. -/
theorem test_unsafe : unsafeNow (modGrp (dev .boot [(0x2000, 4), (0x2017, 0x4000)]) 0 fun x => { x with supply := .unpowered }) 0 = true := by decide +kernel

/-! ### The frame (R28 to R50) -/

theorem wit_frameTick : inService (dev .run []) = true ∧ alive (dev .run []) (chGroup 63) = true := by decide +kernel
theorem test_frameTick : (tickFrm tick (dev .run [])).frm.no = 1 ∧ (tickFrm tick (dev .run [])).frm.tickT = 1000000 ∧
    (tickCores 1000000 (modCore (dev .run []) 0 fun k => { k with freeAt := 500003 })).core[0].freeAt = 3 := by decide +kernel
/-- SYNC_IN as the source, falling edges; the reset frame period is 1 ms. -/
def syncDev (h v : Bool) (u : Option Nat := none) : State := let s := dev .run [(0x0100, 1)]
  { s with frm := { s.frm with holdover := h, srcValid := v, lastEdgeT := some 0, tickT := 0, edgeFrom := u } }
theorem wit_sync : inService (syncDev false false) = true ∧ fld (act (syncDev false false) 0x0100) 1 0 = 1 ∧
    (act (syncDev false false) 0x0100).getLsbD 2 ≠ true ∧ (syncDev false false).frm.srcValid = false ∧
    (syncDev false true).frm.srcValid = true ∧
    within (syncDev false true).frm.tickT 500000 (period (syncDev false true).cfg.active) (period (syncDev false true).cfg.active / 100) = false ∧
    (syncDev false true).frm.edgeFrom = none ∧ (syncDev false true (some 0)).frm.edgeFrom = some 0 ∧
    within (syncDev false true).frm.tickT 500000 0 (period (syncDev false true).cfg.active / 100) = false ∧
    within 0 1000000 (period (syncDev true true).cfg.active) (period (syncDev true true).cfg.active / 100) = true := by decide +kernel
theorem test_sync : (run (.syncInEdge 5 99 true) (syncDev false false)).frm.syncErr = true ∧
    (run (.syncInEdge 5 100 true) (syncDev false false)).frm.srcValid = true ∧
    (run (.syncInEdge 500000 100 true) (syncDev false true)).frm.syncErr = true ∧
    (run (.syncInEdge 999999 100 true) (syncDev false true (some 0))).frm.syncErr = true ∧
    (run (.syncInEdge 1500000 100 true) (syncDev false true (some 0))).frm.syncErr = false ∧
    (run (.syncInEdge 1000000 100 true) (syncDev true true)).frm.holdover = false ∧
    (run (.holdoverEntry 3000000) (syncDev false true)).frm.holdover = true ∧
    (run (.holdoverEntry 2900000) (syncDev false true)).frm.holdover = false := by decide +kernel
/-- The network source, whose interval is 125 ms: three of them are 375 ms. -/
theorem wit_holdover : inService (dev .run [(0x0100, 0)]) = true ∧ fld (act (dev .run [(0x0100, 0)]) 0x0100) 1 0 = 0 ∧
    (dev .run [(0x0100, 0)]).net.gm = false ∧ (dev .run [(0x0100, 0)]).frm.holdover = false ∧
    (dev .run [(0x0100, 0)]).net.syncLog.getD (-(fld (act (dev .run [(0x0100, 0)]) 0x0833) 2 0 : Int)) = -((3 : Nat) : Int) := by
  decide +kernel
theorem test_holdover : (run (.holdoverEntry 375000000) (dev .run [(0x0100, 0)])).frm.holdover = true ∧
    (run (.holdoverEntry 374999999) (dev .run [(0x0100, 0)])).frm.holdover = false := by decide +kernel
/-- Port 0 is linked and in the master role. -/
def linked : State := { dev .run [(0x0800, 0x8001), (0x0801, 0x8001)] with net := { State.reset.net with
  ports := State.reset.net.ports.map fun p => { p with link := true }, role := 1 } }
/-- Port 0 is the slave. -/
def slave : State := { linked with net := { linked.net with role := 2 } }
theorem wit_gptp : inService linked = true ∧ portUp linked 0 = true ∧ tapDrops linked 0 = false ∧ portRole linked 0 = 1 ∧
    portUp slave 0 = true ∧ portRole slave 0 = 2 ∧ ptpDom slave = 0 ∧ portRole linked 0 ≠ 2 ∧ ptpDom linked ≠ 5 ∧
    portUp (dev .run []) 0 = false ∧ fld (act linked 0x0833) 2 0 = 3 ∧ linked.net.ports[0].syncT = 0 := by decide +kernel
/-- Sync in the master role is ignored; 125 ms is the interval of the reset NET_PTPINT. -/
theorem test_gptp : (run (.gptpSyncRx 0 5000 1001 ⟨0, 0⟩) slave).evt.pend.getLsbD 120 = true ∧
    (run (.gptpSyncRx 0 5000 1000 ⟨0, 0⟩) slave).evt.pend = 0 ∧ (run (.gptpSyncRx 0 5000 1001 ⟨0, 0⟩) linked).net.synced = false ∧
    (run (.gptpSyncTx ⟨0, 125000000⟩) linked).sent.length = 2 ∧ (run (.gptpSyncTx ⟨0, 124999999⟩) linked).sent = [] ∧
    (run (.gptpPdelay 0 70 0) linked).net.ports[0].dly = 70 := by decide +kernel
/-- An Announce of another clock with a priority1. -/
def announce (prio : Byte) : AnnIn :=
  { prio1 := prio, cls := 248, acc := 0, var := 0, prio2 := 0, gmId := 7, steps := 0, src := (Config.clockId + 1) ++ (0 : BitVec 16) }
theorem wit_announce (p : Byte) : (announce p).src.extractLsb' 16 64 ≠ Config.clockId := by
  have h : (announce p).src.extractLsb' 16 64 = Config.clockId + 1 := BitVec.extractLsb'_append_eq_left
  rw [h]
  intro e
  bv_omega
theorem wit_announce_order : vecLt (annVec (announce 9) ((announce 9).steps + 1)) (ownVec linked) = true ∧
    gmCap { linked with cfg := (dev .run [(0x0830, 0x8000)]).cfg } = true ∧ (∀ q : PortId, linked.net.ports[q].ann = none) ∧
    vecLt (annVec (announce 9) ((announce 9).steps + 1)) (ownVec { linked with cfg := (dev .run [(0x0830, 0x8000)]).cfg }) = false := by
  decide +kernel

/-! ### COMMIT, eFlash and modes (R19 to R27, R141, R392, R393) -/

/-- A COMMIT in a phase, the tick at 10 µs. -/
def cmt (p : CmtPhase) (n : Nat := 4) : State :=
  { dev .commission [] with cmt := { State.reset.cmt with phase := p, acceptT := 8000, frames := .replicate 8 (some n) },
                            frm := { State.reset.frm with tickT := 10000, no := 4 } }
theorem wit_commit : (∀ c, Access.hostUntagged ≠ .core c) ∧ writeCause (trusted (dev .commission [])) .hostUntagged 0x0010 0xC3A5 = none ∧
    writeCause (trusted (dev .commission [])) .hostUntagged 0x0010 0x3C5A = none ∧ cmtPend (dev .commission []) = false ∧
    coreOn (cmt .requested) = true ∧ (cmt .requested).cmt.phase = .requested ∧
    (stage3Checks (cmt .requested)).cause = 0 ∧ alive (cmt .portions) 0 = true ∧ (cmt .portions).grp[0].link = false ∧
    (cmt .portions).cmt.frames[0] = some 4 ∧ (cmt .portions).cmt.acked.getLsbD 0 = false := by decide +kernel
/-- A mode 12 (R20: VALUE, cause 3) is refused. -/
theorem wit_commit_refused : (stage3Checks { cmt .requested with cfg :=
    { (cmt .requested).cfg with staged := CfgSet.none.setReg 0x2000 12 } }).cause = 3 := by decide +kernel
theorem test_commit : (run (.commitKey .hostUntagged) (trusted (dev .commission []))).cmt.phase = .requested ∧
    (run (.commitChecks 9) (cmt .requested)).cmt.phase = .portions ∧
    (run (.groupPortionAck 0 9) (cmt .portions)).cmt.acked = 1 ∧ (run (.commitLinkTimeout 0) (cmt .portions)).cmt.cause = 9 ∧
    (run (.commitLinkTimeout 0) (cmt .portions 3)).cmt.cause = 0 ∧ (run (.groupPortionAck 0 9) (cmt .portions 5)).cmt.acked = 0 ∧
    (run (.commitSwitch 10000) (cmt .accepted)).cmt.frm = 4 ∧ (run (.commitSwitch 9999) (cmt .accepted)).cmt.phase = .accepted := by
  decide +kernel
theorem wit_switch : coreOn (cmt .accepted) = true ∧ (cmt .accepted).cmt.phase = .accepted ∧
    (cmt .accepted).cmt.acceptT + 2000 ≤ 10000 ∧ (cmt .accepted).frm.tickT = 10000 := by decide +kernel
def writingDev (leave : Bool) : State := { svcDev 0x14 with cfg := { (svcDev 0x14).cfg with writing := some CfgSet.none, leave := leave } }
def storing : State := { modCore (writingDev true) 0 fun k => { k with svc := some ⟨0x14, 0x20000000, 0, 4, 0, true, false, false⟩ } with sram := [(1, 9)] }
theorem wit_eflash : coreOn (writingDev true) = true ∧ (writingDev true).cfg.writing = some CfgSet.none ∧ (writingDev true).upd.trialFlag = false ∧
    (writingDev true).cfg.leave = true ∧ (writingDev true).cfg.wrote < 47 ∧ (writingDev false).cfg.leave = false ∧
    storing.core[0].svc = some ⟨0x14, 0x20000000, 0, 4, 0, true, false, false⟩ ∧
    nvStatus ⟨0x14, 0x20000000, 0, 4, 0, true, false, false⟩ = 0 := by decide +kernel
theorem test_eflash : (run (.eflashWriteDone (.record true)) (writingDev true)).cfg.committed = some CfgSet.none ∧
    (run (.eflashWriteDone (.record false)) (writingDev true)).cfg.committed = none ∧
    (run (.eflashWriteDone (.record true)) (writingDev false)).cfg.committed = none ∧
    (run (.eflashWriteDone (.nvStore 0)) storing).core[0].nv = [(1, 9)] := by decide +kernel
def asks (m : Mode) (r : Option Mode) (trig : Bool) : State :=
  { dev m [] with sys := { (dev m []).sys with modeReq := r, safeReq := trig }, cfg := { (dev m []).cfg with committed := some .none } }
/-- Group 0 is out of service. -/
def outOfService (s : State) : State := modGrp s 0 fun x => { x with supply := .selfFailed }
theorem wit_modeChange : inService (asks .run none true) = true ∧ (asks .run none true).frm.tickT = 0 ∧
    setOk (asks .commission (some .run) false) .run = true ∧ setOk (asks .run (some .commission) false) .commission = true ∧
    oosMask (outOfService (asks .run none false)) = 1 ∧ oosMask (asks .degraded none false) = 0 := by decide +kernel
theorem test_modeChange : (run (.modeChange 0) (asks .run none true)).sys.mode = .safe ∧
    (run (.modeChange 0) (asks .commission (some .run) false)).sys.mode = .run ∧
    (run (.modeChange 0) (asks .degraded none false)).sys.mode = .run ∧ (run (.modeChange 1) (asks .run none true)).sys.mode = .run := by
  decide +kernel

/-! ### Converter lanes, rotation and transfers (R34 to R40, R104 to R128, R143 to R151) -/

/-- One Gait slot LANE_START for role A of group 0; a sequence of two entries that convert channel 0 at gain 1. -/
def laneDev : State := gait .run [(0x1014, 2)] 0x1101
def conv (q : Int) : ConvIn := { q := q, excRecent := false, commonMode := false, sinceNs := 5000 }
def started : State := run (.laneStart 0) laneDev
theorem wit_laneStart : inService laneDev = true ∧ slotIs laneDev 0 1 = true ∧ (0 : GroupId) ∈ slotGroups laneDev 0 ∧ alive laneDev 0 = true ∧
    laneDev.grp[0].scan = false ∧ laneDev.grp[0].ilv = false ∧ (slotArg laneDev 0).testBit 8 = true ∧ 0 < laneLen laneDev 0 .a := by
  decide +kernel
theorem wit_lanes : started.grp[0].lanes[0].running = true ∧ (run (.entryEnd 0 .a) started).grp[0].lanes[0].entry = 1 ∧
    (entryOf started 0 .a started.grp[0].lanes[0].entry).src = .chan 0 true ∧
    (run (.entryEnd 0 .a) started).grp[0].lanes[0].done.getLsbD 0 = false := by decide +kernel
/-- R111: the channel's track-and-hold tracks again from the end of its held entry, 1 µs after the start. -/
theorem test_heldEnd : (run (.entryEnd 0 .a) started).ch[0].ai.heldEnd = true ∧ (run (.entryEnd 0 .a) started).ch[0].ai.trackFrom = 1000 := by
  decide +kernel
theorem test_lanes : started.grp[0].lanes[0].entry = 0 ∧
    (run (.entryEnd 0 .a) (run (.entryEnd 0 .a) started)).grp[0].lanes[0].running = false ∧
    (run (.resultWrite 0 .a (conv 0)) (run (.entryEnd 0 .a) started)).grp[0].lanes[0].new = 1 ∧
    (run (.resultWrite 0 .a (conv 0)) (run (.entryEnd 0 .a) started)).grp[0].lanes[0].lost = 0 := by decide +kernel
/-- Group 0 in scan-mask mode with channel 0 in the mask; its scan has ended. -/
def scanDev (chk : Bool) : State := modGrp (dev .commission [(0x1013, 1)]) 0 fun x => { x with scan := true, selfChk := chk }
theorem wit_scanEnd : alive (scanDev false) 0 = true ∧ (scanDev false).grp[0].scan = true ∧ 0 < laneLen (scanDev false) 0 .a ∧
    (∀ r : Fin 3, (scanDev false).grp[0].lanes[r].running = false) ∧ (scanDev false).grp[0].selfChk = false := by decide +kernel
theorem test_scanEnd : (run (.scanEnd 0) (scanDev false)).grp[0].lanes[1].running = true := by decide +kernel
def checking (ok : Bool) (n : Nat) : State := modGrp (scanDev true) 0 fun x => { x with scanOk := ok, scans := n, supply := .startup }
theorem wit_selfCheck : coreOn (checking true 0) = true ∧ alive (checking true 0) 0 = true ∧ (checking true 0).grp[0].scan = true ∧
    (∀ r : Fin 3, (checking true 0).grp[0].lanes[r].running = false) ∧ (checking true 0).grp[0].selfChk = true ∧
    0 < laneLen (checking true 0) 0 .a ∧ 7 ≤ (checking false 7).grp[0].scans := by decide +kernel
def exiting : State := modGrp (checking true 0) 0 fun x => { x with exitReq := true }
theorem wit_scanModeExit : exiting.grp[0].exitReq = true := by decide +kernel
theorem test_scanModeExit : (run (.scanModeExit 0) exiting).grp[0].supply = .normal ∧ (run (.scanModeExit 0) exiting).grp[0].scan = true := by
  decide +kernel
def ilvDev : State := modGrp (dev .run []) 0 fun x => { x with ilv := true }
theorem wit_interleave : alive ilvDev 0 = true ∧ ilvDev.grp[0].ilv = true ∧ ilvDev.grp[0].supply = .normal ∧
    0 < period ilvDev.cfg.active ∧ 1 * 500 < period ilvDev.cfg.active := by decide +kernel
def shadowDev : State := modGrp ilvDev 0 fun x => { x with shadow := 1 }
theorem wit_shadow : alive shadowDev 0 = true ∧ shadowDev.grp[0].ilv = true ∧ inOverlap shadowDev.grp[0] .s = true ∧
    inOverlap ilvDev.grp[0] .s = false := by decide +kernel
theorem test_shadow : (run (.resultWrite 0 .s (conv 0)) shadowDev).grp[0].lanes[2].new.getLsbD 0 = true := by decide +kernel
/-- R126, R157: a resistance channel under interleave with its wire-break check on; the reading lies beyond C. -/
def ilvBreak : State := modGrp (dev .run [(0x2000, 8), (0x2019, 0x8000)]) 0 fun x => { x with ilv := true }
theorem wit_interleave_break : wbEnabled ilvBreak 0 = true ∧ modeG ilvBreak 0 = 8 ∧ alive ilvBreak 0 = true ∧ ilvBreak.grp[0].ilv = true ∧
    ilvBreak.grp[0].supply = .normal ∧ entryC ilvBreak 0 (ilvEntry ilvBreak 0) < (correct ilvBreak 0 .b (ilvEntry ilvBreak 0) 40000000).2.1 ∧
    (run (.interleaveSample 0 1 (conv 40000000)) ilvBreak).ch[0].flt.opn = true := by decide +kernel
theorem test_interleave : (run (.interleaveSample 0 0 (conv 0)) ilvDev).ch[0].ai.fresh = true ∧
    (run (.interleaveSample 0 1 (conv 0)) ilvDev).ch[0].ai.fresh = false := by decide +kernel
def rotDev (st : BitVec 3) (p : Nat) : State := modGrp (dev .run []) 0 fun x =>
  { x with rot := { x.rot with step := st, frames := 1000, pairs := p } }
theorem wit_rotation : coreOn (rotDev 2 0) = true ∧ (rotDev 2 0).grp[0].rot.step = 2 ∧ spWf calNominal (rotDev 2 0).cal.tables = true ∧
    (rotDev 3 1).grp[0].rot.step = 3 ∧ (rotDev 3 1).grp[0].rot.restart = false ∧
    fld (act (rotDev 3 1) 0x3006) 9 0 ≤ (rotDev 3 1).grp[0].rot.frames ∧ (rotDev 3 1).grp[0].rot.other = false ∧
    0 < (rotDev 3 1).grp[0].rot.pairs := by decide +kernel
theorem test_rotation : (run (.overlapEnd 0) (rotDev 3 1)).grp[0].rot.rms = 0 ∧ (run (.sweepEnd 0 []) (rotDev 2 0)).grp[0].rot.step = 3 := by
  decide +kernel

def inDev : State := gait .run [] 0x2001
def sentIn : State := run (.inXfer 0) inDev
theorem wit_inXfer : inService inDev = true ∧ slotIs inDev 0 2 = true ∧ (0 : GroupId) ∈ slotGroups inDev 0 ∧ alive inDev 0 = true ∧
    wordsOut sentIn.grp[0] = false ∧ sentIn.sys.degMask.getLsbD 0 = false ∧ inx.linkErr.getLsbD 0 = false ∧
    ({ inx with linkErr := 1 } : InXferIn).linkErr.getLsbD 0 = true ∧ sentIn.grp[0].tx.isSome = true ∧ (1 : GroupId) ∉ slotGroups inDev 0 := by
  decide +kernel
theorem test_inXfer : (run (.inXferEnd 0 { inx with linkErr := 1 }) sentIn).far.linkErr[0] = 1 ∧
    (run (.inXferEnd 0 { inx with linkErr := 1 }) sentIn).pi.inw[0].getLsbD 5 = true ∧
    (run (.inXferEnd 0 inx) sentIn).far.linkErr[0] = 0 := by decide +kernel
/-- OUT_XFER for group 0; channel 0 in mode 4 with an accepted word. -/
def outDev : State :=
  let s := gait .run [(0x2000, 4)] 0x4001
  modOut { s with pi := { s.pi with outw := s.pi.outw.set 0 0x80000000 } } 0 fun o => { o with accepted := true }
def outSent : State := run (.outXfer 0) outDev
/-- A task of slot 0 still runs at its deadline, slot 1. -/
def lateDev : State :=
  let s := modCore (dev .run [(0x0110, 2)]) 0 fun k => { k with run := .fg 0 0 }
  { s with cfg := { s.cfg with active := { s.cfg.active with gaitAct := spPut gaitActReset s.cfg.active.gaitAct 1 0x4001 } } }
theorem wit_outXfer : inService outDev = true ∧ slotIs outDev 0 4 = true ∧ outDev.frm.ovrXfer = false ∧
    (∀ c : CoreId, outDev.core[c].run = .idle ∧ outDev.core[c].queue = []) ∧ (0 : GroupId) ∈ slotGroups outDev 0 ∧
    outDev.grp[0].link = false ∧ inService lateDev = true ∧ slotIs lateDev 1 4 = true ∧ fgMode lateDev.sys.mode = true ∧
    lateDev.core[0].run = .fg 0 0 ∧ deadlineOf lateDev 0 = some 1 ∧ outSent.grp[0].xfer = some 0 := by decide +kernel
theorem test_outXfer : (run (.outXferEnd 0) outSent).ch[0].out.xfer = 0x80000000 ∧ (run (.outXferEnd 0) outSent).grp[0].xferNew = true ∧
    (run (.outXfer 1) lateDev).frm.overrun = true ∧ (run (.outXfer 1) lateDev).core[0].run = .idle := by decide +kernel
/-- OUT_APPLY for group 0 with channel 0 in mode `m`, the word delivered. -/
def applyDev (m : HWord) (l : List (Nat × HWord)) (w : W32) : State :=
  let s := modGrp (gait .run ((0x2000, m) :: l) 0x5001) 0 fun x => { x with xferNew := true }
  modOut s 0 fun o => { o with xfer := w, off := false, subst := false, started := true }
theorem wit_outApply : inService (applyDev 0x14 [] 0) = true ∧ slotIs (applyDev 0x14 [] 0) 0 5 = true ∧
    (chGroup 0) ∈ slotGroups (applyDev 0x14 [] 0) 0 ∧ alive (applyDev 0x14 [] 0) (chGroup 0) = true ∧ (applyDev 0x14 [] 0).grp[0].link = false ∧
    groupOff (applyDev 0x14 [] 0).grp[0] = false ∧ (applyDev 0x14 [] 0).grp[0].hold = false ∧ safeInForce (applyDev 0x14 [] 0) 0 = false ∧
    forced (applyDev 0x14 [] 0) 0 = false ∧ busy (applyDev 0x14 [] 0) 0 = false ∧ heldOff (applyDev 0x14 [] 0) 0 = false ∧
    chG (applyDev 0x14 [] 0) 0 0x0C = 0 ∧ modeG (applyDev 0x14 [] 0) 0 = 4 ∧ modeG (applyDev 0x15 [] 0) 0 = 5 ∧ modeG (applyDev 0x13 [] 0) 0 = 3 ∧
    inrushG (applyDev 0x13 [] 0) 0 = 0 ∧ chG (applyDev 0x14 [(0x200C, 5)] 0) 0 0x0C ≠ 0 ∧ isOutMode 4 = true ∧
    chGroup 8 ∉ slotGroups (applyDev 0x14 [] 0) 0 ∧ modeG (applyDev 0x1A [(0x2014, 0)] 0) 0 = 10 ∧
    fld (chG (applyDev 0x1A [(0x2014, 0)] 0) 0 0x14) 11 0 = 0 := by decide +kernel
theorem test_outApply : (run (.outApply 0) (applyDev 0x14 [] 0xFFFFFFFF)).ch[0].out.applied = 0x80000000 ∧
    (run (.outApply 0) (applyDev 0x15 [] 0x12345678)).ch[0].out.applied = 0x12340000 ∧
    (run (.outApply 0) (applyDev 0x14 [(0x200C, 5)] 0xFFFFFFFF)).ch[0].out.applied = 0 ∧
    (run (.channelApply 0) (run (.outApply 0) (applyDev 0x14 [(0x200C, 5)] 0xFFFFFFFF))).ch[0].out.applied = 0x80000000 := by decide +kernel
theorem wit_channelApply : (run (.outApply 0) (applyDev 0x14 [(0x200C, 5)] 0xFFFFFFFF)).ch[0].out.armed = some true := by decide +kernel

/-! ### Tasks and background windows (R41 to R43, R184, R227 to R229) -/

def relDev : State := tasked (gait .run [] 0x3000)
def relQueued : State := run (.taskRel 0) relDev
theorem wit_tasks : inService relDev = true ∧ slotIs relDev 0 3 = true ∧ fgMode relDev.sys.mode = true ∧ released relDev 0 = some task ∧
    fgMode (tasked (gait .commission [] 0x3000)).sys.mode = false ∧ relQueued.core[0].run = .idle ∧ relQueued.core[0].queue = [(0, 0)] ∧
    findTask relQueued 0 0 = some task := by decide +kernel
theorem test_tasks : relQueued.core[0].releases[0] = 1 ∧ (run (.taskStart 0) relQueued).core[0].pc = 0x40 ∧
    (run (.taskStart 0) relQueued).core[0].a[7] = 0x10001000 ∧ (run (.taskStart 0) relQueued).core[0].startAt = 4 := by decide +kernel
def bgTask : Task := { task with index := 1, bg := true, bgpri := 0 }
def bgDev (a : HWord) : State :=
  let s := modCore (gait .run [] a) 0 fun k => { k with bgReady := 2 }
  { s with img := { s.img with tasks := [bgTask] }, frm := { s.frm with bgOpen := true } }
def bgRunning (a : HWord) : State := run (.bgTaskStart 0) (bgDev a)
theorem wit_background : slotIs (bgDev 0x8000) 0 8 = true ∧ slotIs (bgDev 0x9000) 0 9 = true ∧ bgMode (bgDev 0x8000).sys.mode = true ∧
    (bgDev 0x8000).frm.bgOpen = true ∧ coreFree (bgDev 0x8000) 0 = true ∧ (bgDev 0x8000).core[0].run = .idle ∧
    (bgDev 0x8000).core[0].queue = [] ∧ (bgDev 0x8000).core[0].susp = none ∧ nextBg (bgDev 0x8000) 0 = some bgTask ∧
    (bgRunning 0x9000).core[0].run = .bg 1 ∧ inService (bgDev 0x9000) = true ∧
    (run (.bgClose 0) (bgRunning 0x9000)).core[0].susp.isSome = true := by decide +kernel
theorem test_background : (run (.bgClose 0) (bgRunning 0x9000)).core[0].run = .idle ∧
    (run (.bgClose 0) (bgRunning 0x9000)).frm.bgOpen = false ∧
    (run (.bgOpen 0) { run (.bgClose 0) (bgRunning 0x9000) with cfg := (bgDev 0x8000).cfg }).core[0].run = .bg 1 := by decide +kernel

/-! ### Digital channels and pulses (R51 to R79) -/

/-- Channel 0 in a mode with listed registers; its digital side as `f` makes it. -/
def chan (m : HWord) (l : List (Nat × HWord)) (f : Chan → Chan) : State := modCh (dev .run ((0x2000, m) :: l)) 0 f
theorem wit_di : isDigMode (modeG (chan 1 [] id) 0) = true ∧ alive (chan 1 [] id) (chGroup 0) = true ∧ (chan 1 [] id).ch[0].di.raw ≠ true ∧
    (let s := chan 2 [] fun x => { x with di := { x.di with raw := true } }
     isDigMode (modeG s 0) = true ∧ s.ch[0].di.raw ≠ s.ch[0].di.state ∧ edgeTime s 0 ≤ 100000000) ∧
    modeG (chan 2 [] id) 0 = 2 ∧ (chan 2 [] id).frm.no.toNat % 2 ^ fld (chG (chan 2 [] id) 0 7) 7 4 = 0 ∧
    (chan 2 [] fun x => { x with di := { x.di with clrReq := true } }).ch[0].di.clrReq = true := by decide +kernel
/-- R59: a raw change outside modes 1 to 5 moves the raw level alone. -/
theorem wit_di_other : isDigMode (modeG (chan 7 [] id) 0) = false ∧ alive (chan 7 [] id) (chGroup 0) = true ∧
    (run (.diRawChange 0 true 77) (chan 7 [] id)).ch[0].di.raw = true ∧ (run (.diRawChange 0 true 77) (chan 7 [] id)).ch[0].di.tPh = 0 := by
  decide +kernel
theorem test_di : (run (.diRawChange 0 true 77) (chan 1 [] id)).ch[0].di.tRaw = 77 ∧
    (run (.diFilterChange 0 100000000) (chan 2 [] fun x => { x with di := { x.di with raw := true, count := 0xFFFFFFFF } })).ch[0].di.count = 0 ∧
    (run (.diFilterChange 0 100000000) (chan 2 [] fun x => { x with di := { x.di with raw := true, count := 0xFFFFFFFF } })).ch[0].di.wrap = true ∧
    (run (.diFilterChange 0 100000000) (chan 1 [] fun x => { x with di := { x.di with raw := true, count := 5 } })).ch[0].di.count = 5 ∧
    (run (.freqGateEnd 0) (chan 2 [] id)).ch[0].di.gateOn = true ∧
    (run (.counterClear 0) (chan 2 [] fun x => { x with di := { x.di with count := 5, clrReq := true } })).ch[0].di.count = 0 := by decide +kernel
/-- R62's flowmeter: 20 edges, the first 0.310 ms and the last 15.510 ms after the gate's tick, give 12,500 tenths of a hertz. -/
theorem test_freq : gateFreq { (Chan.reset).di with gateOn := true, gateM := 20, gateFirst := some 310000, gateLast := 15510000 } = 12500 := by
  decide +kernel
def pulseDev (on : W32) : State := chan 0x13 [(0x2010, 0xC000)] fun x =>
  { x with out := { x.out with applied := on, off := false, subst := false, started := true } }
theorem wit_pulse : modeG (pulseDev 0x80000000) 0 = 3 ∧ (pulseDev 0x80000000).grp[chGroup 0].supply = .normal ∧
    (chG (pulseDev 0x80000000) 0 0x10).getLsbD 15 = true ∧ (chG (pulseDev 0) 0 0x10).getLsbD 14 = true ∧
    noPulse (pulseDev 0x80000000) 0 = false ∧ noPulse (pulseDev 0) 0 = false ∧ pulseIn (pulseDev 0x80000000) (chGroup 0) = false ∧
    (pulseDev 0x80000000).ch[0].out.applied.msb ≠ false ∧ (pulseDev 0).ch[0].out.applied.msb ≠ true ∧
    (chan 3 [] fun x => { x with out := { x.out with inrush := true } }).ch[0].out.inrush = true ∧
    (let s := chan 0x15 [] fun x => { x with out := { x.out with started := true, off := false } }
     modeG s 0 = 5 ∧ s.ch[0].out.started = true ∧ s.ch[0].out.off = false) := by decide +kernel
def pulsing (light : Bool) (raw : Bool) : State := chan 0x13 [] fun x =>
  { x with out := { x.out with pulse := some light }, di := { x.di with raw := raw } }
theorem wit_pulseEnd : (pulsing true false).ch[0].out.pulse = some true ∧ (pulsing false true).ch[0].out.pulse = some false ∧
    (pulsing false true).ch[0].di.raw = true ∧ (pulsing false true).ch[0].flt.stuck = false ∧ coreOn (pulsing false true) = true := by
  decide +kernel
theorem test_pulse_end : (run (.testPulseStart 0 false) (pulseDev 0x80000000)).ch[0].out.pulse = some false ∧
    (run (.testPulseEnd 0 1 5) (pulsing true false)).ch[0].flt.opn = true ∧ (run (.testPulseEnd 0 2 5) (pulsing true false)).ch[0].flt.opn = false ∧
    (run (.testPulseEnd 0 2 5) (pulsing false true)).ch[0].flt.stuck = true ∧
    (run (.testPulseEnd 0 2 5) (pulsing false true)).evt.pend.getLsbD 93 = true := by decide +kernel

/-! ### Faults, thermal protection and shutdowns (R89, R157 to R165, R179) -/

/-- Channel 0 is suspect and waits for channel 1, which is ON with DARK_EN. -/
def owing : State := modOut (modFlt (dev .run [(0x2000, 3), (0x2040, 3), (0x2050, 0x8000)]) 0 fun f => { f with suspect := true, darkWait := 2 }) 1
  fun o => { o with applied := 0x80000000 }
theorem wit_faults : alive (chan 7 [(0x2019, 0x8000)] id) (chGroup 0) = true ∧ wbEnabled (chan 7 [(0x2019, 0x8000)] id) 0 = true ∧
    (chan 6 [] fun x => { x with flt := { x.flt with wbOpen := true } }).ch[0].flt.wbOpen = true ∧
    (let s := chan 0x13 [(0x2019, 0x4000)] fun x => { x with out := { x.out with applied := 0x80000000, iload := 1 } }
     modeG s 0 = 3 ∧ (chG s 0 0x19).getLsbD 14 = true ∧ s.ch[0].out.applied.msb = true ∧ s.ch[0].out.iload < 2) ∧
    (let s := chan 0x13 [] fun x => { x with di := { x.di with raw := true } }
     modeG s 0 = 3 ∧ s.ch[0].out.applied.msb = false ∧ s.ch[0].flt.busy = 0 ∧ s.ch[0].di.raw = true) ∧
    (chan 3 [] fun x => { x with flt := { x.flt with suspect := true } }).ch[0].flt.suspect = true ∧
    darkOwed (chan 3 [] fun x => { x with flt := { x.flt with suspect := true } }) 0 = false ∧ darkMates owing 0 = 2 ∧
    owing.ch[0].flt.suspect = true ∧ darkOwed owing 0 = true := by decide +kernel
/-- R162: the dark pulse of channel 1 ends the wait, and the test of channel 0 can then end. -/
theorem test_darkWait : (run (.stuckTestEnd 0 true) owing).ch[0].flt.stuck = false ∧
    (run (.testPulseEnd 1 9 5) (modOut owing 1 fun o => { o with pulse := some false })).ch[0].flt.darkWait = 0 ∧
    (run (.stuckTestEnd 0 true) (run (.testPulseEnd 1 9 5) (modOut owing 1 fun o => { o with pulse := some false }))).ch[0].flt.stuck = true := by
  decide +kernel
theorem test_faults : (run (.stuckTestEnd 0 true) (chan 3 [] fun x => { x with flt := { x.flt with suspect := true } })).ch[0].flt.stuck = true ∧
    (run (.stuckTestEnd 0 false) (chan 3 [] fun x => { x with flt := { x.flt with suspect := true } })).ch[0].flt.stuck = false := by decide +kernel
/-- Channels 0 and 1 in mode 3, both OFF: a light pulse of channel 0 that channel 1's RAW follows is a cross-wire. -/
def crossDev : State := dev .run [(0x2000, 0x13), (0x2040, 0x13)]
theorem wit_cross : modeG crossDev 0 = 3 ∧ (1 : ChanId) ∈ offMates crossDev 0 ∧ (0 : BitVec 64).getLsbD 1 = false ∧ (2 : BitVec 64).getLsbD 1 = true := by
  decide +kernel
theorem test_cross : (run (.crossSample 0 true 2 0) crossDev).ch[1].flt.cross = true ∧ (run (.crossSample 0 true 2 0) crossDev).ch[0].flt.cross = true ∧
    (run (.crossSample 0 true 0 0) crossDev).ch[1].flt.cross = false := by decide +kernel
def sense (o t : Bool) : State := chan 7 [] fun x => { x with ai := { x.ai with senseOpen := o, senseTrial := t } }
theorem wit_sense : alive (sense false false) (chGroup 0) = true ∧ modeG (sense false false) 0 = 7 ∧ (sense false false).ch[0].ai.senseOpen = false ∧
    (sense true false).ch[0].ai.senseOpen = true ∧ (sense true true).ch[0].ai.senseTrial = true := by decide +kernel
theorem test_sense : (run (.sensePathOpen 0) (sense false false)).ch[0].ai.ovldev = true ∧
    (run (.sensePathReclose 0) (sense true false)).ch[0].ai.senseTrial = true ∧
    (run (.sensePathCheck 0 true) (sense true true)).ch[0].ai.senseOpen = false ∧
    (run (.sensePathCheck 0 false) (sense true true)).ch[0].ai.senseOpen = true := by decide +kernel
def hot (l : List (Nat × HWord)) (off : Bool) (w : W32) : State := chan 0x13 l fun x =>
  { x with flt := { x.flt with therm := true }, out := { x.out with off := off, xfer := w, subst := false, accepted := true } }
theorem wit_thermal : alive (hot [] false 0) (chGroup 0) = true ∧ modeG (hot [] false 0) 0 = 3 ∧ busy (hot [] false 0) 0 = false ∧
    (hot [] true 0).ch[0].flt.therm = true ∧ (hot [] true 0).ch[0].out.off = true ∧ fld (chG (hot [(0x2019, 0x100)] true 0) 0 0x19) 10 8 ≠ 0 ∧
    (hot [] true 0).ch[0].flt.tripped = false ∧ groupOff (hot [] true 0).grp[chGroup 0] = false ∧
    outBits (modeG (hot [(0x2019, 0x100)] true 0x80000000) 0) (wanted (hot [(0x2019, 0x100)] true 0x80000000) 0) ≠ 0 ∧
    (hot [] false 0).ch[0].out.off = false := by decide +kernel
theorem wit_groupOvercurrent : 6000 < (([7000] : List Nat).take 8).sum ∧
    highest (chan 0x13 [] fun x => { x with out := { x.out with applied := 0x80000000, off := false } }) (chGroup 0) [7000, 0, 0, 0, 0, 0, 0, 0] = some 0 := by
  decide +kernel
/-- R70, R71: ILIM resets to 10, so the limit is 750 mA, and 2,000 mA in an inrush window. -/
theorem wit_limit : limitMa (chan 0x13 [] id) 0 = some 750 ∧ limitMa (chan 0x13 [] fun x => { x with out := { x.out with inrush := true } }) 0 = some 2000 ∧
    limitMa (chan 0x14 [] id) 0 = some 300 ∧ (run (.currentLimit ⟨0, 750⟩) (chan 0x13 [] id)).ch[0].flt.limit = true ∧
    (run (.currentLimit ⟨0, 749⟩) (chan 0x13 [] id)).ch[0].flt.limit = false := by decide +kernel
/-- R159: a thermal shutdown while the output demagnetises is noted. -/
theorem wit_thermal_busy : busy (chan 0x13 [] fun x => { x with flt := { x.flt with busy := 1 } }) 0 = true ∧
    modeG (chan 0x13 [] fun x => { x with flt := { x.flt with busy := 1 } }) 0 = 3 ∧
    holdOff (hot [(0x2019, 0x100)] true 0x80000000) (chGroup 0) = false ∧
    (run (.thermalShutdown 0 true) (chan 0x13 [] fun x => { x with flt := { x.flt with busy := 1 } })).ch[0].flt.therm = true := by decide +kernel
theorem test_thermal : (run (.thermalShutdown 0 true) (chan 0x13 [] id)).ch[0].flt.busy = 1 ∧
    (run (.thermalShutdown 0 false) (chan 0x14 [] id)).ch[0].flt.therm = true ∧ (run (.currentLimit ⟨0, 250⟩) (chan 0x13 [] id)).ch[0].flt.limit = false ∧
    (run (.thermalRetry 0) (hot [(0x2019, 0x100)] true 0x80000000)).ch[0].out.applied = 0x80000000 ∧
    (run (.thermClear 0) (hot [(0x2019, 0x100)] false 0)).ch[0].flt.therm = false ∧ (run (.ovc 0 true) (dev .run [])).grp[0].ovc = true := by
  decide +kernel
def shutting (b : BitVec 2) (m : HWord) : State := chan m [] fun x => { x with flt := { x.flt with busy := b, queued := some (.value 0xFFFFFFFF) } }
theorem wit_shutdown : (shutting 1 0x13).ch[0].flt.busy = 1 ∧ (shutting 2 0x1B).ch[0].flt.busy = 2 ∧ (shutting 3 0x1A).ch[0].flt.busy = 3 ∧
    (shutting 0 0x14).ch[0].flt.busy = 0 ∧ (shutting 0 0x14).ch[0].flt.queued = some (.value 0xFFFFFFFF) ∧ modeG (shutting 0 0x14) 0 = 4 ∧
    groupOff (shutting 0 0x14).grp[chGroup 0] = false ∧ (shutting 0 0x14).grp[chGroup 0].hold = false ∧ safeInForce (shutting 0 0x14) 0 = false ∧
    heldOff (shutting 0 0x14) 0 = false := by decide +kernel
/-- A safe value queued in SAFE: channel 0, safe value ON (code 1). -/
def safeQueued : State := modFlt (dev .safe [(0x2000, 0x14), (0x2017, 0x4000)]) 0 fun f => { f with queued := some .safe }
theorem wit_shutdown_safe : safeQueued.ch[0].flt.busy = 0 ∧ modeG safeQueued 0 = 4 ∧ groupOff safeQueued.grp[chGroup 0] = false ∧
    holdOff safeQueued (chGroup 0) = false ∧ safeInForce safeQueued 0 = true ∧ heldOff safeQueued 0 = false ∧
    (run (.queuedRequestApply 0) safeQueued).ch[0].out.applied = 0x80000000 := by decide +kernel
theorem test_shutdown : (run (.demagEnd 0) (shutting 1 0x13)).ch[0].flt.busy = 0 ∧ (run (.demagEnd 0) (shutting 2 0x1B)).ch[0].flt.busy = 2 ∧
    (run (.dischargeEnd 0) (shutting 3 0x1A)).ch[0].flt.busy = 0 ∧ (run (.aoRampdownEnd 0) (shutting 2 0x1B)).ch[0].flt.busy = 0 ∧
    (run (.queuedRequestApply 0) (shutting 0 0x14)).ch[0].out.applied = 0x80000000 := by decide +kernel

/-! ### Field supply, HOLD, links and leases (R10, R156, R166 to R177, R248 to R255) -/

def grp0 (f : Grp → Grp) : State := modGrp (dev .run [(0x2000, 0x14)]) 0 f
theorem wit_supply : alive (grp0 id) 0 = true ∧ (grp0 id).grp[0].lpwarn = false ∧ coreOn (grp0 id) = true ∧
    (grp0 fun x => { x with lpwarn := true }).grp[0].lpwarn = true ∧ (grp0 id).grp[0].supply ≠ .uvoff ∧ (grp0 id).grp[0].supply ≠ .overvoltage ∧
    isOutMode (modeG (grp0 id) (grpCh 0 0)) = true ∧ (grp0 fun x => { x with supply := .unpowered }).grp[0].supply = .unpowered ∧
    (grp0 fun x => { x with supply := .uvoff }).grp[0].supply = .uvoff := by decide +kernel
theorem test_supply : (run (.lpwarn 0 18000) (grp0 id)).grp[0].lpwarn = true ∧ (run (.lpwarn 0 18000) (grp0 id)).evt.recs[evLpwarn 0].payload = 18000 ∧
    (run (.uvoff 0 9000) (grp0 id)).grp[0].supply = .uvoff ∧ (run (.uvoff 0 9000) (grp0 id)).evt.recs[evLpfail 0].payload = 3 ∧
    (run (.overvoltage 0 40000) (grp0 id)).evt.recs[evLpfail 0].payload = 4 ∧ (run (.fieldUnpowered 0) (grp0 id)).grp[0].supply = .unpowered := by
  decide +kernel
theorem test_supplyRestored : (run (.supplyRestored 0 none 24000) (grp0 fun x => { x with supply := .uvoff })).grp[0].supply = .recovery ∧
    (run (.supplyRestored 0 none 24000) (grp0 fun x => { x with supply := .unpowered })).grp[0].supply = .startup := by decide +kernel
/-- Group 0 holds with hold code `k` in GRP_CFG; one heartbeat has been heard in frame 4. -/
def holding (k : HWord) (hold done : Bool) (f : BitVec 48) : State :=
  let s := modGrp (dev .run [(0x1026, k)]) 0 fun x => { x with hold := hold, holdDone := done, hbFrm := some f, hbRun := 1, fbs := 0 }
  { s with frm := { s.frm with no := 5 } }
theorem wit_hold : alive (holding 0 false false 4) 0 = true ∧ (holding 0 false false 4).grp[0].heard = true ∧
    (holding 0 false false 4).grp[0].hold = false ∧ holdCode (holding 0 false false 4).grp[0] 0 < 6 ∧
    (modGrp (holding 0 false false 4) 0 fun x => { x with heard := false }).grp[0].heard = false ∧
    (holding 3 true false 4).grp[0].hold = true ∧ (holding 3 true false 4).grp[0].holdDone = false ∧
    1 ≤ holdCode (holding 3 true false 4).grp[0] 0 ∧ holdCode (holding 7 true false 4).grp[0] 0 = 7 ∧
    holdCode (holding 0 true false 4).grp[0] 0 = 0 ∧ coreOn (holding 3 true true 4) = true ∧ (holding 3 true true 4).grp[0].link = false ∧
    (holding 3 true true 4).wdt.fired = false ∧ (holding 3 true true 4).grp[0].hbFrm ≠ some (holding 3 true true 4).frm.no ∧
    (holding 3 true true 4).grp[0].hbFrm = some ((holding 3 true true 4).frm.no - 1) ∧ 1 ≤ (holding 3 true true 4).grp[0].hbRun ∧
    (holding 3 true true 2).grp[0].hbFrm ≠ some ((holding 3 true true 2).frm.no - 1) := by decide +kernel
theorem test_hold : (run (.holdEntry 0) (holding 7 false false 4)).grp[0].holdDone = true ∧
    (run (.holdEntry 0) (holding 3 false false 4)).grp[0].holdDone = false ∧ (run (.holdTimeout 0) (holding 3 true false 4)).grp[0].holdDone = true ∧
    (run (.holdTimeout 0) (holding 0 true false 4)).grp[0].holdDone = false ∧ (run (.heartbeat 0) (holding 3 true true 4)).grp[0].hold = false ∧
    (run (.heartbeat 0) (holding 3 true true 4)).grp[0].restWait = true ∧ (run (.heartbeat 0) (holding 3 true true 2)).grp[0].hold = true := by
  decide +kernel
def clearing : State := { modGrp (chan 0x13 [] fun x => { x with flt := { x.flt with clrReq := true, cfgmm := true } }) 0 fun x =>
  { x with mmFrames := 4, grpMm := true, cfgmm := true, bankOk := false, fltClr := true, restWait := true } with now := 0 }
theorem wit_links : coreOn clearing = true ∧ alive clearing 0 = true ∧ clearing.grp[0].bankOk = false ∧ 4 ≤ clearing.grp[0].mmFrames ∧
    clearing.grp[0].cfgmm = true ∧ clearing.ch[0].flt.cfgmm = true ∧
    safeInForce clearing 1 = true ∧ (modCh (dev .run [(0x2000, 0x14)]) 0 id).ch[0].flt.clrReq = false ∧
    safeInForce (dev .run [(0x2000, 0x14)]) 0 = false ∧ modeG (dev .run [(0x2000, 0x14)]) 0 ≠ 11 ∧ clearing.ch[0].flt.clrReq = true ∧ clearing.grp[0].fltClr = true ∧ clearing.ch[1].flt.clrReq = false := by
  decide +kernel
theorem test_links : (run (.linkLoss 0) clearing).grp[0].link = true ∧ (run (.ihlileLinkUp 0 2 false) clearing).grp[0].supply = .startup ∧
    (run (.ihlileLinkUp 0 2 true) clearing).upd.linkVer[0] = some 2 ∧ (run (.groupFwLoaded 0) clearing).grp[0].bankOk = true ∧
    (run (.cfgmmSet 0) clearing).ch[1].flt.cfgmm = true ∧ (run (.cfgResend 0) clearing).grp[0].resend = true ∧
    (run .faultClearApply clearing).grp[0].restWait = false := by decide +kernel
theorem test_faultClear : (run .faultClearApply (modGrp clearing 0 fun x => { x with grpMm := false, mmFrames := 0 })).ch[0].flt.cfgmm = false := by decide +kernel
def slotDev (x : Slot → Slot) : State := modSlot (dev .run []) 0 x
theorem wit_leases : coreOn (slotDev id) = true ∧ (slotDev fun x => { x with st := .pending, grantable := true, op := .record }).pgv.slots[0].st = .pending ∧
    (∀ g, (slotDev fun x => { x with st := .pending, grantable := true, op := .record }).pgv.slots[0].op ≠ .handover g) ∧
    (slotDev fun x => { x with st := .granted, due := true }).pgv.slots[0].due = true ∧
    (slotDev fun x => { x with st := .pending, deny := true, op := .record }).pgv.slots[0].deny = true ∧ (slotDev id).pgv.wait = [] ∧
    (slotDev fun x => { x with st := .pending, grantable := true, op := .handover 0 }).pgv.slots[0].op = .handover 0 := by decide +kernel
/-- A request for the turn-on of channel 0, pending and grantable; one for a handover in step 4. -/
def turnOn : State := modOut (slotDev fun x => { x with st := .pending, grantable := true, op := .turnOn 0 }) 0 fun o => { o with leave := true }
def handing : State := modGrp (slotDev fun x => { x with st := .pending, grantable := true, op := .handover 0 }) 0 fun x =>
  { x with rot := { x.rot with step := 4 } }
theorem wit_leases_grant : (run (.leaveGrant 0) turnOn).ch[0].out.granted = true ∧ turnOn.log.waitReads = [] ∧ handing.grp[0].rot.step = 4 ∧
    turnOn.sec.sigQ.head? = none ∧ (run (.leaveGrant 0) handing).grp[0].rot.rotCnt = 1 := by decide +kernel
theorem test_leases : (run (.leaveGrant 0) (slotDev fun x => { x with st := .pending, grantable := true, op := .record, frames := 3 })).pgv.slots[0].left = 3 ∧
    (run (.leaseEnd 0) (slotDev fun x => { x with st := .granted, due := true })).pgv.slots[0].st = .ended ∧
    (run (.reinsDeny 0) (slotDev fun x => { x with st := .pending, deny := true, op := .record })).pgv.denyCnt = 1 ∧
    (run (.leaseEnd 0) (slotDev fun x => { x with st := .granted })).pgv.slots[0].st = .granted := by decide +kernel

/-! ### Supervision, freeze and the debug port (R341 to R358) -/

/-- The watchdog runs since 0; the reset WDT_CTL; SRC 0 is the Groom core. -/
def watch (now : Nat) : State :=
  let s := dev .run [(0x0300, 0x0000)]
  { s with now := now, wdt := { s.wdt with run := true, start := 0, cnt := 0 } }
theorem wit_watchdog : coreOn (watch 10) = true ∧ (watch 10).wdt.fired = false ∧ (watch 10).wdt.run = true ∧
    (∀ c, Access.groom ≠ .core c) ∧ writeCause (watch 10) .groom 0x0301 0x6E5A = none ∧ writeCause (watch 10) .groom 0x0301 1 = none := by
  decide +kernel
/-- P 1,024 cycles, WIN 0: the window opens at 256. -/
def watched : State :=
  let s := dev .run [(0x0300, 10)]
  { s with wdt := { s.wdt with run := true } }
theorem wit_wdtServe : serveCode .groom = some (fld (act watched 0x0300) 14 12) ∧ serveCode .hostUntagged ≠ some (fld (act watched 0x0300) 14 12) ∧
    watched.wdt.start + 2 * 255 ≥ watched.now ∧ wdtWindow watched = 256 ∧ wdtPeriod watched = 1024 ∧ coreOn watched = true ∧
    writeCause (trusted watched) .hostUntagged 0x0301 0x6E5A = none := by decide +kernel
theorem test_wdtServe : (run (.wdtServe .groom 0x6E5A 255) watched).wdt.fired = true ∧ (run (.wdtServe .groom 0x6E5A 256) watched).wdt.fired = false ∧
    (run (.wdtServe .groom 0x6E5A 256) watched).wdt.start = 512 ∧ (run (.wdtServe .groom 0x6E5A 1024) watched).wdt.fired = true ∧
    (run (.wdtServe .groom 1 300) watched).evt.recs[70].payload = 1 ∧ (run .watchdogExpiry watched).core[2].cause = 6 := by decide +kernel
theorem test_wdtForeign : (run (.wdtServe .hostUntagged 0x6E5A 300) (trusted watched)).wdt.foreign = true ∧
    (run (.wdtServe .hostUntagged 0x6E5A 300) (trusted watched)).wdt.start = 0 := by decide +kernel
def tally (start : Bool) (n : Nat) : State :=
  let s := tasked (dev .run [])
  modCore { s with tal := { s.tal with started := start } } 0 fun k => { k with checkins := k.checkins.set 0 n, releases := k.releases.set 0 1 }
theorem wit_tally : inService (tally true 1) = true ∧ (tally true 1).frm.no.toNat % 2 ^ fld (act (tally true 1) 0x0310) 3 0 = 0 ∧
    (tally true 1).tal.started = true ∧ ({ tally true 1 with frm := { (tally true 1).frm with no := 1 } } : State).frm.no.toNat % 2 ^ 4 ≠ 0 := by
  decide +kernel
theorem wit_tally_counts : (∀ x ∈ monitored (tally true 1), x.core = 0 ∧ x.index = 0) ∧ talExpected (tally true 1) task = some 1 ∧
    (tally true 1).core[0].checkins[0] = 1 ∧ (tally true 2).core[0].checkins[0] ≠ 1 := by decide +kernel
theorem test_tally : (run .tallyPeriodEnd (tally true 1)).tal.mmCnt = 0 ∧ (run .tallyPeriodEnd (tally true 2)).tal.mmCnt = 1 ∧
    (run .tallyPeriodEnd (tally true 2)).core[0].checkins[0] = 0 ∧ (run .tallyPeriodEnd (tally false 2)).tal.mmCnt = 0 := by decide +kernel
def freezing : State := let s := dev .run [(0x0320, 0x8000)]
  { s with frz := { s.frz with req := true, snapReq := true } }
theorem wit_freeze : inService freezing = true ∧ (act freezing 0x0320).getLsbD 15 = true ∧ coreOn freezing = true ∧ freezing.frz.req = true ∧
    freezing.frz.snapReq = true ∧ (dev .frozen []).sys.mode = .frozen ∧ writeCause freezing .groom 0x0321 1 = none ∧
    bufFull freezing 4 = false ∧ 0 < bufCap freezing.cfg.active 4 ∧ fld (act freezing 0x0C21) 10 0 ≠ 0 := by decide +kernel
theorem test_freeze : (run .freezeNRequest freezing).frz.src = 1 ∧ (run .jtagFreeze (dev .run [])).frz.src = 2 ∧
    (run (.freezeStop 5) freezing).sys.mode = .frozen ∧ (run (.freezeStop 5) freezing).sys.prevMode = .run ∧
    (run .jtagFreeze (dev .frozen [])).frz.req = false := by decide +kernel
theorem wit_debug : (dev .run []).sys.mode ≠ .off ∧ (dev .run []).sec.dbgBlock = false ∧ (dev .run []).sec.verifT = [] ∧
    (unlockCause (dev .run []) [] true false).isSome = true ∧ ({ (dev .run []).sec with dbgBlock := true } : Sec).dbgBlock = true := by decide +kernel
theorem test_debug : (run .jtagUnlockStat (dev .run [])).sent = [.tdo [0]] ∧ (run (.frzRead 2) (dev .run [])).sent = [.tdo [0, 0]] ∧
    (run (.jtagUnlockResp [] ⟨true, false⟩) (dev .run [])).sec.dbgFails = 1 := by decide +kernel

/-! ### Logbook and monitors (R328 to R340) -/

theorem wit_frameRecord : let s := dev .run [(0x0C01, 1), (0x0C28, 1)]
    inService s = true ∧ s.frm.no.toNat % 2 ^ fld (act s 0x0C28) 3 0 = 0 ∧ bufFull s 0 = false ∧ 0 < bufCap s.cfg.active 0 ∧
      bufFull s 3 = false ∧ 0 < bufCap s.cfg.active 3 ∧
      ({ s with frm := { s.frm with no := 1 } } : State).frm.no.toNat % 2 ^ fld (act s 0x0C28) 3 0 ≠ 0 := by decide +kernel
def waveDev (n : Nat) : State := let s := dev .run [(0x0C11, 16)]
  { s with log := { s.log with wave := s.log.wave.set 0 { frm := 0, j := 0, samples := List.replicate n 0 },
                               bufs := s.log.bufs.set 2 { s.log.bufs[2] with armed := true }, trigFrm := some 0 } }
theorem wit_wave : coreOn (waveDev 254) = true ∧ 254 ≤ (waveDev 254).log.wave[0].samples.length ∧ bufFull (waveDev 254) 2 = false ∧
    0 < bufCap (waveDev 254).cfg.active 2 ∧ (dev .run []).log.bufs[2].armed = false ∧ writeCause (dev .run []) .groom 0x0C35 1 = none ∧
    (waveDev 0).log.trigFrm = some 0 := by decide +kernel
theorem test_waveBlock : (run (.waveBlockWrite 0) (waveDev 254)).log.bufs[2].next = 1 ∧
    (run (.waveBlockWrite 0) (waveDev 254)).log.wave[0].samples = [] := by decide +kernel
theorem test_wave : (run (.logWfarm .groom 1) (dev .run [])).log.bufs[2].armed = true ∧
    (run .waveCaptureStop (waveDev 0)).log.bufs[2].trigd = true := by decide +kernel
/-- In an open background window (R43). -/
def window : State := { dev .run [] with frm := { (dev .run []).frm with bgOpen := true } }
theorem wit_window : window.frm.bgOpen = true ∧ inService window = true ∧ (dev .run []).frm.bgOpen = false := by decide +kernel
theorem wit_monitors : (p : Bool) → coreOn (dev .run []) = true ∧ (dev .run []).far.tempWarn.getLsbD 3 = false ∧
    (dev .run []).far.supWarn.getLsbD 2 = false ∧ inService (dev .run []) = true ∧ (dev .run []).far.starved.getLsbD 1 = false ∧
    (1 : Fin 6) ≠ 0 := fun _ => by decide +kernel
theorem test_monitors : (run (.tempWarn 3 true) (dev .run [])).evt.recs[116].payload = 3 ∧
    (run (.tempWarn 3 true) (run (.tempWarn 3 true) (dev .run []))).evt.recs[116].count = 1 ∧
    (run (.supplyWarn 2 true) (dev .run [])).evt.recs[117].payload = 2 ∧
    (run (.sramScrubDone ⟨1, 0, 0, []⟩) window).far.ecc = 1 ∧ (run (.logbookScrubDone ⟨1, 0, 0, []⟩) window).evt.recs[114].payload = 1 ∧
    (run (.eflashVerifyDone ⟨0, 0, 0, [(1, 2)]⟩) window).cal.factErr = true ∧
    (run (.backgroundStarved 1) (dev .run [])).far.lapse = 2 := by decide +kernel

/-! ### Register accesses (R4 to R6, R137, R277, R281, R313 to R327) -/

theorem wit_writeAllowed : WriteAllowed (dev .commission []) .groom 0x2000 3 := by unfold WriteAllowed; decide +kernel
theorem wit_writeAllowed_host : WriteAllowed (trusted (dev .commission [])) .hostUntagged 0x2000 3 := by unfold WriteAllowed; decide +kernel
theorem wit_writeAllowed_core : WriteAllowed (cpu []) (.core 0) 0x0280 3 := by unfold WriteAllowed; decide +kernel
theorem wit_registers : plainCm 0x2000 = true ∧ plainCm (0x6000 - 0x4000) = true ∧ isMirror 0x6000 = false ∧ isReg 0x0FFF = false ∧
    isMirror 0x5800 = true ∧ plainCm 0x0113 = false := by decide +kernel
theorem test_registerWrite : (run (.registerWrite .groom 0x2000 ⟨0xFFFF, 0⟩) (dev .commission [])).cfg.staged.reg 0x2000 = cmMask 0x2000 ∧
    (run (.registerWrite .groom 0x6000 ⟨4, 0⟩) (dev .commission [])).cfg.staged.reg 0x2000 = 4 ∧
    (run (.registerWrite .groom 0x2000 ⟨4, 0⟩) (dev .commission [])).cfg.active.reg 0x2000 = 0 ∧
    (run (.registerWrite .groom 0x0280 ⟨0x0003, 0⟩) { dev .commission [] with evt := { (dev .commission []).evt with pend := 7 } }).evt.pend = 4 ∧
    (run (.registerWrite .groom 0x0280 ⟨0x0003, 0x0002⟩) { dev .commission [] with evt := { (dev .commission []).evt with pend := 7 } }).evt.pend = 6 := by
  decide +kernel
theorem wit_setReg : CfgSet.none.wf = true ∧ CfgSet.none.reg 0x2000 &&& cmMask 0x2000 = CfgSet.none.reg 0x2000 := by decide +kernel
theorem wit_refused : coreOn (dev .run []) = true ∧ writeCause (dev .run []) .hostUntagged 0x2000 3 = some cNoSession ∧
    readCause (dev .run []) .hostUntagged 0x2000 = some cNoSession ∧ coreForbidden 0x2000 = true ∧ canRun (cpu []) 0 = true := by decide +kernel
theorem test_refused : (run (.registerWrite .hostUntagged 0x2000 ⟨3, 0⟩) (dev .run [])).sec.refuseCnt = 1 ∧
    (run (.registerWrite .hostUntagged 0x2000 ⟨3, 0⟩) (dev .run [])).sec.refuseCause = cNoSession ∧
    (run (.registerWrite (.core 0) 0x2000 ⟨3, 0⟩) (cpu [])).core[0].bus = 3 ∧
    (run (.registerWrite (.core 0) 0x2000 ⟨3, 0⟩) (cpu [])).core[0].xaddr = 0x40004000 := by decide +kernel
theorem wit_keyed : WriteAllowed (dev .run []) .groom 0x0006 0x9A3C ∧ WriteAllowed (dev .run []) .groom (chAddr 63 0x08) 1 ∧
    WriteAllowed (trusted (dev .run [])) .hostUntagged (chAddr 0 0x1B) 0x4B1D ∧ WriteAllowed (dev .run []) .groom (chAddr 0 0x1B) 0x4B1D ∧
    WriteAllowed (trusted (dev .run [])) .hostUntagged (grpAddr 7 0x29) 0x4B2D ∧ WriteAllowed (dev .run []) .groom (grpAddr 7 0x29) 0x4B2D ∧
    WriteAllowed (dev .run []) .groom 0x029D 0xE7C1 ∧ WriteAllowed (dev .run []) .groom 0x3005 0x5A1C ∧
    cmtPend (dev .run []) = false ∧ (dev .run []).cfg.staged.wf = true := by unfold WriteAllowed; decide +kernel
theorem test_keyed : (run (.sysRst .groom 0x9A3C) (dev .run [])).sys.rstReq = true ∧ (run (.sysRst (.core 0) 0x9A3C) (cpu [])).sys.rstReq = false ∧
    (run (.chCntclr .groom 63 1) (dev .run [(chAddr 63 0, 2)])).ch[63].di.clrReq = true ∧ (run (.chCntclr .groom 63 1) (dev .run [])).ch[63].di.clrReq = false ∧
    (run (.chFltclr .hostUntagged 0 0x4B1D) (trusted (dev .run []))).ch[0].flt.clrReq = true ∧
    (run (.chFltclr .groom 0 0x4B1D) (dev .run [])).ch[0].flt.clrReq = false ∧
    (run (.grpFltclr .hostUntagged 7 0x4B2D) (trusted (dev .run []))).ch[56].flt.clrReq = true ∧
    (run (.grpFltclr .hostUntagged 7 0) (trusted (dev .run []))).grp[7].fltClr = false ∧
    (run (.evtRecclr .groom 0xE7C1) (run (.tempWarn 0 true) (dev .run [(0x0298, 0)]))).evt.recs[116].count = 1 := by decide +kernel
theorem test_userReset : (run (.calUserReset .groom 0) (dev .run [])).cal.badKey = true ∧
    (run (.calUserReset .groom 0x5A1C) (dev .run [(0x3010, 1)])).cfg.staged.reg 0x3010 = 0 := by decide +kernel
/-- The Groom core's reader has selected an entry of a table. -/
def calDev (sel : HWord) : State := let s := dev .commission []
  { s with rdr := s.rdr.map fun r => { r with calSel := sel, calIdx := 0, calLo := 0x1234 } }
theorem wit_calData : WriteAllowed (calDev 0) .groom 0x3003 5 ∧ ReadAllowed (calDev 0) .groom (resAddr 7 .s 15) ∧
    ReadAllowed (calDev 0) .groom 0x0299 ∧ snapGroup 0x0299 = some (0x0299, 4) ∧ (calDev 0).cfg.staged.wf = true := by
  unfold WriteAllowed ReadAllowed; decide +kernel
theorem test_cnvRes : (run (.cnvResRead .groom 0 .a 0 true) (modGrp (dev .run []) 0 fun x =>
    { x with lanes := x.lanes.set 0 { x.lanes[0] with new := 3 } })).grp[0].lanes[0].new = 2 := by decide +kernel

theorem wit_crc : WriteAllowed (dev .run []) .groom (crcAddr 2 0) 1 ∧ WriteAllowed (dev .run []) .groom (crcAddr 3 4) 1 ∧
    ReadAllowed (dev .run []) .groom (crcAddr 2 3) := by unfold WriteAllowed ReadAllowed; decide +kernel
theorem test_crc : (run (.crcCfg .groom 2 2) (dev .run [])).crc[2].run = crcInit 2 ∧ (run (.crcCfg .groom 0 2) (dev .run [])).crc[0].poly = 1 ∧
    (run (.crcCfg .groom 0 2) (dev .run [])).log.crcStat = true := by decide +kernel
theorem wit_mailbox : WriteAllowed (trusted (dev .run [])) .hostUntagged 0x0700 576 ∧ WriteAllowed (trusted (dev .run [])) .hostUntagged 0x0580 1 ∧
    WriteAllowed (trusted (dev .run [])) .hostUntagged 0x0581 0x8002 ∧ (0x8002 : HWord).getLsbD 15 = true ∧ (0x8002 : HWord).getLsbD 14 = false ∧
    (0x4000 : HWord).getLsbD 14 = true ∧ ReadAllowed (dev .run []) .hostUntagged 0x0582 := by unfold WriteAllowed ReadAllowed; decide +kernel
/-- Two bytes in, submitted, and a reply held. -/
def mailed : State := run (.secMbin .hostUntagged 0x0102) (dev .run [])
theorem test_mailbox : mailed.sec.mbIn = [1, 2] ∧ (run (.mailboxSend .hostUntagged 0x8002) mailed).sec.mbBusy = true ∧
    (run (.mailboxSend .hostUntagged 0x8003) mailed).sec.refuseCnt = 1 ∧ (run (.mailboxClear .hostUntagged 0x4000) mailed).sec.mbIn = [] ∧
    (run .mailboxReply { mailed with sec := { mailed.sec with mbBusy := true, mbReply := [9, 8, 7] } }).sec.mbOut = [9, 8, 7] ∧
    (run (.mailboxOutRead .hostUntagged) { mailed with sec := { mailed.sec with mbOut := [9, 8, 7] } }).sec.mbOut = [7] ∧
    (run (.hpLen .hostUntagged 592) (trusted (dev .run []))).hp.lenNext = some 592 ∧
    (run (.hpLen .hostUntagged 80) (trusted (dev .run []))).hp.stat = 1 := by decide +kernel
theorem wit_mailboxReply : coreOn { mailed with sec := { mailed.sec with mbBusy := true, mbReply := [9] } } = true ∧
    mailed.sec.mbIn.length + 2 ≤ 1536 ∧ (2 : HWord).toNat % 2048 ≤ mailed.sec.mbIn.length := by decide +kernel

/-- The request of the example at R316: a read of SYS_MODE with SEQ 3, HCRC 0x48. -/
def hpDev : State := let s := trusted (dev .run [])
  { s with hp := { s.hp with ready := true, reply := [0] } }
def readMode : HpFrame := { hpf with addr := 4, seq := 3, hcrc := 0x48, payload := List.replicate 62 0, trailer := crc32c (List.replicate 62 0) }
theorem wit_hpRead : coreOn hpDev = true ∧ hpDev.hp.ready = true ∧ hpDev.hp.lenNext = none ∧ readMode.rsv = false ∧ readMode.ext = 0 ∧
    readMode.hcrc = crc8 (reqHead 1 readMode) ∧ readMode.trailer = crc32c (padTo (areaLen hpDev.hp.len false) readMode.payload) ∧
    0 + 1 ≤ areaLen hpDev.hp.len false / 2 ∧ hpDev.hp.reply ≠ [] ∧ blockReadCause hpDev .hostUntagged (blockOf false readMode) = none := by
  decide +kernel
theorem test_hpRead : (reqHeader 1 readMode) = 0x1000400C ∧ areaLen 576 false = 62 ∧ (run (.hpRead readMode) hpDev).hp.reply.take 4 = [0x13, 0x00, 0x00, 0x04] ∧
    (run (.hpRead readMode) hpDev).hp.ready = false ∧ (run (.hpNop 1 { readMode with hcrc := 0 }) hpDev).hp.crcErr = 1 := by decide +kernel
def writeReg : HpFrame := { hpf with addr := 0x2000, payload := [0, 4] ++ List.replicate 60 0, hcrc := crc8 (reqHead 3 { hpf with addr := 0x2000 }),
                                     trailer := crc32c ([0, 4] ++ List.replicate 60 0) }
theorem wit_hpWrite : writeReg.hcrc = crc8 (reqHead 3 writeReg) ∧ writeReg.trailer = crc32c (padTo 62 writeReg.payload) ∧
    blockWriteCause hpDev .hostUntagged [(0x2000, 4)] = none := by decide +kernel
theorem test_hpWrite : (run (.hpWrite writeReg) hpDev).cfg.staged.reg 0x2000 = 4 ∧ (run (.hpFrameDiscard 70000 false 0) hpDev).hp.bits = 0xFFFF ∧
    (run (.hpFrameDiscard 70000 false 0) hpDev).hp.frmErr = 1 ∧ (run .hpReplyReady { hpDev with hp := { hpDev.hp with ready := false } }).hp.ready = true := by
  decide +kernel

/-- The expansion port enabled; a start for device 0 of the reset length, 8 bits. -/
def xpDev (l : List (Nat × HWord)) : State := dev .run ((0x0780, 0x8000) :: l)
def xpRunning : State := { xpDev [] with xp := { (xpDev []).xp with job := some { dev := 0, bits := 8, start := 0, txCrc := none, rxCrc := none, started := true, ahead := 0, rdy := false } } }
theorem wit_xp : coreOn (xpDev []) = true ∧ WriteAllowed (xpDev []) .groom 0x0786 0x8000 ∧ (act (xpDev []) 0x0780).getLsbD 15 = true ∧
    xpBusy (xpDev []) = false ∧ (act (dev .run []) 0x0780).getLsbD 15 = false ∧ (xpAccept (xpDev []) 0x8000).isSome = true ∧
    (xpAccept (xpDev []) 0x8600).isSome = true ∧ xpRunning.xp.job.isSome = true ∧ xpRunning.xp.fillWait = [] := by unfold WriteAllowed; decide +kernel
theorem test_xp : (run (.xpStart .groom 0x8000) (xpDev [])).xp.job = xpRunning.xp.job ∧ (run (.xpStart .groom 0x8000) (dev .run [])).xp.cmdErr = true ∧
    (run (.xpStart .groom 0x8600) (xpDev [])).crc[2].held = true ∧ (run (.xpTransferDone [true]) xpRunning).xp.done = true ∧
    (run (.xpTransferDone [true]) xpRunning).xp.buf[0] = 0x8000 := by decide +kernel
/-- Device 0 with RDYEN: a transfer started, and one that waits behind a line fill of the Groom core. -/
def next (o : Host.Outcome State Fault Refusal) : State := match o with
  | .next t => t
  | _ => State.reset
def xpReady : State := next (execXpStart .groom 0x8000 (xpDev [(0x0791, 0x0080)]))
def filling : State := next (execXipLineFill .groom 0x60000010 (xpDev [(0x0781, 0xA000)]))
def behind : State := next (execXpStart .groom 0x8000 filling)
theorem wit_xpTimeout : (xpReady.xp.job.map (·.rdy)) = some true ∧ (xpReady.xp.job.map (·.started)) = some true ∧ xpReady.xp.fillWait = [] := by
  decide +kernel
/-- R319: the transfer starts when the fill ends. -/
theorem wit_xpBehind : filling.xp.fill = some (.groom, 0x60000010) ∧ filling.xp.fillWait = [] ∧ filling.xp.job = none ∧
    behind.xp.fill.isSome = true ∧ (behind.xp.job.map (·.started)) = some false ∧ behind.xp.fillWait = [] ∧
    ((run (.xipFillDone (.line (List.replicate 16 7))) behind).xp.job.map (·.started)) = some true := by decide +kernel
theorem wit_fill : mayFill (bgCpu []) (.core 0) 0x60000010 = true ∧ mayFill (xpDev [(0x0781, 0xA000)]) .groom 0x60000010 = true ∧
    xipOn (xpDev [(0x0781, 0xA000)]) = true ∧ (act (xpDev [(0x0781, 0xA000)]) 0x0781).getLsbD 13 = true ∧
    xipOn (bgCpu []) = false ∧ xpBusy (bgCpu []) = false ∧ mayFill xpRunning .groom 0x60000010 = true ∧ xpBusy xpRunning = true ∧
    xpBusy (xpDev [(0x0781, 0xA000)]) = false := by decide +kernel
theorem test_fill : (run (.xipFillDone (.line (List.replicate 16 7))) (run (.xipLineFill .groom 0x60000014) (xpDev [(0x0781, 0xA000)]))).xp.groomLine =
      some (0x60000010, List.replicate 16 7) ∧
    (run (.xipFillDone .timeout) (run (.xipLineFill .groom 0x60000014) (xpDev [(0x0781, 0xA000)]))).xp.errCnt = 1 ∧
    (run (.xipLineFill .groom 0x60000010) xpRunning).xp.fillWait = [(.groom, 0x60000010)] := by decide +kernel

/-! ### Sessions, ownership and signed commands (R257 to R276) -/

/-- Peer 1 on the network with a context, session 3 live under a root key, four generations of owner. -/
def root : BitVec 64 := 7
def netMsg (open_ : Bool) : MsgCtx :=
  { iface := .eth, peer := 1, ver := 0x12, domain := if open_ then 0xFFFF else 0xFFFE, txid := 5, formatOk := true, t := 0 }
def secDev (m : Mode) : State :=
  let s := dev m [(0x080C, 0xFFFE)]
  modSess { s with sec := { s.sec with gen := some 0, roots := [root], peers := [{ iface := .eth, peer := 1, ver := 0x12, t := 0 }] } } 3
    fun x => { x with st := .live, kid := root, peer := 1, minor := 2 }
theorem wit_arrives : Arrives (secDev .run) (netMsg false) ∧ Accepted (secDev .run) (netMsg false) false false ∧
    Accepted (secDev .run) (netMsg true) true false ∧ Accepted (secDev .run) (netMsg true) true true := by
  unfold Accepted Arrives; decide +kernel
/-- The header of a message with VER 0x12, DOMAIN 0xFFFF and TXID 5, submitted through the mailbox. -/
theorem wit_arrives_mailbox : Arrives { dev .run [] with sec := { (dev .run []).sec with
      mbBusy := true, mbMsg := [0, 0x12, 0, 0, 0xFF, 0xFF, 0, 0, 0, 0, 0, 5, 0, 0, 0, 0] } }
    { netMsg true with iface := .host } := by unfold Arrives; decide +kernel
/-- R305: a frame that finds 64 held is dropped and counted. -/
theorem wit_rxFull : coreOn (secDev .run) = true ∧ (secDev .run).sys.mode ≠ .boot := by decide +kernel
theorem test_rxFull : (run (.idRead { netMsg true with rxFull := true }) (secDev .run)).net.rxDrop = 1 := by decide +kernel
theorem wit_messageRefused : msgCause (secDev .run) { netMsg false with domain := 0 } false false = some cDevice ∧
    msgCause (secDev .run) (netMsg false) true true = some cFormat ∧ msgCause (secDev .run) { netMsg false with peer := 9 } false false = some cHandshake := by
  decide +kernel
def rec0 (n : BitVec 64) (ok : Bool) : RecCtx := { msg := netMsg false, sid := 3, seq := n, tagOk := ok }
theorem wit_record : RecAccepted (secDev .run) (rec0 0 true) ∧ Accepted (secDev .run) (rec0 0 false).msg false false ∧ (rec0 0 false).tagOk = false := by
  unfold RecAccepted RecPasses SendsOn Accepted Arrives; decide +kernel
/-- A record outside a session, and a plain message inside one. -/
def bareRec : RecCtx := { rec0 0 true with bare := true }
def inRecord (ok : Bool) : MsgCtx := { netMsg false with inRec := some { sid := 3, seq := 0, tagOk := ok } }
theorem wit_bare : Arrives (secDev .run) bareRec.msg ∧ msgCause (secDev .run) bareRec.msg false false = none ∧
    Arrives (secDev .run) (inRecord true) ∧ msgCause (secDev .run) (inRecord true) false false = none ∧ SendsOn (secDev .run) 3 ∧
    isLive (secDev .run) 3 = true := by unfold SendsOn Arrives; decide +kernel
theorem test_bare : (run (.cyclicUnbind bareRec) (secDev .run)).sec.refuseCause = cNoSession ∧
    (run (.idRead (inRecord false)) (secDev .run)).sec.refuseCause = cTag ∧
    (run (.idRead (inRecord true)) (secDev .run)).sec.refuseCause = cFormat := by decide +kernel
/-- R268: after its last record a session closes. -/
def lastRec : State := modSess (secDev .run) 3 fun x => { x with sendSeq := 0xFFFFFFFFFFFFFFFE }
theorem wit_lastRecord : RecPasses lastRec (rec0 0 true) ∧ ¬SendsOn lastRec 3 ∧ 1 ≤ lastRec.sec.sess[3].minor := by
  unfold RecPasses SendsOn Arrives; decide +kernel
theorem test_record : (run (.cyclicUnbind (rec0 0 false)) (secDev .run)).sec.refuseCause = cTag ∧
    (run (.cyclicUnbind (rec0 0 true)) (secDev .run)).sec.sess[3].hi = 1 ∧
    (run (.cyclicUnbind (rec0 0 true)) (run (.cyclicUnbind (rec0 0 true)) (secDev .run))).sec.refuseCause = cReplay := by decide +kernel

theorem wit_hello : helloOk { netMsg true with ver := 0 } 2 [0, 1, 0, 0, 0, 0, 0, 0, 0, 0, 0, 0, 0, 0, 0, 0] = true ∧ (2 : BitVec 16).getLsbD 1 = true ∧
    helloOk { netMsg true with ver := 0 } 1 (List.replicate 16 0) = true ∧ (1 : BitVec 16).getLsbD 1 = false ∧
    Arrives (secDev .run) { netMsg true with ver := 0 } ∧
    ((secDev .run).sec.peers.filter fun p => decide (p.iface ≠ .host ∧ ¬(p.iface = Iface.eth ∧ p.peer = 1))).length < 32 := by
  unfold Arrives; decide +kernel
theorem test_hello : ((run (.hello { netMsg true with ver := 0 } 2 [0, 1, 0, 0, 0, 0, 0, 0, 0, 0, 0, 0, 0, 0, 0, 0]) (secDev .run)).sec.peers.map (·.ver)) = [0x11] := by
  decide +kernel
/-- A SESS_INIT body that names the device. -/
def initBody (s : State) : List Byte := List.replicate 56 0 ++ beBytes 8 (devId s).toNat
theorem wit_sessInit : (initBody (secDev .run)).length = 64 ∧ ofBe (slice (initBody (secDev .run)) 0x38 8) = (devId (secDev .run)).toNat ∧
    hsCount (secDev .run) < 4 ∧ freeSid (secDev .run) = some 0 := by
  refine ⟨by simp [initBody], ?_, by decide +kernel, by decide +kernel⟩
  have h : slice (initBody (secDev .run)) 0x38 8 = beBytes 8 (devId (secDev .run)).toNat := by
    have := slice_append_right (List.replicate 56 (0 : Byte)) (beBytes 8 (devId (secDev .run)).toNat) 8
    rw [List.length_replicate] at this
    exact this.trans (List.take_of_length_le (by simp))
  rw [h, ofBe_beBytes]
  exact Nat.mod_eq_of_lt (devId (secDev .run)).isLt
theorem wit_sessInit_busy : 4 ≤ hsCount ((List.finRange 4).foldl (fun s i => modSess s ⟨i.val + 4, by omega⟩ fun x => { x with st := .hs }) (secDev .run)) := by
  decide +kernel
/-- Session 0 in handshake with peer 1. -/
def handshaking : State := modSess (secDev .run) 0 fun x => { x with st := .hs, kid := root, peer := 1, minor := 2 }
def finBody : List Byte := List.replicate 72 0
theorem wit_sessFin : Accepted handshaking (netMsg false) false false ∧ finBody.length = 72 ∧ ofBe (slice finBody 1 7) = 0 ∧
    (finBody.getD 0 0).toNat = 0 ∧ handshaking.sec.sess[0].st = .hs ∧ handshaking.sec.sess[0].iface = .eth ∧ handshaking.sec.sess[0].peer = 1 ∧
    keyCause handshaking handshaking.sec.sess[0].kid = none ∧ EngineFree handshaking 0 := by unfold EngineFree Accepted Arrives; decide +kernel
theorem test_sessFin : isLive (run (.sessFin (netMsg false) finBody true false) handshaking) 0 = true ∧
    (run (.sessFin (netMsg false) finBody false false) handshaking).sec.refuseCause = cSignature := by decide +kernel
/-- A certificate of domain 0xFFFF under the root, and one with another KIND. -/
def cert (kind : Byte) : List Byte := [0x47, 0x4E, 0x50, 0x4C, 1, 0, 0, 0, kind, 0] ++ List.replicate 14 0 ++ [192, 0, 0, 0] ++ beBytes 8 7 ++
  List.replicate 28 0 ++ List.replicate 32 1 ++ [0x10, 0, 0xFF, 0xFF] ++ List.replicate 92 0
theorem wit_certLoad : certCause (secDev .run) (cert 2) true = none ∧ certCause (secDev .run) (cert 3) true = some cFormat ∧
    (secDev .run).sec.sigQ = [] ∧ certOk (cert 2) = true ∧ EngineFree (secDev .run) 0 ∧ (cacheKey (certKey (cert 2)) (secDev .run)).isSome = true := by
  unfold EngineFree; decide +kernel
theorem test_certLoad : (run (.certLoad (netMsg false) (cert 2) true) (secDev .run)).sec.cache.map (·.perm) = [0x10] := by decide +kernel
theorem wit_unlock : unlockCause (secDev .run) (List.replicate 192 0 ++ beBytes 8 7 ++ List.replicate 64 0) true true = none ∧
    unlockCause (secDev .run) (List.replicate 192 0 ++ beBytes 8 7 ++ List.replicate 64 0) true false = some cSignature := by decide +kernel
/-- A certificate waits behind a signed command, and finds the queue of 32 full (R276). -/
def waitingCmd (n : Nat) : State := { secDev .run with sec := { (secDev .run).sec with sigQ := List.replicate n (.cmd
  { sid := 3, iface := .eth, peer := 1, txid := 5, m := { code := 0x0101, cmdSeq := 1, signer := root, payload := [] }, gone := false }) } }
theorem wit_certWaits : certOk (cert 2) = true ∧ (∃ q, (waitingCmd 1).sec.sigQ.head? = some (.cmd q)) ∧ (waitingCmd 1).sec.sigQ.length < 32 ∧
    32 ≤ (waitingCmd 32).sec.sigQ.length ∧ (run (.certLoad (netMsg false) (cert 2) true) (waitingCmd 1)).sec.sigQ.length = 2 ∧
    (run (.certLoad (netMsg false) (cert 2) true) (waitingCmd 32)).sec.refuseCause = cBusy :=
  ⟨by decide +kernel, ⟨_, rfl⟩, by decide +kernel, by decide +kernel, by decide +kernel, by decide +kernel⟩
theorem wit_sessions_end : coreOn (secDev .run) = true ∧ isLive (secDev .run) 3 = true ∧ isLive (secDev .run) 4 = false ∧
    (secDev .run).sec.sess[3].lastT + 100000000 * fld (act (secDev .run) 0x0506) 9 0 ≤ 10 ^ 12 ∧ (secDev .run).sec.lossAt = none ∧
    ({ (secDev .run).sec with lossAt := some 0 } : Sec).lossAt ≠ none ∧
    (∀ i : Fin 16, isLive (secDev .run) i = true → ¬((secDev .run).sec.sess[i].iface = .udp ∧ (secDev .run).sec.sess[i].peer = 2)) := by
  decide +kernel
def spentDev : State := modSess (secDev .run) 3 fun x => { x with sendSeq := 0xFFFFFFFFFFFFFFFF }
theorem wit_spent : spentDev.sec.sess[3].st = .live ∧ isSpent spentDev 3 = true ∧ liveCount spentDev = 0 ∧ coreOn spentDev = true ∧
    (run (.sessionIdle 3 0) spentDev).sec.lossAt = some 0 := by decide +kernel
theorem test_sessions_end : (run (.sessClose (rec0 0 true)) (secDev .run)).sec.lossAt = some 0 ∧
    (run (.sessionIdle 3 (10 ^ 12)) (secDev .run)).sec.sess[3].st = .free ∧ (run (.handshakeTimeout 0 999999999) handshaking).sec.sess[0].st = .hs ∧
    (run (.handshakeTimeout 0 1000000000) handshaking).sec.sess[0].st = .free ∧
    (run .sessionLoss { secDev .run with now := 10 ^ 9, sec := { (secDev .run).sec with lossAt := some 0 } }).sys.safeReq = true ∧
    (run .sessionLoss { secDev .run with now := 10 ^ 9 - 1, sec := { (secDev .run).sec with lossAt := some 0 } }).sys.safeReq = false := by decide +kernel

/-- A CLAIM or TRANSFER body with one root for generation `g`. -/
def ownBody (s : State) (g : Byte) : List Byte := 1 :: g :: List.replicate 6 0 ++ beBytes 8 (devId s).toNat ++ List.replicate 96 0
theorem ownBody_device (s : State) (g : Byte) : ofBe (slice (ownBody s g) 8 8) = (devId s).toNat := by
  have h : slice (ownBody s g) 8 8 = beBytes 8 (devId s).toNat := by
    simp [slice, ownBody]
  rw [h, ofBe_beBytes]
  exact Nat.mod_eq_of_lt (devId s).isLt
def unclaimed : State := { secDev .run with sec := { (secDev .run).sec with gen := none, roots := [], claimPin := true } }
theorem wit_claim : Accepted unclaimed (netMsg true) true false ∧ ownerBody (ownBody unclaimed 0) 1 = true ∧ unclaimed.sec.claimPin = true ∧
    unclaimed.sec.gen = none ∧ ofBe (slice (ownBody unclaimed 0) 8 8) = (devId unclaimed).toNat ∧ EngineFree unclaimed 0 ∧
    (secDev .run).sec.gen.isSome = true :=
  ⟨by unfold Accepted Arrives; decide +kernel, by simp [ownerBody, ownBody, slice, ofBe, ofLe], rfl, rfl, ownBody_device _ _,
    by unfold EngineFree; decide +kernel, rfl⟩
theorem wit_transfer : ownerBody (ownBody (secDev .run) 1) 2 = true ∧ (secDev .run).sec.gen = some 0 ∧
    ((ownBody (secDev .run) 1).getD 1 0).toNat = 1 ∧ ofBe (slice (ownBody (secDev .run) 1) 8 8) = (devId (secDev .run)).toNat :=
  ⟨by simp [ownerBody, ownBody, slice, ofBe, ofLe], rfl, rfl, ownBody_device _ _⟩

/-! ### Messages of a session and signed commands (R303, R306, R275, R276) -/

theorem wit_session_messages : (1 : HWord).toNat ≤ 64 ∧ blockReadCause (secDev .run) (.xiram 3) [0x2000] = none ∧
    writeCause (secDev .run) (.xiram 3) 0x2000 4 = none ∧
    (secDev .run).log.heldRead = false ∧ ({ (secDev .run).log with heldRead := true } : Log).heldRead = true ∧ 5 ≤ (5 : Byte).toNat ∧ 1 ≤ (secDev .run).sec.sess[3].minor ∧ sessPerm (secDev .run) 3 0 = true ∧
    (secDev .run).sec.sess[3].iface ≠ .host ∧ (secDev .run).sec.bound = none ∧ 2 ≤ (secDev .run).sec.sess[3].minor ∧
    (secDev .run).core[0].inbox.length < 8 := by decide +kernel
theorem wit_session_messages_refused : ([(0x0005, (4 : HWord))].findSome? fun p => writeCause (modSess (secDev .run) 3 fun x => { x with kid := 9 })
      (.xiram 3) 0x2000 p.2) = some cPermission ∧
    (modSess (secDev .run) 3 fun x => { x with minor := 0 }).sec.sess[3].minor < 1 ∧
    sessPerm (modSess (secDev .run) 3 fun x => { x with kid := 9 }) 3 0 = false ∧
    ({ (secDev .run).sec with bound := some 4 } : Sec).bound = some 4 ∧
    8 ≤ (modCore (secDev .run) 0 fun k => { k with inbox := List.replicate 8 [] }).core[0].inbox.length := by decide +kernel
theorem test_session_messages : (run (.regWrite (rec0 0 true) 0x2000 1 [4]) (secDev .run)).cfg.staged.reg 0x2000 = 4 ∧
    (run (.eventSub (rec0 0 true) 5) (secDev .run)).sec.sess[3].evMask = 5 ∧ (run (.cyclicBind (rec0 0 true)) (secDev .run)).sec.bound = some 3 ∧
    (run (.app (rec0 0 true) 2 3 [1, 2, 3]) (secDev .run)).core[2].inbox = [[1, 2, 3]] ∧
    (run (.logRead (rec0 0 true) 5 1 0 false) (secDev .run)).sec.refuseCause = cFormat := by decide +kernel
def sm (code : HWord) (p : List Byte) : SignedMsg := { code := code, cmdSeq := 1, signer := root, payload := p }
theorem wit_signed : cmdFormat (sm 0x0102 [5]) = true ∧ cmdFormat (sm 0x0102 []) = false ∧ (secDev .run).sec.sigQ.length < 32 ∧
    32 ≤ (List.replicate 32 (sm 0x0101 [])).length := by decide +kernel
def queued (m : Mode) (code : HWord) (p : List Byte) : State :=
  { secDev m with sec := { (secDev m).sec with sigQ := [.cmd { sid := 3, iface := .eth, peer := 1, txid := 5, m := sm code p, gone := false }] } }
def head0 (code : HWord) (p : List Byte) : QCmd := { sid := 3, iface := .eth, peer := 1, txid := 5, m := sm code p, gone := false }
theorem passes {m code p} (h0 : coreOn (queued m code p) = true) (h : cmdCause (queued m code p) (head0 code p) true = none) :
    SignedPasses (queued m code p) code true 0 (head0 code p) :=
  ⟨h0, show 0 < 1000 by decide, rfl, rfl, h, fun _ _ _ e => absurd (show (none : Option QItem) = some _ from e) (by simp),
    show (0 : BitVec 64) ≠ 0xFFFFFFFFFFFFFFFE by decide⟩
theorem wit_noCerts (m code p) : NoCerts (queued m code p) ∧ NoCertNext (queued m code p) :=
  ⟨fun _ h => ⟨_, List.mem_singleton.mp h⟩, fun _ _ _ e => absurd (show (none : Option QItem) = some _ from e) (by simp)⟩
theorem wit_passes : SignedPasses (queued .run 0x0101 []) 0x0101 true 0 (head0 0x0101 []) ∧
    SignedPasses (queued .run 0x0102 [5]) 0x0102 true 0 (head0 0x0102 [5]) ∧
    SignedPasses (queued .commission 0x0103 [2, 0, 1, 2, 3, 4]) 0x0103 true 0 (head0 0x0103 [2, 0, 1, 2, 3, 4]) ∧
    SignedPasses (queued .run 0x0104 []) 0x0104 true 0 (head0 0x0104 []) :=
  ⟨passes (by decide +kernel) (by decide +kernel), passes (by decide +kernel) (by decide +kernel),
    passes (by decide +kernel) (by decide +kernel), passes (by decide +kernel) (by decide +kernel)⟩
theorem wit_passes2 : SignedPasses (queued .run 0x0106 (List.replicate 8 0)) 0x0106 true 0 (head0 0x0106 (List.replicate 8 0)) ∧
    SignedPasses (queued .run 0x0107 [0, 0, 0, 9]) 0x0107 true 0 (head0 0x0107 [0, 0, 0, 9]) ∧
    SignedPasses (queued .run 0x0108 [1]) 0x0108 true 0 (head0 0x0108 [1]) ∧
    cmdCause (queued .run 0x0108 [1]) (head0 0x0108 [1]) false = some cSignature :=
  ⟨passes (by decide +kernel) (by decide +kernel), passes (by decide +kernel) (by decide +kernel),
    passes (by decide +kernel) (by decide +kernel), by decide +kernel⟩
theorem wit_modeSet : setTarget 5 = some .safe ∧ setTarget 4 = none ∧ setSame (queued .run 0x0102 [5]) .safe = false ∧ setSame (queued .safe 0x0102 [5]) .safe = true ∧
    setOk (queued .run 0x0102 [5]) .safe = true ∧ setOk (queued .safe 0x0102 [3]) .run = false ∧ (queued .run 0x0102 [5]).upd.trialFlag = false := by
  decide +kernel
theorem test_signed : (run (.commitCmd true 0) (queued .run 0x0101 [])).cmt.phase = .requested ∧ (run (.modeSet true 0) (queued .run 0x0102 [5])).sys.modeReq = some .safe ∧
    (run (.force true 0) (queued .commission 0x0103 [2, 0, 1, 2, 3, 4])).ch[2].out.force = some 0x01020304 ∧
    (run (.freeze true 0) (queued .run 0x0104 [])).frz.req = true ∧ (run (.epochRaise true 0) (queued .run 0x0107 [0, 0, 0, 9])).sec.epoch = 9 ∧
    (run (.hpTrust true 0) (queued .run 0x0108 [1])).sec.hpTrust = true ∧ (run (.hpTrust false 0) (queued .run 0x0108 [1])).sec.hpTrust = false := by decide +kernel
theorem wit_keyDrop : findKey (queued .run 0x0106 (List.replicate 8 0)) 0 = none ∧
    (findKey { queued .run 0x0106 (List.replicate 8 0) with sec := { (queued .run 0x0106 (List.replicate 8 0)).sec with cache := [⟨0, 0x1FF, 0xFFFF, 0, []⟩] } } 0).isSome = true := by
  decide +kernel
/-- A staged manifest, its lock held by session 3, and an ACTIVATE that names its hash. -/
def mf : Manifest := { signer := root, release := 1, csig := true, entries := [], bytes := [1], cert := none }
def activating (payload : List Byte) : State :=
  let s := queued .commission 0x0105 payload
  { s with upd := { s.upd with st := .staged, lock := some 3, lockOpen := true, staged := some mf } }
def hashOf : List Byte := beBytes 64 (Config.sha512 mf.bytes).toNat
theorem wit_activate : activateStatus (activating (hashOf ++ [1])) (head0 0x0105 (hashOf ++ [1])) = 0 := by
  have h : slice (hashOf ++ [1]) 0 64 = hashOf := by
    have := slice_append_left hashOf [1]
    rwa [show hashOf.length = 64 from beBytes_length _ _] at this
  have g : (hashOf ++ [(1 : Byte)]).getD 64 0 = 1 := by
    rw [List.getD_eq_getElem?_getD, List.getElem?_append_right (by simp [hashOf])]
    simp [hashOf]
  unfold activateStatus
  rw [if_neg (by decide)]
  show (if beBytes 64 (Config.sha512 mf.bytes).toNat ≠ slice (hashOf ++ [1]) 0 64 then (0x0B : Byte) else _) = 0
  rw [h, if_neg (by simp [hashOf]), if_neg (by decide), if_neg (by decide +kernel), if_neg (by decide +kernel)]
  show (if !((hashOf ++ [(1 : Byte)]).getD 64 0).getLsbD 0 && _ then (0x08 : Byte) else 0) = 0
  rw [g]
  rfl

/-! ### The network (R285 to R300, R306) -/

/-- Ports 0 to 2 linked, VLAN 1 on all of them, IP 10.0.0.1. -/
def netDev (l : List (Nat × HWord)) : State :=
  let s := dev .run ([(0x0800, 0x8001), (0x0801, 0x8001), (0x0802, 0x8001), (0x0900, 1), (0x0901, 7), (0x080A, 0x0A00), (0x080B, 1)] ++ l)
  { s with net := { s.net with ports := s.net.ports.map fun p => { p with link := true } } }
def frame0 : EthFrame := { da := 0x0200000002, sa := 0x0200000001, tag := none, len := 64, fcsOk := true, t := 0 }
theorem wit_bridge : netUp (netDev []) = true ∧ portUp (netDev []) 0 = true ∧ portUp (dev .run []) 0 = false ∧ netIp (netDev []) = 0x0A000001 ∧
    tapOn (netDev []) = false ∧ vlanOf (netDev []) (vidOf (netDev []) 0 frame0) = some (7, 0) ∧ (7 : BitVec 3).getLsbD 0 = true ∧
    frame0.da ≠ (netDev []).net.mac ∧ isGroupMac frame0.sa = false ∧ (netDev []).net.table.length < 1024 := by decide +kernel
theorem test_bridge : (run (.ethFrameForward 0 frame0) (netDev [])).sent.length = 2 ∧
    (run (.ethFrameForward 0 frame0) (netDev [])).net.table = [(0x0200000001, 1, 0, 0)] ∧
    (run (.ethFrameForward 0 { frame0 with fcsOk := false }) (netDev [])).net.ports[0].fcsErr = true ∧
    (run (.arpRequest 0 0x0A000001 5) (netDev [])).sent = [.arp 0 5] ∧ (run (.arpRequest 0 0x0A000002 5) (netDev [])).sent = [] ∧
    (run (.icmpEcho 0 0x0A000001 true []) (netDev [])).sent = [] := by decide +kernel
theorem test_ports : (run (.portLinkChange 1 false false) (netDev [])).evt.recs[118].payload = 0x100 ∧
    (run (.macAgeing 0x0200000001 1 300000000000) (run (.ethFrameForward 0 frame0) (netDev []))).net.table = [] ∧
    (run (.gateEntryEnd 0) (netDev [(0x0880, 0x8002)])).net.ports[0].gate = 1 ∧ (run (.gateEntryEnd 0) (netDev [(0x0880, 0x8001)])).net.ports[0].gate = 0 := by
  decide +kernel
/-- A gate-control list of two entries on port 1, whose first keeps the gate of class 0 closed, and a tapped P2. -/
def gated : State :=
  let s := netDev [(0x0881, 0x8002)]
  { s with cfg := { s.cfg with active := { s.cfg.active with
      gclGate := spPut (fun _ => 0xFF) s.cfg.active.gclGate 64 0xFE, gclInt := spPut (fun _ => 0) s.cfg.active.gclInt 64 1000 } } }
def tapDev : State := netDev [(0x0802, 0x9001)]
theorem wit_gates : mayStart (netDev []) 1 (classOf frame0) (outLen frame0 true) = true ∧ (netDev []).net.ports[1].waiting = [] ∧
    mayStart gated 1 (classOf frame0) (outLen frame0 true) = false ∧ fld (act gated 0x0881) 6 0 = 2 ∧ (act gated 0x0881).getLsbD 15 = true := by
  decide +kernel
theorem wit_tap : tapOn tapDev = true ∧ portUp tapDev 0 = true ∧ portUp tapDev 2 = true ∧ (act tapDev 0x0882).getLsbD 15 = false ∧
    tapDrops tapDev 2 = true := by decide +kernel
/-- R287: a tapped P2 copies what P0 receives. R290: a frame whose gate is closed waits. -/
theorem test_gates : (run (.ethFrameForward 0 frame0) gated).net.ports[1].waiting.length = 1 ∧
    (run (.arpRequest 0 0x0A000001 5) tapDev).sent = [.arp 0 5, .tapped (.arp 0x0A000001 5)] ∧
    (run (.arpRequest 2 0x0A000001 5) tapDev).sent = [] := by decide +kernel
/-- A ring of two positions, addresses 0 (this device) and 1, payloads of 12 bytes; channel 0's output is word 0. -/
def ringRegs : List (Nat × HWord) := [(0x080C, 0x0A31), (0x080D, 2), (0x0840, 12), (0x0841, 0x040C), (0x0814, 1), (0x2000, 0x54), (0x0110, 1)]
def ringDev (a : HWord) (l : List (Nat × HWord)) : State :=
  let s := netDev (ringRegs ++ l)
  { s with cfg := { s.cfg with active := { s.cfg.active with gaitAct := spPut gaitActReset s.cfg.active.gaitAct 0 a } } }
theorem wit_ownSegment : inService (ringDev 0x6000 []) = true ∧ slotIs (ringDev 0x6000 []) 0 6 = true ∧ slotIs (ringDev 0x7000 []) 0 7 = true ∧
    ownLen (ringDev 0x6000 []) (ringDev 0x6000 []).cfg.active = some 12 ∧ 0 < ringN (ringDev 0x7000 []).cfg.active ∧
    (ringDev 0x7000 []).net.verified = none ∧ (mapped (ringDev 0x7000 []).cfg.active 0x0814).length = 1 ∧ writerA (ringDev 0x7000 []) 0 = 5 ∧
    (ringDev 0x7000 []).net.xiPast = false ∧ (ringDev 0x7000 []).sec.bound = none := by decide +kernel
def bound (h : Option (BitVec 64)) : State := { ringDev 0x7000 [] with sec := { (ringDev 0x7000 []).sec with bound := some 3, boundSeq := h } }
def seg (flags : BitVec 8) (seq : BitVec 64) : SegIn :=
  { addr := 0, flags := flags, len := 12, seq := seq, data := List.replicate 12 0, tag := 0 }
/-- The segment sealed for session `x`, and one whose tag is another. -/
def sealed (x : Sess) (seq : BitVec 64) : SegIn := { seg 0 seq with tag := segTag x 2 (seg 0 seq) }
def spoilt (x : Sess) : SegIn := { seg 0 6 with tag := segTag x 2 (seg 0 6) + 1 }
def inQ (h : Option (BitVec 64)) (g : SegIn) (done past : Bool) : State :=
  let s := bound h
  { s with net := { s.net with verifyQ := [(g, false)], xiDone := done, xiPast := past } }
theorem wit_segTag (x : Sess) (n : BitVec 64) : (sealed x n).tag = segTag x 2 (sealed x n) ∧ (spoilt x).tag ≠ segTag x 2 (spoilt x) := by
  refine ⟨rfl, ?_⟩
  show segTag x 2 (seg 0 6) + 1 ≠ segTag x 2 (seg 0 6)
  intro e
  bv_omega
theorem wit_segment (x : Sess) : (inQ (some 5) (sealed x 6) false false).net.verifyQ = (sealed x 6, false) :: [] ∧
    (inQ (some 5) (sealed x 6) false false).sec.bound = some 3 ∧ (inQ (some 5) (sealed x 6) false false).sec.boundSeq = some 5 ∧
    (5 : BitVec 64) < (sealed x 6).seq ∧ (sealed x 4).seq ≤ (5 : BitVec 64) ∧ (inQ (some 6) (sealed x 6) true false).sec.boundSeq = some (sealed x 6).seq ∧
    (inQ (some 6) (sealed x 6) true true).net.xiPast = true ∧ (bound none).sec.boundSeq = none ∧ (ringDev 0x7000 []).net.verifyQ = [] ∧
    0 < ringN (bound none).cfg.active :=
  ⟨rfl, rfl, rfl, show (5 : BitVec 64) < 6 by decide, show (4 : BitVec 64) ≤ 5 by decide, rfl, rfl, rfl, rfl, by decide +kernel⟩
theorem test_segment : (run (.segmentVerified (seg 0 6) false 0) { inQ none (seg 0 6) false false with sec := (ringDev 0x7000 []).sec }).sec.refuseCause = cTag ∧
    (run (.xiDeadline 0) { bound none with net := { (bound none).net with verified := some (0, [0x11223344]) } }).pi.outw[0] = 0x11223300 ∧
    (run (.xiDeadline 0) (ringDev 0x7000 [])).frm.xiLate = true ∧ ((run (.xiSend 0) (ringDev 0x6000 [])).net.repl.map (·.flags)) = some 5 := by
  decide +kernel
def car (frm : BitVec 48) (flags : BitVec 8) : Carriage :=
  { da := 0, sa := 9, pcp := 0, vid := 0, rtag := 0, etype := 0x88B5, kind := 0x10, flags := flags, domain := 0x0A31, ring := 0
    cidx := 0, k := 1, firstPos := 0, frm := frm, fcsOk := true, segs := [seg 0 0, seg 0 0] }
def sending : State := run (.xiSend 0) (ringDev 0x6000 [])
theorem wit_train : netUp sending = true ∧ tapOn sending = false ∧ inService sending = true ∧ isCarriage sending (car 0 0) = true ∧
    (car 0 0).flags &&& 6 = 0 ∧ portUp sending 0 = true ∧ portUp sending 1 = true ∧ ringOrig sending.cfg.active = false ∧
    (car 0 0).frm = sending.frm.no ∧ ringMatch sending.cfg.active (car 0 0) = true ∧ ownIdx sending sending.cfg.active (car 0 0) = some 0 ∧
    segFits sending sending.cfg.active (seg 0 0) = true ∧ sending.net.repl.isSome = true ∧ (car 7 0).frm ≠ sending.frm.no ∧
    (car 7 0).frm ≠ sending.frm.prev := by decide +kernel
def origDev : State := ringDev 0x6000 [(0x080D, 0x0802)]
theorem wit_originator : ringOrig origDev.cfg.active = true ∧ (car 0 2).flags.getLsbD 1 = true ∧ feedFits origDev origDev.cfg.active (car 0 2) = true ∧
    feedFits origDev origDev.cfg.active { car 0 2 with k := 2 } = false ∧ isCarriage origDev (car 0 2) = true ∧ (car 0 2).da = origDev.net.mac ∧
    fedLately origDev = false ∧ origDev.net.xiSent = false ∧ origDev.net.feed = [] ∧
    origDev.net.launched = none ∧ (run (.xiSend 0) origDev).net.xiSent = true ∧ 2 ≤ ringN origDev.cfg.active ∧ origDev.net.missRun < 3 ∧
    origDev.net.noReturn = false ∧ 3 ≤ ({ origDev.net with missRun := 3 } : Net).missRun := by decide +kernel
/-- A train of one carriage is out; what has come back; its ring-clear time. -/
def outDevTrain (ret : List Carriage) : State :=
  { origDev with net := { origDev.net with launched := some (0, [car 0 0]), out := true, ret := ret, clearT := 900 } }
theorem wit_return : missing (outDevTrain []) false 1 = true ∧ missing (outDevTrain [car 0 0]) false 1 = false ∧
    (outDevTrain []).net.launchRed = false ∧ (outDevTrain []).net.out = true ∧ fedLately (outDevTrain []) = false ∧
    (outDevTrain []).net.launched.map (·.1) = some (car 0 0).frm ∧ portUp (outDevTrain []) 0 = true ∧ portUp (outDevTrain []) 1 = true ∧
    (car 0 0).frm = (outDevTrain []).frm.no ∧ ringMatch (outDevTrain []).cfg.active (car 0 0) = true := by decide +kernel
theorem test_train : (run (.carriageRx 0 (car 7 0) false) sending).net.segErr = 1 ∧ (run (.carriageRx 0 (car 0 0) false) sending).net.segErr = 0 ∧
    (run (.carriageRx 0 (car 0 0) false) sending).net.verifyQ.length = 1 ∧
    (run (.feedRx 2 (car 0 2)) origDev).net.feed.length = 1 ∧ (run (.feedRx 2 (car 5 2)) origDev).net.feedLate = true ∧
    (run .trainLaunch (run (.xiSend 0) origDev)).net.launched.isSome = true ∧ (run .trainLaunch (run (.xiSend 0) origDev)).sent.length = 1 ∧
    (run (.trainReturn 899) (outDevTrain [])).net.missRun = 0 ∧ (run (.trainReturn 900) (outDevTrain [])).net.missRun = 1 ∧
    (run (.trainReturn 0) (outDevTrain [car 0 0])).net.backRun = 1 ∧
    (run (.ringOpen origDev.net.missPort) { origDev with net := { origDev.net with missRun := 3 } }).net.noReturn = true ∧
    (run .ringClose { origDev with net := { origDev.net with backRun := 3, noReturn := true } }).net.noReturn = false := by decide +kernel
/-- One raise of the frame before waits for session 3. -/
def evDev : State :=
  let s := modSess (secDev .run) 3 fun x => { x with evMask := 2 }
  { s with evt := { s.evt with xi := [{ ev := 1, merged := 1, payload := 9, frm := 0, t := 0 }] }, frm := { s.frm with no := 1 } }
theorem wit_eventMsg : inService evDev = true ∧ isLive evDev 3 = true ∧ evDev.sec.sess[3].iface ≠ .host ∧ evDev.sec.sess[3].evMask.getLsbD 1 = true ∧
    1 ≤ evDev.sec.sess[3].minor ∧ (0 : BitVec 48) ≠ evDev.frm.no := by decide +kernel

/-! ### Field update (R361 to R376) -/

def updDev (st : UpdSt) (f : Upd → Upd) : State := { secDev .run with upd := f { (secDev .run).upd with st := st } }
def locked (m : Manifest) : State := updDev .locked fun u => { u with lock := some 3, lockOpen := true, staged := some m }
def entry0 : MfEntry := { typ := 1, index := 0, compId := 0, compVer := 0, length := 8, hash := 5 }
theorem wit_update : UpdAccepted (updDev .idle id) (.session (rec0 0 true)) ∧ (updDev .idle id).upd.st = .idle ∧ (updDev .idle id).upd.trialFlag = false ∧
    (updDev .locked id).upd.st ≠ .idle ∧ holds (locked mf) (.session (rec0 0 true)) = true ∧
    EngineFree (locked mf) (updNow (locked mf) (.session (rec0 0 true))) ∧ mfStatus (locked mf) [] true true = 4 ∧
    (stagedEntries (locked { mf with entries := [entry0] }))[0]? = some entry0 ∧ entryState (locked { mf with entries := [entry0] }) entry0 = 0 ∧
    (locked mf).upd.writing = none := by unfold UpdAccepted RecAccepted RecPasses SendsOn Arrives EngineFree; decide +kernel
theorem test_update : (run (.updateBegin (rec0 0 true)) (updDev .idle id)).upd.st = .locked ∧
    (run (.updateBegin (rec0 0 true)) (updDev .locked id)).sec.refuseCause = cUpdBusy ∧ (run (.updateAbort (rec0 0 true)) (locked mf)).upd.st = .idle ∧
    (run (.chunk (.session (rec0 0 true)) 0 4 0 [1, 2, 3, 4]) (locked { mf with entries := [entry0] })).upd.writing.isSome = true ∧
    (run (.updateLockTimeout 30000000000) (locked mf)).upd.lock = none := by decide +kernel
/-- A manifest of six components whose headers keep R220, R359 and R360. -/
def mfBytes (kind : Byte) : List Byte :=
  [0x47, 0x4E, 0x50, 0x4C, 1, 0, 0, 0, kind, 0] ++ List.replicate 14 0 ++ [0xB0, 2, 0, 0] ++ beBytes 8 7 ++ List.replicate 28 0 ++
    [6, 1] ++ List.replicate 14 0 ++
    ([1, 2, 3, 4, 5].flatMap fun t => ([t, 0] : List Byte) ++ List.replicate 78 0) ++ ([6, 0] ++ List.replicate 78 0) ++
    List.replicate 64 0 ++ List.replicate 64 0
theorem wit_manifest : mfStatus (locked mf) (mfBytes 3) true true = 0 ∧ mfStatus (locked mf) (mfBytes 3) false true = 5 := by decide +kernel
/-- A chunk being written that leaves the entry short, and one that completes it. -/
def writingChunk (d : List Byte) (typ : Byte) (recov : Bool) : State :=
  let s := locked { mf with entries := [{ entry0 with typ := typ }] }
  { s with upd := { s.upd with writing := some (.session (rec0 0 true), 0, d), leave := true }, sys := { s.sys with recov := recov },
           pgv := { s.pgv with slots := s.pgv.slots.set 0 { s.pgv.slots[0] with st := .granted, op := .chunk } } }
theorem wit_chunkWritten : coreOn (writingChunk [1, 2, 3, 4] 1 false) = true ∧ (writingChunk [1, 2, 3, 4] 1 false).upd.imgWait = none ∧
    (writingChunk [1, 2, 3, 4] 1 false).upd.leave = true ∧
    (partOf (writingChunk [1, 2, 3, 4] 1 false) 0 ++ [1, 2, 3, 4]).length < entry0.length ∧
    entry0.length ≤ (partOf (writingChunk (List.replicate 8 0) 1 false) 0 ++ List.replicate 8 0).length ∧
    (writingChunk (List.replicate 8 0) 3 false).sys.recov = false ∧ powered (writingChunk (List.replicate 8 0) 3 false) ≠ [] := by decide +kernel
theorem test_chunkWritten : partOf (run (.chunkWritten true true) (writingChunk [1, 2, 3, 4] 1 false)) 0 = [1, 2, 3, 4] ∧
    (run (.chunkWritten true true) (writingChunk (List.replicate 8 0) 1 false)).upd.store.map (·.hash) = [5] ∧
    (run (.chunkWritten false true) (writingChunk (List.replicate 8 0) 1 false)).upd.store = [] ∧
    (run (.chunkWritten true true) (writingChunk (List.replicate 8 0) 3 false)).upd.imgWait = some 0 := by decide +kernel
def imaging : State := let s := writingChunk (List.replicate 8 0) 3 false
  { s with upd := { s.upd with imgWait := some 0 } }
theorem wit_groupImage : coreOn imaging = true ∧ alive imaging 0 = true ∧ imaging.upd.imgWait = some 0 ∧ (stagedEntries imaging)[0]?.isSome = true ∧
    imaging.grp[0].imgAck = false ∧ (∃ h : GroupId, h ≠ 0 ∧ alive imaging h = true ∧ imaging.grp[h].imgAck = false) ∧
    (∀ h : GroupId, h ≠ 0 → alive { imaging with grp := imaging.grp.map fun x => { x with imgAck := true } } h = true →
      ({ imaging with grp := imaging.grp.map fun x => { x with imgAck := true } } : State).grp[h].imgAck = true) := by decide +kernel
theorem test_groupImage : (run (.groupImageAck 0 false) imaging).upd.imgWait = none ∧ (run (.groupImageAck 0 true) imaging).grp[0].imgAck = true ∧
    (run (.groupImageTimeout 0) imaging).upd.imgWait = none := by decide +kernel
def markerDev (st : UpdSt) : State :=
  let s := updDev st fun u => { u with staged := some mf, acceptT := 0, migrated := true, confReq := true, checks := true }
  { s with frm := { s.frm with tickT := 2000 } }
theorem wit_trial : coreOn (markerDev .activating) = true ∧ (markerDev .activating).upd.acceptT + 2000 ≤ (markerDev .activating).frm.tickT ∧
    (markerDev .trial).upd.st = .trial ∧ trialOk (markerDev .trial) = true ∧ UpdAccepted (markerDev .trial) (.session (rec0 0 true)) ∧
    (markerDev .trial).upd.checks = true ∧ (markerDev .trial).upd.confReq = true ∧
    ({ (markerDev .reverting).upd with revert := some 9 } : Upd).revert = some 9 ∧ (markerDev .trial).upd.revert = none := by
  unfold UpdAccepted RecAccepted RecPasses SendsOn Arrives; decide +kernel
theorem wit_trial_registers : WriteAllowed (markerDev .trial) .groom 0x0603 0x4E1C ∧ WriteAllowed (markerDev .trial) .groom 0x0604 0x4E2C := by
  unfold WriteAllowed; decide +kernel
theorem test_trial : (run .activateMarker (markerDev .idle)).sys.mode = .run := by decide +kernel
theorem test_trial_end : (run (.updRevert .groom 0x4E2C) (markerDev .trial)).upd.revert = some 2 ∧ (run (.trialTimeout 0) (markerDev .trial)).upd.revert = some 1 ∧
    (run .confirmation (markerDev .trial)).upd.outcome = 1 ∧ (run (.updateRevert (rec0 0 true)) (markerDev .trial)).upd.revert = some 9 := by decide +kernel

/-! ### Words of a core (R189 to R199, R202) -/

/-- SUB d3, d2, d1: major 0x00, rd 3, rs1 2, rs2 1, md 0, fn 0x03. MUL d4, d4, d6: major 0x01, fn 0x01. QADD d1, d2, d3: major 0x02.
FADD: major 0x03. MAC m0, d1, d2: major 0x04, rd 24. JR a6: major 0x05, rs1 22. -/
theorem test_decode_rr : decodeCanter 0 (0x00#6 ++ 3#5 ++ 2#5 ++ 1#5 ++ 0#5 ++ 0x03#6) = some (.sub 0 ⟨3, 2, 1, 0⟩) ∧
    decodeCanter 1 (0x01#6 ++ 4#5 ++ 4#5 ++ 6#5 ++ 0#5 ++ 0x01#6) = some (.mul 1 ⟨4, 4, 6, 0⟩) ∧
    decodeCanter 0 (0x02#6 ++ 1#5 ++ 2#5 ++ 3#5 ++ 0#5 ++ 0x01#6) = some (.qadd 0 ⟨1, 2, 3, 0⟩) ∧
    decodeCanter 0 (0x03#6 ++ 1#5 ++ 2#5 ++ 3#5 ++ 0#5 ++ 0x01#6) = some (.fadd 0 ⟨1, 2, 3, 0⟩) ∧
    decodeCanter 0 (0x04#6 ++ 24#5 ++ 1#5 ++ 2#5 ++ 0#5 ++ 0x01#6) = some (.mac 0 ⟨24, 1, 2, 0⟩) ∧
    decodeCanter 0 (0x05#6 ++ 0#5 ++ 22#5 ++ 0#5 ++ 0#5 ++ 0x01#6) = some (.jr 0 ⟨0, 22, 0, 0⟩) := by decide +kernel
/-- ADDI a1, a0, 0x40; BEQ +12; JUMP −1; LD d2, [a0, 0]; ST with am 1; PIN d1, 16; LEAVE and LEAVE query; SYSCALL 0x14 and 0x7F. -/
theorem test_decode_others : decodeCanter 0 (0x08#6 ++ 17#5 ++ 16#5 ++ 0x0040#16) = some (.addi 0 ⟨17, 16, 0x40⟩) ∧
    decodeCanter 0 (0x12#6 ++ 0#5 ++ 0#5 ++ 12#16) = some (.bcc 0 ⟨0, 0, 12⟩) ∧
    decodeCanter 0 (0x18#6 ++ 0x3FFFFFF#26) = some (.jump 0 0x3FFFFFF) ∧
    decodeCanter 0 (0x20#6 ++ 2#5 ++ 0#3 ++ 0#2 ++ 4#3 ++ 0#13) = some (.ld 0 ⟨2, 0, 0, 4, 0⟩) ∧
    decodeCanter 0 (0x21#6 ++ 3#5 ++ 1#3 ++ 1#2 ++ 2#3 ++ 5#13) = some (.st 0 ⟨3, 1, 1, 2, 5⟩) ∧
    decodeCanter 0 (0x30#6 ++ 1#5 ++ 0#5 ++ 0#5 ++ 0x100#11) = some (.pin 0 ⟨1, 0, 0, 0x100⟩) ∧
    decodeCanter 0 (0x37#6 ++ 2#5 ++ 1#5 ++ 0#5 ++ 0#11) = some (.leave 0 ⟨2, 1, 0, 0⟩) ∧
    decodeCanter 0 (0x37#6 ++ 2#5 ++ 1#5 ++ 0#5 ++ 1#11) = some (.leaveQuery 0 ⟨2, 1, 0, 1⟩) ∧
    decodeCanter 0 (0x39#6 ++ 0#18 ++ 0x14#8) = some (.svcNvWrite 0 ⟨0, 0, 0, 0⟩) ∧
    decodeCanter 0 (0x39#6 ++ 0#18 ++ 0x7F#8) = some (.svcUnassigned 0 0x7F ⟨0, 0, 0, 0⟩) := by decide +kernel
/-- R190: an unassigned major opcode, an unassigned operation, and the words of zeros and of ones. -/
theorem test_decode_none : decodeCanter 0 (0x06#6 ++ 0#26) = none ∧ decodeCanter 0 (0x00#6 ++ 0#20 ++ 0x1A#6) = none ∧
    decodeCanter 0 0 = none ∧ decodeCanter 0 0xFFFFFFFF = none := by decide +kernel
/-- No two rows of a table have one number. -/
theorem test_tables_nodup : (rrGroups.map (·.1)).Nodup ∧ (∀ g ∈ rrGroups, (g.2.map (·.1)).Nodup) ∧ (riOps.map (·.1)).Nodup ∧
    (jOps.map (·.1)).Nodup ∧ (mOps.map (·.1)).Nodup ∧ ((xOps ⟨0, 0, 0, 0⟩).map (·.1)).Nodup ∧ (svcOps.map (·.1)).Nodup := by
  decide +kernel
/-- A word 0 raises ILLEGAL; the core fetches the word at its pc, least significant byte first. -/
theorem test_runWord : (next (runWord 0 0 (cpu []))).core[0].cause = 1 ∧
    (next (runCore 0 (modCore (cpu [0, 5, 7]) 0 fun k => { k with imem := [(0, 3), (1, 8), (2, 0x62)] }))).core[0].d[3] = 2 := by decide +kernel
theorem wit_runWord : Begins (cpu []) 0 ∧ exceeds (cpu []) 0 (cpu []).core[0].freeAt 1 = false ∧ fetchOk (cpu []) 0 (cpu []).core[0].pc = true ∧
    lineMissing (cpu []) 0 (cpu []).core[0].pc = false := by unfold Begins; decide +kernel

/-! ### Where commands complete: the hypotheses that the witnesses above do not meet already -/

/-- A mode-5 output in its high phase; an overlap of pairs that differ by more than the limit. -/
def pwmDev : State := chan 0x15 [] fun x => { x with out := { x.out with started := true, off := false, pwmHigh := true } }
def mismatchDev : State := modGrp (rotDev 3 1) 0 fun x => { x with rot := { x.rot with sumSq := 10 ^ 12 } }
theorem wit_complete_channels : alive pwmDev (chGroup 0) = true ∧ modeG pwmDev 0 = 5 ∧ pwmDev.ch[0].out.started = true ∧
    pwmDev.ch[0].out.off = false ∧ pwmDev.ch[0].out.pwmHigh = true ∧ coreOn mismatchDev = true ∧ mismatchDev.grp[0].rot.step = 3 ∧
    mismatchDev.grp[0].rot.pairs ≠ 0 ∧ matchOk mismatchDev mismatchDev.grp[0].rot = false ∧
    (run (.overlapEnd 0) mismatchDev).grp[0].rot.misCnt = 1 := by decide +kernel
/-- The mailbox opens without a peer context; a mailbox HELLO is answered. -/
def mbHello : State := { dev .run [(0x080C, 0xFFFE)] with sec := { (dev .run []).sec with
  mbBusy := true, mbMsg := [0, 0, 0, 0, 0xFF, 0xFF, 0, 0, 0, 0, 0, 5, 0, 0, 0, 0] } }
theorem wit_complete_mailbox : Arrives mbHello { netMsg true with iface := .host, ver := 0 } ∧
    helloOk { netMsg true with iface := .host, ver := 0 } 2 [0, 1, 0, 0, 0, 0, 0, 0, 0, 0, 0, 0, 0, 0, 0, 0] = true ∧
    (run (.hello { netMsg true with iface := .host, ver := 0 } 2 [0, 1, 0, 0, 0, 0, 0, 0, 0, 0, 0, 0, 0, 0, 0, 0]) mbHello).sec.mbReply ≠ [] := by
  unfold Arrives; decide +kernel
/-- A ring of three positions, of which carriage 0 holds two: the device's segment is not in carriage 1. -/
theorem wit_complete_train : feedFits origDev origDev.cfg.active (car 1 2) = true ∧ (car 1 2).frm = origDev.frm.no + 1 ∧
    origDev.evt.xi = [] ∧ ownIdx sending sending.cfg.active { car 0 0 with cidx := 1 } = none ∧
    ringMatch sending.cfg.active { car 0 0 with cidx := 1 } = true ∧ isLive handshaking 0 = false ∧
    (∀ i : Fin 16, isLive (dev .run []) i = false) := by decide +kernel
theorem wit_complete_ports : cmtPend hpDev = false ∧ hpDev.sec.hpTrust = true ∧ hpDev.sys.recov = false ∧
    (∀ a ∈ blockOf false writeReg, plainCm a = true) ∧ isHost .hostUntagged = true ∧ (dev .run []).crc[2].held = false ∧
    WriteAllowed (trusted (markerDev .trial)) .hostUntagged 0x0603 0x4E1C ∧ WriteAllowed (trusted (markerDev .trial)) .hostUntagged 0x0604 0x4E2C ∧
    calPick (calDev 3).rdr[rdrOf .groom] = some (3, 0) := by unfold WriteAllowed; decide +kernel
theorem wit_complete_update : let s := locked { mf with entries := [entry0] }
    holds s (.session (rec0 0 true)) = true ∧ (partOf s 0).length + 4 ≤ entry0.length ∧ entry0.length < 2 ^ 32 ∧ entryState s entry0 = 0 ∧
    s.upd.writing = none ∧ EngineFree s (updNow s (.session (rec0 0 true))) := by unfold EngineFree; decide +kernel

end Sys2Proof.Tests
end

section
/-! What a command keeps of the stores: the canonical form of every sparse store, and the active set (R6, R8, R15, R21). Each
operation of the model has one lemma, `canon_` and its name, that says it keeps both. -/

open Sys2Proof Sys2Proof.Machine
namespace Sys2Proof.Machine

/-- The memory is in canonical form, where `C`. -/
def MemOk (C : Prop) (m : Mem) : Prop := C → spWf Config.memDefault m = true

/-- The stores of the set are in canonical form, where `C`. -/
def SetOk (C : Prop) (c : CfgSet) : Prop := C → c.wf = true

/-- The calibration table is in canonical form, where `C`. -/
def TabOk (C : Prop) (m : Sparse 32) : Prop := C → spWf calNominal m = true

/-- The memories of a core are in canonical form, where `C`. -/
structure CoreOk (C : Prop) (k : Core) : Prop where
  dmem : MemOk C k.dmem
  imem : MemOk C k.imem
  nv : MemOk C k.nv
  nvNext : ∀ m, k.nvNext = some m → MemOk C m

/-- The portions of a group die are in canonical form, where `C`. -/
structure GrpOk (C : Prop) (x : Grp) : Prop where
  portion : SetOk C x.portion
  portionNext : ∀ c, x.portionNext = some c → SetOk C c

/-- Every sparse store is in canonical form, where `C`, and the active set is `A`. The operations keep both, and the second from a
state whose stores have any form, so `C` is `True` for the first claim and `False` for the second. -/
structure Canon (C : Prop) (A : CfgSet) (s : State) : Prop where
  sram : MemOk C s.sram
  eflash : MemOk C s.eflash
  log : MemOk C s.log.mem
  core : ∀ c : CoreId, CoreOk C s.core[c]
  active : s.cfg.active = A
  activeOk : SetOk C A
  staged : SetOk C s.cfg.staged
  committed : ∀ c, s.cfg.committed = some c → SetOk C c
  writing : ∀ c, s.cfg.writing = some c → SetOk C c
  prevRing : ∀ c, s.net.prevRing = some c → SetOk C c
  grp : ∀ g : GroupId, GrpOk C s.grp[g]
  tables : TabOk C s.cal.tables
  atTest : TabOk C s.cal.atTest

theorem StoresCanonical.canon {s : State} (h : StoresCanonical s) : Canon True s.cfg.active s := by
  obtain ⟨sram, eflash, log, core, active, staged, committed, writing, prevRing, grp, tables, atTest⟩ := h
  exact ⟨fun _ => sram, fun _ => eflash, fun _ => log,
    fun c => ⟨fun _ => (core c).1, fun _ => (core c).2.1, fun _ => (core c).2.2.1, fun m e _ => (core c).2.2.2 m e⟩,
    rfl, fun _ => active, fun _ => staged, fun c e _ => committed c e, fun c e _ => writing c e, fun c e _ => prevRing c e,
    fun g => ⟨fun _ => (grp g).1, fun c e _ => (grp g).2 c e⟩, fun _ => tables, fun _ => atTest⟩

theorem Canon.storesCanonical {A : CfgSet} {s : State} (h : Canon True A s) : StoresCanonical s :=
  ⟨h.sram trivial, h.eflash trivial, h.log trivial,
    fun c => ⟨(h.core c).dmem trivial, (h.core c).imem trivial, (h.core c).nv trivial,
      fun m e => (h.core c).nvNext m e trivial⟩,
    h.active ▸ h.activeOk trivial, h.staged trivial, fun c e => h.committed c e trivial, fun c e => h.writing c e trivial,
    fun c e => h.prevRing c e trivial,
    fun g => ⟨(h.grp g).portion trivial, fun c e => (h.grp g).portionNext c e trivial⟩,
    h.tables trivial, h.atTest trivial⟩

/-- Where nothing is asked of the stores, the active set alone is said. -/
theorem canon_false_iff {A : CfgSet} {s : State} : Canon False A s ↔ s.cfg.active = A := by
  refine ⟨fun h => h.active, fun h => ?_⟩
  constructor
  case active => exact h
  case core => exact fun c => ⟨False.elim, False.elim, False.elim, fun _ _ => False.elim⟩
  case grp => exact fun g => ⟨False.elim, fun _ _ => False.elim⟩
  all_goals intros; exact False.elim

/-! ### The canonical form as a property of the entries -/

theorem spWfFrom_iff {w : Nat} {d : Nat → BitVec w} {m : Sparse w} {lo : Nat} : spWfFrom d lo m = true ↔
    (∀ p ∈ m, lo ≤ p.1) ∧ m.Pairwise (fun p q => p.1 < q.1) ∧ ∀ p ∈ m, p.2 ≠ d p.1 := by
  induction m generalizing lo with
  | nil => simp [spWfFrom]
  | cons p t ih =>
    simp only [spWfFrom, Bool.and_eq_true, decide_eq_true_eq, ih, List.forall_mem_cons, List.pairwise_cons]
    constructor
    · rintro ⟨⟨hlo, hd⟩, hgt, ht, htd⟩
      exact ⟨⟨hlo, fun q hq => by have := hgt q hq; omega⟩, ⟨hgt, ht⟩, hd, htd⟩
    · rintro ⟨⟨hlo, _⟩, ⟨hgt, ht⟩, hd, htd⟩
      exact ⟨⟨hlo, hd⟩, hgt, ht, htd⟩

/-- A store is canonical where its keys rise and no entry is its default. -/
theorem spWf_iff {w : Nat} {d : Nat → BitVec w} {m : Sparse w} :
    spWf d m = true ↔ m.Pairwise (fun p q => p.1 < q.1) ∧ ∀ p ∈ m, p.2 ≠ d p.1 := by
  simp [spWf, spWfFrom_iff]

/-- The stores of a configuration set are in canonical form. -/
structure CfgOk (c : CfgSet) : Prop where
  regs : spWf cmReset c.regs = true
  gaitOfs : spWf gaitOfsReset c.gaitOfs = true
  gaitAct : spWf gaitActReset c.gaitAct = true
  gclGate : spWf (fun _ => (0x00FF : HWord)) c.gclGate = true
  gclInt : spWf (fun _ => (0 : W32)) c.gclInt = true
  trim : spWf trimReset c.trim = true
  ulin : spWf ulinReset c.ulin = true

theorem cfgWf_iff {c : CfgSet} : c.wf = true ↔ CfgOk c := by
  simp only [CfgSet.wf, Bool.and_eq_true]
  constructor
  · rintro ⟨⟨⟨⟨⟨⟨h1, h2⟩, h3⟩, h4⟩, h5⟩, h6⟩, h7⟩
    exact ⟨h1, h2, h3, h4, h5, h6, h7⟩
  · rintro ⟨h1, h2, h3, h4, h5, h6, h7⟩
    exact ⟨⟨⟨⟨⟨⟨h1, h2⟩, h3⟩, h4⟩, h5⟩, h6⟩, h7⟩

/-! ### Writes to a store -/

section
variable {C : Prop}

theorem MemOk.puts {m : Mem} {a : Nat} {l : List Byte} (h : MemOk C m) : MemOk C (memPuts m a l) :=
  fun hc => memPuts_wf (h hc)
theorem MemOk.nil : MemOk C [] := fun _ => rfl
theorem TabOk.put {m : Sparse 32} {k : Nat} {v : W32} (h : TabOk C m) : TabOk C (spPut calNominal m k v) :=
  fun hc => spPut_wf (h hc)
theorem SetOk.put {c : CfgSet} {a : Nat} {v : HWord} (h : SetOk C c) : SetOk C (c.setReg a v) :=
  fun hc => setReg_wf (h hc)
theorem SetOk.none : SetOk C .none := fun _ => rfl

end

/-- The parts of the state that hold sparse stores. -/
def stores (s : State) : Mem × Mem × Mem × Vector Core 4 × Cfg × Option CfgSet × Vector Grp 8 × Sparse 32 × Sparse 32 :=
  (s.sram, s.eflash, s.log.mem, s.core, s.cfg, s.net.prevRing, s.grp, s.cal.tables, s.cal.atTest)

section
variable {C : Prop} {A : CfgSet} {s : State}

/-- An update of parts without stores. -/
theorem Canon.update {t : State} (h : Canon C A s) (e : stores t = stores s) : Canon C A t := by
  simp only [stores, Prod.mk.injEq] at e
  obtain ⟨sram, eflash, log, core, cfg, prevRing, grp, tables, atTest⟩ := e
  constructor
  · exact sram ▸ h.sram
  · exact eflash ▸ h.eflash
  · exact log ▸ h.log
  · exact core ▸ h.core
  · exact cfg ▸ h.active
  · exact h.activeOk
  · exact cfg ▸ h.staged
  · exact cfg ▸ h.committed
  · exact cfg ▸ h.writing
  · exact prevRing ▸ h.prevRing
  · exact grp ▸ h.grp
  · exact tables ▸ h.tables
  · exact atTest ▸ h.atTest

/-! ### Updates of parts with stores -/

theorem Canon.withSram {m : Mem} (h : Canon C A s) (hm : MemOk C m) : Canon C A { s with sram := m } :=
  { h with sram := hm }

theorem Canon.withLog {l : Log} (h : Canon C A s) (hl : MemOk C l.mem) : Canon C A { s with log := l } :=
  { h with log := hl }

theorem Canon.withCore {v : Vector Core 4} (h : Canon C A s) (hv : ∀ c : CoreId, CoreOk C v[c]) :
    Canon C A { s with core := v } :=
  { h with core := hv }

theorem Canon.withGrp {v : Vector Grp 8} (h : Canon C A s) (hv : ∀ g : GroupId, GrpOk C v[g]) :
    Canon C A { s with grp := v } :=
  { h with grp := hv }

theorem Canon.withSys {x : Sys} (h : Canon C A s) : Canon C A { s with sys := x } := h.update rfl
theorem Canon.withFrm {x : Frm} (h : Canon C A s) : Canon C A { s with frm := x } := h.update rfl
theorem Canon.withPgv {x : Pgv} (h : Canon C A s) : Canon C A { s with pgv := x } := h.update rfl
theorem Canon.withXp {x : Xp} (h : Canon C A s) : Canon C A { s with xp := x } := h.update rfl
theorem Canon.withWdt {x : Wdt} {y : Sys} (h : Canon C A s) : Canon C A { s with wdt := x, sys := y } := h.update rfl

theorem Canon.withNet {n : Net} (h : Canon C A s) (hn : ∀ c, n.prevRing = some c → SetOk C c) :
    Canon C A { s with net := n } :=
  { h with prevRing := hn }

theorem Canon.withCal {k : Cal} (h : Canon C A s) (ht : TabOk C k.tables) (ha : k.atTest = s.cal.atTest) :
    Canon C A { s with cal := k } :=
  { h with tables := ht, atTest := ha ▸ h.atTest }

/-- An update of the configuration that leaves the active set. -/
theorem Canon.withCfg {k : Cfg} (h : Canon C A s) (active : k.active = s.cfg.active) (staged : SetOk C k.staged)
    (committed : ∀ c, k.committed = some c → SetOk C c) (writing : ∀ c, k.writing = some c → SetOk C c) :
    Canon C A { s with cfg := k } :=
  { h with active := active.trans h.active, staged := staged, committed := committed, writing := writing }

/-- An update of the configuration that makes `k.active` the active set. -/
theorem Canon.withActive {k : Cfg} (h : Canon C A s) (active : SetOk C k.active) (staged : SetOk C k.staged)
    (committed : ∀ c, k.committed = some c → SetOk C c) (writing : ∀ c, k.writing = some c → SetOk C c) :
    Canon C k.active { s with cfg := k } :=
  { h with active := rfl, activeOk := active, staged := staged, committed := committed, writing := writing }

theorem Canon.withStaged {c : CfgSet} (h : Canon C A s) (hc : SetOk C c) :
    Canon C A { s with cfg := { s.cfg with staged := c } } :=
  { h with staged := hc }

/-- The memories of a core, which most changes of a core leave. -/
def mems (k : Core) : Mem × Mem × Mem × Option Mem := (k.dmem, k.imem, k.nv, k.nvNext)

theorem CoreOk.of_mems {k k' : Core} (h : CoreOk C k) (e : mems k' = mems k) : CoreOk C k' := by
  simp only [mems, Prod.mk.injEq] at e
  obtain ⟨dmem, imem, nv, nvNext⟩ := e
  exact ⟨dmem ▸ h.dmem, imem ▸ h.imem, nv ▸ h.nv, nvNext ▸ h.nvNext⟩

/-- The portions of a group die, which most changes of a group leave. -/
def portions (x : Grp) : CfgSet × Option CfgSet := (x.portion, x.portionNext)

theorem GrpOk.of_portions {x x' : Grp} (h : GrpOk C x) (e : portions x' = portions x) : GrpOk C x' := by
  simp only [portions, Prod.mk.injEq] at e
  obtain ⟨portion, portionNext⟩ := e
  exact ⟨portion ▸ h.portion, portionNext ▸ h.portionNext⟩

/-- A property of every element of a vector, after one element was set. -/
theorem vec_set_all {α : Type} {n : Nat} {p : α → Prop} {v : Vector α n} {i : Fin n} {x : α} (h : ∀ j : Fin n, p v[j])
    (hx : p x) (j : Fin n) : p (v.set i x)[j] := by
  by_cases e : j = i
  · subst e
    simpa using hx
  · rw [vec_set_other v x e]
    exact h j

theorem canon_modCore_ok {c : CoreId} {f : Core → Core} (h : Canon C A s) (hf : CoreOk C (f s.core[c])) :
    Canon C A (modCore s c f) :=
  h.withCore (vec_set_all h.core hf)

theorem canon_modCore {c : CoreId} {f : Core → Core} (h : Canon C A s) (hf : ∀ k, mems (f k) = mems k) :
    Canon C A (modCore s c f) :=
  canon_modCore_ok h ((h.core c).of_mems (hf _))

theorem canon_modGrp_ok {g : GroupId} {f : Grp → Grp} (h : Canon C A s) (hf : GrpOk C (f s.grp[g])) :
    Canon C A (modGrp s g f) :=
  h.withGrp (vec_set_all h.grp hf)

theorem canon_modGrp {g : GroupId} {f : Grp → Grp} (h : Canon C A s) (hf : ∀ x, portions (f x) = portions x) :
    Canon C A (modGrp s g f) :=
  canon_modGrp_ok h ((h.grp g).of_portions (hf _))

theorem canon_mapCore {f : Core → Core} (h : Canon C A s) (hf : ∀ k, CoreOk C k → CoreOk C (f k)) :
    Canon C A { s with core := s.core.map f } :=
  h.withCore fun c => by simpa using hf _ (h.core c)

theorem canon_mapGrp {f : Grp → Grp} (h : Canon C A s) (hf : ∀ x, GrpOk C x → GrpOk C (f x)) :
    Canon C A { s with grp := s.grp.map f } :=
  h.withGrp fun g => by simpa using hf _ (h.grp g)

theorem canon_modRot {g : GroupId} {f : Rot → Rot} (h : Canon C A s) : Canon C A (modRot s g f) :=
  canon_modGrp h fun _ => rfl
theorem canon_modCh {n : ChanId} {f : Chan → Chan} (h : Canon C A s) : Canon C A (modCh s n f) := h.update rfl
theorem canon_modDi {n : ChanId} {f : ChDi → ChDi} (h : Canon C A s) : Canon C A (modDi s n f) := h.update rfl
theorem canon_modOut {n : ChanId} {f : ChDo → ChDo} (h : Canon C A s) : Canon C A (modOut s n f) := h.update rfl
theorem canon_modFlt {n : ChanId} {f : ChFlt → ChFlt} (h : Canon C A s) : Canon C A (modFlt s n f) := h.update rfl
theorem canon_modAi {n : ChanId} {f : ChAi → ChAi} (h : Canon C A s) : Canon C A (modAi s n f) := h.update rfl
theorem canon_modRdr {r : Fin 7} {f : Rdr → Rdr} (h : Canon C A s) : Canon C A (modRdr s r f) := h.update rfl
theorem canon_modSess {i : Fin 16} {f : Sess → Sess} (h : Canon C A s) : Canon C A (modSess s i f) := h.update rfl
theorem canon_modSlot {i : Fin 96} {f : Slot → Slot} (h : Canon C A s) : Canon C A (modSlot s i f) := h.update rfl
theorem canon_modPort {p : PortId} {f : Port → Port} (h : Canon C A s) : Canon C A (modPort s p f) := h.update rfl
theorem canon_modBuf {b : Fin 5} {f : LogBuf → LogBuf} (h : Canon C A s) : Canon C A (modBuf s b f) := h.update rfl
theorem canon_modCrc {x : CtxId} {f : Crc → Crc} (h : Canon C A s) : Canon C A (modCrc s x f) := h.update rfl
theorem canon_atTime {t : Nat} (h : Canon C A s) : Canon C A (atTime t s) := h.update rfl
theorem canon_atSlot {k : BitVec 8} (h : Canon C A s) : Canon C A (atSlot k s) := h.update rfl
theorem canon_atCycle {t : Nat} (h : Canon C A s) : Canon C A (atCycle t s) := h.update rfl

/-! ### Composition -/

theorem canon_ite {p : Prop} [Decidable p] {t u : State} (ht : Canon C A t) (hu : Canon C A u) :
    Canon C A (if p then t else u) := by
  split
  · exact ht
  · exact hu

theorem canon_dite {p : Prop} [Decidable p] {t : p → State} {u : ¬p → State} (ht : ∀ h, Canon C A (t h))
    (hu : ∀ h, Canon C A (u h)) : Canon C A (if h : p then t h else u h) := by
  split
  · exact ht _
  · exact hu _

theorem canon_foldl {α : Type} {l : List α} {f : State → α → State} (h : Canon C A s)
    (hf : ∀ s x, Canon C A s → Canon C A (f s x)) : Canon C A (l.foldl f s) := by
  induction l generalizing s with
  | nil => exact h
  | cons x l ih => exact ih (hf s x h)

theorem canon_each {α : Type} {l : List α} {f : α → State → State} (hf : ∀ x s, Canon C A s → Canon C A (f x s))
    (h : Canon C A s) : Canon C A (each l f s) :=
  canon_foldl h fun s x => hf x s

theorem canon_onCore {f : State → State} (hf : Canon C A s → Canon C A (f s)) (h : Canon C A s) :
    Canon C A (onCore f s) :=
  canon_ite (hf h) h

theorem canon_afterBoot {f : State → State} (hf : Canon C A s → Canon C A (f s)) (h : Canon C A s) :
    Canon C A (afterBoot f s) :=
  canon_ite (hf h) h

/-! ### What leaves the memories of a core -/

theorem mems_of_registersOnly {k k' : Core} (h : RegistersOnly k k') : mems k' = mems k :=
  (congrArg mems h).trans rfl

theorem mems_wr (k : Core) (f : BitVec 5) (v : W32) : mems (k.wr f v) = mems k :=
  mems_of_registersOnly (wr_fields k f v)

/-- Retiring an instruction changes the scoreboard alone. -/
theorem retire_fields (k : Core) (sh : Shape) (t i : Nat) : RegistersOnly k (k.retire sh t i) := by
  have hdst : ∀ (l : List (BitVec 5 × Nat)) (k : Core), RegistersOnly k (l.foldl (fun k d => k.setReady t d.1 d.2) k) := by
    intro l
    induction l with
    | nil => exact fun _ => rfl
    | cons d l ih => exact fun k => (setReady_fields k t d.1 d.2).trans (ih _)
  have hk : RegistersOnly k { k with freeAt := t + i } := rfl
  have h1 := hk.trans (hdst sh.dst _)
  unfold Core.retire
  dsimp only
  split <;> split
  all_goals exact h1.trans rfl

theorem mems_retire (k : Core) (sh : Shape) (t i : Nat) : mems (k.retire sh t i) = mems k :=
  mems_of_registersOnly (retire_fields k sh t i)

theorem mems_endTask (k : Core) : mems k.endTask = mems k := by
  unfold Core.endTask
  split <;> rfl

/-! ### Events and the Logbook -/

theorem canon_logPut {b : Fin 5} {l : List Byte} (h : Canon C A s) : Canon C A (logPut s b l).1 := by
  rw [logPut_frame]
  exact h.withLog fun hc => logPut_wf (h.log hc)

theorem canon_journal {l : List Byte} (h : Canon C A s) : Canon C A (journal s l).1 := by
  rw [journal_frame]
  exact h.withLog fun hc => journal_wf (h.log hc)

/-- A change by deliveries, events and the Logbook, of which the Logbook memory stays canonical. -/
theorem Canon.delivered {t : State} (h : Canon C A s) (d : DeliveredOnly s t) (hl : MemOk C t.log.mem) :
    Canon C A t := by
  obtain ⟨ht, hc⟩ := d
  rw [ht]
  refine (h.withLog hl).withCore (fun c => ?_) |>.update rfl
  rw [hc c]
  exact (h.core c).of_mems rfl

theorem canon_raise {e : Fin 128} {p : W32} (h : Canon C A s) : Canon C A (raise e p s) :=
  h.delivered (raise_only e p s) fun hc => raise_wf (h.log hc)

/-! ### Outcomes -/

/-- Whatever next state an outcome is, it keeps the stores. -/
def Keeps (C : Prop) (A : CfgSet) (o : Host.Outcome State Fault Refusal) : Prop := ∀ t, o = .next t → Canon C A t

theorem keeps_next {t : State} (h : Canon C A t) : Keeps C A (.next t) := by
  intro u e
  cases e
  exact h

theorem keeps_fault {f : Fault} : Keeps C A (.fault f) := fun _ e => nomatch e

theorem keeps_ite {p : Prop} [Decidable p] {x y : Host.Outcome State Fault Refusal} (hx : Keeps C A x)
    (hy : Keeps C A y) : Keeps C A (if p then x else y) := by
  split
  · exact hx
  · exact hy

/-- The effect of an instruction, if it raises no exception, keeps the stores. -/
def EffOk (C : Prop) (A : CfgSet) : Eff → Prop
  | .ok s _ _ => Canon C A s
  | .trap _ _ _ => True

theorem effOk_ok {target : Option W32} {i : Nat} (h : Canon C A s) : EffOk C A (.ok s target i) := h

theorem effOk_trap {cause bus : BitVec 4} {addr : W32} : EffOk C A (.trap cause bus addr) := trivial

theorem effOk_ite {p : Prop} [Decidable p] {x y : Eff} (hx : EffOk C A x) (hy : EffOk C A y) :
    EffOk C A (if p then x else y) := by
  split
  · exact hx
  · exact hy

end
end Sys2Proof.Machine
end

section
open Sys2Proof Sys2Proof.Machine
namespace Sys2Proof.Machine

section
variable {C : Prop} {A : CfgSet} {s : State}

/-! ### Shared consequences and Canter cores -/

theorem canon_record {b : Fin 5} {bytes : List Byte} (h : Canon C A s) : Canon C A (record b bytes s) :=
  canon_ite (canon_raise (canon_logPut h)) (canon_logPut h)

theorem canon_refuse {i : Fin 4} {cause : Byte} (h : Canon C A s) : Canon C A (refuse i cause s) :=
  canon_ite (h.update rfl) (canon_raise (h.update rfl))

theorem canon_closeSess {i : Fin 16} (h : Canon C A s) : Canon C A (closeSess i s) :=
  canon_ite (h.update rfl) (h.update rfl)

theorem canon_bumpSend {sid : Option (Fin 16)} (h : Canon C A s) : Canon C A (bumpSend sid s) := by
  unfold bumpSend
  split
  · exact canon_ite (canon_closeSess (canon_modSess h)) (canon_modSess h)
  · exact h

theorem canon_reply {m : MsgCtx} {sid : Option (Fin 16)} {msg : HWord} {body : List Byte} (h : Canon C A s) :
    Canon C A (reply m sid msg body s) :=
  canon_bumpSend (canon_ite (h.update rfl) (h.update rfl))

theorem canon_refuseMsg {m : MsgCtx} {sid : Option (Fin 16)} {cause : Byte} (h : Canon C A s) :
    Canon C A (refuseMsg m sid cause s) := by
  unfold refuseMsg
  dsimp only
  refine canon_ite ((canon_refuse h).update rfl) ?_
  split
  · exact canon_bumpSend ((canon_refuse h).update rfl)
  · exact canon_ite ((canon_refuse h).update rfl) ((canon_refuse h).update rfl)

theorem canon_draw (h : Canon C A s) : Canon C A (draw s).2 := h.update rfl

theorem canon_wrReg {c : CoreId} {f : BitVec 5} {v : W32} (h : Canon C A s) : Canon C A (wrReg c f v s) :=
  canon_modCore h fun k => mems_wr k f v

theorem canon_wrM {c : CoreId} {f : BitVec 5} {v : W64} (h : Canon C A s) : Canon C A (wrM c f v s) :=
  canon_modCore h (fun _ => rfl)

theorem canon_wrFlags {c : CoreId} {f : Flags} (h : Canon C A s) : Canon C A (wrFlags c f s) :=
  canon_modCore h (fun _ => rfl)

theorem canon_wrResult {c : CoreId} {rd : BitVec 5} {v : W32} {f : Flags} (h : Canon C A s) :
    Canon C A (wrResult c rd v f s) :=
  canon_wrReg (canon_wrFlags h)

theorem canon_changeMode {m : Mode} {mask : BitVec 8} (h : Canon C A s) : Canon C A (changeMode m mask s) := by
  have hs : Canon C A { s with
      sys := { s.sys with mode := m, prevMode := s.sys.mode, degMask := if m = .degraded then mask else 0 }
      frz := { s.frz with snapReq := s.frz.snapReq || decide (m = .safe) }
      core := s.core.map fun k => { k with bgMon := k.bgMon && bgMode m } } :=
    (canon_mapCore (f := fun k => { k with bgMon := k.bgMon && bgMode m }) h fun _ hk => hk.of_mems rfl).update rfl
  unfold changeMode
  exact canon_ite (h.update rfl) (canon_raise (canon_ite (canon_each (fun _ _ => canon_modOut) hs) hs))

theorem canon_safeTrigger (h : Canon C A s) : Canon C A (safeTrigger s) := canon_ite (h.update rfl) h

theorem canon_trialFail {reason : BitVec 4} (h : Canon C A s) : Canon C A (trialFail reason s) :=
  canon_ite (h.update rfl) h

theorem canon_frameOverrun {kind : BitVec 2} {core : BitVec 2} {grp : BitVec 3} {slot : BitVec 8} (h : Canon C A s) :
    Canon C A (frameOverrun kind core grp slot s) :=
  canon_ite h (canon_ite (h.update rfl) (canon_ite (canon_ite (canon_trialFail (canon_raise (h.update rfl)))
    (canon_safeTrigger (canon_raise (h.update rfl)))) (canon_raise (h.update rfl))))

theorem canon_answerCmd {q : QCmd} {st : Byte} (h : Canon C A s) : Canon C A (answerCmd q st s) :=
  canon_ite (canon_reply h) h

theorem canon_refuseCmd {q : QCmd} {cause : Byte} (h : Canon C A s) : Canon C A (refuseCmd q cause s) :=
  canon_refuseMsg h

theorem canon_answerCommit {cause : Byte} (h : Canon C A s) : Canon C A (answerCommit cause s) := by
  unfold answerCommit
  dsimp only
  split
  · exact canon_answerCmd (h.update rfl)
  · exact h.update rfl

theorem canon_refuseCommit {cause : BitVec 8} (h : Canon C A s) : Canon C A (refuseCommit cause s) := by
  have hs := canon_mapGrp (f := fun x => { x with portionNext := none }) h
    fun _ hx => { hx with portionNext := by simp }
  exact canon_raise (canon_answerCommit (hs.update rfl))

theorem canon_acceptIfDone {t : Nat} (h : Canon C A s) : Canon C A (acceptIfDone t s) :=
  canon_ite (canon_answerCommit (h.update rfl)) h

theorem canon_haltCore {c : CoreId} (h : Canon C A s) : Canon C A (haltCore c s) := canon_modCore h (fun _ => rfl)

theorem canon_takeExc {c : CoreId} {cause bus : BitVec 4} {addr : W32} {t : Nat} (h : Canon C A s) :
    Canon C A (takeExc c cause bus addr t s) := by
  unfold takeExc
  extract_lets k s1 s2 _ s3
  refine canon_ite (canon_haltCore h) ?_
  have h1 : Canon C A s1 := canon_modCore h fun _ => rfl
  have h2 : Canon C A s2 := canon_modCore (canon_raise h1) fun k => mems_endTask k
  have h3 : Canon C A s3 := canon_ite h2.withSys h2
  split
  · exact canon_frameOverrun h3
  · exact h3

theorem canon_budgetExc {c : CoreId} {t : Nat} (h : Canon C A s) : Canon C A (budgetExc c t s) :=
  canon_takeExc (canon_atCycle h)

theorem canon_trapAt {c : CoreId} {cause bus : BitVec 4} {addr : W32} {t : Nat} (h : Canon C A s) :
    Canon C A (trapAt c cause bus addr t s) :=
  canon_ite (canon_budgetExc h) (canon_takeExc (canon_atCycle h))

theorem canon_canter {c : CoreId} {legal : Bool} {sh : Shape} {eff : Nat → State → Eff}
    (hf : ∀ t s, Canon C A s → EffOk C A (eff t s)) (h : Canon C A s) : Canon C A (canter c legal sh eff s) := by
  unfold canter
  refine canon_ite h (canon_ite (canon_trapAt h) (canon_ite (canon_trapAt h) ?_))
  have he := hf (issueAt s.core[c] sh) _ (canon_atCycle (t := issueAt s.core[c] sh) h)
  split
  · exact canon_trapAt h
  · next heq =>
    rw [heq] at he
    exact canon_ite (canon_budgetExc h) (canon_modCore he fun k => mems_retire k _ _ _)

theorem canon_calPut {t i : Nat} {v : W32} (h : Canon C A s) : Canon C A (calPut t i v s) :=
  h.withCal h.tables.put rfl

/-! ### The Reins -/

theorem canon_keepLease {i : Fin 96} (h : Canon C A s) : Canon C A (keepLease i s) := canon_ite (h.update rfl) h

theorem canon_openSlot {i : Fin 96} {op : ReqOp} {cls : BitVec 2} {gc : Vector Nat 8} {dc frames : Nat}
    {members : BitVec 64} (h : Canon C A s) : Canon C A (openSlot i op cls gc dc frames members s) :=
  (canon_keepLease h).update rfl

theorem canon_openOp {i : Fin 96} {op : ReqOp} (h : Canon C A s) : Canon C A (openOp i op s) := canon_openSlot h

theorem canon_groomReq {op : ReqOp} (h : Canon C A s) : Canon C A (groomReq op s) := by
  unfold groomReq
  split
  · exact canon_openOp h
  · exact h.update rfl

theorem canon_serveWait (h : Canon C A s) : Canon C A (serveWait s) := by
  unfold serveWait
  split
  · exact canon_openOp (h.update rfl)
  · exact h

theorem canon_joinSet {i : Fin 96} {n : ChanId} {mw frames : Nat} (h : Canon C A s) :
    Canon C A (joinSet i n mw frames s) :=
  canon_modSlot h

theorem canon_askLeave {n : ChanId} {op : ReqOp} (h : Canon C A s) : Canon C A (askLeave n op s) := by
  unfold askLeave
  dsimp only
  split
  · exact canon_ite (canon_openOp h) h
  · exact canon_ite (canon_openOp h) h
  · split
    · exact canon_joinSet h
    · exact canon_ite (canon_openSlot h) h

theorem canon_conflict {kind : Nat} {g : Option GroupId} (h : Canon C A s) : Canon C A (conflict kind g s) :=
  canon_raise (h.update rfl)

theorem canon_chargeLease {n : ChanId} (h : Canon C A s) : Canon C A (chargeLease n s) :=
  canon_ite (canon_conflict (h.update rfl)) (canon_ite (canon_conflict (h.update rfl)) (h.update rfl))

theorem canon_withdraw {n : ChanId} (h : Canon C A s) : Canon C A (withdraw n s) :=
  canon_each (fun _ _ h => canon_ite (canon_serveWait (canon_modSlot h)) h) h

theorem canon_endLease {n : ChanId} (h : Canon C A s) : Canon C A (endLease n s) := by
  unfold endLease
  exact (canon_each (fun _ _ h => canon_ite (canon_modSlot h) h) h).withPgv

theorem canon_endOwn {n : ChanId} (h : Canon C A s) : Canon C A (endOwn n s) :=
  canon_each (fun _ _ h => canon_ite (canon_modSlot h) h) (canon_endLease h)

theorem canon_protectConflict {n : ChanId} (h : Canon C A s) : Canon C A (protectConflict n s) :=
  canon_ite (canon_conflict (canon_endOwn (canon_withdraw h))) h

theorem canon_examine {i : Fin 96} {p : State × Exam} (h : Canon C A p.1) : Canon C A (examine i p).1 := by
  unfold examine
  dsimp only
  split
  all_goals dsimp only
  · exact canon_modSlot h
  · exact canon_ite (canon_conflict (canon_modSlot h)) (canon_modSlot h)

/-- A fold over a state and something beside it. -/
theorem canon_foldl_fst {α β : Type} {l : List α} {f : State × β → α → State × β} {p : State × β} (h : Canon C A p.1)
    (hf : ∀ p x, Canon C A p.1 → Canon C A (f p x).1) : Canon C A (l.foldl f p).1 := by
  induction l generalizing p with
  | nil => exact h
  | cons x l ih => exact ih (hf p x h)

theorem canon_ageRest (h : Canon C A s) : Canon C A (ageRest s) := h.update rfl

theorem canon_ageLeases (h : Canon C A s) : Canon C A (ageLeases s) := by
  unfold ageLeases
  dsimp only
  refine canon_each ?_ (canon_ageRest h)
  intro _ _ h
  refine canon_ite ?_ h
  split
  · exact canon_modSlot h
  · exact canon_modSlot h

theorem canon_updateCorr (h : Canon C A s) : Canon C A (updateCorr s) := canon_each (fun _ _ h => h.update rfl) h

theorem canon_overCheck (h : Canon C A s) : Canon C A (overCheck s) := by
  unfold overCheck
  extract_lets one s1
  have hone : ∀ b load bud lease g u, Canon C A u → Canon C A (one b load bud lease g u) := fun _ _ _ _ _ _ hu =>
    canon_ite hu.withPgv (canon_ite (canon_conflict hu.withPgv) hu)
  exact hone _ _ _ _ _ _ (canon_each (fun _ _ => hone _ _ _ _ _ _) h)

theorem canon_loadRegs (h : Canon C A s) : Canon C A (loadRegs s) := h.update rfl

theorem canon_reinsTick (h : Canon C A s) : Canon C A (reinsTick s) :=
  canon_loadRegs (canon_overCheck (canon_foldl_fst (canon_updateCorr (canon_ageLeases h)) fun _ _ => canon_examine))

/-! ### Outputs and the Logbook -/

theorem canon_setApplied {n : ChanId} {w : W32} (h : Canon C A s) : Canon C A (setApplied n w s) := by
  unfold setApplied
  exact canon_modOut (canon_ite (canon_modFlt h) h)

theorem canon_startBusy {n : ChanId} {k : BitVec 2} (h : Canon C A s) : Canon C A (startBusy n k s) :=
  canon_ite h (canon_modFlt h)

theorem canon_queueReq {n : ChanId} {q : QReq} (h : Canon C A s) : Canon C A (queueReq n q s) :=
  canon_modOut (canon_modFlt h)

theorem canon_latchQual {n : ChanId} (h : Canon C A s) : Canon C A (latchQual n s) := canon_modOut h

theorem canon_switchOff {n : ChanId} (h : Canon C A s) : Canon C A (switchOff n s) :=
  canon_ite h (canon_latchQual (canon_onCore canon_endLease (canon_startBusy (canon_modOut h))))

theorem canon_putSafe {n : ChanId} {w : W32} (h : Canon C A s) : Canon C A (putSafe n w s) :=
  canon_ite (canon_ite (canon_endLease (canon_startBusy (canon_setApplied h))) (canon_setApplied h)) (canon_ite
    (canon_modOut (canon_setApplied h)) (canon_ite (canon_ite (canon_setApplied h) (canon_chargeLease (canon_modOut
    (canon_setApplied h)))) (canon_ite (canon_ite (canon_endLease (canon_startBusy (canon_setApplied h))) (canon_setApplied
    h)) (canon_setApplied h))))

theorem canon_applySafe {n : ChanId} (h : Canon C A s) : Canon C A (applySafe n s) :=
  canon_ite h (canon_latchQual (canon_ite (canon_modOut (canon_modOut h)) (canon_ite (canon_queueReq (canon_modOut h))
    (canon_ite (canon_modOut h) (canon_putSafe (canon_modOut h))))))

theorem canon_refreshSafe {l : List ChanId} (h : Canon C A s) : Canon C A (refreshSafe l s) :=
  canon_each (fun _ _ h => canon_ite (canon_applySafe h) h) h

theorem canon_askOnce {n : ChanId} {op : ReqOp} (h : Canon C A s) : Canon C A (askOnce n op s) :=
  canon_ite (canon_modOut h) (canon_askLeave (canon_modOut h))

theorem canon_usePrepared {i : Fin 96} {n : ChanId} {op : ReqOp} (h : Canon C A s) :
    Canon C A (usePrepared i n op s) := by
  unfold usePrepared
  exact canon_modSlot h

theorem canon_applyValue {n : ChanId} {w : W32} {move : Bool} (h : Canon C A s) :
    Canon C A (applyValue n w move s) := by
  unfold applyValue
  dsimp only
  refine canon_ite ?_ ?_
  · refine canon_ite ?_ (canon_ite (canon_setApplied (canon_modOut h)) (canon_ite (canon_endLease (canon_startBusy
    (canon_setApplied (canon_modOut (canon_modOut h))))) (canon_startBusy (canon_setApplied (canon_modOut (canon_modOut
    h))))))
    refine canon_ite (canon_setApplied (canon_modOut h)) ?_
    refine canon_ite (canon_setApplied (canon_modOut (canon_modOut h))) ?_
    split
    · exact canon_setApplied (canon_modOut (canon_modOut (canon_usePrepared h)))
    · exact canon_askOnce (canon_modOut (canon_modOut h))
  · refine canon_ite (canon_setApplied (canon_modOut h)) ?_
    refine canon_ite (canon_setApplied (canon_modOut h)) ?_
    refine canon_ite ?_ h
    refine canon_ite (canon_modOut (canon_setApplied (canon_modOut h))) ?_
    refine canon_ite (canon_modOut (canon_setApplied (canon_modOut (canon_modOut h)))) ?_
    split
    · exact canon_modOut (canon_setApplied (canon_modOut (canon_modOut (canon_usePrepared h))))
    · exact canon_askOnce (canon_modOut (canon_modOut h))

theorem canon_noteLast {n : ChanId} (h : Canon C A s) : Canon C A (noteLast n s) := canon_modOut h

theorem canon_valueBehind {n : ChanId} {w : W32} (h : Canon C A s) : Canon C A (valueBehind n w s) := by
  unfold valueBehind
  refine canon_ite ?_ (canon_queueReq h)
  split
  · exact canon_modOut (canon_modFlt h)
  · exact h

theorem canon_applyAt {n : ChanId} {fresh : Bool} (h : Canon C A s) : Canon C A (applyAt n fresh s) :=
  canon_ite h (canon_ite (canon_ite (canon_valueBehind h) h) (canon_ite h (canon_noteLast (canon_applyValue h))))

theorem canon_applyCh {n : ChanId} {fresh : Bool} (h : Canon C A s) : Canon C A (applyCh n fresh s) :=
  canon_ite (canon_latchQual (canon_applyAt h)) h

theorem canon_leaveMode {n : ChanId} {old : CfgSet} (h : Canon C A s) : Canon C A (leaveMode n old s) :=
  canon_endLease (canon_withdraw (canon_startBusy (canon_modOut (canon_modAi h))))

theorem canon_askStage {n : ChanId} (h : Canon C A s) : Canon C A (askStage n s) :=
  canon_ite (canon_latchQual (canon_askOnce (canon_modOut h))) h

theorem canon_enterMode {n : ChanId} {old : CfgSet} (h : Canon C A s) : Canon C A (enterMode n old s) :=
  canon_latchQual (canon_askStage (canon_refreshSafe (canon_ite (canon_askLeave (canon_modAi (canon_modCh h))) (canon_modCh
    h))))

theorem canon_serveBytes {n : Nat} (h : Canon C A s) : Canon C A (serveBytes n s) :=
  canon_ite (h.withLog h.log) (canon_groomReq (h.withLog h.log))

theorem canon_eccServed {b : Fin 5} (h : Canon C A s) : Canon C A (eccServed b s) := canon_raise (canon_modBuf h)

theorem canon_putBlock {g : GroupId} (h : Canon C A s) : Canon C A (putBlock g s) := canon_record (h.update rfl)

theorem canon_addSample {g : GroupId} {j : Nat} {x : W32} (h : Canon C A s) : Canon C A (addSample g j x s) :=
  canon_ite h ((canon_ite (canon_putBlock h) h).update rfl)

theorem canon_jobDone {code : Nat} (h : Canon C A s) : Canon C A (jobDone code s) := h.update rfl

/-! ### Channels, rotation and protection -/

theorem canon_raiseOn {e : Fin 128} {payload : W32} (h : Canon C A s) : Canon C A (raiseOn e payload s) :=
  canon_onCore canon_raise h

theorem canon_raiseSum {n : ChanId} (h : Canon C A s) : Canon C A (raiseSum n s) := canon_raiseOn h

theorem canon_setStuck {n : ChanId} (h : Canon C A s) : Canon C A (setStuck n s) :=
  canon_ite (canon_modFlt h) (canon_raiseOn (canon_modFlt h))

theorem canon_darkSeen {n : ChanId} (h : Canon C A s) : Canon C A (darkSeen n s) :=
  canon_each (fun _ _ => canon_modFlt) h

theorem canon_setCross {a b : ChanId} (h : Canon C A s) : Canon C A (setCross a b s) :=
  canon_ite (canon_modFlt (canon_modFlt h)) (canon_raiseOn (canon_modFlt (canon_modFlt h)))

theorem canon_coreBus {c : CoreId} {a : Nat} (h : Canon C A s) : Canon C A (coreBus c a s) :=
  canon_ite (canon_takeExc (canon_atCycle h)) h

theorem canon_keyWhilePending {a : Nat} {v : HWord} {cause : Byte} (h : Canon C A s) :
    Canon C A (keyWhilePending a v cause s) :=
  canon_ite (canon_raise h) h

theorem canon_guarded {acc : Access} {a : Nat} {v : HWord} {f : State → State}
    (hf : ∀ s, Canon C A s → Canon C A (f s)) (h : Canon C A s) : Canon C A (guarded acc a v f s) := by
  unfold guarded
  refine canon_onCore ?_ h
  intro h
  split
  · exact canon_ite (canon_coreBus h) (hf _ h)
  · split
    · exact canon_keyWhilePending (canon_refuse h)
    · exact hf _ h

theorem canon_guardedRead {acc : Access} {a : Nat} {f : State → State} (hf : ∀ s, Canon C A s → Canon C A (f s))
    (h : Canon C A s) : Canon C A (guardedRead acc a f s) := by
  unfold guardedRead
  refine canon_onCore ?_ h
  intro h
  split
  · exact canon_refuse h
  · exact hf _ h

theorem canon_dropReq {op : ReqOp} (h : Canon C A s) : Canon C A (dropReq op s) :=
  canon_serveWait (canon_each (fun _ _ h => canon_ite (canon_modSlot h) h) (h.update rfl))

theorem canon_endOp {op : ReqOp} (h : Canon C A s) : Canon C A (endOp op s) :=
  canon_each (fun _ _ h => canon_ite (canon_modSlot h) h) h

theorem canon_askSweep {g : GroupId} (h : Canon C A s) : Canon C A (askSweep g s) :=
  canon_onCore canon_groomReq (canon_modRot (canon_modGrp h (fun _ => rfl)))

theorem canon_startRot {g : GroupId} (h : Canon C A s) : Canon C A (startRot g s) := canon_ite h (canon_askSweep h)

theorem canon_suspendRot {g : GroupId} (h : Canon C A s) : Canon C A (suspendRot g s) := by
  unfold suspendRot
  exact canon_modRot (canon_modGrp (canon_endOp (canon_dropReq (canon_dropReq h))) (fun _ => rfl))

theorem canon_swapConv {g : GroupId} {r : Fin 3} (h : Canon C A s) : Canon C A (swapConv g r s) :=
  canon_modGrp h (fun _ => rfl)

theorem canon_handover {g : GroupId} (h : Canon C A s) : Canon C A (handover g s) :=
  canon_askSweep (canon_modRot (canon_swapConv h))

theorem canon_beginOverlap {g : GroupId} (h : Canon C A s) : Canon C A (beginOverlap g s) :=
  canon_modGrp h (fun _ => rfl)

theorem canon_restartOverlap {g : GroupId} (h : Canon C A s) : Canon C A (restartOverlap g s) :=
  canon_ite (canon_beginOverlap (canon_modRot (canon_dropReq h))) h

theorem canon_laneFault {g : GroupId} {conv : BitVec 2} (h : Canon C A s) : Canon C A (laneFault g conv s) :=
  canon_raiseOn (canon_modRot (canon_modGrp h (fun _ => rfl)))

theorem canon_resetLaneCorr {g : GroupId} (h : Canon C A s) : Canon C A (resetLaneCorr g s) := by
  refine h.withCal (fun hc => ?_) rfl
  obtain ⟨ht, htd⟩ := spWf_iff.1 (h.tables hc)
  obtain ⟨ha, had⟩ := spWf_iff.1 (h.atTest hc)
  refine spWf_iff.2 ⟨?_, ?_⟩
  · simp only [List.pairwise_append, List.mem_append, List.mem_filter, decide_eq_true_eq]
    exact ⟨⟨ht.filter _, ha.filter _, fun _ hx _ hy => by omega⟩, ht.filter _, fun _ hx _ hy => by omega⟩
  · simp only [List.mem_append, List.mem_filter]
    rintro p ((hp | hp) | hp)
    · exact htd p hp.1
    · exact had p hp.1
    · exact htd p hp.1

theorem canon_protectCh {n : ChanId} (h : Canon C A s) : Canon C A (protectCh n s) := by
  unfold protectCh
  exact canon_modOut (canon_onCore canon_protectConflict h)

theorem canon_thermOff {n : ChanId} {k : Bool} (h : Canon C A s) : Canon C A (thermOff n k s) := by
  unfold thermOff
  exact canon_modFlt (canon_switchOff (canon_protectCh h))

theorem canon_endBusy {n : ChanId} {k : BitVec 2} (h : Canon C A s) : Canon C A (endBusy n k s) :=
  canon_ite (canon_modFlt h) h

theorem canon_openPath {n : ChanId} (h : Canon C A s) : Canon C A (openPath n s) := canon_raiseSum (canon_modAi h)

theorem canon_supplyOff {n : ChanId} (h : Canon C A s) : Canon C A (supplyOff n s) := by
  unfold supplyOff
  exact canon_modAi (canon_modOut (canon_switchOff (canon_protectCh h)))

theorem canon_stopLanes {g : GroupId} (h : Canon C A s) : Canon C A (stopLanes g s) :=
  canon_modGrp (canon_suspendRot h) (fun _ => rfl)

theorem canon_supplyFail {g : GroupId} {st : Supply} {mv : HWord} (h : Canon C A s) :
    Canon C A (supplyFail g st mv s) :=
  canon_raiseOn (canon_modGrp (canon_each (fun _ _ => canon_supplyOff) (canon_stopLanes h)) (fun _ => rfl))

theorem canon_givePortion {g : GroupId} (h : Canon C A s) : Canon C A (givePortion g s) :=
  canon_modGrp_ok h { h.grp g with portion := h.active ▸ h.activeOk }

theorem canon_joinPortions {g : GroupId} (h : Canon C A s) : Canon C A (joinPortions g s) := canon_ite (h.update rfl) h

theorem canon_endHold {g : GroupId} (h : Canon C A s) : Canon C A (endHold g s) :=
  canon_each (fun _ _ h => canon_ite (canon_modFlt (canon_modOut (canon_switchOff h))) (canon_applySafe h)) (canon_modGrp h
    (fun _ => rfl))

theorem canon_dropQueued {n : ChanId} (h : Canon C A s) : Canon C A (dropQueued n s) := canon_modFlt (canon_modOut h)

theorem canon_enterHold {g : GroupId} (h : Canon C A s) : Canon C A (enterHold g s) :=
  canon_ite (canon_ite (canon_endHold (canon_modGrp (canon_each (fun _ _ h => canon_dropQueued (canon_protectCh h)) h) (fun
    _ => rfl))) (canon_modGrp (canon_each (fun _ _ h => canon_dropQueued (canon_protectCh h)) h) (fun _ => rfl))) h

theorem canon_leaveHold {g : GroupId} (h : Canon C A s) : Canon C A (leaveHold g s) :=
  canon_raiseOn (canon_modGrp h (fun _ => rfl))

theorem canon_clearCh {n : ChanId} (h : Canon C A s) : Canon C A (clearCh n s) := by
  unfold clearCh
  exact canon_modFlt (canon_modFlt h)

theorem canon_clearGrp {g : GroupId} (h : Canon C A s) : Canon C A (clearGrp g s) := canon_modGrp h (fun _ => rfl)

/-! ### Lanes -/

theorem canon_openSensor {n : ChanId} {c v : Int} (h : Canon C A s) : Canon C A (openSensor n c v s) :=
  canon_ite (canon_ite (canon_modFlt h) (canon_ite (canon_modFlt h) h)) h

theorem canon_writeEntry {g : GroupId} {r : Role} {i : Fin 16} {e : Entry} {x : ConvIn} (h : Canon C A s) :
    Canon C A (writeEntry g r i e x s) := by
  unfold writeEntry
  dsimp only
  split
  · exact canon_modGrp h (fun _ => rfl)
  · exact canon_openSensor (canon_modAi (canon_modGrp h (fun _ => rfl)))

theorem canon_releaseHold {e : Entry} {t : Nat} (h : Canon C A s) : Canon C A (releaseHold e t s) := by
  unfold releaseHold
  split
  · exact canon_modAi h
  · exact h

theorem canon_clearPair {g : GroupId} (h : Canon C A s) : Canon C A (clearPair g s) := by
  unfold clearPair
  refine canon_modGrp h fun x => ?_
  split
  · rfl
  · rfl

theorem canon_shadowSample {g : GroupId} {x : ConvIn} (h : Canon C A s) : Canon C A (shadowSample g x s) :=
  canon_ite (canon_clearPair (canon_writeEntry h)) h

theorem canon_startScan {g : GroupId} (h : Canon C A s) : Canon C A (startScan g s) := canon_modGrp h (fun _ => rfl)

theorem canon_selfCheck {g : GroupId} (h : Canon C A s) : Canon C A (selfCheck g s) :=
  canon_ite h (canon_ite (canon_modGrp h (fun _ => rfl)) (canon_ite (canon_raiseOn (canon_each (fun _ _ => canon_supplyOff)
    (canon_modGrp h (fun _ => rfl)))) (canon_modGrp h (fun _ => rfl))))

theorem canon_leaveScan {g : GroupId} (h : Canon C A s) : Canon C A (leaveScan g s) :=
  canon_startRot (canon_modGrp h (fun _ => rfl))

theorem canon_enterScan {g : GroupId} (h : Canon C A s) : Canon C A (enterScan g s) :=
  canon_startScan (canon_modGrp (canon_suspendRot h) (fun _ => rfl))

theorem canon_endRecovery {g : GroupId} (h : Canon C A s) : Canon C A (endRecovery g s) :=
  canon_each (fun _ _ h => canon_ite (canon_askLeave (canon_modAi h)) (canon_askStage h)) (canon_refreshSafe (canon_modGrp h
    (fun _ => rfl)))

/-! ### Services, slots and tasks -/

theorem canon_putOut {n : ChanId} {w : W32} (h : Canon C A s) : Canon C A (putOut n w s) := by
  unfold putOut
  exact canon_modOut (h.update rfl)

theorem canon_outOwner {n : ChanId} {w : Nat} (h : Canon C A s) : Canon C A (outOwner n w s) := canon_raise h

theorem canon_putDmem {c : CoreId} {o : Nat} {v : W32} (h : Canon C A s) : Canon C A (putDmem c o v s) :=
  canon_modCore_ok h { h.core c with dmem := (h.core c).dmem.puts }

theorem canon_freeDraw (h : Canon C A s) : Canon C A (freeDraw s).2 := h.update rfl

theorem canon_submit {c : CoreId} {d : W32} (h : Canon C A s) : Canon C A (submit c d s).2.2 := by
  unfold submit
  dsimp only
  split
  · exact h
  · split
    · exact h
    · split
      · exact h
      · split
        · exact canon_openSlot h
        · exact h

theorem canon_svcFixed {c : CoreId} {f : SvcF} {l : Nat} {g : State → State} (hf : ∀ s, Canon C A s → Canon C A (g s))
    (h : Canon C A s) : Canon C A (svcFixed c f l g s) := by
  unfold svcFixed
  exact canon_canter (fun _ _ h => effOk_ok (canon_ite h (hf _ h))) h

theorem canon_svcD0 {c : CoreId} {v : W32} (h : Canon C A s) : Canon C A (svcD0 c v s) := canon_wrReg h

theorem canon_svcD1 {c : CoreId} {v : W32} (h : Canon C A s) : Canon C A (svcD1 c v s) := canon_wrReg h

theorem canon_svcLong {c : CoreId} {f : SvcF} {n : Byte} (h : Canon C A s) : Canon C A (svcLong c f n s) := by
  unfold svcLong
  exact canon_canter (fun _ _ h => effOk_ite (effOk_ok h) (effOk_ite effOk_trap (effOk_ok (canon_ite (canon_groomReq
      (canon_modCore h (fun _ => rfl))) (canon_modCore h (fun _ => rfl)))))) h

theorem canon_putSram {a : W32} {l : List Byte} (h : Canon C A s) : Canon C A (putSram a l s) := h.withSram h.sram.puts

/-! ### Services -/

theorem canon_doXiSend {c : CoreId} {w : SvcWait} (h : Canon C A s) : Canon C A (doXiSend c w s).s := by
  unfold doXiSend
  dsimp only
  split
  · exact h
  · split
    · exact h
    · split
      · exact h
      · dsimp only
        exact canon_bumpSend (h.update rfl)

theorem canon_doXiRecv {c : CoreId} {w : SvcWait} (h : Canon C A s) : Canon C A (doXiRecv c w s).s := by
  unfold doXiRecv
  split
  · exact h
  · split
    · exact h
    · split
      · exact h
      · dsimp only
        exact canon_putSram (canon_modCore h fun _ => rfl)

theorem canon_doLogRead {w : SvcWait} {ecc : Bool} (h : Canon C A s) : Canon C A (doLogRead w ecc s).s := by
  unfold doLogRead
  dsimp only
  split
  · split
    · exact h
    · split
      · exact h
      · dsimp only
        exact canon_serveBytes (canon_putSram (canon_ite (canon_eccServed h) h))
  · exact h

theorem canon_svcResult {c : CoreId} {w : SvcWait} {ecc : Bool} {r : SvcRes} (h : Canon C A s)
    (hr : svcResult c w ecc s = some r) : Canon C A r.s := by
  unfold svcResult at hr
  dsimp only at hr
  split at hr
  · cases hr; exact canon_doXiSend h
  split at hr
  · cases hr; exact canon_doXiRecv h
  split at hr
  · split at hr
    · cases hr
    · cases hr; exact canon_doLogRead h
  split at hr
  · cases hr; exact canon_ite (canon_putSram h) h
  split at hr
  · cases hr; exact h
  split at hr
  · cases hr; exact h
  split at hr
  · cases hr; exact h
  · cases hr

theorem canon_putIn {n : ChanId} {w : W32} (h : Canon C A s) : Canon C A (putIn n w s) := h.update rfl

theorem canon_putFormed {n : ChanId} {w : W32} (h : Canon C A s) : Canon C A (putFormed n w s) :=
  canon_putIn (h.update rfl)

theorem canon_putStatus {g : GroupId} (h : Canon C A s) : Canon C A (putStatus g s) :=
  canon_each (fun _ _ h => h.update rfl) h

theorem canon_checkEcho {g : GroupId} {chans : BitVec 64} {grpBit : Bool} (h : Canon C A s) :
    Canon C A (checkEcho g chans grpBit s) :=
  canon_ite (canon_raise (canon_modGrp (canon_modGrp (canon_each (fun _ _ => canon_modFlt) h) (fun _ => rfl)) (fun _ =>
    rfl))) (canon_modGrp (canon_each (fun _ _ => canon_modFlt) h) (fun _ => rfl))

theorem canon_coldJunction {die : Int} {n : ChanId} (h : Canon C A s) : Canon C A (coldJunction die n s) :=
  canon_ite h (canon_ite (canon_modAi h) (canon_ite (canon_modAi h) (canon_ite (canon_modAi h) (canon_raiseSum (canon_modAi
    h)))))

theorem canon_endXfer {g : GroupId} {x : InXferIn} (h : Canon C A s) : Canon C A (endXfer g x s) := by
  unfold endXfer
  extract_lets y excl clear keepAll _ s0 rep
  have hclear : ∀ u, Canon C A u → Canon C A (clear u) := fun _ hu => canon_modGrp hu fun _ => rfl
  have hkeep : ∀ r u, Canon C A u → Canon C A (keepAll r u) := fun _ _ hu => canon_each (fun _ _ => canon_putIn) hu
  refine canon_ite (hclear _ (hkeep _ _ (h.update rfl))) (canon_ite (canon_putStatus (hclear _ (hkeep _ _ h))) ?_)
  split
  · exact h
  · next tx =>
    extract_lets s1 s2 _ _ s3
    have h1 : Canon C A s1 := canon_ite (hkeep _ _ h) (canon_each (fun _ _ h => canon_putFormed (h.update rfl)) h)
    have h2 : Canon C A s2 := canon_each (fun _ _ => canon_coldJunction) h1
    clear_value s2
    have h3 : Canon C A s3 := h2.update rfl
    exact canon_checkEcho (canon_putStatus (hclear _ h3))

theorem canon_deadlineCore {slot : BitVec 8} {c : CoreId} (h : Canon C A s) : Canon C A (deadlineCore slot c s) :=
  canon_ite (canon_frameOverrun (canon_modCore h (fun _ => rfl))) (canon_modCore h (fun _ => rfl))

theorem canon_sendWord {n : ChanId} (h : Canon C A s) : Canon C A (sendWord n s) := by
  unfold sendWord
  exact canon_modOut h

theorem canon_takeWord {n : ChanId} (h : Canon C A s) : Canon C A (takeWord n s) := canon_modOut h

theorem canon_applyGroup {g : GroupId} (h : Canon C A s) : Canon C A (applyGroup g s) :=
  canon_each (fun _ _ h => canon_ite (canon_applyCh h) (canon_ite (canon_modOut h) h)) (canon_modGrp h (fun _ => rfl))

theorem canon_svcPut {c : CoreId} {d0 : W32} {d1 : Option W32} {t : Nat} (h : Canon C A s) :
    Canon C A (svcPut c d0 d1 t s) :=
  canon_modCore h fun k => by extract_lets; split <;> rfl

theorem canon_resumeServed {c : CoreId} {t : Nat} (h : Canon C A s) : Canon C A (resumeServed c t s) := by
  unfold resumeServed
  split
  · exact canon_ite (canon_modCore h fun _ => rfl) h
  · exact h

/-! ### Ports, COMMIT and the frame tick -/

theorem canon_tapCopy {p : PortId} {x : Tapped} (h : Canon C A s) : Canon C A (tapCopy p x s) :=
  canon_ite (h.update rfl) h

theorem canon_drainPort {p : PortId} (h : Canon C A s) : Canon C A (drainPort s p) :=
  canon_ite h (canon_foldl (canon_modPort h) (fun _ _ h => h.update rfl))

theorem canon_sendFrame {f : EthFrame} {vid : BitVec 12} {untag : Bool} {p : PortId} (h : Canon C A s) :
    Canon C A (sendFrame f vid untag s p) :=
  canon_drainPort (canon_modPort h)

theorem canon_tickGates (h : Canon C A s) : Canon C A (tickGates s) :=
  canon_foldl (h.update rfl) (fun _ _ => canon_drainPort)

theorem canon_timeValid (h : Canon C A s) : Canon C A (timeValid s) := by
  have hs : ∀ x, Canon C A (if srcOf s.cfg.active = 0 then { s with frm := x } else s) := fun _ => canon_ite h.withFrm h
  exact canon_ite (hs _).withFrm (hs _).withFrm

theorem canon_timeStep (h : Canon C A s) : Canon C A (timeStep s) := canon_raise h

theorem canon_bmca (h : Canon C A s) : Canon C A (bmca s) :=
  canon_ite (canon_timeStep (canon_ite (canon_timeValid (h.update rfl)) (h.update rfl))) (canon_ite (canon_timeValid
    (h.update rfl)) (h.update rfl))

theorem canon_requestCommit {src : BitVec 2} {q : Option QCmd} (h : Canon C A s) : Canon C A (requestCommit src q s) :=
  canon_ite (canon_raise h) (h.update rfl)

theorem canon_storeCmtCtl {v : HWord} (h : Canon C A s) : Canon C A (storeCmtCtl v s) :=
  canon_ite (canon_requestCommit h) (canon_ite (h.withStaged (h.active ▸ h.activeOk)) (h.update rfl))

theorem canon_switchDi {a b : CfgSet} {n : ChanId} (h : Canon C A s) : Canon C A (switchDi a b n s) := by
  unfold switchDi
  exact canon_modDi h

theorem canon_dropAccepted {a b : CfgSet} {n : ChanId} (h : Canon C A s) : Canon C A (dropAccepted a b n s) :=
  canon_ite h (canon_modOut h)

theorem canon_switchCh {a b : CfgSet} {n : ChanId} (h : Canon C A s) : Canon C A (switchCh a b n s) :=
  canon_ite (canon_applySafe (canon_ite (canon_ite (canon_queueReq (canon_leaveMode (canon_switchDi (canon_ite (canon_ite
    (canon_modAi h) (canon_putFormed (canon_modAi h))) h)))) (canon_ite (canon_enterMode (canon_leaveMode (canon_switchDi
    (canon_ite (canon_ite (canon_modAi h) (canon_putFormed (canon_modAi h))) h)))) (canon_leaveMode (canon_switchDi
    (canon_ite (canon_ite (canon_modAi h) (canon_putFormed (canon_modAi h))) h))))) (canon_ite (canon_queueReq
    (canon_switchDi (canon_ite (canon_ite (canon_modAi h) (canon_putFormed (canon_modAi h))) h))) (canon_switchDi (canon_ite
    (canon_ite (canon_modAi h) (canon_putFormed (canon_modAi h))) h))))) (canon_ite (canon_ite (canon_queueReq
    (canon_leaveMode (canon_switchDi (canon_ite (canon_ite (canon_modAi h) (canon_putFormed (canon_modAi h))) h))))
    (canon_ite (canon_enterMode (canon_leaveMode (canon_switchDi (canon_ite (canon_ite (canon_modAi h) (canon_putFormed
    (canon_modAi h))) h)))) (canon_leaveMode (canon_switchDi (canon_ite (canon_ite (canon_modAi h) (canon_putFormed
    (canon_modAi h))) h))))) (canon_ite (canon_queueReq (canon_switchDi (canon_ite (canon_ite (canon_modAi h)
    (canon_putFormed (canon_modAi h))) h))) (canon_switchDi (canon_ite (canon_ite (canon_modAi h) (canon_putFormed
    (canon_modAi h))) h))))

theorem canon_switchGrp {b : CfgSet} {g : GroupId} (hb : SetOk C b) (h : Canon C A s) :
    Canon C A (switchGrp b g s) := by
  unfold switchGrp
  extract_lets x a s1 s2
  refine canon_ite (canon_modGrp_ok h { h.grp g with portionNext := by simp }) ?_
  have h1 : Canon C A s1 := canon_modGrp_ok h { portion := hb, portionNext := by simp }
  exact canon_each (fun _ _ => canon_switchCh) (canon_ite (canon_modRot h1) h1)

theorem canon_switchBuf {a b : CfgSet} {k : Fin 5} (h : Canon C A s) : Canon C A (switchBuf a b k s) :=
  canon_ite (canon_modBuf h) h

theorem canon_switchBudget {a b : CfgSet} (h : Canon C A s) : Canon C A (switchBudget a b s) := by
  unfold switchBudget
  extract_lets one
  have hone : ∀ k adr load g u, Canon C A u → Canon C A (one k adr load g u) := fun _ _ _ _ _ hu =>
    canon_ite (canon_conflict hu.withPgv) hu
  exact hone _ _ _ _ _ (canon_each (fun _ _ => hone _ _ _ _ _) h)

theorem canon_switchCore {a b : CfgSet} (ha : SetOk C a) (h : Canon C A s) : Canon C A (switchCore a b s) := by
  refine (h.withNet (n := { s.net with prevRing := if ringDiff a b then some a else s.net.prevRing })
    fun c hc => ?_).update rfl
  dsimp only at hc
  split at hc
  · cases hc; exact ha
  · exact h.prevRing c hc

theorem canon_switchPtp {a b : CfgSet} (h : Canon C A s) : Canon C A (switchPtp a b s) :=
  canon_ite (canon_bmca (canon_ite h (h.update rfl))) h

theorem canon_startRecord {a b : CfgSet} (hb : SetOk C b) (h : Canon C A s) : Canon C A (startRecord a b s) := by
  have hs := h.withCfg (k := { s.cfg with writing := some b, wrote := 0, leave := false }) rfl h.staged h.committed
    (by rintro c ⟨⟩; exact hb)
  exact canon_ite h (canon_ite (hs.update rfl) (canon_groomReq (hs.update rfl)))

/-- The switch makes `b` the active set. -/
theorem canon_doSwitch {b : CfgSet} (hb : SetOk C b) (h : Canon C A s) : Canon C b (doSwitch b s) := by
  have ha : SetOk C s.cfg.active := h.active ▸ h.activeOk
  have hs : Canon C b _ := h.withActive (k := { s.cfg with active := b }) hb h.staged h.committed h.writing
  exact canon_raise (canon_startRecord hb (canon_switchPtp (canon_switchBudget (canon_each (fun _ _ => canon_askStage)
    (canon_refreshSafe (canon_each (fun _ _ => canon_switchBuf) (canon_each (fun _ _ => canon_switchGrp hb)
      (canon_each (fun _ _ => canon_dropAccepted) (canon_switchCore ha (hs.update rfl))))))))))

theorem canon_sectorDone {last : Bool} (h : Canon C A s) : Canon C A (sectorDone last s) := by
  unfold sectorDone
  split
  · exact h
  · next c hc =>
    refine canon_ite h ?_
    dsimp only
    have hn : ∀ k, (none : Option CfgSet) = some k → SetOk C k := by simp
    have hw := h.withCfg (k := { s.cfg with writing := none, wrote := s.cfg.wrote + 1, leave := false }) rfl h.staged
      h.committed hn
    have hd := h.withCfg (k := { s.cfg with
      committed := some c, writing := none, wrote := s.cfg.wrote + 1, leave := false })
      rfl h.staged (by rintro k ⟨⟩; exact h.writing c hc) hn
    have hl := h.withCfg (k := { s.cfg with wrote := s.cfg.wrote + 1, leave := false }) rfl h.staged h.committed h.writing
    exact canon_ite (canon_groomReq (hl.update rfl)) (canon_ite (hw.update rfl) (hd.update rfl))

theorem CoreOk.nvStore {k : Core} (h : CoreOk C k) : MemOk C (nvStore k) := by
  unfold Machine.nvStore
  cases hn : k.nvNext with
  | none => exact h.nv
  | some m => exact h.nvNext m hn

theorem canon_nvDone {c : CoreId} (h : Canon C A s) : Canon C A (nvDone c s) := by
  unfold nvDone
  split
  · refine canon_ite ?_ h
    extract_lets bytes m
    have hm : MemOk C m := (h.core c).nvStore.puts
    refine canon_modCore_ok (h.update rfl) { h.core c with nv := ?_, nvNext := fun x hx => ?_ }
    · dsimp only
      split
      · exact (h.core c).nv
      · exact hm
    · dsimp only at hx
      split at hx
      · cases hx; exact hm
      · exact (h.core c).nvNext x hx
  · exact h

theorem canon_tickFrm {i : TickIn} (h : Canon C A s) : Canon C A (tickFrm i s) := h.update rfl

theorem canon_tickCh {i : TickIn} {n : ChanId} (h : Canon C A s) : Canon C A (tickCh i n s) :=
  canon_ite h (canon_modCh h)

theorem canon_tickFault {i : TickIn} {n : ChanId} (h : Canon C A s) : Canon C A (tickFault i n s) :=
  canon_ite h (canon_modFlt h)

theorem canon_tickCross {n : ChanId} (h : Canon C A s) : Canon C A (tickCross n s) :=
  canon_ite (canon_modFlt (canon_switchOff h)) h

theorem canon_tickSummary {n : ChanId} (h : Canon C A s) : Canon C A (tickSummary n s) :=
  canon_ite (canon_modFlt (canon_modFlt h)) (canon_raiseSum (canon_modFlt (canon_modFlt h)))

theorem canon_measureGrp {i : TickIn} {g : GroupId} (h : Canon C A s) : Canon C A (measureGrp i g s) :=
  canon_modGrp h (fun _ => rfl)

theorem canon_tickGrp {i : TickIn} {g : GroupId} (h : Canon C A s) : Canon C A (tickGrp i g s) :=
  canon_ite h (canon_ite (canon_restartOverlap (canon_ite (canon_modRot (canon_ite (canon_enterScan (canon_modGrp
    (canon_givePortion (canon_ite (canon_givePortion (canon_measureGrp h)) (canon_measureGrp h))) (fun _ => rfl)))
    (canon_ite (canon_startScan (canon_ite (canon_givePortion (canon_measureGrp h)) (canon_measureGrp h))) (canon_ite
    (canon_givePortion (canon_measureGrp h)) (canon_measureGrp h))))) (canon_ite (canon_enterScan (canon_modGrp
    (canon_givePortion (canon_ite (canon_givePortion (canon_measureGrp h)) (canon_measureGrp h))) (fun _ => rfl)))
    (canon_ite (canon_startScan (canon_ite (canon_givePortion (canon_measureGrp h)) (canon_measureGrp h))) (canon_ite
    (canon_givePortion (canon_measureGrp h)) (canon_measureGrp h)))))) (canon_ite (canon_ite (canon_groomReq (canon_modRot
    (canon_ite (canon_modRot (canon_ite (canon_enterScan (canon_modGrp (canon_givePortion (canon_ite (canon_givePortion
    (canon_measureGrp h)) (canon_measureGrp h))) (fun _ => rfl))) (canon_ite (canon_startScan (canon_ite (canon_givePortion
    (canon_measureGrp h)) (canon_measureGrp h))) (canon_ite (canon_givePortion (canon_measureGrp h)) (canon_measureGrp
    h))))) (canon_ite (canon_enterScan (canon_modGrp (canon_givePortion (canon_ite (canon_givePortion (canon_measureGrp h))
    (canon_measureGrp h))) (fun _ => rfl))) (canon_ite (canon_startScan (canon_ite (canon_givePortion (canon_measureGrp h))
    (canon_measureGrp h))) (canon_ite (canon_givePortion (canon_measureGrp h)) (canon_measureGrp h))))))) (canon_modRot
    (canon_ite (canon_modRot (canon_ite (canon_enterScan (canon_modGrp (canon_givePortion (canon_ite (canon_givePortion
    (canon_measureGrp h)) (canon_measureGrp h))) (fun _ => rfl))) (canon_ite (canon_startScan (canon_ite (canon_givePortion
    (canon_measureGrp h)) (canon_measureGrp h))) (canon_ite (canon_givePortion (canon_measureGrp h)) (canon_measureGrp
    h))))) (canon_ite (canon_enterScan (canon_modGrp (canon_givePortion (canon_ite (canon_givePortion (canon_measureGrp h))
    (canon_measureGrp h))) (fun _ => rfl))) (canon_ite (canon_startScan (canon_ite (canon_givePortion (canon_measureGrp h))
    (canon_measureGrp h))) (canon_ite (canon_givePortion (canon_measureGrp h)) (canon_measureGrp h))))))) (canon_ite
    (canon_modRot (canon_ite (canon_enterScan (canon_modGrp (canon_givePortion (canon_ite (canon_givePortion
    (canon_measureGrp h)) (canon_measureGrp h))) (fun _ => rfl))) (canon_ite (canon_startScan (canon_ite (canon_givePortion
    (canon_measureGrp h)) (canon_measureGrp h))) (canon_ite (canon_givePortion (canon_measureGrp h)) (canon_measureGrp
    h))))) (canon_ite (canon_enterScan (canon_modGrp (canon_givePortion (canon_ite (canon_givePortion (canon_measureGrp h))
    (canon_measureGrp h))) (fun _ => rfl))) (canon_ite (canon_startScan (canon_ite (canon_givePortion (canon_measureGrp h))
    (canon_measureGrp h))) (canon_ite (canon_givePortion (canon_measureGrp h)) (canon_measureGrp h)))))))

theorem canon_dropIdleSets (h : Canon C A s) : Canon C A (dropIdleSets s) := by
  unfold dropIdleSets
  refine canon_each ?_ h
  intro _ _ h
  split
  · exact canon_ite (canon_modSlot h) h
  · exact h

theorem canon_tickAsk {n : ChanId} (h : Canon C A s) : Canon C A (tickAsk n s) :=
  canon_ite (canon_askLeave (canon_ite (canon_ite (canon_askLeave (canon_modOut (canon_askStage h))) (canon_modOut
    (canon_askStage h))) (canon_askStage h))) (canon_ite (canon_ite (canon_askLeave (canon_modOut (canon_askStage h)))
    (canon_modOut (canon_askStage h))) (canon_askStage h))

theorem canon_tickRetry (h : Canon C A s) : Canon C A (tickRetry s) := by
  unfold tickRetry
  extract_lets _ s1 w _ s2
  have h1 : Canon C A s1 := canon_foldl (h.withPgv (x := { s.pgv with retry := [] })) fun _ _ => canon_groomReq
  have h2 : Canon C A s2 := h1.withPgv
  exact canon_ite (canon_groomReq h2) h2

theorem canon_sysWords {late ok : Bool} (h : Canon C A s) : Canon C A (sysWords late ok s) := h.update rfl

theorem canon_rebase {c : CoreId} {x : Nat} (h : Canon C A s) : Canon C A (modCore s c (Core.rebase x)) :=
  canon_modCore h fun _ => rfl

theorem canon_tickCores {dt : Nat} (h : Canon C A s) : Canon C A (tickCores dt s) := by
  unfold tickCores
  exact (canon_each (fun _ _ => canon_rebase) h).withSys

theorem canon_tickMisc (h : Canon C A s) : Canon C A (tickMisc s) := canon_tickGates (h.update rfl)

theorem canon_tickNet (h : Canon C A s) : Canon C A (tickNet s) :=
  (h.withNet (n := { s.net with prevRing := none }) (by simp)).update rfl

theorem canon_syncErr (h : Canon C A s) : Canon C A (syncErr s) := h.update rfl

/-! ### Modes, supervision and the Bridle -/

theorem canon_withdrawControl (h : Canon C A s) : Canon C A (withdrawControl s) := by
  unfold withdrawControl
  refine canon_each ?_ h
  intro _ _ h
  refine canon_ite ?_ h
  split
  · exact canon_modOut (canon_modSlot h)
  · exact canon_modOut (canon_modSlot h)
  · exact canon_each (fun _ _ => canon_modOut) (canon_modSlot h)
  · exact canon_serveWait (canon_modSlot h)
  · exact canon_serveWait (canon_modSlot h)
  · exact h

theorem canon_modeLanes {old new : Mode} (h : Canon C A s) : Canon C A (modeLanes old new s) :=
  canon_ite (canon_each (fun _ _ => canon_leaveScan) h) (canon_ite (canon_each (fun _ _ => canon_enterScan) h) h)

theorem canon_goMode {m : Mode} {mask : BitVec 8} (h : Canon C A s) : Canon C A (goMode m mask s) :=
  canon_each (fun _ _ => canon_askStage) (canon_refreshSafe (canon_ite (canon_each (fun _ _ => canon_modOut) (canon_ite
    (canon_withdrawControl (canon_modeLanes (canon_changeMode h))) (canon_modeLanes (canon_changeMode h)))) (canon_ite
    (canon_withdrawControl (canon_modeLanes (canon_changeMode h))) (canon_modeLanes (canon_changeMode h)))))

theorem canon_takeSafe (h : Canon C A s) : Canon C A (takeSafe s) :=
  canon_ite (canon_goMode (h.update rfl)) (h.update rfl)

theorem canon_takeReq (h : Canon C A s) : Canon C A (takeReq s) := by
  unfold takeReq
  dsimp only
  split
  · exact h.update rfl
  · exact canon_ite (h.update rfl) (canon_ite (canon_goMode (h.update rfl)) (canon_goMode (h.update rfl)))

theorem canon_takeOos (h : Canon C A s) : Canon C A (takeOos s) :=
  canon_ite (canon_ite (canon_goMode h) (canon_goMode h)) (canon_ite (canon_goMode h) (canon_ite (canon_goMode h) h))

theorem canon_nmiCore {c : CoreId} (h : Canon C A s) : Canon C A (nmiCore c s) :=
  canon_ite (canon_modCore h (fun _ => rfl)) (canon_ite (canon_modCore (canon_haltCore (canon_modCore h (fun _ => rfl)))
    (fun _ => rfl)) (canon_modCore (canon_modCore h (fun _ => rfl)) (fun _ => rfl)))

theorem canon_fireWdt {violation : Bool} (h : Canon C A s) : Canon C A (fireWdt violation s) := by
  unfold fireWdt
  exact canon_safeTrigger (canon_raise (canon_each (fun _ _ => canon_nmiCore) h).withWdt)

theorem canon_storeWdt {acc : Access} {v : HWord} (h : Canon C A s) : Canon C A (storeWdt acc v s) :=
  canon_ite h (canon_ite (h.update rfl) (canon_ite h (canon_ite (canon_fireWdt h) (canon_ite (canon_fireWdt h) (canon_ite
    (canon_fireWdt h) (h.update rfl))))))

theorem canon_talCompare {t : Task} {p : State × Bool} (h : Canon C A p.1) : Canon C A (talCompare t p).1 := by
  unfold talCompare
  dsimp only
  split
  · exact h
  · split
    · exact h
    · exact canon_raise (h.update rfl)

theorem canon_talBegin (h : Canon C A s) : Canon C A (talBegin s) :=
  (canon_mapCore (f := fun k => { k with
    checkins := .replicate 16 0, releases := .replicate 16 0, bgMon := bgMode s.sys.mode })
    h fun _ hk => hk.of_mems rfl).update rfl

theorem canon_talEnd {bad : Bool} (h : Canon C A s) : Canon C A (talEnd bad s) :=
  canon_ite (h.update rfl) (canon_ite (canon_ite (canon_trialFail (h.update rfl)) (canon_safeTrigger (h.update rfl)))
    (h.update rfl))

theorem canon_requestFreeze {bit : Nat} (h : Canon C A s) : Canon C A (requestFreeze bit s) := h.update rfl

theorem canon_onMsg {m : MsgCtx} {f : State → State} (hf : ∀ s, Canon C A s → Canon C A (f s)) (h : Canon C A s) :
    Canon C A (onMsg m f s) :=
  canon_onCore (fun h => canon_ite (canon_ite (hf _ (canon_atTime (h.update rfl))) h) (canon_ite h (canon_ite (canon_tapCopy
    (canon_atTime h)) (canon_ite ((canon_tapCopy (canon_atTime h)).update rfl) (hf _ (canon_tapCopy (canon_atTime h))))))) h

theorem canon_touch {m : MsgCtx} (h : Canon C A s) : Canon C A (touch m s) := h.update rfl

theorem canon_outerMsg {m : MsgCtx} {open_ rec : Bool} {f : State → State} (hf : ∀ s, Canon C A s → Canon C A (f s))
    (h : Canon C A s) : Canon C A (outerMsg m open_ rec f s) := by
  unfold outerMsg
  refine canon_onMsg ?_ h
  intro _ h
  split
  · exact canon_refuseMsg (canon_touch h)
  · exact hf _ (canon_touch h)

theorem canon_recordLayer {m : MsgCtx} {x : RecIn} {f : State → State} (hf : ∀ s, Canon C A s → Canon C A (f s))
    (h : Canon C A s) : Canon C A (recordLayer m x f s) := by
  unfold recordLayer
  refine canon_ite (canon_refuseMsg h) ?_
  split
  · exact canon_refuseMsg h
  · exact hf _ (canon_modSess h)

theorem canon_plainMsg {m : MsgCtx} {open_ rec : Bool} {f : State → State} (hf : ∀ s, Canon C A s → Canon C A (f s))
    (h : Canon C A s) : Canon C A (plainMsg m open_ rec f s) := by
  unfold plainMsg
  split
  · exact canon_outerMsg (fun _ h => hf _ h) h
  · exact canon_outerMsg (fun _ h => canon_recordLayer (fun _ => canon_refuseMsg) h) h

theorem canon_verifying {maint : Bool} {f : State → State} (hf : ∀ s, Canon C A s → Canon C A (f s)) (h : Canon C A s) :
    Canon C A (verifying maint f s) :=
  canon_ite (canon_ite h (canon_groomReq h)) (hf _ (h.update rfl))

theorem canon_useKey {kid : BitVec 64} (h : Canon C A s) : Canon C A (useKey kid s) := by
  unfold useKey
  split
  · exact h.update rfl
  · exact h

theorem canon_recMsg {r : RecCtx} {f : State → State} (hf : ∀ s, Canon C A s → Canon C A (f s)) (h : Canon C A s) :
    Canon C A (recMsg r f s) :=
  canon_outerMsg (fun _ h => canon_ite (canon_refuseMsg h) (canon_recordLayer (fun _ h => hf _ h) h)) h

theorem canon_okRec {r : RecCtx} {msg : HWord} {body : List Byte} (h : Canon C A s) : Canon C A (okRec r msg body s) :=
  canon_reply h

theorem canon_noRec {r : RecCtx} {cause : Byte} (h : Canon C A s) : Canon C A (noRec r cause s) := canon_refuseMsg h

theorem canon_certDone {m : MsgCtx} {cert : List Byte} {sigOk : Bool} (h : Canon C A s) :
    Canon C A (certDone m cert sigOk s) := by
  unfold certDone
  split
  · exact canon_refuseMsg h
  · split
    · exact canon_refuseMsg h
    · exact canon_reply (canon_ite (h.update rfl) (canon_raise (h.update rfl)))

theorem canon_drainFrom {l : List QItem} (h : Canon C A s) : Canon C A (drainFrom l s) := by
  induction l generalizing s with
  | nil => exact h
  | cons x l ih =>
    cases x with
    | cert m c ok => exact canon_verifying (fun _ h => ih (canon_certDone (h.update rfl))) h
    | cmd q => exact h

theorem canon_drainCerts (h : Canon C A s) : Canon C A (drainCerts s) := canon_drainFrom h

theorem canon_serveRead {w : LogWait} (h : Canon C A s) : Canon C A (serveRead w s) :=
  canon_serveBytes (canon_okRec (canon_ite (canon_eccServed h) h))

theorem canon_askRead {w : LogWait} (h : Canon C A s) : Canon C A (askRead w s) :=
  canon_ite (h.update rfl) (canon_serveRead h)

theorem canon_freeReads (h : Canon C A s) : Canon C A (freeReads s) :=
  canon_foldl (h.update rfl) (fun _ _ => canon_askRead)

theorem canon_acceptCmd {q : QCmd} (h : Canon C A s) : Canon C A (acceptCmd q s) := canon_modSess h

theorem canon_runCmd {code : HWord} {sigOk : Bool} {t : Nat} {f : QCmd → State → State}
    (hf : ∀ q s, Canon C A s → Canon C A (f q s)) (h : Canon C A s) : Canon C A (runCmd code sigOk t f s) := by
  unfold runCmd
  refine canon_onCore ?_ h
  intro h
  split
  · refine canon_ite h ?_
    refine canon_verifying ?_ (canon_atTime h)
    intro _ h
    refine canon_drainCerts ?_
    split
    · exact canon_refuseCmd (h.update rfl)
    · exact hf _ _ (canon_useKey (h.update rfl))
  · exact h

/-! ### Check values, the Farrier and the network -/

theorem canon_rrInstr {c : CoreId} {f : RR} {two : Bool} {readFl wrFl : Bool} {i l : Nat} {op : AluOp}
    (h : Canon C A s) : Canon C A (rrInstr c f two readFl wrFl i l op s) := by
  unfold rrInstr
  exact canon_canter (fun _ _ h => effOk_ok (canon_wrResult h)) h

theorem canon_cmpInstr {c : CoreId} {f : RR} {op : W32 → W32 → Flags → Flags} (h : Canon C A s) :
    Canon C A (cmpInstr c f op s) := by
  unfold cmpInstr
  exact canon_canter (fun _ _ h => effOk_ok (canon_wrFlags h)) h

theorem canon_fmaInstr {c : CoreId} {f : RR} {neg : Bool} (h : Canon C A s) : Canon C A (fmaInstr c f neg s) := by
  unfold fmaInstr
  exact canon_canter (fun _ _ h => effOk_ok (canon_wrReg h)) h

theorem canon_macInstr {c : CoreId} {f : RR} {g : Int → W32 → W32 → Int} (h : Canon C A s) :
    Canon C A (macInstr c f g s) :=
    by
  unfold macInstr
  exact canon_canter (fun _ _ h => effOk_ok (canon_wrM (canon_wrFlags h))) h

theorem canon_mfInstr {c : CoreId} {f : RR} {mdOk : Bool} {flL : Option Nat} {g : W64 → W32 × Bool} (h : Canon C A s) :
    Canon C A (mfInstr c f mdOk flL g s) := by
  unfold mfInstr
  exact canon_canter (fun _ _ h => effOk_ok (canon_wrResult h)) h

theorem canon_jrInstr {c : CoreId} {f : RR} {link : Bool} (h : Canon C A s) : Canon C A (jrInstr c f link s) := by
  unfold jrInstr
  exact canon_canter (fun _ _ h => effOk_ite effOk_trap (effOk_ok (canon_ite (canon_wrReg h) h))) h

theorem canon_riInstr {c : CoreId} {f : RI} {legal : Bool} {useS1 wrFl : Bool} {op : W32 → Flags → W32 × Flags}
    (h : Canon C A s) : Canon C A (riInstr c f legal useS1 wrFl op s) := by
  unfold riInstr
  exact canon_canter (fun _ _ h => effOk_ok (canon_wrResult h)) h

theorem canon_jInstr {c : CoreId} {off : BitVec 26} {link : Bool} (h : Canon C A s) :
    Canon C A (jInstr c off link s) := by
  unfold jInstr
  exact canon_canter (fun _ _ h => effOk_ok (canon_ite (canon_wrReg h) h)) h

theorem canon_crcStore {x : CtxId} {f : Crc → Crc} (h : Canon C A s) : Canon C A (crcStore x f s) :=
  canon_ite (h.update rfl) (canon_modCrc h)

theorem canon_times {n : Nat} {f : State → State} (hf : ∀ s, Canon C A s → Canon C A (f s)) (h : Canon C A s) :
    Canon C A (times n f s) :=
  canon_foldl h (fun _ _ h => hf _ h)

theorem canon_scrub {memory : W32} {x : ScrubIn} (h : Canon C A s) : Canon C A (scrub memory x s) :=
  canon_times (fun _ => canon_raise) (canon_times (fun _ h => canon_raise (h.update rfl)) h)

theorem canon_inWindow {f : State → State} (hf : ∀ s, Canon C A s → Canon C A (f s)) (h : Canon C A s) :
    Canon C A (inWindow f s) :=
  canon_ite (hf _ h) h

theorem canon_factoryFail {b : Nat × Nat} (h : Canon C A s) : Canon C A (factoryFail b s) := canon_raise (h.update rfl)

theorem canon_storeWfarm {v : HWord} (h : Canon C A s) : Canon C A (storeWfarm v s) :=
  canon_ite (canon_modBuf (h.update rfl)) h

theorem canon_forIp {p : PortId} {x : Tapped} {ip : W32} {f : State → State} (hf : ∀ s, Canon C A s → Canon C A (f s))
    (h : Canon C A s) : Canon C A (forIp p x ip f s) :=
  canon_ite h (canon_ite (hf _ (canon_tapCopy h)) (canon_tapCopy h))

theorem canon_learn {p : PortId} {f : EthFrame} {vid : BitVec 12} (h : Canon C A s) : Canon C A (learn p f vid s) :=
  canon_ite h (h.update rfl)

theorem canon_bridge {p : PortId} {f : EthFrame} (h : Canon C A s) : Canon C A (bridge p f s) := by
  unfold bridge
  dsimp only
  split
  · exact h
  · exact canon_ite h (canon_ite (canon_learn h) (canon_foldl (canon_learn h) (fun _ _ => canon_sendFrame)))

theorem canon_putSegment {words : List W32} (h : Canon C A s) : Canon C A (putSegment words s) :=
  canon_foldl h (fun _ _ h => canon_ite (canon_putOut h) (canon_outOwner h))

theorem canon_verifySeg {g : SegIn} {dir2 : Bool} (h : Canon C A s) : Canon C A (verifySeg g dir2 s) := by
  unfold verifySeg
  refine canon_ite h ?_
  split
  · exact canon_refuse h
  · exact canon_ite (canon_refuse h) (canon_ite h (canon_ite (canon_refuse h) (canon_modSess (h.update rfl))))

theorem canon_segError (h : Canon C A s) : Canon C A (segError s) := h.update rfl

theorem canon_sendCar {p : PortId} {x : Carriage} (h : Canon C A s) : Canon C A (sendCar p x s) := h.update rfl

theorem canon_comeBack {x : Carriage} (h : Canon C A s) : Canon C A (comeBack x s) := canon_ite (h.update rfl) h

theorem canon_passOn {p : PortId} {c : CfgSet} {x : Carriage} (h : Canon C A s) : Canon C A (passOn p c x s) :=
  canon_ite (canon_sendCar h) (canon_ite (canon_sendCar (h.update rfl)) h)

theorem canon_ownSeg {c : CfgSet} {x : Carriage} {g : Option SegIn} (h : Canon C A s) : Canon C A (ownSeg c x g s) := by
  unfold ownSeg
  split
  · exact h
  · exact canon_ite (canon_ite h (canon_segError h)) ((canon_ite h (canon_segError h)).update rfl)

theorem canon_sendBack {cars : List Carriage} (h : Canon C A s) : Canon C A (sendBack cars s) :=
  canon_ite (canon_foldl h (fun _ _ => canon_sendCar)) h

theorem canon_sendTrain {dir2 : Bool} (h : Canon C A s) : Canon C A (sendTrain dir2 s) :=
  canon_foldl h (fun _ _ => canon_sendCar)

theorem canon_sendEvent {x : EvXi} (h : Canon C A s) : Canon C A (sendEvent x s) :=
  canon_foldl h (fun _ _ h => canon_bumpSend (h.update rfl))

/-! ### Images, resets and BOOT -/

theorem canon_loadSect {b : List Byte} {x : Sect} (h : Canon C A s) : Canon C A (loadSect b x s) := by
  unfold loadSect
  exact canon_ite (canon_modCore_ok h { h.core _ with imem := (h.core _).imem.puts })
    (canon_ite (canon_modCore_ok h { h.core _ with dmem := (h.core _).dmem.puts }) (h.withSram h.sram.puts))

theorem canon_loadImage {b : List Byte} (h : Canon C A s) : Canon C A (loadImage b s) :=
  (canon_foldl h (fun _ _ => canon_loadSect)).update rfl

theorem resetLog_mem (cause : BitVec 4) (l : Log) : (resetLog cause l).mem = l.mem := by
  unfold resetLog
  split <;> rfl

theorem canon_resetState {cause : BitVec 4} (h : Canon C A s) : Canon C A (resetState cause s) := by
  unfold resetState
  dsimp only
  constructor
  case sram => exact MemOk.nil
  case eflash => exact h.eflash
  case log => exact resetLog_mem cause s.log ▸ h.log
  case core =>
    intro c
    simp only [Fin.getElem_fin, Vector.getElem_map]
    exact { dmem := .nil, imem := .nil, nv := (h.core c).nv, nvNext := (h.core c).nvNext }
  case active => exact h.active
  case activeOk => exact h.activeOk
  case staged => exact h.active ▸ h.activeOk
  case committed => exact h.committed
  case writing => exact h.writing
  case prevRing => exact fun c hc => nomatch hc
  case grp =>
    intro g
    simp only [Fin.getElem_fin, Vector.getElem_map]
    exact { portion := (h.grp g).portion, portionNext := fun c hc => nomatch hc }
  case tables => exact h.tables
  case atTest => exact h.atTest

theorem canon_storeSysRst {acc : Access} {v : HWord} (h : Canon C A s) : Canon C A (storeSysRst acc v s) := by
  unfold storeSysRst
  split
  · exact h
  · exact canon_ite (h.update rfl) h

theorem canon_switchBanks (h : Canon C A s) : Canon C A (switchBanks s) := h.update rfl

theorem canon_revertBanks {reason : BitVec 4} (h : Canon C A s) : Canon C A (revertBanks reason s) := by
  have hc := canon_mapCore (f := fun k => { k with nvNext := none }) h fun _ hk => { hk with nvNext := by simp }
  exact (hc.withCfg (k := { s.cfg with writing := none }) rfl h.staged h.committed (by simp)).update rfl

theorem canon_enterRecovery (h : Canon C A s) : Canon C A (enterRecovery s) := h.update rfl

theorem canon_bootImage {b : BootIn} {l : List MfEntry} {i : Nat} {e : MfEntry} (h : Canon C A s) :
    Canon C A (bootImage b l i e s) :=
  canon_ite (canon_loadImage h) (h.update rfl)

theorem canon_bootImages {b : BootIn} (h : Canon C A s) : Canon C A (bootImages b s) := by
  unfold bootImages
  dsimp only
  refine canon_foldl h ?_
  intro _ _ h
  split
  · exact canon_bootImage h
  · exact h

theorem canon_bootGroup {b : BootIn} {g : GroupId} (h : Canon C A s) : Canon C A (bootGroup b g s) := by
  unfold bootGroup
  extract_lets bankOk ver _ _ s1 s2 s3 s4
  have h2 : Canon C A s2 := canon_modGrp (h.update rfl) fun _ => rfl
  have h3 : Canon C A s3 := canon_ite h2 (canon_switchGrp (by rw [h2.active]; exact h2.activeOk) h2)
  have h4 : Canon C A s4 := canon_ite h3
    (canon_modGrp (canon_each (fun _ _ => canon_supplyOff) (canon_stopLanes h3)) fun _ => rfl)
  exact canon_ite (canon_enterScan (canon_modGrp h4 fun _ => rfl)) h4

/-- BOOT makes the committed set, or the values of the Reset columns, the active one. -/
theorem canon_loadSet {B : CfgSet} (hB : s.cfg.committed.getD .none = B) (h : Canon C A s) : Canon C B (loadSet s) := by
  subst hB
  have hw : SetOk C (s.cfg.committed.getD .none) := by
    cases hc : s.cfg.committed with
    | none => exact .none
    | some c => exact h.committed c hc
  have hs := h.withActive (k := { s.cfg with
    active := s.cfg.committed.getD .none, staged := s.cfg.committed.getD .none,
    writing := none, wrote := 0, leave := false })
    hw hw h.committed (by simp)
  exact canon_each (fun _ _ => canon_switchBuf) (hs.update rfl)

theorem canon_bootChange (h : Canon C A s) : Canon C A (bootChange s) := canon_raise h

theorem canon_bootUpdate (h : Canon C A s) : Canon C A (bootUpdate s) := by
  unfold bootUpdate
  refine canon_ite ?_ (canon_ite (canon_raise (h.update rfl)) h)
  dsimp only
  refine canon_ite (canon_raise (h.update rfl)) (canon_groomReq ?_)
  have hr : ∀ u : State, Canon C A u →
      Canon C A { u with cfg := { u.cfg with writing := some u.cfg.active, wrote := 0, leave := false } } :=
    fun u hu => hu.withCfg rfl hu.staged hu.committed (by rintro c ⟨⟩; exact hu.active ▸ hu.activeOk)
  exact hr _ (canon_raise (h.update rfl))

theorem canon_firstTick {t : Nat} (h : Canon C A s) : Canon C A (firstTick t s) := canon_talBegin (h.update rfl)

theorem canon_bootTick {i : TickIn} (h : Canon C A s) : Canon C A (bootTick i s) :=
  canon_each (fun _ _ => canon_tickSummary) (canon_each (fun _ _ h => canon_ite (canon_measureGrp h) h) (canon_each (fun _ _
    h => canon_tickFault (canon_tickCh h)) h))

/-! ### Updates and the expansion port -/

theorem canon_checkStaged (h : Canon C A s) : Canon C A (checkStaged s) := canon_ite (canon_raise (h.update rfl)) h

theorem canon_updReply {u : UpdCtx} {msg : HWord} {status : Byte} {body : List Byte} (h : Canon C A s) :
    Canon C A (updReply u msg status body s) := by
  unfold updReply
  split
  · exact canon_okRec h
  · exact canon_reply h

theorem canon_updRefuse {u : UpdCtx} {cause : Byte} (h : Canon C A s) : Canon C A (updRefuse u cause s) := by
  unfold updRefuse
  split
  · exact canon_noRec h
  · exact canon_refuseMsg h

theorem canon_onUpd {u : UpdCtx} {f : State → State} (hf : ∀ s, Canon C A s → Canon C A (f s)) (h : Canon C A s) :
    Canon C A (onUpd u f s) := by
  unfold onUpd
  split
  · exact canon_recMsg (fun _ h => canon_ite (hf _ h) (canon_noRec h)) h
  · exact canon_plainMsg (fun _ h => canon_ite (hf _ h) (canon_refuseMsg h)) h

theorem canon_needLock {u : UpdCtx} {msg : HWord} {f : State → State} (hf : ∀ s, Canon C A s → Canon C A (f s))
    (h : Canon C A s) : Canon C A (needLock u msg f s) :=
  canon_onUpd (fun _ h => canon_ite (hf _ (h.update rfl)) (canon_ite (canon_updReply h) (canon_updRefuse h))) h

theorem canon_dropLock (h : Canon C A s) : Canon C A (dropLock s) := h.update rfl

theorem canon_setPart {e : Nat} {l : List Byte} (h : Canon C A s) : Canon C A (setPart e l s) := h.update rfl

theorem canon_entryDone {u : UpdCtx} {i : Nat} {e : MfEntry} (h : Canon C A s) : Canon C A (entryDone u i e s) :=
  canon_checkStaged (canon_updReply (h.update rfl))

theorem canon_entryFails {u : UpdCtx} {i : Nat} {status : Byte} (h : Canon C A s) :
    Canon C A (entryFails u i status s) :=
  canon_updReply (h.update rfl)

theorem canon_entryCheck {u : UpdCtx} {i : Nat} {e : MfEntry} {hashOk imgSigOk : Bool} (h : Canon C A s) :
    Canon C A (entryCheck u i e hashOk imgSigOk s) := by
  have hg := canon_mapGrp (f := fun x => { x with imgAck := false }) h fun _ hx => hx.of_portions rfl
  exact canon_ite (canon_entryFails h) (canon_ite (canon_ite (canon_entryDone h) (canon_entryFails (h.update rfl)))
    (canon_ite (hg.update rfl) (canon_entryDone h)))

theorem canon_groupOutcome {g : GroupId} {ok : Bool} (h : Canon C A s) : Canon C A (groupOutcome g ok s) := by
  unfold groupOutcome
  split
  · refine canon_ite (canon_entryFails h) ?_
    extract_lets s1
    have h1 : Canon C A s1 := canon_modGrp h fun _ => rfl
    split
    · exact canon_ite (canon_entryDone h1) h1
    · exact h1
  · exact h

theorem canon_markerReset (h : Canon C A s) : Canon C A (markerReset s) :=
  canon_resetState (canon_foldl h (fun _ _ => canon_enterHold))

theorem canon_confirm (h : Canon C A s) : Canon C A (confirm s) := h.update rfl

theorem canon_storeHealth {acc : Access} {v : HWord} (h : Canon C A s) : Canon C A (storeHealth acc v s) := by
  unfold storeHealth
  split
  · exact h
  · exact canon_ite (canon_confirm h) h

theorem canon_storeRevert {acc : Access} {v : HWord} (h : Canon C A s) : Canon C A (storeRevert acc v s) := by
  unfold storeRevert
  refine canon_ite h ?_
  split
  · exact h
  · exact canon_trialFail h
  · exact canon_trialFail h

theorem canon_holdCtx {x : Option CtxId} (h : Canon C A s) : Canon C A (holdCtx x s) := by
  unfold holdCtx
  split
  · exact canon_modCrc h
  · exact h

theorem canon_freeCtx {x : Option CtxId} (h : Canon C A s) : Canon C A (freeCtx x s) := by
  unfold freeCtx
  split
  · exact canon_modCrc h
  · exact h

theorem canon_runCtx {x : CtxId} {l : List Byte} (h : Canon C A s) : Canon C A (runCtx x l s) := canon_modCrc h

theorem canon_dropLines (h : Canon C A s) : Canon C A (dropLines s) :=
  (canon_mapCore (f := fun k => { k with lineBuf := none }) h fun _ hk => hk.of_mems rfl).update rfl

theorem canon_startJob {j : XpJob} (h : Canon C A s) : Canon C A (startJob j s) :=
  canon_ite (canon_dropLines (h.update rfl)) (h.update rfl)

theorem canon_storeXpCmd {v : HWord} (h : Canon C A s) : Canon C A (storeXpCmd v s) := by
  unfold storeXpCmd
  refine canon_ite h ?_
  split
  · exact h.withXp
  · extract_lets dev len s1 s2 j _ s3
    have h1 : Canon C A s1 := canon_holdCtx (canon_holdCtx h)
    have h2 : Canon C A s2 := by
      unfold s2
      split
      · exact (canon_runCtx h1).withXp
      · exact h1
    have h3 : Canon C A s3 := h2.withXp
    exact canon_ite h3 (canon_startJob h3)

theorem canon_failFill {q : FillReq} {ea : W32} (h : Canon C A s) : Canon C A (failFill q ea s) := by
  unfold failFill
  dsimp only
  split
  · exact h.update rfl
  · exact canon_ite (canon_takeExc (h.update rfl)) (h.update rfl)

theorem canon_startFill {q : FillReq} {ea : W32} (h : Canon C A s) : Canon C A (startFill q ea s) :=
  canon_ite (canon_failFill h) (h.update rfl)

theorem canon_nextFill {n : Nat} (h : Canon C A s) : Canon C A (nextFill n s) := by
  induction n generalizing s with
  | zero => exact h
  | succ n ih =>
    unfold nextFill
    refine canon_ite h ?_
    split
    · exact canon_ite h (canon_ite (canon_startJob h) (ih (canon_startFill (h.update rfl))))
    · exact canon_ite h (canon_startJob h)
    · exact ih (canon_startFill (h.update rfl))
    · exact h

theorem canon_readyTimeout {dev : BitVec 4} (h : Canon C A s) : Canon C A (readyTimeout dev s) :=
  canon_raise (h.update rfl)

theorem canon_endFill {res : FillResult} (h : Canon C A s) : Canon C A (endFill res s) := by
  unfold endFill
  split
  · exact h
  · refine canon_nextFill ?_
    split
    · exact canon_failFill (canon_readyTimeout (h.update rfl))
    · split
      · exact h.update rfl
      · exact canon_modCore (h.update rfl) (fun _ => rfl)

theorem canon_rxCheck {j : XpJob} {len : Nat} {r : CtxId} (h : Canon C A s) : Canon C A (rxCheck j len r s) := by
  unfold rxCheck
  exact canon_ite (canon_runCtx h).withXp (canon_raise (canon_runCtx h).withXp.withXp)

/-! ### Registers -/

theorem canon_noteMiss {q : Fin 7} {base : Nat} {miss : Bool} (h : Canon C A s) : Canon C A (noteMiss q base miss s) :=
  canon_ite (canon_modRdr h) (canon_ite (canon_modRdr h) h)

theorem canon_readSnap {acc : Access} {base len a : Nat} (h : Canon C A s) :
    Canon C A (readSnap acc base len a s).2 := by
  unfold readSnap
  extract_lets q
  split
  · dsimp only
    exact canon_modRdr h
  · split
    · dsimp only
      exact canon_noteMiss h
    · dsimp only
      exact canon_noteMiss h

theorem canon_noteBadIdx {r : Rdr} (h : Canon C A s) : Canon C A (noteBadIdx r s) := canon_ite (h.update rfl) h

theorem canon_readEffect {acc : Access} {a : Nat} (h : Canon C A s) : Canon C A (readEffect acc a s) :=
  canon_ite (canon_ite (canon_modGrp h (fun _ => rfl)) h) (canon_ite (canon_ite (canon_modRdr (canon_noteBadIdx h))
    (canon_noteBadIdx h)) (canon_ite (canon_modRdr h) (canon_ite (h.update rfl) h)))

theorem canon_readReg {acc : Access} {a : Nat} (h : Canon C A s) : Canon C A (readReg acc a s).2 := by
  unfold readReg
  dsimp only
  split
  · exact canon_readEffect (canon_readSnap h)
  · exact canon_readEffect h

theorem canon_readRegs {acc : Access} {l : List Nat} (h : Canon C A s) : Canon C A (readRegs acc l s).2 := by
  induction l generalizing s with
  | nil => exact h
  | cons a l ih => exact ih (canon_readReg h)

theorem canon_stageEntry {t i : Nat} {v : W32} (h : Canon C A s) : Canon C A (stageEntry t i v s) := by
  unfold stageEntry
  dsimp only
  refine h.withStaged fun hc => ?_
  have hw := cfgWf_iff.1 (h.staged hc)
  split
  · exact cfgWf_iff.2 { hw with trim := spPut_wf hw.trim }
  · exact cfgWf_iff.2 { hw with ulin := spPut_wf hw.ulin }

theorem canon_storeCalData {acc : Access} {a : Nat} {v : HWord} (h : Canon C A s) :
    Canon C A (storeCalData acc a v s) := by
  unfold storeCalData
  dsimp only
  refine canon_ite (canon_ite (canon_modRdr (canon_noteBadIdx h)) (canon_noteBadIdx h)) ?_
  refine canon_modRdr ?_
  split
  · exact canon_ite (canon_stageEntry (canon_noteBadIdx h)) ((canon_noteBadIdx h).update rfl)
  · exact canon_noteBadIdx h

theorem cmPut_wf {c : CfgSet} {r : Rdr} {a : Nat} {v : HWord} (h : c.wf = true) : (cmPut c r a v).wf = true := by
  have hw := cfgWf_iff.1 h
  unfold cmPut
  split
  · exact cfgWf_iff.2 { hw with gaitOfs := spPut_wf hw.gaitOfs }
  split
  · exact cfgWf_iff.2 { hw with gaitAct := spPut_wf hw.gaitAct }
  split
  · split
    · exact h
    · split
      · exact cfgWf_iff.2 { hw with gclGate := spPut_wf hw.gclGate }
      · split
        all_goals exact cfgWf_iff.2 { hw with gclInt := spPut_wf hw.gclInt }
  · exact setReg_wf h

theorem canon_storeCm {acc : Access} {a : Nat} {v : HWord} (h : Canon C A s) : Canon C A (storeCm acc a v s) := by
  unfold storeCm
  extract_lets q _ s1
  have h1 : Canon C A s1 := h.withStaged fun hc => cmPut_wf (h.staged hc)
  exact canon_ite (canon_storeCalData h) (canon_ite (canon_modRdr h1) h1)

/-- Registers of a set written one after another. -/
theorem SetOk.puts {c : CfgSet} {l : List Nat} {f : Nat → Nat} {v : HWord} (h : SetOk C c) :
    SetOk C (l.foldl (fun c i => c.setReg (f i) v) c) := by
  induction l generalizing c with
  | nil => exact h
  | cons i l ih => exact ih h.put

theorem canon_storeUserReset {v : HWord} (h : Canon C A s) : Canon C A (storeUserReset v s) := by
  have hw : SetOk C { s.cfg.staged with trim := [], ulin := [] } := fun hc =>
    cfgWf_iff.2 { cfgWf_iff.1 (h.staged hc) with trim := rfl, ulin := rfl }
  exact canon_ite h (canon_ite (h.withStaged hw.puts.puts) (h.update rfl))

theorem canon_storeMbin {acc : Access} {v : HWord} (h : Canon C A s) : Canon C A (storeMbin acc v s) :=
  canon_ite (h.update rfl) h

theorem canon_mailboxSend {n : Nat} (h : Canon C A s) : Canon C A (mailboxSend n s) :=
  canon_ite (canon_refuse (h.update rfl)) (canon_ite (canon_refuse (h.update rfl)) (h.update rfl))

theorem canon_storeMbctl {acc : Access} {v : HWord} (h : Canon C A s) : Canon C A (storeMbctl acc v s) := by
  unfold storeMbctl
  refine canon_ite h ?_
  split
  · exact canon_mailboxSend h
  · exact h.update rfl
  · exact h

theorem canon_storeHpLen {w : HWord} (h : Canon C A s) : Canon C A (storeHpLen w s) :=
  canon_ite (h.update rfl) (h.update rfl)

theorem canon_storeRecclr {acc : Access} {v : HWord} (h : Canon C A s) : Canon C A (storeRecclr acc v s) :=
  canon_ite (h.update rfl) h

theorem canon_storeDlv {acc : Access} {i : Nat} {v : HWord} (h : Canon C A s) : Canon C A (storeDlv acc i v s) := by
  unfold storeDlv
  split
  · exact canon_modCore h (fun _ => rfl)
  · exact h.update rfl
  · exact h

theorem canon_storeSys {acc : Access} {a : Nat} {v : HWord} (h : Canon C A s) : Canon C A (storeSys acc a v s) :=
  canon_ite (h.update rfl) (canon_ite (canon_storeSysRst h) (canon_ite (canon_storeCmtCtl h) (canon_ite (h.update rfl)
    (canon_ite (canon_ite (canon_modCore h (fun _ => rfl)) h) (canon_ite (h.update rfl) (canon_ite (h.update rfl) (canon_ite
    (canon_modRdr h) (canon_ite (h.update rfl) (canon_ite (h.update rfl) (canon_ite (canon_storeDlv h) (canon_ite
    (canon_modRdr h) (canon_ite (canon_storeRecclr h) h))))))))))))

theorem canon_storeSup {acc : Access} {a : Nat} {v : HWord} (h : Canon C A s) : Canon C A (storeSup acc a v s) :=
  canon_ite (canon_storeWdt h) (canon_ite (h.update rfl) (canon_ite (h.update rfl) (canon_ite (h.update rfl) (canon_ite
    (h.update rfl) (canon_ite (h.update rfl) (canon_ite (h.update rfl) (canon_ite (h.update rfl) (canon_ite (h.update rfl)
    (canon_ite (canon_storeMbin h) (canon_ite (canon_storeMbctl h) (canon_ite (canon_storeHealth h) (canon_ite
    (canon_storeRevert h) h))))))))))))

theorem canon_storeXp {acc : Access} {a : Nat} {v : HWord} (h : Canon C A s) : Canon C A (storeXp acc a v s) :=
  canon_ite h.withXp (canon_ite (canon_storeXpCmd h) (canon_ite h.withXp (canon_ite h.withXp (canon_ite (canon_modRdr h)
    (canon_ite (canon_ite h.withXp (canon_modRdr h.withXp)) (canon_ite h.withXp h))))))

theorem canon_storeCrc {x : CtxId} {o : Nat} {v : HWord} (h : Canon C A s) : Canon C A (storeCrc x o v s) :=
  canon_ite (canon_crcStore h) (canon_ite (canon_crcStore h) (canon_ite (canon_crcStore h) (canon_ite (canon_crcStore h)
    (canon_ite (canon_crcStore h) (canon_ite (canon_crcStore h) h)))))

theorem canon_storePort {acc : Access} {a : Nat} {v : HWord} (h : Canon C A s) : Canon C A (storePort acc a v s) :=
  canon_ite (canon_storeHpLen h) (canon_ite (h.update rfl) (canon_ite (h.update rfl) (canon_ite (h.update rfl) (canon_ite
    (canon_storeCrc h) (canon_ite (h.update rfl) (canon_storeXp h))))))

theorem canon_storeNet {acc : Access} {a : Nat} {v : HWord} (h : Canon C A s) : Canon C A (storeNet acc a v s) :=
  canon_ite (canon_modPort h) (canon_ite (h.update rfl) (canon_ite (h.update rfl) (canon_ite (h.update rfl) (canon_ite
    (canon_modRdr h) (canon_ite (canon_ite (canon_modBuf h) h) (canon_ite (canon_storeWfarm h) (canon_ite (h.update rfl)
    (canon_ite (h.update rfl) (canon_ite (h.update rfl) (canon_ite (h.update rfl) h))))))))))

theorem canon_storeGrpFltclr {acc : Access} {g : GroupId} {v : HWord} (h : Canon C A s) :
    Canon C A (storeGrpFltclr acc g v s) :=
  canon_ite (canon_each (fun _ _ => canon_modFlt) (canon_modGrp h (fun _ => rfl))) h

theorem canon_storeChFltclr {acc : Access} {n : ChanId} {v : HWord} (h : Canon C A s) :
    Canon C A (storeChFltclr acc n v s) :=
  canon_ite (canon_modFlt h) h

theorem canon_storeCntclr {n : ChanId} {v : HWord} (h : Canon C A s) : Canon C A (storeCntclr n v s) :=
  canon_ite (canon_modDi h) h

theorem canon_storeGrp {acc : Access} {g : GroupId} {o : Nat} {v : HWord} (h : Canon C A s) :
    Canon C A (storeGrp acc g o v s) :=
  canon_ite (canon_modGrp h (fun _ => rfl)) (canon_ite (canon_modGrp h (fun _ => rfl)) (canon_ite (canon_storeGrpFltclr h)
    h))

theorem canon_storeCh {acc : Access} {n : ChanId} {o : Nat} {v : HWord} (h : Canon C A s) :
    Canon C A (storeCh acc n o v s) :=
  canon_ite (canon_storeCntclr h) (canon_ite (canon_modDi h) (canon_ite (canon_modAi h) (canon_ite (canon_storeChFltclr h)
    h)))

theorem canon_storeCal {acc : Access} {a : Nat} {v : HWord} (h : Canon C A s) : Canon C A (storeCal acc a v s) :=
  canon_ite (canon_modRdr h) (canon_ite (canon_modRdr h) (canon_ite (h.update rfl) (canon_ite (canon_storeUserReset h) h)))

theorem canon_storeReg {acc : Access} {a : Nat} {v : HWord} (h : Canon C A s) : Canon C A (storeReg acc a v s) :=
  canon_ite h (canon_ite (canon_storeCm h) (canon_ite (canon_storeCm h) (canon_ite (canon_storeSys h) (canon_ite
    (canon_storeSup h) (canon_ite (canon_storePort h) (canon_ite (canon_storeNet h) (canon_ite (canon_storeGrp h) (canon_ite
    h (canon_ite (canon_storeCh h) (canon_storeCal h))))))))))

theorem canon_storeRegs {acc : Access} {l : List (Nat × HWord)} (h : Canon C A s) : Canon C A (storeRegs acc l s) := by
  induction l generalizing s with
  | nil => exact h
  | cons p l ih => exact ih (canon_storeReg h)

theorem canon_mLoad {c : CoreId} {ea : W32} {n : Nat} (h : Canon C A s) : Canon C A (mLoad c ea n s).2 := by
  unfold mLoad
  dsimp only
  split
  case h_5 => exact canon_readRegs h
  all_goals exact h

theorem canon_mUpdate {c : CoreId} {f : MF} {b : W32} (h : Canon C A s) : Canon C A (mUpdate c f b s) :=
  canon_ite h (canon_wrReg h)

theorem canon_mStore {c : CoreId} {ea : W32} {l : List Byte} (h : Canon C A s) : Canon C A (mStore c ea l s) := by
  unfold mStore
  dsimp only
  split
  · exact canon_modCore_ok h { h.core c with dmem := (h.core c).dmem.puts }
  · exact h.withSram h.sram.puts
  · exact canon_storeRegs h
  · exact h

/-! ### Loads and stores -/

theorem effOk_ldEff {c : CoreId} {f : MF} (h : Canon C A s) : EffOk C A (ldEff c f s) := by
  unfold ldEff
  dsimp only
  refine effOk_ite effOk_trap ?_
  split
  · exact effOk_trap
  · exact effOk_ok (canon_ite (canon_wrM (canon_mUpdate (canon_mLoad h))) (canon_wrReg (canon_mUpdate (canon_mLoad h))))

theorem effOk_stEff {c : CoreId} {f : MF} {t : Nat} (h : Canon C A s) : EffOk C A (stEff c f t s) := by
  unfold stEff
  dsimp only
  refine effOk_ite effOk_trap ?_
  split
  · exact effOk_trap
  · exact effOk_ite effOk_trap (effOk_ok (canon_mUpdate (canon_mStore (canon_modCore h fun _ => rfl))))

/-! ### The host port and answers of the Reins -/

theorem canon_shiftOut {l : List Byte} (h : Canon C A s) : Canon C A (shiftOut l s) := canon_ite h (h.update rfl)

theorem canon_newChallenge (h : Canon C A s) : Canon C A (newChallenge s) := h.update rfl

theorem canon_blockKey {l : List (Nat × HWord)} {cause : Byte} (h : Canon C A s) : Canon C A (blockKey l cause s) := by
  unfold blockKey
  split
  · exact canon_keyWhilePending h
  · exact h

theorem canon_beginFrame (h : Canon C A s) : Canon C A (beginFrame s) := (canon_ite (canon_modCrc h) h).update rfl

theorem canon_endFrame {tag : Bool} {sid : Option (Fin 16)} {x : Rep} (h : Canon C A s) :
    Canon C A (endFrame tag sid x s) := by
  unfold endFrame
  dsimp only
  refine canon_ite ?_ ?_
  · split
    · exact canon_modSess (h.update rfl)
    · exact h.update rfl
  · refine canon_raise ?_
    split
    · exact canon_modSess (h.update rfl)
    · exact h.update rfl

theorem canon_hpFlag {b : BitVec 5} (h : Canon C A s) : Canon C A (hpFlag b s) := h.update rfl

theorem canon_discard {edges : Nat} {notReady : Bool} (h : Canon C A s) : Canon C A (discard edges notReady s) := by
  unfold discard
  exact canon_endFrame ((canon_beginFrame h).update rfl)

theorem canon_useCount {f : HpFrame} (h : Canon C A s) : Canon C A (useCount f s) := canon_ite (canon_modSess h) h

theorem canon_readBlock {acc : Access} {l : List Nat} (h : Canon C A s) : Canon C A (readBlock acc l s).2 := by
  induction l generalizing s with
  | nil => exact h
  | cons a l ih =>
    unfold readBlock
    dsimp only
    refine ih ?_
    split
    · exact canon_readReg h
    · exact h

theorem canon_access {cmd : BitVec 4} {f : HpFrame} (h : Canon C A s) : Canon C A (access cmd f s).2 := by
  unfold access
  dsimp only
  split
  · exact canon_useCount h
  split
  · split
    · exact canon_refuse h
    · exact canon_readBlock (canon_useCount h)
  · split
    · exact canon_blockKey (canon_refuse h)
    · exact canon_storeRegs (canon_useCount h)

theorem canon_checkFrame {cmd : BitVec 4} {f : HpFrame} {len : HWord} (h : Canon C A s) :
    Canon C A (checkFrame cmd f len s) := by
  unfold checkFrame
  dsimp only
  refine canon_ite (canon_endFrame (canon_hpFlag (h.update rfl))) ?_
  refine canon_ite (canon_endFrame h) ?_
  refine canon_ite (canon_endFrame (canon_hpFlag ((canon_ite (canon_modCrc h) h).update rfl))) ?_
  refine canon_ite (canon_endFrame (canon_ite (canon_modCrc h) h)) ?_
  split
  · exact canon_endFrame (canon_refuse (canon_ite (canon_modCrc h) h))
  · exact canon_endFrame (canon_access (canon_ite (canon_modCrc h) h))

theorem canon_hpFrame {cmd : BitVec 4} {f : HpFrame} (h : Canon C A s) : Canon C A (hpFrame cmd f s) :=
  canon_onCore (fun h => canon_ite (canon_checkFrame (canon_beginFrame (canon_atTime h))) (canon_discard (canon_atTime h)))
    h

theorem canon_grantMember {members : BitVec 64} {n : ChanId} (h : Canon C A s) : Canon C A (grantMember members n s) :=
  canon_ite (canon_modOut h) h

theorem canon_grantOut {n : ChanId} (h : Canon C A s) : Canon C A (grantOut n s) := canon_ite (canon_modOut h) h

theorem canon_startOp {op : ReqOp} {members : BitVec 64} (h : Canon C A s) : Canon C A (startOp op members s) := by
  unfold startOp
  cases op with
  | turnOn n => exact canon_grantOut h
  | aoEnable n => exact canon_grantOut h
  | excite n => exact canon_ite (canon_modAi h) h
  | atomSet k => exact canon_each (fun _ _ => canon_grantMember) h
  | sweep g => exact canon_ite (canon_modRot h) h
  | handover g => exact canon_ite (canon_handover h) h
  | nvWrite c =>
    dsimp only
    exact canon_modCore h fun _ => rfl
  | readOut => exact canon_freeReads h
  | record => exact h.withCfg rfl h.staged h.committed h.writing
  | burst => exact canon_drainCerts h
  | refresh => exact h.update rfl
  | chunk => exact h.update rfl
  | burstMaint => exact h
  | reserve => exact h
  | progChannel n => exact h
  | progSet n => exact h
  | charge n => exact h

theorem canon_grantSlot {i : Fin 96} (h : Canon C A s) : Canon C A (grantSlot i s) := canon_loadRegs (canon_modSlot h)

theorem canon_endSlot {i : Fin 96} (h : Canon C A s) : Canon C A (endSlot i s) := canon_modSlot h

theorem canon_denied {op : ReqOp} (h : Canon C A s) : Canon C A (denied op s) := by
  unfold denied
  split
  · exact h.update rfl
  · exact canon_ite (canon_modRot h) h
  · exact canon_restartOverlap h
  · exact canon_modCore h (fun _ => rfl)
  · exact h.update rfl
  · exact h.update rfl
  · exact h.update rfl
  · exact h.update rfl
  · exact h.update rfl
  · exact h
  · exact h
  · exact h
  · exact h
  · exact h
  · exact h
  · exact h
  · exact h

theorem canon_failSlot {i : Fin 96} (h : Canon C A s) : Canon C A (failSlot i s) := h.update rfl

end
end Sys2Proof.Machine
end

section
open Sys2Proof Sys2Proof.Machine
namespace Sys2Proof.Machine

section
variable {C : Prop} {A : CfgSet} {s : State}

/-! ### Commands: Outputs and the Logbook -/

theorem keeps_execFrameRecord (h : Canon C A s) : Keeps C A (execFrameRecord s) :=
  keeps_next (canon_afterBoot (fun h => canon_ite (canon_record h) h) h)

theorem keeps_execWaveBlockWrite {g : GroupId} (h : Canon C A s) : Keeps C A (execWaveBlockWrite g s) :=
  keeps_next (canon_onCore (fun h => canon_ite (canon_putBlock h) h) h)

theorem keeps_execWaveCaptureStop (h : Canon C A s) : Keeps C A (execWaveCaptureStop s) :=
  keeps_next (canon_onCore (fun h => canon_ite (canon_modBuf (h.update rfl)) h) h)

theorem keeps_execTelemetryRecord {t : Nat} {temps : List Int} {sups : List HWord} (h : Canon C A s) :
    Keeps C A (execTelemetryRecord t temps sups s) := by
  unfold execTelemetryRecord
  refine keeps_next (canon_afterBoot (fun h => ?_) h)
  extract_lets _ s1 s2
  have h1 : Canon C A s1 := h.update rfl
  have h2 : Canon C A s2 := canon_record h1
  clear_value s2
  exact canon_jobDone (h2.update rfl)

theorem keeps_execTempWarn {die : Fin 10} {passed : Bool} (h : Canon C A s) : Keeps C A (execTempWarn die passed s) :=
  keeps_next (canon_onCore (fun h => canon_ite (canon_raise (h.update rfl)) (h.update rfl)) h)

theorem keeps_execSupplyWarn {sup : Fin 4} {out_ : Bool} (h : Canon C A s) : Keeps C A (execSupplyWarn sup out_ s) :=
  keeps_next (canon_onCore (fun h => canon_ite (canon_raise (h.update rfl)) (h.update rfl)) h)

theorem keeps_execBackgroundStarved {code : Fin 6} (h : Canon C A s) : Keeps C A (execBackgroundStarved code s) :=
  keeps_next (canon_onCore (fun h => canon_ite h (canon_raise (h.update rfl))) h)

/-! ### Commands: Channels, rotation and protection -/

theorem keeps_execDiRawChange {ch : ChanId} {raw : Bool} {t : Nat} (h : Canon C A s) :
    Keeps C A (execDiRawChange ch raw t s) :=
  keeps_next (canon_ite (canon_modDi (canon_atTime h)) h)

theorem keeps_execDiFilterChange {ch : ChanId} {t : Nat} (h : Canon C A s) : Keeps C A (execDiFilterChange ch t s) :=
  keeps_next (canon_ite (canon_modDi (canon_atTime h)) h)

theorem keeps_execFreqGateEnd {ch : ChanId} (h : Canon C A s) : Keeps C A (execFreqGateEnd ch s) :=
  keeps_next (canon_ite (canon_modDi h) h)

theorem keeps_execCounterClear {ch : ChanId} (h : Canon C A s) : Keeps C A (execCounterClear ch s) :=
  keeps_next (canon_ite (canon_modDi h) h)

theorem keeps_execTestPulseStart {ch : ChanId} {light : Bool} (h : Canon C A s) :
    Keeps C A (execTestPulseStart ch light s) :=
  keeps_next (canon_ite (canon_modOut h) h)

theorem keeps_execTestPulseEnd {ch : ChanId} {ma t : Nat} (h : Canon C A s) :
    Keeps C A (execTestPulseEnd ch ma t s) := by
  unfold execTestPulseEnd
  refine keeps_next ?_
  split
  · exact h
  · exact canon_onCore canon_jobDone (canon_ite (canon_modFlt (canon_modOut (canon_atTime h))) (canon_ite (canon_setStuck
    (canon_darkSeen (canon_modOut (canon_atTime h)))) (canon_darkSeen (canon_modOut (canon_atTime h)))))

theorem keeps_execCrossSample {ch : ChanId} {light : Bool} {before after : BitVec 64} (h : Canon C A s) :
    Keeps C A (execCrossSample ch light before after s) :=
  keeps_next (canon_ite (canon_each (fun _ _ h => canon_ite (canon_setCross h) h) h) h)

theorem keeps_execSuspect {ch : ChanId} (h : Canon C A s) : Keeps C A (execSuspect ch s) :=
  keeps_next (canon_ite (canon_modFlt h) h)

theorem keeps_execStuckTestEnd {ch : ChanId} {rawStill : Bool} (h : Canon C A s) :
    Keeps C A (execStuckTestEnd ch rawStill s) :=
  keeps_next (canon_ite h (canon_ite (canon_setStuck h) (canon_modFlt h)))

theorem keeps_execInrushWindowEnd {ch : ChanId} (h : Canon C A s) : Keeps C A (execInrushWindowEnd ch s) :=
  keeps_next (canon_ite (canon_modOut h) h)

theorem keeps_execPwmTransition {ch : ChanId} (h : Canon C A s) : Keeps C A (execPwmTransition ch s) :=
  keeps_next (canon_ite (canon_ite (canon_modOut h) (canon_modOut h)) h)

theorem keeps_execOverlapEnd {g : GroupId} (h : Canon C A s) : Keeps C A (execOverlapEnd g s) :=
  keeps_next (canon_ite (canon_ite (canon_ite (canon_laneFault (canon_modRot (canon_swapConv (canon_ite h (canon_modRot
    h))))) (canon_ite (canon_groomReq (canon_modRot (canon_ite h (canon_modRot h)))) (canon_handover (canon_ite h
    (canon_modRot h))))) (canon_ite (canon_laneFault (canon_modRot (canon_ite h (canon_modRot h)))) (canon_askSweep
    (canon_modRot (canon_modRot (canon_ite h (canon_modRot h))))))) h)

theorem keeps_execSweepEnd {g : GroupId} {corr : List W32} (h : Canon C A s) : Keeps C A (execSweepEnd g corr s) := by
  unfold execSweepEnd
  extract_lets c old s1 d _ s2
  have h1 : Canon C A s1 := canon_each (fun _ _ => canon_calPut) h
  clear_value s1
  have h2 : Canon C A s2 := h1.update rfl
  exact keeps_next (canon_ite (canon_beginOverlap (canon_endOp h2)) h)

theorem keeps_execWireBreak {ch : ChanId} (h : Canon C A s) : Keeps C A (execWireBreak ch s) :=
  keeps_next (canon_ite (canon_modFlt h) h)

theorem keeps_execWireBreakClear {ch : ChanId} (h : Canon C A s) : Keeps C A (execWireBreakClear ch s) :=
  keeps_next (canon_ite (canon_modFlt h) h)

theorem keeps_execOpenLoad {ch : ChanId} (h : Canon C A s) : Keeps C A (execOpenLoad ch s) :=
  keeps_next (canon_ite (canon_modFlt h) h)

theorem keeps_execCurrentLimit {x : LoadIn} (h : Canon C A s) : Keeps C A (execCurrentLimit x s) :=
  keeps_next (canon_ite (canon_protectCh (canon_modFlt h)) h)

theorem keeps_execThermalShutdown {ch : ChanId} {inductive_ : Bool} (h : Canon C A s) :
    Keeps C A (execThermalShutdown ch inductive_ s) :=
  keeps_next (canon_ite (canon_thermOff h) h)

theorem keeps_execThermalRetry {ch : ChanId} (h : Canon C A s) : Keeps C A (execThermalRetry ch s) :=
  keeps_next (canon_ite (canon_ite (canon_onCore canon_chargeLease (canon_modOut (canon_setApplied h))) (canon_modOut
    (canon_setApplied h))) h)

theorem keeps_execThermClear {ch : ChanId} (h : Canon C A s) : Keeps C A (execThermClear ch s) :=
  keeps_next (canon_ite (canon_modFlt h) h)

theorem keeps_execGroupOvercurrent {g : GroupId} {ma : List Nat} (h : Canon C A s) :
    Keeps C A (execGroupOvercurrent g ma s) := by
  unfold execGroupOvercurrent
  refine keeps_next ?_
  refine canon_ite ?_ h
  split
  · exact canon_thermOff h
  · exact h

theorem keeps_execOvc {g : GroupId} {above : Bool} (h : Canon C A s) : Keeps C A (execOvc g above s) :=
  keeps_next (canon_ite (canon_modGrp h (fun _ => rfl)) h)

theorem keeps_execDemagEnd {ch : ChanId} (h : Canon C A s) : Keeps C A (execDemagEnd ch s) :=
  keeps_next (canon_endBusy h)

theorem keeps_execAoRampdownEnd {ch : ChanId} (h : Canon C A s) : Keeps C A (execAoRampdownEnd ch s) :=
  keeps_next (canon_ite (canon_modOut (canon_endBusy h)) h)

theorem keeps_execDischargeEnd {ch : ChanId} (h : Canon C A s) : Keeps C A (execDischargeEnd ch s) :=
  keeps_next (canon_endBusy h)

theorem keeps_execQueuedRequestApply {ch : ChanId} (h : Canon C A s) : Keeps C A (execQueuedRequestApply ch s) := by
  unfold execQueuedRequestApply
  refine keeps_next ?_
  refine canon_ite h ?_
  split
  · exact h
  · split
    · exact canon_ite (canon_enterMode (canon_modOut (canon_modFlt h))) (canon_refreshSafe (canon_modOut (canon_modFlt h)))
    · exact canon_ite (canon_modOut (canon_modFlt h)) (canon_ite (canon_applySafe (canon_modOut (canon_modFlt h)))
      (canon_modOut (canon_modFlt h)))
    · exact canon_ite (canon_modOut (canon_modFlt h)) (canon_applyValue (canon_modOut (canon_modFlt h)))

theorem keeps_execSensePathOpen {ch : ChanId} (h : Canon C A s) : Keeps C A (execSensePathOpen ch s) :=
  keeps_next (canon_ite (canon_openPath h) h)

theorem keeps_execSensePathReclose {ch : ChanId} (h : Canon C A s) : Keeps C A (execSensePathReclose ch s) :=
  keeps_next (canon_ite (canon_modAi h) h)

theorem keeps_execSensePathCheck {ch : ChanId} {below : Bool} (h : Canon C A s) :
    Keeps C A (execSensePathCheck ch below s) :=
  keeps_next (canon_ite (canon_ite (canon_modAi h) (canon_openPath h)) h)

theorem keeps_execLpwarn {g : GroupId} {mv : HWord} (h : Canon C A s) : Keeps C A (execLpwarn g mv s) :=
  keeps_next (canon_ite (canon_ite (canon_modGrp h (fun _ => rfl)) (canon_raiseOn (canon_modGrp h (fun _ => rfl)))) h)

theorem keeps_execLpwarnEnd {g : GroupId} {mv : HWord} (h : Canon C A s) : Keeps C A (execLpwarnEnd g mv s) :=
  keeps_next (canon_ite (canon_modGrp h (fun _ => rfl)) h)

theorem keeps_execUvoff {g : GroupId} {mv : HWord} (h : Canon C A s) : Keeps C A (execUvoff g mv s) :=
  keeps_next (canon_ite (canon_supplyFail h) h)

theorem keeps_execOvervoltage {g : GroupId} {mv : HWord} (h : Canon C A s) : Keeps C A (execOvervoltage g mv s) :=
  keeps_next (canon_ite (canon_supplyFail h) h)

theorem keeps_execFieldUnpowered {g : GroupId} (h : Canon C A s) : Keeps C A (execFieldUnpowered g s) :=
  keeps_next (canon_ite (canon_onCore canon_acceptIfDone (canon_modRot (canon_modGrp (canon_each (fun _ _ => canon_modFlt)
    (canon_resetLaneCorr (canon_each (fun _ _ => canon_supplyOff) (canon_stopLanes h)))) (fun _ => rfl)))) h)

theorem keeps_execSupplyRestored {g : GroupId} {fbs : Option Nat} {mv : HWord} (h : Canon C A s) :
    Keeps C A (execSupplyRestored g fbs mv s) :=
  keeps_next (canon_ite (canon_ite (canon_each (fun _ _ => canon_enterMode) (canon_onCore (fun h => canon_joinPortions
    (canon_givePortion h)) (canon_modGrp h (fun _ => rfl)))) (canon_onCore (fun h => canon_joinPortions (canon_givePortion
    h)) (canon_modGrp h (fun _ => rfl)))) h)

theorem keeps_execHoldEntry {g : GroupId} (h : Canon C A s) : Keeps C A (execHoldEntry g s) :=
  keeps_next (canon_enterHold h)

theorem keeps_execHoldTimeout {g : GroupId} (h : Canon C A s) : Keeps C A (execHoldTimeout g s) :=
  keeps_next (canon_ite (canon_endHold h) h)

theorem keeps_execHeartbeat {g : GroupId} (h : Canon C A s) : Keeps C A (execHeartbeat g s) :=
  keeps_next (canon_ite (canon_ite (canon_leaveHold (canon_modGrp h (fun _ => rfl))) (canon_modGrp h (fun _ => rfl))) h)

theorem keeps_execLinkLoss {g : GroupId} (h : Canon C A s) : Keeps C A (execLinkLoss g s) :=
  keeps_next (canon_onCore (fun h => canon_ite (canon_modGrp h (fun _ => rfl)) h) h)

theorem keeps_execIhlileLinkUp {g : GroupId} {minor : Nat} {imageOk : Bool} (h : Canon C A s) :
    Keeps C A (execIhlileLinkUp g minor imageOk s) :=
  keeps_next (canon_onCore (fun h => canon_ite (canon_ite (canon_modGrp (h.update rfl) (fun _ => rfl)) (canon_modGrp
    (canon_each (fun _ _ => canon_supplyOff) (canon_stopLanes (canon_modGrp (h.update rfl) (fun _ => rfl)))) (fun _ =>
    rfl))) h) h)

theorem keeps_execGroupFwLoaded {g : GroupId} (h : Canon C A s) : Keeps C A (execGroupFwLoaded g s) :=
  keeps_next (canon_onCore (fun h => canon_ite (canon_givePortion (canon_modGrp h (fun _ => rfl))) h) h)

theorem keeps_execFaultClearApply (h : Canon C A s) : Keeps C A (execFaultClearApply s) :=
  keeps_next (canon_onCore (fun h => canon_each (fun _ _ => canon_askStage) (canon_refreshSafe (canon_each (fun _ _ h =>
    canon_ite (canon_clearGrp h) h) (canon_each (fun _ _ h => canon_ite (canon_clearCh h) h) h)))) h)

theorem keeps_execCfgmmSet {g : GroupId} (h : Canon C A s) : Keeps C A (execCfgmmSet g s) :=
  keeps_next (canon_onCore (fun h => canon_refreshSafe (canon_each (fun _ _ h => canon_ite (canon_modFlt h) h) (canon_modGrp
    h (fun _ => rfl)))) h)

theorem keeps_execCfgResend {g : GroupId} (h : Canon C A s) : Keeps C A (execCfgResend g s) :=
  keeps_next (canon_onCore (fun h => canon_ite (canon_modGrp h (fun _ => rfl)) h) h)

/-! ### Commands: Lanes -/

theorem keeps_execEntryEnd {g : GroupId} {r : Role} (h : Canon C A s) : Keeps C A (execEntryEnd g r s) :=
  keeps_next (canon_ite (canon_releaseHold (canon_modGrp h (fun _ => rfl))) h)

theorem keeps_execResultWrite {g : GroupId} {r : Role} {x : ConvIn} (h : Canon C A s) :
    Keeps C A (execResultWrite g r x s) :=
  keeps_next (canon_ite (canon_ite (canon_shadowSample h) h) (canon_dite (fun _ => canon_ite (canon_writeEntry h) h) (fun _
    => h)))

theorem keeps_execScanEnd {g : GroupId} (h : Canon C A s) : Keeps C A (execScanEnd g s) :=
  keeps_next (canon_ite (canon_startScan (canon_selfCheck h)) h)

theorem keeps_execScanModeExit {g : GroupId} (h : Canon C A s) : Keeps C A (execScanModeExit g s) :=
  keeps_next (canon_onCore (fun h => canon_ite (canon_ite (canon_ite (canon_endRecovery (canon_modGrp h (fun _ => rfl)))
    (canon_modGrp h (fun _ => rfl))) (canon_leaveScan (canon_ite (canon_endRecovery (canon_modGrp h (fun _ => rfl)))
    (canon_modGrp h (fun _ => rfl))))) h) h)

theorem keeps_execInterleaveSample {g : GroupId} {j : Nat} {x : ConvIn} (h : Canon C A s) :
    Keeps C A (execInterleaveSample g j x s) :=
  keeps_next (canon_ite (canon_ite (canon_modAi (canon_openSensor (canon_onCore canon_addSample (canon_ite (canon_clearPair
    (canon_modGrp h (fun _ => rfl))) (canon_modGrp h (fun _ => rfl)))))) (canon_openSensor (canon_onCore canon_addSample
    (canon_ite (canon_clearPair (canon_modGrp h (fun _ => rfl))) (canon_modGrp h (fun _ => rfl)))))) h)

/-! ### Commands: Services, slots and tasks -/

theorem keeps_execPin {c : CoreId} {f : XF} (h : Canon C A s) : Keeps C A (execPin c f s) :=
  keeps_next (canon_canter (fun _ _ h => effOk_ok (canon_wrResult h)) h)

theorem keeps_execPout {c : CoreId} {f : XF} (h : Canon C A s) : Keeps C A (execPout c f s) :=
  keeps_next (canon_canter (fun _ _ h => effOk_ite (effOk_ok (canon_wrFlags (canon_putOut h))) (effOk_ok (canon_wrFlags
    (canon_outOwner h)))) h)

theorem keeps_execPids {c : CoreId} {f : XF} (h : Canon C A s) : Keeps C A (execPids c f s) :=
  keeps_next (canon_canter (fun _ _ h => effOk_ite effOk_trap (effOk_ite effOk_trap (effOk_ok (canon_wrResult (canon_putDmem
    (canon_putDmem (canon_putDmem h))))))) h)

theorem keeps_execRamp {c : CoreId} {f : XF} (h : Canon C A s) : Keeps C A (execRamp c f s) :=
  keeps_next (canon_canter (fun _ _ h => effOk_ok (canon_wrResult h)) h)

theorem keeps_execLimitOp {c : CoreId} {f : XF} (h : Canon C A s) : Keeps C A (execLimitOp c f s) :=
  keeps_next (canon_canter (fun _ _ h => effOk_ok (canon_wrResult h)) h)

theorem keeps_execTickwait {c : CoreId} {f : XF} (h : Canon C A s) : Keeps C A (execTickwait c f s) :=
  keeps_next (canon_canter (fun _ _ h => effOk_ok (canon_wrFlags h)) h)

theorem keeps_execCheckin {c : CoreId} {f : XF} (h : Canon C A s) : Keeps C A (execCheckin c f s) :=
  keeps_next (canon_canter (fun _ _ h => effOk_ok (canon_ite (canon_modCore h (fun _ => rfl)) h)) h)

theorem keeps_execLeave {c : CoreId} {f : XF} (h : Canon C A s) : Keeps C A (execLeave c f s) :=
  keeps_next (canon_canter (fun _ _ h => effOk_ite (effOk_ok h) (effOk_ok (canon_wrResult (canon_submit h)))) h)

theorem keeps_execLeaveQuery {c : CoreId} {f : XF} (h : Canon C A s) : Keeps C A (execLeaveQuery c f s) := by
  unfold execLeaveQuery
  refine keeps_next ?_
  refine canon_canter ?_ h
  intro _ _ h
  refine effOk_ite (effOk_ok h) ?_
  split
  · exact effOk_ok (canon_wrResult h)
  · exact effOk_ok (canon_wrResult (canon_freeDraw h))

theorem keeps_execEvraise {c : CoreId} {f : XF} (h : Canon C A s) : Keeps C A (execEvraise c f s) :=
  keeps_next (canon_canter (fun _ _ h => effOk_ite (effOk_ok h) (effOk_ite (effOk_ok (canon_wrFlags (canon_raise h)))
    (effOk_ok (canon_wrFlags h)))) h)

theorem keeps_execEndTask {c : CoreId} {f : XF} (h : Canon C A s) : Keeps C A (execEndTask c f s) :=
  keeps_next (canon_canter (fun _ _ h => effOk_ok (canon_ite (canon_haltCore h) (canon_modCore h mems_endTask))) h)

theorem keeps_execBudget {c : CoreId} (h : Canon C A s) : Keeps C A (execBudget c s) :=
  keeps_next (canon_ite (canon_budgetExc h) h)

theorem keeps_execSvcNop {c : CoreId} {f : SvcF} (h : Canon C A s) : Keeps C A (execSvcNop c f s) :=
  keeps_next (canon_svcFixed (fun _ => canon_svcD0) h)

theorem keeps_execSvcNettime {c : CoreId} {f : SvcF} (h : Canon C A s) : Keeps C A (execSvcNettime c f s) :=
  keeps_next (canon_svcFixed (fun _ h => canon_svcD1 (canon_svcD0 h)) h)

theorem keeps_execSvcFrmno {c : CoreId} {f : SvcF} (h : Canon C A s) : Keeps C A (execSvcFrmno c f s) :=
  keeps_next (canon_svcFixed (fun _ h => canon_svcD1 (canon_svcD0 h)) h)

theorem keeps_execSvcJournal {c : CoreId} {f : SvcF} (h : Canon C A s) : Keeps C A (execSvcJournal c f s) :=
  keeps_next (canon_svcFixed (fun _ h => canon_ite (canon_svcD0 h) (canon_svcD0 (canon_ite (canon_raise (canon_journal h))
    (canon_journal h)))) h)

theorem keeps_execSvcDevinfo {c : CoreId} {f : SvcF} (h : Canon C A s) : Keeps C A (execSvcDevinfo c f s) :=
  keeps_next (canon_svcFixed (fun _ => canon_svcD0) h)

theorem keeps_execSvcUnassigned {c : CoreId} {svc : BitVec 8} {f : SvcF} (h : Canon C A s) :
    Keeps C A (execSvcUnassigned c svc f s) :=
  keeps_next (canon_ite h (canon_svcFixed (fun _ => canon_svcD0) h))

theorem keeps_execSvcXiSend {c : CoreId} {f : SvcF} (h : Canon C A s) : Keeps C A (execSvcXiSend c f s) :=
  keeps_next (canon_svcLong h)

theorem keeps_execSvcXiRecv {c : CoreId} {f : SvcF} (h : Canon C A s) : Keeps C A (execSvcXiRecv c f s) :=
  keeps_next (canon_svcLong h)

theorem keeps_execSvcLogRead {c : CoreId} {f : SvcF} (h : Canon C A s) : Keeps C A (execSvcLogRead c f s) :=
  keeps_next (canon_svcLong h)

theorem keeps_execSvcNvRead {c : CoreId} {f : SvcF} (h : Canon C A s) : Keeps C A (execSvcNvRead c f s) :=
  keeps_next (canon_svcLong h)

theorem keeps_execSvcNvWrite {c : CoreId} {f : SvcF} (h : Canon C A s) : Keeps C A (execSvcNvWrite c f s) :=
  keeps_next (canon_svcLong h)

/-- The start of a lane changes its lane alone. -/
theorem portions_startRole {l : Lane} {r : Role} {p : Prop} [Decidable p] {x : Grp} :
    portions (if p then { x with lanes := x.lanes.set (roleIx r) l } else x) = portions x := by
  split
  · rfl
  · rfl

theorem keeps_execLaneStart {slot : BitVec 8} (h : Canon C A s) : Keeps C A (execLaneStart slot s) := by
  unfold execLaneStart
  refine keeps_next (canon_afterBoot (fun h => canon_ite (canon_each (fun g s h => ?_) (canon_atSlot h)) h) h)
  refine canon_ite h (canon_modGrp h fun x => ?_)
  exact portions_startRole.trans (portions_startRole.trans portions_startRole)

theorem keeps_execInXfer {slot : BitVec 8} (h : Canon C A s) : Keeps C A (execInXfer slot s) :=
  keeps_next (canon_afterBoot (fun h => canon_ite (canon_each (fun _ _ h => canon_ite (canon_each (fun _ _ => canon_modAi)
    (canon_modGrp h (fun _ => rfl))) (canon_modGrp h (fun _ => rfl))) (canon_atSlot h)) h) h)

theorem keeps_execInXferEnd {slot : BitVec 8} {x : InXferIn} (h : Canon C A s) : Keeps C A (execInXferEnd slot x s) :=
  keeps_next (canon_afterBoot (fun h => canon_ite (canon_ite (canon_each (fun _ _ => canon_endXfer) h) (canon_raise
    ((canon_each (fun _ _ => canon_endXfer) h).update rfl))) h) h)

theorem keeps_execOutXfer {slot : BitVec 8} (h : Canon C A s) : Keeps C A (execOutXfer slot s) :=
  keeps_next (canon_afterBoot (fun h => canon_ite (canon_ite (canon_each (fun _ _ => canon_deadlineCore) (canon_atSlot h))
    (canon_each (fun _ _ h => canon_ite (canon_each (fun _ _ => canon_sendWord) (canon_modGrp h (fun _ => rfl))) h)
    (canon_each (fun _ _ => canon_deadlineCore) (canon_atSlot h)))) h) h)

theorem keeps_execOutXferEnd {slot : BitVec 8} (h : Canon C A s) : Keeps C A (execOutXferEnd slot s) :=
  keeps_next (canon_afterBoot (fun h => canon_each (fun _ _ h => canon_ite (canon_each (fun _ _ => canon_takeWord)
    (canon_modGrp h (fun _ => rfl))) h) h) h)

theorem keeps_execOutApply {slot : BitVec 8} (h : Canon C A s) : Keeps C A (execOutApply slot s) := by
  unfold execOutApply
  refine keeps_next ?_
  refine canon_afterBoot ?_ h
  intro h
  refine canon_ite ?_ h
  refine canon_each (fun _ _ => canon_applyGroup) ?_
  split
  · exact canon_frameOverrun (canon_atSlot h)
  · exact canon_atSlot h

theorem keeps_execChannelApply {ch : ChanId} (h : Canon C A s) : Keeps C A (execChannelApply ch s) := by
  unfold execChannelApply
  refine keeps_next ?_
  split
  · exact h
  · exact canon_applyCh (canon_modOut (canon_atTime h))

theorem keeps_execTaskRel {slot : BitVec 8} (h : Canon C A s) : Keeps C A (execTaskRel slot s) := by
  unfold execTaskRel
  refine keeps_next ?_
  refine canon_afterBoot ?_ h
  intro h
  refine canon_ite ?_ h
  split
  · exact h
  · exact canon_modCore (canon_atSlot h) (fun _ => rfl)

theorem keeps_execTaskStart {c : CoreId} (h : Canon C A s) : Keeps C A (execTaskStart c s) := by
  unfold execTaskStart
  refine keeps_next (canon_afterBoot (fun h => ?_) h)
  dsimp only
  split
  · split
    · exact canon_modCore h fun _ => rfl
    · exact canon_modCore h fun _ => rfl
  · exact h

theorem keeps_execBgOpen {slot : BitVec 8} (h : Canon C A s) : Keeps C A (execBgOpen slot s) := by
  unfold execBgOpen
  refine keeps_next (canon_afterBoot (fun h => ?_) h)
  refine canon_ite (canon_ite (canon_atSlot h).withFrm (canon_each (fun c s h => ?_) (canon_atSlot h).withFrm)) h
  have hfree : Canon C A (modCore s c (readyFree s c)) := canon_modCore h fun _ => rfl
  dsimp only
  split
  · exact canon_ite (canon_modCore hfree fun _ => rfl) hfree
  · exact hfree

theorem mems_suspend (k : Core) (t : Nat) : mems (k.suspend t) = mems k := by
  unfold Core.suspend
  split <;> rfl

theorem keeps_execBgClose {slot : BitVec 8} (h : Canon C A s) : Keeps C A (execBgClose slot s) :=
  keeps_next (canon_afterBoot (fun h => canon_ite (canon_each (fun _ _ h => canon_modCore h fun k => mems_suspend k _)
    (canon_atSlot h).withFrm) h) h)

theorem keeps_execBgTaskStart {c : CoreId} (h : Canon C A s) : Keeps C A (execBgTaskStart c s) := by
  unfold execBgTaskStart
  refine keeps_next (canon_afterBoot (fun h => ?_) h)
  refine canon_ite ?_ h
  split
  · exact h
  · exact canon_modCore h fun _ => rfl

theorem keeps_execServiceComplete {c : CoreId} {e : ServiceEnd} (h : Canon C A s) :
    Keeps C A (execServiceComplete c e s) := by
  unfold execServiceComplete
  refine keeps_next (canon_onCore (fun h => ?_) h)
  have hs : Canon C A (atTime e.t s) := canon_atTime h
  dsimp only
  split
  · exact hs
  · split
    · exact hs
    · next hr =>
      have hd := canon_svcResult hs hr
      exact canon_ite (canon_resumeServed (canon_svcPut (canon_freeDraw hd))) (canon_resumeServed (canon_svcPut hd))

/-! ### Commands: Ports, COMMIT and the frame tick -/

theorem keeps_execGptpSyncRx {p : PortId} {t : Nat} {offset : Int} {x : SyncHdr} (h : Canon C A s) :
    Keeps C A (execGptpSyncRx p t offset x s) :=
  keeps_next (canon_afterBoot (fun h => canon_ite (canon_ite (canon_timeStep (canon_timeValid ((canon_tapCopy h).update
    rfl))) (canon_timeValid ((canon_tapCopy h).update rfl))) (canon_tapCopy h)) h)

theorem keeps_execGptpSyncTx {x : PortTime} (h : Canon C A s) : Keeps C A (execGptpSyncTx x s) :=
  keeps_next (canon_afterBoot (fun h => canon_ite (canon_modPort (canon_atTime (h.update rfl))) h) h)

theorem keeps_execGptpPdelay {p : PortId} {delay : Nat} {corr : Int} (h : Canon C A s) :
    Keeps C A (execGptpPdelay p delay corr s) :=
  keeps_next (canon_afterBoot (fun h => canon_ite (canon_ite (canon_timeStep (canon_modPort ((canon_tapCopy h).update rfl)))
    (canon_modPort ((canon_tapCopy h).update rfl))) (canon_tapCopy h)) h)

theorem keeps_execGptpAnnounce {p : PortId} {t dom : Nat} {a : AnnIn} (h : Canon C A s) :
    Keeps C A (execGptpAnnounce p t dom a s) :=
  keeps_next (canon_afterBoot (fun h => canon_ite (canon_bmca (canon_modPort (canon_tapCopy (canon_atTime h))))
    (canon_tapCopy (canon_atTime h))) h)

theorem keeps_execCommitKey {acc : Access} (h : Canon C A s) : Keeps C A (execCommitKey acc s) :=
  keeps_next (canon_guarded (fun _ => canon_storeCmtCtl) h)

theorem keeps_execDiscardKey {acc : Access} (h : Canon C A s) : Keeps C A (execDiscardKey acc s) :=
  keeps_next (canon_guarded (fun _ => canon_storeCmtCtl) h)

theorem keeps_execCommitChecks {t : Nat} (h : Canon C A s) : Keeps C A (execCommitChecks t s) :=
  keeps_next (canon_onCore (fun h => canon_ite (canon_ite (canon_refuseCommit (h.update rfl)) (canon_acceptIfDone (h.update
    rfl))) h) h)

theorem keeps_execGroupPortionAck {g : GroupId} {t : Nat} (h : Canon C A s) :
    Keeps C A (execGroupPortionAck g t s) := by
  unfold execGroupPortionAck
  refine keeps_next (canon_onCore (fun h => canon_ite (canon_acceptIfDone ?_) h) h)
  have ht : Canon C A (atTime t s) := canon_atTime h
  have hg : Canon C A (modGrp (atTime t s) g fun x => { x with portionNext := some s.cfg.staged }) :=
    canon_modGrp_ok ht { ht.grp g with portionNext := by rintro c ⟨⟩; exact h.staged }
  exact hg.update rfl

theorem keeps_execCommitLinkTimeout {g : GroupId} (h : Canon C A s) : Keeps C A (execCommitLinkTimeout g s) :=
  keeps_next (canon_onCore (fun h => canon_ite (canon_refuseCommit h) h) h)

/-- The switch makes the staged set the active one, or does nothing. -/
theorem execCommitSwitch_canon {t : Nat} (h : Canon C A s) : ∃ B u, execCommitSwitch t s = .next u ∧ Canon C B u := by
  unfold execCommitSwitch onCore
  dsimp only
  split
  · split
    · exact ⟨_, _, rfl, canon_doSwitch h.staged h⟩
    · exact ⟨_, _, rfl, h⟩
  · exact ⟨_, _, rfl, h⟩

theorem keeps_execEflashWriteDone {j : FlashJob} (h : Canon C A s) : Keeps C A (execEflashWriteDone j s) := by
  unfold execEflashWriteDone
  refine keeps_next ?_
  refine canon_onCore ?_ h
  intro h
  split
  · exact canon_sectorDone h
  · exact canon_nvDone h

theorem keeps_execFrameTick {i : TickIn} (h : Canon C A s) : Keeps C A (execFrameTick i s) :=
  keeps_next (canon_afterBoot (fun h => canon_sysWords (canon_tickRetry (canon_each (fun _ _ => canon_tickAsk) (canon_each
    (fun _ _ => canon_tickSummary) (canon_refreshSafe (canon_each (fun _ _ => canon_tickGrp) (canon_each (fun _ _ =>
    canon_tickCross) (canon_each (fun _ _ => canon_tickFault) (canon_each (fun _ _ => canon_tickCh) (canon_reinsTick
    (canon_dropIdleSets (canon_tickNet (canon_tickMisc (canon_tickCores (canon_tickFrm h))))))))))))))) h)

theorem keeps_execSyncInEdge {t width : Nat} {rising : Bool} (h : Canon C A s) :
    Keeps C A (execSyncInEdge t width rising s) := by
  unfold execSyncInEdge
  refine keeps_next ?_
  refine canon_afterBoot ?_ h
  intro h
  refine canon_ite h ?_
  refine canon_ite (canon_syncErr h) ?_
  refine canon_ite (canon_ite (h.update rfl) (canon_syncErr (h.update rfl))) ?_
  refine canon_ite (h.update rfl) ?_
  split
  · exact canon_ite (h.update rfl) (canon_syncErr (h.update rfl))
  · exact canon_ite (h.update rfl) (canon_syncErr h)

theorem keeps_execHoldoverEntry {t : Nat} (h : Canon C A s) : Keeps C A (execHoldoverEntry t s) :=
  keeps_next (canon_afterBoot (fun h => canon_ite (canon_raise (h.update rfl)) h) h)

/-! ### Commands: Modes, supervision and the Bridle -/

theorem keeps_execModeChange {t : Nat} (h : Canon C A s) : Keeps C A (execModeChange t s) :=
  keeps_next (canon_afterBoot (fun h => canon_ite (canon_ite (canon_takeOos (canon_takeReq (canon_takeSafe h)))
    ((canon_takeOos (canon_takeReq (canon_takeSafe h))).update rfl)) h) h)

theorem keeps_execWdtServe {acc : Access} {v : HWord} {cyc : Nat} (h : Canon C A s) :
    Keeps C A (execWdtServe acc v cyc s) :=
  keeps_next (canon_guarded (fun _ h => canon_storeWdt (canon_ite (h.update rfl) h)) h)

theorem keeps_execWatchdogExpiry (h : Canon C A s) : Keeps C A (execWatchdogExpiry s) :=
  keeps_next (canon_onCore (fun h => canon_ite (canon_fireWdt h) h) h)

theorem keeps_execTallyPeriodEnd (h : Canon C A s) : Keeps C A (execTallyPeriodEnd s) :=
  keeps_next (canon_afterBoot (fun h => canon_ite (canon_ite (canon_talBegin (canon_talEnd (canon_foldl_fst h
    fun _ _ => canon_talCompare))) (canon_talBegin h)) h) h)

theorem keeps_execFreezeNRequest (h : Canon C A s) : Keeps C A (execFreezeNRequest s) :=
  keeps_next (canon_afterBoot (fun h => canon_ite (canon_requestFreeze h) h) h)

theorem keeps_execJtagFreeze (h : Canon C A s) : Keeps C A (execJtagFreeze s) :=
  keeps_next (canon_onCore canon_requestFreeze h)

theorem keeps_execFreezeStop {t : Nat} (h : Canon C A s) : Keeps C A (execFreezeStop t s) :=
  keeps_next (canon_onCore (fun h => canon_ite ((h.withNet h.prevRing).update rfl) h) h)

theorem keeps_execHello {m : MsgCtx} {majors : BitVec 16} {minors : List Byte} (h : Canon C A s) :
    Keeps C A (execHello m majors minors s) := by
  unfold execHello
  refine keeps_next (canon_ite (canon_plainMsg (fun _ h => h) h) (canon_onMsg (fun s0 h => ?_) h))
  extract_lets s1
  have h1 : Canon C A s1 := canon_touch h
  exact canon_ite (canon_refuseMsg h1) (canon_ite (canon_refuseMsg h1) (canon_ite (canon_refuseMsg h1)
    (canon_reply (h1.update rfl))))

theorem keeps_execIdRead {m : MsgCtx} (h : Canon C A s) : Keeps C A (execIdRead m s) :=
  keeps_next (canon_plainMsg (fun _ => canon_reply) h)

theorem keeps_execCertLoad {m : MsgCtx} {cert : List Byte} {sigOk : Bool} (h : Canon C A s) :
    Keeps C A (execCertLoad m cert sigOk s) :=
  keeps_next (canon_plainMsg (fun _ h => canon_ite (canon_refuseMsg h) (canon_ite (canon_refuseMsg h) (canon_drainCerts
    (h.update rfl)))) h)

theorem keeps_execSessInit {m : MsgCtx} {body : List Byte} (h : Canon C A s) : Keeps C A (execSessInit m body s) := by
  unfold execSessInit
  refine keeps_next ?_
  refine canon_plainMsg ?_ h
  intro _ h
  refine canon_ite (canon_refuseMsg h) ?_
  refine canon_ite (canon_refuseMsg h) ?_
  refine canon_ite (canon_refuseMsg h) ?_
  split
  · exact canon_refuseMsg h
  · exact canon_reply (canon_modSess (canon_draw (canon_draw h)))

theorem keeps_execSessFin {m : MsgCtx} {body : List Byte} {sigOk zZero : Bool} (h : Canon C A s) :
    Keeps C A (execSessFin m body sigOk zZero s) := by
  unfold execSessFin
  refine keeps_next ?_
  refine canon_plainMsg ?_ h
  intro _ h
  refine canon_ite (canon_refuseMsg h) ?_
  split
  · exact canon_refuseMsg h
  · split
    · exact canon_refuseMsg h
    · exact canon_verifying (fun _ h => canon_ite (canon_refuseMsg h) (canon_ite (canon_refuseMsg (canon_modSess h))
      (canon_reply ((canon_useKey (canon_modSess h)).update rfl)))) h

theorem keeps_execSessClose {r : RecCtx} (h : Canon C A s) : Keeps C A (execSessClose r s) :=
  keeps_next (canon_recMsg (fun _ h => canon_closeSess (canon_okRec h)) h)

theorem keeps_execHandshakeTimeout {sid : Fin 16} {t : Nat} (h : Canon C A s) :
    Keeps C A (execHandshakeTimeout sid t s) :=
  keeps_next (canon_onCore (fun h => canon_ite (canon_modSess (canon_atTime h)) h) h)

theorem keeps_execSessionIdle {sid : Fin 16} {t : Nat} (h : Canon C A s) : Keeps C A (execSessionIdle sid t s) :=
  keeps_next (canon_onCore (fun h => canon_ite (canon_closeSess (canon_atTime h)) h) h)

theorem keeps_execSessionLoss (h : Canon C A s) : Keeps C A (execSessionLoss s) := by
  unfold execSessionLoss
  refine keeps_next ?_
  refine canon_onCore ?_ h
  intro h
  split
  · exact canon_ite (canon_trialFail (canon_safeTrigger (canon_raise (h.update rfl)))) h
  · exact h

theorem keeps_execPeerContextEnd {iface : Iface} {peer t : Nat} (h : Canon C A s) :
    Keeps C A (execPeerContextEnd iface peer t s) :=
  keeps_next (canon_onCore (fun h => canon_ite h (h.update rfl)) h)

theorem keeps_execClaim {m : MsgCtx} {body : List Byte} {sigOk : Bool} (h : Canon C A s) :
    Keeps C A (execClaim m body sigOk s) :=
  keeps_next (canon_plainMsg (fun _ h => canon_ite (canon_refuseMsg h) (canon_ite (canon_refuseMsg h) (canon_ite
    (canon_refuseMsg h) (canon_verifying (fun _ h => canon_ite (canon_refuseMsg h) (canon_reply (canon_raise (h.update
    rfl)))) h)))) h)

theorem keeps_execTransfer {m : MsgCtx} {body : List Byte} {sigOk : Bool} (h : Canon C A s) :
    Keeps C A (execTransfer m body sigOk s) := by
  unfold execTransfer
  refine keeps_next ?_
  refine canon_plainMsg ?_ h
  intro _ h
  refine canon_ite (canon_refuseMsg h) ?_
  split
  · exact canon_refuseMsg h
  · exact canon_ite (canon_refuseMsg h) (canon_ite (canon_refuseMsg h) (canon_verifying (fun _ h => canon_ite
    (canon_refuseMsg h) (canon_each (fun _ _ => canon_closeSess) (canon_reply (canon_raise (h.update rfl))))) h))

theorem keeps_execLogRead {r : RecCtx} {buf : Byte} {count : HWord} {first : W32} {ecc : Bool} (h : Canon C A s) :
    Keeps C A (execLogRead r buf count first ecc s) :=
  keeps_next (canon_recMsg (fun _ h => canon_dite (fun _ => canon_askRead h) (fun _ => canon_noRec h)) h)

theorem keeps_execEventSub {r : RecCtx} {mask : BitVec 128} (h : Canon C A s) : Keeps C A (execEventSub r mask s) :=
  keeps_next (canon_recMsg (fun _ h => canon_ite (canon_noRec h) (canon_okRec (canon_modSess h))) h)

theorem keeps_execCyclicBind {r : RecCtx} (h : Canon C A s) : Keeps C A (execCyclicBind r s) := by
  unfold execCyclicBind
  refine keeps_next ?_
  refine canon_recMsg ?_ h
  intro _ h
  refine canon_ite (canon_noRec h) ?_
  split
  · exact canon_ite (canon_okRec h) (canon_noRec h)
  · exact canon_okRec (h.update rfl)

theorem keeps_execCyclicUnbind {r : RecCtx} (h : Canon C A s) : Keeps C A (execCyclicUnbind r s) :=
  keeps_next (canon_recMsg (fun _ h => canon_okRec (canon_ite (h.update rfl) h)) h)

theorem keeps_execApp {r : RecCtx} {core : Byte} {len : HWord} {data : List Byte} (h : Canon C A s) :
    Keeps C A (execApp r core len data s) :=
  keeps_next (canon_recMsg (fun _ h => canon_ite (canon_noRec h) (canon_dite (fun _ => canon_ite (canon_noRec h)
    (canon_okRec (canon_modCore h (fun _ => rfl)))) (fun _ => canon_noRec h))) h)

theorem keeps_execSigned {r : RecCtx} {m : SignedMsg} (h : Canon C A s) : Keeps C A (execSigned r m s) :=
  keeps_next (canon_recMsg (fun _ h => canon_ite (canon_noRec h) (canon_ite (canon_noRec h) (h.update rfl))) h)

theorem keeps_execCommitCmd {sigOk : Bool} {t : Nat} (h : Canon C A s) : Keeps C A (execCommitCmd sigOk t s) :=
  keeps_next (canon_runCmd (fun _ _ h => canon_ite (canon_answerCmd (canon_requestCommit (canon_acceptCmd h)))
    (canon_requestCommit (canon_acceptCmd h))) h)

theorem keeps_execModeSet {sigOk : Bool} {t : Nat} (h : Canon C A s) : Keeps C A (execModeSet sigOk t s) := by
  unfold execModeSet
  refine keeps_next (canon_runCmd (fun q s h => ?_) h)
  extract_lets s1
  have h1 : Canon C A s1 := canon_acceptCmd h
  split
  · exact canon_answerCmd h1
  · exact canon_ite (canon_answerCmd h1) (canon_ite (canon_answerCmd h1) (canon_ite (canon_answerCmd h1.withSys)
      (canon_answerCmd h1)))

theorem keeps_execForce {sigOk : Bool} {t : Nat} (h : Canon C A s) : Keeps C A (execForce sigOk t s) :=
  keeps_next (canon_runCmd (fun _ _ h => canon_ite (canon_answerCmd (canon_acceptCmd h)) (canon_ite (canon_answerCmd
    (canon_refreshSafe (canon_modOut (canon_acceptCmd h)))) (canon_answerCmd (canon_raise (canon_modOut (canon_acceptCmd
    h)))))) h)

theorem keeps_execFreeze {sigOk : Bool} {t : Nat} (h : Canon C A s) : Keeps C A (execFreeze sigOk t s) :=
  keeps_next (canon_runCmd (fun _ _ h => canon_requestFreeze (canon_acceptCmd h)) h)

theorem keeps_execKeyDrop {sigOk : Bool} {t : Nat} (h : Canon C A s) : Keeps C A (execKeyDrop sigOk t s) := by
  unfold execKeyDrop
  refine keeps_next (canon_runCmd (fun q s h => ?_) h)
  extract_lets kid s1
  have h1 : Canon C A s1 := canon_answerCmd (canon_acceptCmd h)
  split
  · exact h1
  · have h2 := canon_raise (e := 76) (p := 0) (h1.update (t := { s1 with
      sec := { s1.sec with cache := s1.sec.cache.filter fun k => k.kid ≠ kid } }) rfl)
    exact canon_ite h2 (canon_each (fun _ _ => canon_closeSess) h2)

theorem keeps_execEpochRaise {sigOk : Bool} {t : Nat} (h : Canon C A s) : Keeps C A (execEpochRaise sigOk t s) := by
  unfold execEpochRaise
  refine keeps_next (canon_runCmd (fun q s h => ?_) h)
  extract_lets v gone s1 _ s2 s3 s4
  have h1 : Canon C A s1 := canon_acceptCmd h
  have h2 : Canon C A s2 := h1.update rfl
  have h3 : Canon C A s3 := canon_answerCmd (canon_raise h2)
  have h4 : Canon C A s4 := canon_ite h3 (canon_raise h3)
  exact canon_ite (canon_refuseCmd h) (canon_each (fun _ _ h => canon_each (fun _ _ => canon_closeSess) h) h4)

theorem keeps_execHpTrust {sigOk : Bool} {t : Nat} (h : Canon C A s) : Keeps C A (execHpTrust sigOk t s) :=
  keeps_next (canon_runCmd (fun _ _ h => (canon_answerCmd (canon_acceptCmd h)).update rfl) h)

/-! ### Commands: Check values, the Farrier and the network -/

theorem keeps_execAdd {c : CoreId} {f : RR} (h : Canon C A s) : Keeps C A (execAdd c f s) :=
  keeps_next (canon_rrInstr h)

theorem keeps_execAddc {c : CoreId} {f : RR} (h : Canon C A s) : Keeps C A (execAddc c f s) :=
  keeps_next (canon_rrInstr h)

theorem keeps_execSub {c : CoreId} {f : RR} (h : Canon C A s) : Keeps C A (execSub c f s) :=
  keeps_next (canon_rrInstr h)

theorem keeps_execSubc {c : CoreId} {f : RR} (h : Canon C A s) : Keeps C A (execSubc c f s) :=
  keeps_next (canon_rrInstr h)

theorem keeps_execCmp {c : CoreId} {f : RR} (h : Canon C A s) : Keeps C A (execCmp c f s) :=
  keeps_next (canon_cmpInstr h)

theorem keeps_execAndOp {c : CoreId} {f : RR} (h : Canon C A s) : Keeps C A (execAndOp c f s) :=
  keeps_next (canon_rrInstr h)

theorem keeps_execOrOp {c : CoreId} {f : RR} (h : Canon C A s) : Keeps C A (execOrOp c f s) :=
  keeps_next (canon_rrInstr h)

theorem keeps_execXorOp {c : CoreId} {f : RR} (h : Canon C A s) : Keeps C A (execXorOp c f s) :=
  keeps_next (canon_rrInstr h)

theorem keeps_execAndn {c : CoreId} {f : RR} (h : Canon C A s) : Keeps C A (execAndn c f s) :=
  keeps_next (canon_rrInstr h)

theorem keeps_execSll {c : CoreId} {f : RR} (h : Canon C A s) : Keeps C A (execSll c f s) :=
  keeps_next (canon_rrInstr h)

theorem keeps_execSrl {c : CoreId} {f : RR} (h : Canon C A s) : Keeps C A (execSrl c f s) :=
  keeps_next (canon_rrInstr h)

theorem keeps_execSra {c : CoreId} {f : RR} (h : Canon C A s) : Keeps C A (execSra c f s) :=
  keeps_next (canon_rrInstr h)

theorem keeps_execRor {c : CoreId} {f : RR} (h : Canon C A s) : Keeps C A (execRor c f s) :=
  keeps_next (canon_rrInstr h)

theorem keeps_execMin {c : CoreId} {f : RR} (h : Canon C A s) : Keeps C A (execMin c f s) :=
  keeps_next (canon_rrInstr h)

theorem keeps_execMax {c : CoreId} {f : RR} (h : Canon C A s) : Keeps C A (execMax c f s) :=
  keeps_next (canon_rrInstr h)

theorem keeps_execMinu {c : CoreId} {f : RR} (h : Canon C A s) : Keeps C A (execMinu c f s) :=
  keeps_next (canon_rrInstr h)

theorem keeps_execMaxu {c : CoreId} {f : RR} (h : Canon C A s) : Keeps C A (execMaxu c f s) :=
  keeps_next (canon_rrInstr h)

theorem keeps_execAbs {c : CoreId} {f : RR} (h : Canon C A s) : Keeps C A (execAbs c f s) :=
  keeps_next (canon_rrInstr h)

theorem keeps_execClz {c : CoreId} {f : RR} (h : Canon C A s) : Keeps C A (execClz c f s) :=
  keeps_next (canon_rrInstr h)

theorem keeps_execSextb {c : CoreId} {f : RR} (h : Canon C A s) : Keeps C A (execSextb c f s) :=
  keeps_next (canon_rrInstr h)

theorem keeps_execSexth {c : CoreId} {f : RR} (h : Canon C A s) : Keeps C A (execSexth c f s) :=
  keeps_next (canon_rrInstr h)

theorem keeps_execZextb {c : CoreId} {f : RR} (h : Canon C A s) : Keeps C A (execZextb c f s) :=
  keeps_next (canon_rrInstr h)

theorem keeps_execZexth {c : CoreId} {f : RR} (h : Canon C A s) : Keeps C A (execZexth c f s) :=
  keeps_next (canon_rrInstr h)

theorem keeps_execMov {c : CoreId} {f : RR} (h : Canon C A s) : Keeps C A (execMov c f s) :=
  keeps_next (canon_rrInstr h)

theorem keeps_execSel {c : CoreId} {f : RR} (h : Canon C A s) : Keeps C A (execSel c f s) :=
  keeps_next (canon_canter (fun _ _ h => effOk_ok (canon_wrReg h)) h)

theorem keeps_execMul {c : CoreId} {f : RR} (h : Canon C A s) : Keeps C A (execMul c f s) :=
  keeps_next (canon_rrInstr h)

theorem keeps_execMulh {c : CoreId} {f : RR} (h : Canon C A s) : Keeps C A (execMulh c f s) :=
  keeps_next (canon_rrInstr h)

theorem keeps_execMulhu {c : CoreId} {f : RR} (h : Canon C A s) : Keeps C A (execMulhu c f s) :=
  keeps_next (canon_rrInstr h)

theorem keeps_execDiv {c : CoreId} {f : RR} (h : Canon C A s) : Keeps C A (execDiv c f s) :=
  keeps_next (canon_rrInstr h)

theorem keeps_execDivu {c : CoreId} {f : RR} (h : Canon C A s) : Keeps C A (execDivu c f s) :=
  keeps_next (canon_rrInstr h)

theorem keeps_execRem {c : CoreId} {f : RR} (h : Canon C A s) : Keeps C A (execRem c f s) :=
  keeps_next (canon_rrInstr h)

theorem keeps_execRemu {c : CoreId} {f : RR} (h : Canon C A s) : Keeps C A (execRemu c f s) :=
  keeps_next (canon_rrInstr h)

theorem keeps_execQadd {c : CoreId} {f : RR} (h : Canon C A s) : Keeps C A (execQadd c f s) :=
  keeps_next (canon_rrInstr h)

theorem keeps_execQsub {c : CoreId} {f : RR} (h : Canon C A s) : Keeps C A (execQsub c f s) :=
  keeps_next (canon_rrInstr h)

theorem keeps_execQneg {c : CoreId} {f : RR} (h : Canon C A s) : Keeps C A (execQneg c f s) :=
  keeps_next (canon_rrInstr h)

theorem keeps_execQabs {c : CoreId} {f : RR} (h : Canon C A s) : Keeps C A (execQabs c f s) :=
  keeps_next (canon_rrInstr h)

theorem keeps_execQmul {c : CoreId} {f : RR} (h : Canon C A s) : Keeps C A (execQmul c f s) :=
  keeps_next (canon_rrInstr h)

theorem keeps_execQadd2 {c : CoreId} {f : RR} (h : Canon C A s) : Keeps C A (execQadd2 c f s) :=
  keeps_next (canon_rrInstr h)

theorem keeps_execQsub2 {c : CoreId} {f : RR} (h : Canon C A s) : Keeps C A (execQsub2 c f s) :=
  keeps_next (canon_rrInstr h)

theorem keeps_execQmul2 {c : CoreId} {f : RR} (h : Canon C A s) : Keeps C A (execQmul2 c f s) :=
  keeps_next (canon_rrInstr h)

theorem keeps_execQshl {c : CoreId} {f : RR} (h : Canon C A s) : Keeps C A (execQshl c f s) :=
  keeps_next (canon_rrInstr h)

theorem keeps_execFadd {c : CoreId} {f : RR} (h : Canon C A s) : Keeps C A (execFadd c f s) :=
  keeps_next (canon_rrInstr h)

theorem keeps_execFsub {c : CoreId} {f : RR} (h : Canon C A s) : Keeps C A (execFsub c f s) :=
  keeps_next (canon_rrInstr h)

theorem keeps_execFmul {c : CoreId} {f : RR} (h : Canon C A s) : Keeps C A (execFmul c f s) :=
  keeps_next (canon_rrInstr h)

theorem keeps_execFma {c : CoreId} {f : RR} (h : Canon C A s) : Keeps C A (execFma c f s) :=
  keeps_next (canon_fmaInstr h)

theorem keeps_execFms {c : CoreId} {f : RR} (h : Canon C A s) : Keeps C A (execFms c f s) :=
  keeps_next (canon_fmaInstr h)

theorem keeps_execFneg {c : CoreId} {f : RR} (h : Canon C A s) : Keeps C A (execFneg c f s) :=
  keeps_next (canon_rrInstr h)

theorem keeps_execFabs {c : CoreId} {f : RR} (h : Canon C A s) : Keeps C A (execFabs c f s) :=
  keeps_next (canon_rrInstr h)

theorem keeps_execFcmp {c : CoreId} {f : RR} (h : Canon C A s) : Keeps C A (execFcmp c f s) :=
  keeps_next (canon_cmpInstr h)

theorem keeps_execItof {c : CoreId} {f : RR} (h : Canon C A s) : Keeps C A (execItof c f s) :=
  keeps_next (canon_rrInstr h)

theorem keeps_execFtoi {c : CoreId} {f : RR} (h : Canon C A s) : Keeps C A (execFtoi c f s) :=
  keeps_next (canon_rrInstr h)

theorem keeps_execMac {c : CoreId} {f : RR} (h : Canon C A s) : Keeps C A (execMac c f s) :=
  keeps_next (canon_macInstr h)

theorem keeps_execMsu {c : CoreId} {f : RR} (h : Canon C A s) : Keeps C A (execMsu c f s) :=
  keeps_next (canon_macInstr h)

theorem keeps_execMac2 {c : CoreId} {f : RR} (h : Canon C A s) : Keeps C A (execMac2 c f s) :=
  keeps_next (canon_macInstr h)

theorem keeps_execMclr {c : CoreId} {f : RR} (h : Canon C A s) : Keeps C A (execMclr c f s) :=
  keeps_next (canon_canter (fun _ _ h => effOk_ok (canon_wrM h)) h)

theorem keeps_execMtm {c : CoreId} {f : RR} (h : Canon C A s) : Keeps C A (execMtm c f s) :=
  keeps_next (canon_canter (fun _ _ h => effOk_ok (canon_wrM h)) h)

theorem keeps_execMfm {c : CoreId} {f : RR} (h : Canon C A s) : Keeps C A (execMfm c f s) :=
  keeps_next (canon_mfInstr h)

theorem keeps_execMfmh {c : CoreId} {f : RR} (h : Canon C A s) : Keeps C A (execMfmh c f s) :=
  keeps_next (canon_mfInstr h)

theorem keeps_execMfml {c : CoreId} {f : RR} (h : Canon C A s) : Keeps C A (execMfml c f s) :=
  keeps_next (canon_mfInstr h)

theorem keeps_execJr {c : CoreId} {f : RR} (h : Canon C A s) : Keeps C A (execJr c f s) := keeps_next (canon_jrInstr h)

theorem keeps_execCallr {c : CoreId} {f : RR} (h : Canon C A s) : Keeps C A (execCallr c f s) :=
  keeps_next (canon_jrInstr h)

theorem keeps_execAddi {c : CoreId} {f : RI} (h : Canon C A s) : Keeps C A (execAddi c f s) :=
  keeps_next (canon_riInstr h)

theorem keeps_execAndi {c : CoreId} {f : RI} (h : Canon C A s) : Keeps C A (execAndi c f s) :=
  keeps_next (canon_riInstr h)

theorem keeps_execOri {c : CoreId} {f : RI} (h : Canon C A s) : Keeps C A (execOri c f s) :=
  keeps_next (canon_riInstr h)

theorem keeps_execXori {c : CoreId} {f : RI} (h : Canon C A s) : Keeps C A (execXori c f s) :=
  keeps_next (canon_riInstr h)

theorem keeps_execCmpi {c : CoreId} {f : RI} (h : Canon C A s) : Keeps C A (execCmpi c f s) :=
  keeps_next (canon_canter (fun _ _ h => effOk_ok (canon_wrFlags h)) h)

theorem keeps_execLi {c : CoreId} {f : RI} (h : Canon C A s) : Keeps C A (execLi c f s) := keeps_next (canon_riInstr h)

theorem keeps_execLui {c : CoreId} {f : RI} (h : Canon C A s) : Keeps C A (execLui c f s) :=
  keeps_next (canon_riInstr h)

theorem keeps_execSlli {c : CoreId} {f : RI} (h : Canon C A s) : Keeps C A (execSlli c f s) :=
  keeps_next (canon_riInstr h)

theorem keeps_execSrli {c : CoreId} {f : RI} (h : Canon C A s) : Keeps C A (execSrli c f s) :=
  keeps_next (canon_riInstr h)

theorem keeps_execSrai {c : CoreId} {f : RI} (h : Canon C A s) : Keeps C A (execSrai c f s) :=
  keeps_next (canon_riInstr h)

theorem keeps_execBcc {c : CoreId} {f : RI} (h : Canon C A s) : Keeps C A (execBcc c f s) :=
  keeps_next (canon_canter (fun _ _ h => effOk_ite (effOk_ok h) (effOk_ok h)) h)

theorem keeps_execJump {c : CoreId} {off : BitVec 26} (h : Canon C A s) : Keeps C A (execJump c off s) :=
  keeps_next (canon_jInstr h)

theorem keeps_execCall {c : CoreId} {off : BitVec 26} (h : Canon C A s) : Keeps C A (execCall c off s) :=
  keeps_next (canon_jInstr h)

theorem keeps_execSramScrubDone {x : ScrubIn} (h : Canon C A s) : Keeps C A (execSramScrubDone x s) :=
  keeps_next (canon_afterBoot (fun h => canon_inWindow (fun _ h => canon_jobDone (canon_scrub h)) h) h)

theorem keeps_execLogbookScrubDone {x : ScrubIn} (h : Canon C A s) : Keeps C A (execLogbookScrubDone x s) :=
  keeps_next (canon_afterBoot (fun h => canon_inWindow (fun _ h => canon_jobDone (canon_scrub h)) h) h)

theorem keeps_execEflashVerifyDone {x : ScrubIn} (h : Canon C A s) : Keeps C A (execEflashVerifyDone x s) :=
  keeps_next (canon_afterBoot (fun h => canon_inWindow (fun _ h => canon_jobDone (canon_times (fun _ => canon_groomReq)
    (canon_foldl (canon_scrub h) (fun _ _ => canon_factoryFail)))) h) h)

theorem keeps_execLogWfarm {acc : Access} {v : HWord} (h : Canon C A s) : Keeps C A (execLogWfarm acc v s) :=
  keeps_next (canon_guarded (fun _ => canon_storeWfarm) h)

theorem keeps_execArpRequest {p : PortId} {ip : W32} {mac : BitVec 48} (h : Canon C A s) :
    Keeps C A (execArpRequest p ip mac s) :=
  keeps_next (canon_forIp (fun _ h => h.update rfl) h)

theorem keeps_execIcmpEcho {p : PortId} {ip : W32} {frag : Bool} {data : List Byte} (h : Canon C A s) :
    Keeps C A (execIcmpEcho p ip frag data s) :=
  keeps_next (canon_forIp (fun _ h => canon_ite h (h.update rfl)) h)

theorem keeps_execEthFrameForward {p : PortId} {f : EthFrame} (h : Canon C A s) :
    Keeps C A (execEthFrameForward p f s) :=
  keeps_next (canon_ite h (canon_ite (canon_modPort (canon_atTime h)) (canon_ite (canon_atTime h) (canon_ite (canon_atTime
    h) (canon_bridge (canon_ite (canon_sendFrame (canon_atTime h)) (canon_atTime h)))))))

theorem keeps_execMacAgeing {mac : BitVec 48} {vid : BitVec 12} {t : Nat} (h : Canon C A s) :
    Keeps C A (execMacAgeing mac vid t s) :=
  keeps_next (canon_ite h ((canon_atTime h).withNet h.prevRing))

theorem keeps_execGateEntryEnd {p : PortId} (h : Canon C A s) : Keeps C A (execGateEntryEnd p s) :=
  keeps_next (canon_ite (canon_drainPort (canon_atTime (canon_modPort h))) h)

theorem keeps_execPortLinkChange {p : PortId} {up spd : Bool} (h : Canon C A s) :
    Keeps C A (execPortLinkChange p up spd s) :=
  keeps_next (canon_ite h (canon_ite (canon_ite (canon_modPort h) (canon_bmca (canon_modPort h))) (canon_ite (canon_raise
    (canon_raise (canon_ite (canon_modPort h) (canon_bmca (canon_modPort h))))) (canon_raise (canon_ite (canon_modPort h)
    (canon_bmca (canon_modPort h)))))))

theorem keeps_execXiSend {slot : BitVec 8} (h : Canon C A s) : Keeps C A (execXiSend slot s) := by
  unfold execXiSend
  refine keeps_next (canon_afterBoot (fun h => canon_ite ?_ h) h)
  split
  · exact h
  · next n _ =>
    have hs : Canon C A { atSlot slot s with net := { s.net with xiSent := true, repl := some (replSeg s n) } } :=
      (canon_atSlot h).withNet h.prevRing
    exact canon_ite (hs.update rfl) hs

theorem keeps_execXiDeadline {slot : BitVec 8} (h : Canon C A s) : Keeps C A (execXiDeadline slot s) := by
  unfold execXiDeadline
  refine keeps_next (canon_afterBoot (fun h => canon_ite ?_ h) h)
  split
  · next words _ =>
    have hn : Canon C A { atSlot slot s with net := { s.net with verified := none, xiPast := true } } :=
      (canon_atSlot h).withNet h.prevRing
    exact canon_putSegment (hn.update rfl)
  · have hn : Canon C A { atSlot slot s with net := { s.net with xiPast := true } } := (canon_atSlot h).withNet h.prevRing
    exact canon_raise (hn.update rfl)

theorem keeps_execSegmentVerified {g : SegIn} {dir2 : Bool} {t : Nat} (h : Canon C A s) :
    Keeps C A (execSegmentVerified g dir2 t s) := by
  unfold execSegmentVerified
  refine keeps_next ?_
  refine canon_afterBoot ?_ h
  intro h
  split
  · exact h
  · exact canon_ite (canon_verifySeg (canon_atTime (h.update rfl))) h

theorem keeps_execCarriageRx {p : PortId} {x : Carriage} {delayed : Bool} (h : Canon C A s) :
    Keeps C A (execCarriageRx p x delayed s) := by
  unfold execCarriageRx
  refine keeps_next (canon_afterBoot (fun h => ?_) h)
  extract_lets c _ s1 s2
  have h1 : Canon C A s1 := canon_tapCopy (canon_ite (h.withNet h.prevRing) h)
  have h2 : Canon C A s2 := canon_ite h1 (canon_modPort h1)
  refine canon_ite h ?_
  split
  · exact canon_passOn (canon_segError h2)
  · exact canon_ite (canon_comeBack (canon_ownSeg h2)) (canon_passOn (canon_ownSeg h2))

theorem keeps_execFeedRx {p : PortId} {x : Carriage} (h : Canon C A s) : Keeps C A (execFeedRx p x s) :=
  keeps_next (canon_afterBoot (fun h => canon_ite h (canon_ite (canon_tapCopy h) (canon_ite (canon_segError (canon_modPort
    (canon_tapCopy h))) (canon_ite (canon_segError (canon_tapCopy h)) (canon_ite ((canon_tapCopy h).update rfl)
    ((canon_tapCopy h).update rfl)))))) h)

theorem keeps_execTrainLaunch (h : Canon C A s) : Keeps C A (execTrainLaunch s) :=
  keeps_next (canon_afterBoot (fun h => canon_ite h (canon_ite (canon_sendBack (h.update rfl)) (canon_ite (canon_sendTrain
    (canon_sendTrain (h.update rfl))) (canon_sendTrain (h.update rfl))))) h)

theorem keeps_execTrainReturn {t : Nat} (h : Canon C A s) : Keeps C A (execTrainReturn t s) := by
  unfold execTrainReturn
  refine keeps_next ?_
  refine canon_afterBoot ?_ h
  intro h
  split
  · exact h
  · exact canon_ite h ((canon_sendBack (canon_atTime h)).update rfl)

theorem keeps_execRingOpen {p : PortId} (h : Canon C A s) : Keeps C A (execRingOpen p s) :=
  keeps_next (canon_afterBoot (fun h => canon_ite (canon_raise (h.update rfl)) h) h)

theorem keeps_execRingClose (h : Canon C A s) : Keeps C A (execRingClose s) :=
  keeps_next (canon_afterBoot (fun h => canon_ite (h.update rfl) h) h)

theorem keeps_execEventMsg (h : Canon C A s) : Keeps C A (execEventMsg s) :=
  keeps_next (canon_afterBoot (fun h => canon_foldl (h.update rfl) (fun _ _ => canon_sendEvent)) h)

/-! ### Commands: Images, resets and BOOT -/

theorem keeps_execPowerOnReset (h : Canon C A s) : Keeps C A (execPowerOnReset s) := keeps_next (canon_resetState h)

theorem keeps_execBrownout (h : Canon C A s) : Keeps C A (execBrownout s) := keeps_next (canon_resetState h)

theorem keeps_execPorstNAssert {width : Nat} (h : Canon C A s) : Keeps C A (execPorstNAssert width s) :=
  keeps_ite (keeps_next h) (keeps_ite keeps_fault (keeps_next (canon_resetState h).withSys))

theorem keeps_execHardReset (h : Canon C A s) : Keeps C A (execHardReset s) :=
  keeps_next (canon_ite (canon_resetState h) h)

theorem keeps_execResetCommand (h : Canon C A s) : Keeps C A (execResetCommand s) :=
  keeps_next (canon_onCore (fun h => canon_ite (canon_resetState h) h) h)

theorem keeps_execSysRst {acc : Access} {v : HWord} (h : Canon C A s) : Keeps C A (execSysRst acc v s) :=
  keeps_next (canon_guarded (fun _ => canon_storeSysRst) h)

theorem canon_bootSteps {b : BootIn} (h : Canon C A s) : Canon C (s.cfg.committed.getD .none) (bootSteps b s) := by
  unfold bootSteps
  extract_lets _ s0 s1 s2
  have h0 : Canon C (s.cfg.committed.getD .none) s0 := canon_loadSet rfl h.withSys
  have h1 : Canon C _ s1 := canon_ite (canon_bootImages h0) h0
  have h2 : Canon C _ s2 := canon_foldl h1 fun _ _ => canon_factoryFail
  split
  next la ba _ =>
  split
  next lb bb _ =>
  extract_lets s3 s4
  have h3 : Canon C _ s3 := h2.update rfl
  have h4 : Canon C _ s4 := canon_foldl h3 fun _ _ => canon_bootGroup
  exact canon_ite (h4.update rfl) (canon_ite (canon_raise (h4.update rfl)) h4)

/-- BOOT makes the committed set the active one, or the values of the Reset columns. -/
theorem execResetRelease_canon {b : BootIn} (h : Canon C A s) :
    ∃ B u, execResetRelease b s = .next u ∧ Canon C B u := by
  unfold execResetRelease
  split
  · exact ⟨_, _, rfl, h⟩
  extract_lets s0 _ _ _ s1 s2
  have h0 : Canon C A s0 := canon_atTime h
  have h1 : Canon C A s1 := canon_bootChange (h0.update rfl)
  have h2 : Canon C A s2 := canon_ite (canon_revertBanks h1) h1
  have hr := h2.withActive (k := { s2.cfg with active := .none, staged := .none }) .none .none h2.committed h2.writing
  split
  · exact ⟨_, _, rfl, canon_enterRecovery hr⟩
  · split
    · exact ⟨_, _, rfl, canon_enterRecovery hr⟩
    · exact ⟨_, _, rfl, canon_bootSteps h2⟩

theorem keeps_execBootEnd {i : TickIn} {dur : Nat} (h : Canon C A s) : Keeps C A (execBootEnd i dur s) :=
  keeps_next (canon_onCore (fun h => canon_ite (canon_loadRegs (canon_sysWords (canon_bootTick (canon_bootUpdate
    (canon_goMode (canon_firstTick (h.update rfl))))))) h) h)

theorem keeps_execRecoveryReset (h : Canon C A s) : Keeps C A (execRecoveryReset s) :=
  keeps_next (canon_onCore (fun h => canon_ite ((canon_resetState (canon_switchBanks h)).update rfl) h) h)

/-! ### Commands: Updates and the expansion port -/

theorem keeps_execUpdateBegin {r : RecCtx} (h : Canon C A s) : Keeps C A (execUpdateBegin r s) :=
  keeps_next (canon_onUpd (fun _ h => canon_ite (canon_noRec h) (canon_okRec (canon_raise (h.update rfl)))) h)

theorem keeps_execManifest {u : UpdCtx} {body : List Byte} {osigOk msigOk : Bool} (h : Canon C A s) :
    Keeps C A (execManifest u body osigOk msigOk s) :=
  keeps_next (canon_needLock (fun _ h => canon_verifying (fun _ h => canon_ite (canon_updReply h) (canon_checkStaged
    (canon_updReply (h.update rfl)))) h) h)

theorem keeps_execChunk {u : UpdCtx} {entry : Byte} {len : HWord} {offset : W32} {data : List Byte} (h : Canon C A s) :
    Keeps C A (execChunk u entry len offset data s) := by
  unfold execChunk
  refine keeps_next ?_
  refine canon_needLock ?_ h
  intro _ h
  split
  · exact canon_ite (canon_updReply h) (canon_updRefuse h)
  · exact canon_ite (canon_updRefuse h) (canon_ite (canon_updReply h) (canon_ite (h.update rfl) (canon_groomReq (h.update
    rfl))))

theorem keeps_execChunkWritten {hashOk imgSigOk : Bool} (h : Canon C A s) :
    Keeps C A (execChunkWritten hashOk imgSigOk s) := by
  unfold execChunkWritten
  refine keeps_next ?_
  refine canon_onCore ?_ h
  intro h
  split
  · exact h
  · refine canon_ite h ?_
    split
    · exact h.update rfl
    · exact canon_ite (canon_updReply (canon_setPart (h.update rfl))) (canon_ite (canon_verifying (fun _ h =>
      canon_entryCheck (canon_setPart (h.update rfl))) h) (canon_entryCheck (canon_setPart (h.update rfl))))

theorem keeps_execGroupImageAck {g : GroupId} {ok : Bool} (h : Canon C A s) : Keeps C A (execGroupImageAck g ok s) :=
  keeps_next (canon_onCore (fun h => canon_ite (canon_groupOutcome h) h) h)

theorem keeps_execGroupImageTimeout {g : GroupId} (h : Canon C A s) : Keeps C A (execGroupImageTimeout g s) :=
  keeps_next (canon_onCore (fun h => canon_ite (canon_groupOutcome h) h) h)

theorem keeps_execUpdateAbort {r : RecCtx} (h : Canon C A s) : Keeps C A (execUpdateAbort r s) :=
  keeps_next (canon_needLock (fun _ h => canon_okRec (canon_dropLock h)) h)

theorem keeps_execUpdateStatus {u : UpdCtx} (h : Canon C A s) : Keeps C A (execUpdateStatus u s) :=
  keeps_next (canon_onUpd (fun _ h => canon_updReply (canon_ite (h.update rfl) h)) h)

theorem keeps_execUpdateLockTimeout {t : Nat} (h : Canon C A s) : Keeps C A (execUpdateLockTimeout t s) :=
  keeps_next (canon_onCore (fun h => canon_ite (canon_dropLock (canon_atTime h)) h) h)

theorem keeps_execActivate {sigOk : Bool} {t : Nat} (h : Canon C A s) : Keeps C A (execActivate sigOk t s) := by
  unfold execActivate
  refine keeps_next (canon_runCmd (fun q s h => ?_) h)
  extract_lets s1 st
  have h1 : Canon C A s1 := canon_acceptCmd h
  exact canon_ite (canon_refuseCmd h) (canon_ite (canon_answerCmd h1) (canon_answerCmd (h1.update rfl)))

theorem keeps_execActivateMarker (h : Canon C A s) : Keeps C A (execActivateMarker s) :=
  keeps_next (canon_onCore (fun h => canon_ite (canon_markerReset (h.update rfl)) h) h)

theorem keeps_execTrialChecks (h : Canon C A s) : Keeps C A (execTrialChecks s) :=
  keeps_next (canon_onCore (fun h => canon_ite (canon_ite (h.update rfl) (canon_confirm (h.update rfl))) h) h)

theorem keeps_execHealthConfirm {r : RecCtx} (h : Canon C A s) : Keeps C A (execHealthConfirm r s) :=
  keeps_next (canon_onUpd (fun _ h => canon_ite (canon_okRec (canon_confirm h)) (canon_okRec h)) h)

theorem keeps_execUpdHealth {acc : Access} {v : HWord} (h : Canon C A s) : Keeps C A (execUpdHealth acc v s) :=
  keeps_next (canon_guarded (fun _ => canon_storeHealth) h)

theorem keeps_execConfirmation (h : Canon C A s) : Keeps C A (execConfirmation s) := by
  unfold execConfirmation
  refine keeps_next (canon_onCore (fun h => ?_) h)
  refine canon_ite ?_ h
  extract_lets schema _ _ s1
  have hnv := canon_mapCore (f := fun k => { k with nv := k.nvNext.getD k.nv, nvNext := none }) h fun k hk =>
    { hk with nv := hk.nvStore, nvNext := by simp }
  have hcom : ∀ c, s1.cfg.committed = some c → SetOk C c := by
    intro c hc
    dsimp only [s1] at hc
    split at hc
    · cases hc
      exact h.active ▸ h.activeOk
    · exact h.committed c hc
  have h1 : Canon C A s1 := (hnv.withCfg (k := s1.cfg) rfl h.staged hcom h.writing).update rfl
  exact canon_raise (canon_ite (canon_goMode h1) h1)

theorem keeps_execUpdateRevert {r : RecCtx} (h : Canon C A s) : Keeps C A (execUpdateRevert r s) :=
  keeps_next (canon_onUpd (fun _ h => canon_ite (canon_trialFail (canon_okRec h)) (canon_okRec h)) h)

theorem keeps_execUpdRevert {acc : Access} {v : HWord} (h : Canon C A s) : Keeps C A (execUpdRevert acc v s) :=
  keeps_next (canon_guarded (fun _ => canon_storeRevert) h)

theorem keeps_execTrialTimeout {t : Nat} (h : Canon C A s) : Keeps C A (execTrialTimeout t s) :=
  keeps_next (canon_onCore (fun h => canon_ite (canon_trialFail (canon_atTime h)) h) h)

theorem keeps_execRevertMarker (h : Canon C A s) : Keeps C A (execRevertMarker s) := by
  unfold execRevertMarker
  refine keeps_next ?_
  refine canon_onCore ?_ h
  intro h
  split
  · exact h
  · exact canon_ite (canon_markerReset (canon_revertBanks h)) h

theorem keeps_execXpStart {acc : Access} {v : HWord} (h : Canon C A s) : Keeps C A (execXpStart acc v s) :=
  keeps_next (canon_guarded (fun _ => canon_storeXpCmd) h)

theorem keeps_execXipLineFill {q : FillReq} {addr : W32} (h : Canon C A s) : Keeps C A (execXipLineFill q addr s) :=
  keeps_next (canon_onCore (fun h => canon_ite (canon_ite (h.update rfl) (canon_startFill h)) h) h)

theorem keeps_execXipFillDone {res : FillResult} (h : Canon C A s) : Keeps C A (execXipFillDone res s) :=
  keeps_next (canon_onCore canon_endFill h)

theorem keeps_execXpReadyResume (h : Canon C A s) : Keeps C A (execXpReadyResume s) := keeps_next h

theorem keeps_execXpTransferDone {rx : List Bool} (h : Canon C A s) : Keeps C A (execXpTransferDone rx s) := by
  unfold execXpTransferDone
  refine keeps_next ?_
  refine canon_onCore ?_ h
  intro h
  split
  · exact h
  · refine canon_ite h ?_
    refine canon_nextFill ?_
    refine canon_freeCtx ?_
    refine canon_freeCtx ?_
    split
    · exact canon_rxCheck (h.update rfl)
    · exact h.update rfl

theorem keeps_execXpReadyTimeout {rx : List Bool} (h : Canon C A s) : Keeps C A (execXpReadyTimeout rx s) := by
  unfold execXpReadyTimeout
  refine keeps_next ?_
  refine canon_onCore ?_ h
  intro h
  split
  · exact canon_ite (canon_ite (canon_endFill h) h) (canon_ite h (canon_nextFill (canon_readyTimeout (canon_freeCtx
    (canon_freeCtx (h.update rfl))))))
  · exact canon_ite (canon_endFill h) h

/-! ### Commands: Registers -/

theorem keeps_execRegisterWrite {acc : Access} {addr : HWord} {w : WriteIn} (h : Canon C A s) :
    Keeps C A (execRegisterWrite acc addr w s) :=
  keeps_next (canon_guarded (fun _ => canon_storeReg) h)

theorem keeps_execReadWithSnapshot {acc : Access} {addr : HWord} (h : Canon C A s) :
    Keeps C A (execReadWithSnapshot acc addr s) :=
  keeps_next (canon_guardedRead (fun _ => canon_readReg) h)

theorem keeps_execChCntclr {acc : Access} {ch : ChanId} {v : HWord} (h : Canon C A s) :
    Keeps C A (execChCntclr acc ch v s) :=
  keeps_next (canon_guarded (fun _ => canon_storeCntclr) h)

theorem keeps_execChFltclr {acc : Access} {ch : ChanId} {v : HWord} (h : Canon C A s) :
    Keeps C A (execChFltclr acc ch v s) :=
  keeps_next (canon_guarded (fun _ => canon_storeChFltclr) h)

theorem keeps_execGrpFltclr {acc : Access} {g : GroupId} {v : HWord} (h : Canon C A s) :
    Keeps C A (execGrpFltclr acc g v s) :=
  keeps_next (canon_guarded (fun _ => canon_storeGrpFltclr) h)

theorem keeps_execCnvResRead {acc : Access} {g : GroupId} {r : Role} {e : Fin 16} {wide : Bool} (h : Canon C A s) :
    Keeps C A (execCnvResRead acc g r e wide s) :=
  keeps_next (canon_guardedRead (fun _ => canon_readRegs) h)

theorem keeps_execCalUserReset {acc : Access} {v : HWord} (h : Canon C A s) : Keeps C A (execCalUserReset acc v s) :=
  keeps_next (canon_guarded (fun _ => canon_storeUserReset) h)

theorem keeps_execCalDataWrite {acc : Access} {v : HWord} (h : Canon C A s) : Keeps C A (execCalDataWrite acc v s) :=
  keeps_next (canon_guarded (fun _ => canon_storeCalData) h)

theorem keeps_execEvtRecclr {acc : Access} {v : HWord} (h : Canon C A s) : Keeps C A (execEvtRecclr acc v s) :=
  keeps_next (canon_guarded (fun _ => canon_storeRecclr) h)

theorem keeps_execCrcCfg {acc : Access} {x : CtxId} {v : HWord} (h : Canon C A s) : Keeps C A (execCrcCfg acc x v s) :=
  keeps_next (canon_guarded (fun _ => canon_crcStore) h)

theorem keeps_execCrcDin8 {acc : Access} {x : CtxId} {v : HWord} (h : Canon C A s) :
    Keeps C A (execCrcDin8 acc x v s) :=
  keeps_next (canon_guarded (fun _ => canon_crcStore) h)

theorem keeps_execCrcDin16 {acc : Access} {x : CtxId} {v : HWord} (h : Canon C A s) :
    Keeps C A (execCrcDin16 acc x v s) :=
  keeps_next (canon_guarded (fun _ => canon_crcStore) h)

theorem keeps_execCrcRunSave {acc : Access} {x : CtxId} (h : Canon C A s) : Keeps C A (execCrcRunSave acc x s) :=
  keeps_next (canon_guardedRead (fun _ => canon_readReg) h)

theorem keeps_execCrcRunRestore {acc : Access} {x : CtxId} {v : HWord} (h : Canon C A s) :
    Keeps C A (execCrcRunRestore acc x v s) :=
  keeps_next (canon_guarded (fun _ => canon_crcStore) h)

theorem keeps_execHpLen {acc : Access} {v : HWord} (h : Canon C A s) : Keeps C A (execHpLen acc v s) :=
  keeps_next (canon_guarded (fun _ => canon_storeHpLen) h)

theorem keeps_execFrzSnap {acc : Access} {v : HWord} (h : Canon C A s) : Keeps C A (execFrzSnap acc v s) :=
  keeps_next (canon_guarded (fun _ h => h.update rfl) h)

theorem keeps_execSecMbin {acc : Access} {v : HWord} (h : Canon C A s) : Keeps C A (execSecMbin acc v s) :=
  keeps_next (canon_guarded (fun _ => canon_storeMbin) h)

theorem keeps_execMailboxSend {acc : Access} {v : HWord} (h : Canon C A s) : Keeps C A (execMailboxSend acc v s) :=
  keeps_next (canon_guarded (fun _ => canon_storeMbctl) h)

theorem keeps_execMailboxClear {acc : Access} {v : HWord} (h : Canon C A s) : Keeps C A (execMailboxClear acc v s) :=
  keeps_next (canon_guarded (fun _ => canon_storeMbctl) h)

theorem keeps_execMailboxOutRead {acc : Access} (h : Canon C A s) : Keeps C A (execMailboxOutRead acc s) :=
  keeps_next (canon_guardedRead (fun _ => canon_readReg) h)

theorem keeps_execMailboxReply (h : Canon C A s) : Keeps C A (execMailboxReply s) :=
  keeps_next (canon_onCore (fun h => canon_ite (h.update rfl) h) h)

theorem keeps_execLd {c : CoreId} {f : MF} (h : Canon C A s) : Keeps C A (execLd c f s) :=
  keeps_next (canon_ite h (canon_canter (fun _ _ => effOk_ldEff) h))

theorem keeps_execSt {c : CoreId} {f : MF} (h : Canon C A s) : Keeps C A (execSt c f s) :=
  keeps_next (canon_canter (fun _ _ => effOk_stEff) h)

/-! ### Commands: The host port and answers of the Reins -/

theorem keeps_execSnapshotWrite (h : Canon C A s) : Keeps C A (execSnapshotWrite s) :=
  keeps_next (canon_afterBoot (fun h => canon_ite (canon_ite (h.update rfl) (canon_record (h.update rfl))) h) h)

theorem keeps_execFrzRead {n : Nat} (h : Canon C A s) : Keeps C A (execFrzRead n s) := keeps_next (canon_shiftOut h)

theorem keeps_execJtagIdcode (h : Canon C A s) : Keeps C A (execJtagIdcode s) := keeps_next (canon_shiftOut h)

theorem keeps_execJtagUnlockStat (h : Canon C A s) : Keeps C A (execJtagUnlockStat s) := keeps_next (canon_shiftOut h)

theorem keeps_execJtagUnlockChal (h : Canon C A s) : Keeps C A (execJtagUnlockChal s) :=
  keeps_next (canon_onCore (fun h => (canon_newChallenge h).update rfl) h)

theorem keeps_execJtagUnlockResp {resp : List Byte} {x : UnlockSigs} (h : Canon C A s) :
    Keeps C A (execJtagUnlockResp resp x s) := by
  unfold execJtagUnlockResp
  refine keeps_next ?_
  refine canon_onCore ?_ h
  intro h
  refine canon_ite h ?_
  refine canon_verifying ?_ h
  intro _ h
  split
  · exact canon_raise (h.update rfl)
  · exact canon_refuse ((canon_newChallenge h).update rfl)

theorem keeps_execRegRead {r : RecCtx} {addr count : HWord} (h : Canon C A s) :
    Keeps C A (execRegRead r addr count s) := by
  unfold execRegRead
  refine keeps_next (canon_recMsg (fun s h => ?_) h)
  dsimp only
  refine canon_ite (canon_noRec h) ?_
  split
  · exact canon_noRec h
  · exact canon_okRec (canon_readRegs h)

theorem keeps_execRegWrite {r : RecCtx} {addr count : HWord} {vals : List HWord} (h : Canon C A s) :
    Keeps C A (execRegWrite r addr count vals s) := by
  unfold execRegWrite
  refine keeps_next (canon_recMsg (fun s h => ?_) h)
  dsimp only
  refine canon_ite (canon_noRec h) ?_
  split
  · exact canon_noRec h
  · exact canon_okRec (canon_storeRegs h)

theorem keeps_execHpNop {cmd : BitVec 4} {f : HpFrame} (h : Canon C A s) : Keeps C A (execHpNop cmd f s) :=
  keeps_next (canon_hpFrame h)

theorem keeps_execHpRead {f : HpFrame} (h : Canon C A s) : Keeps C A (execHpRead f s) := keeps_next (canon_hpFrame h)

theorem keeps_execHpReadFixed {f : HpFrame} (h : Canon C A s) : Keeps C A (execHpReadFixed f s) :=
  keeps_next (canon_hpFrame h)

theorem keeps_execHpWrite {f : HpFrame} (h : Canon C A s) : Keeps C A (execHpWrite f s) := keeps_next (canon_hpFrame h)

theorem keeps_execHpWriteFixed {f : HpFrame} (h : Canon C A s) : Keeps C A (execHpWriteFixed f s) :=
  keeps_next (canon_hpFrame h)

theorem keeps_execHpFrameDiscard {edges : Nat} {notReady : Bool} {t : Nat} (h : Canon C A s) :
    Keeps C A (execHpFrameDiscard edges notReady t s) :=
  keeps_next (canon_onCore (fun h => canon_ite h (canon_discard (canon_atTime h))) h)

theorem keeps_execHpReplyReady (h : Canon C A s) : Keeps C A (execHpReplyReady s) :=
  keeps_next (canon_onCore (fun h => h.update rfl) h)

theorem keeps_execLeaveGrant {i : Fin 96} (h : Canon C A s) : Keeps C A (execLeaveGrant i s) :=
  keeps_next (canon_onCore (fun h => canon_ite (canon_startOp (canon_grantSlot h)) h) h)

theorem keeps_execLeaseEnd {i : Fin 96} (h : Canon C A s) : Keeps C A (execLeaseEnd i s) :=
  keeps_next (canon_onCore (fun h => canon_ite (canon_serveWait (canon_endSlot h)) h) h)

theorem keeps_execReinsDeny {i : Fin 96} (h : Canon C A s) : Keeps C A (execReinsDeny i s) :=
  keeps_next (canon_onCore (fun h => canon_ite (canon_serveWait (canon_denied (canon_raise (canon_failSlot h)))) h) h)

end
end Sys2Proof.Machine
end

section
open Sys2Proof Sys2Proof.Machine
namespace Sys2Proof.Machine

/-! ### Every command -/

/-- Every command but the switch of a COMMIT and the release of a reset keeps the stores and the active set. -/
theorem keeps_exec {C : Prop} {A : CfgSet} {s : State} {i : Instr} (hs : ∀ t, i ≠ .commitSwitch t)
    (hr : ∀ b, i ≠ .resetRelease b) (h : Canon C A s) : Keeps C A (exec i s) := by
  cases i with
  | powerOnReset => exact keeps_execPowerOnReset h
  | brownout => exact keeps_execBrownout h
  | porstNAssert _ => exact keeps_execPorstNAssert h
  | resetRelease b => exact absurd rfl (hr b)
  | bootEnd _ _ => exact keeps_execBootEnd h
  | recoveryReset => exact keeps_execRecoveryReset h
  | sysRst _ _ => exact keeps_execSysRst h
  | resetCommand => exact keeps_execResetCommand h
  | hardReset => exact keeps_execHardReset h
  | frameTick _ => exact keeps_execFrameTick h
  | syncInEdge _ _ _ => exact keeps_execSyncInEdge h
  | holdoverEntry _ => exact keeps_execHoldoverEntry h
  | gptpSyncRx _ _ _ _ => exact keeps_execGptpSyncRx h
  | gptpSyncTx _ => exact keeps_execGptpSyncTx h
  | gptpPdelay _ _ _ => exact keeps_execGptpPdelay h
  | gptpAnnounce _ _ _ _ => exact keeps_execGptpAnnounce h
  | laneStart _ => exact keeps_execLaneStart h
  | entryEnd _ _ => exact keeps_execEntryEnd h
  | resultWrite _ _ _ => exact keeps_execResultWrite h
  | inXfer _ => exact keeps_execInXfer h
  | inXferEnd _ _ => exact keeps_execInXferEnd h
  | cfgmmSet _ => exact keeps_execCfgmmSet h
  | cfgResend _ => exact keeps_execCfgResend h
  | taskRel _ => exact keeps_execTaskRel h
  | taskStart _ => exact keeps_execTaskStart h
  | outXfer _ => exact keeps_execOutXfer h
  | outXferEnd _ => exact keeps_execOutXferEnd h
  | outApply _ => exact keeps_execOutApply h
  | channelApply _ => exact keeps_execChannelApply h
  | xiSend _ => exact keeps_execXiSend h
  | xiDeadline _ => exact keeps_execXiDeadline h
  | bgOpen _ => exact keeps_execBgOpen h
  | bgClose _ => exact keeps_execBgClose h
  | bgTaskStart _ => exact keeps_execBgTaskStart h
  | commitKey _ => exact keeps_execCommitKey h
  | discardKey _ => exact keeps_execDiscardKey h
  | commitCmd _ _ => exact keeps_execCommitCmd h
  | commitChecks _ => exact keeps_execCommitChecks h
  | groupPortionAck _ _ => exact keeps_execGroupPortionAck h
  | commitLinkTimeout _ => exact keeps_execCommitLinkTimeout h
  | commitSwitch t => exact absurd rfl (hs t)
  | eflashWriteDone _ => exact keeps_execEflashWriteDone h
  | modeChange _ => exact keeps_execModeChange h
  | modeSet _ _ => exact keeps_execModeSet h
  | force _ _ => exact keeps_execForce h
  | freeze _ _ => exact keeps_execFreeze h
  | activate _ _ => exact keeps_execActivate h
  | keyDrop _ _ => exact keeps_execKeyDrop h
  | epochRaise _ _ => exact keeps_execEpochRaise h
  | hpTrust _ _ => exact keeps_execHpTrust h
  | signed _ _ => exact keeps_execSigned h
  | diRawChange _ _ _ => exact keeps_execDiRawChange h
  | diFilterChange _ _ => exact keeps_execDiFilterChange h
  | freqGateEnd _ => exact keeps_execFreqGateEnd h
  | chCntclr _ _ _ => exact keeps_execChCntclr h
  | counterClear _ => exact keeps_execCounterClear h
  | testPulseStart _ _ => exact keeps_execTestPulseStart h
  | testPulseEnd _ _ _ => exact keeps_execTestPulseEnd h
  | crossSample _ _ _ _ => exact keeps_execCrossSample h
  | suspect _ => exact keeps_execSuspect h
  | stuckTestEnd _ _ => exact keeps_execStuckTestEnd h
  | openLoad _ => exact keeps_execOpenLoad h
  | wireBreak _ => exact keeps_execWireBreak h
  | wireBreakClear _ => exact keeps_execWireBreakClear h
  | currentLimit _ => exact keeps_execCurrentLimit h
  | thermalShutdown _ _ => exact keeps_execThermalShutdown h
  | thermalRetry _ => exact keeps_execThermalRetry h
  | thermClear _ => exact keeps_execThermClear h
  | groupOvercurrent _ _ => exact keeps_execGroupOvercurrent h
  | demagEnd _ => exact keeps_execDemagEnd h
  | aoRampdownEnd _ => exact keeps_execAoRampdownEnd h
  | dischargeEnd _ => exact keeps_execDischargeEnd h
  | queuedRequestApply _ => exact keeps_execQueuedRequestApply h
  | sensePathOpen _ => exact keeps_execSensePathOpen h
  | sensePathReclose _ => exact keeps_execSensePathReclose h
  | sensePathCheck _ _ => exact keeps_execSensePathCheck h
  | scanEnd _ => exact keeps_execScanEnd h
  | scanModeExit _ => exact keeps_execScanModeExit h
  | interleaveSample _ _ _ => exact keeps_execInterleaveSample h
  | cnvResRead _ _ _ _ _ => exact keeps_execCnvResRead h
  | sweepEnd _ _ => exact keeps_execSweepEnd h
  | overlapEnd _ => exact keeps_execOverlapEnd h
  | lpwarn _ _ => exact keeps_execLpwarn h
  | lpwarnEnd _ _ => exact keeps_execLpwarnEnd h
  | uvoff _ _ => exact keeps_execUvoff h
  | overvoltage _ _ => exact keeps_execOvervoltage h
  | fieldUnpowered _ => exact keeps_execFieldUnpowered h
  | supplyRestored _ _ _ => exact keeps_execSupplyRestored h
  | heartbeat _ => exact keeps_execHeartbeat h
  | holdEntry _ => exact keeps_execHoldEntry h
  | holdTimeout _ => exact keeps_execHoldTimeout h
  | linkLoss _ => exact keeps_execLinkLoss h
  | ihlileLinkUp _ _ _ => exact keeps_execIhlileLinkUp h
  | groupFwLoaded _ => exact keeps_execGroupFwLoaded h
  | chFltclr _ _ _ => exact keeps_execChFltclr h
  | grpFltclr _ _ _ => exact keeps_execGrpFltclr h
  | faultClearApply => exact keeps_execFaultClearApply h
  | leaveGrant _ => exact keeps_execLeaveGrant h
  | leaseEnd _ => exact keeps_execLeaseEnd h
  | reinsDeny _ => exact keeps_execReinsDeny h
  | add _ _ => exact keeps_execAdd h
  | addc _ _ => exact keeps_execAddc h
  | sub _ _ => exact keeps_execSub h
  | subc _ _ => exact keeps_execSubc h
  | cmp _ _ => exact keeps_execCmp h
  | andOp _ _ => exact keeps_execAndOp h
  | orOp _ _ => exact keeps_execOrOp h
  | xorOp _ _ => exact keeps_execXorOp h
  | andn _ _ => exact keeps_execAndn h
  | sll _ _ => exact keeps_execSll h
  | srl _ _ => exact keeps_execSrl h
  | sra _ _ => exact keeps_execSra h
  | ror _ _ => exact keeps_execRor h
  | min _ _ => exact keeps_execMin h
  | max _ _ => exact keeps_execMax h
  | minu _ _ => exact keeps_execMinu h
  | maxu _ _ => exact keeps_execMaxu h
  | abs _ _ => exact keeps_execAbs h
  | clz _ _ => exact keeps_execClz h
  | sextb _ _ => exact keeps_execSextb h
  | sexth _ _ => exact keeps_execSexth h
  | zextb _ _ => exact keeps_execZextb h
  | zexth _ _ => exact keeps_execZexth h
  | mov _ _ => exact keeps_execMov h
  | sel _ _ => exact keeps_execSel h
  | mul _ _ => exact keeps_execMul h
  | mulh _ _ => exact keeps_execMulh h
  | mulhu _ _ => exact keeps_execMulhu h
  | div _ _ => exact keeps_execDiv h
  | divu _ _ => exact keeps_execDivu h
  | rem _ _ => exact keeps_execRem h
  | remu _ _ => exact keeps_execRemu h
  | qadd _ _ => exact keeps_execQadd h
  | qsub _ _ => exact keeps_execQsub h
  | qneg _ _ => exact keeps_execQneg h
  | qabs _ _ => exact keeps_execQabs h
  | qmul _ _ => exact keeps_execQmul h
  | qadd2 _ _ => exact keeps_execQadd2 h
  | qsub2 _ _ => exact keeps_execQsub2 h
  | qmul2 _ _ => exact keeps_execQmul2 h
  | qshl _ _ => exact keeps_execQshl h
  | fadd _ _ => exact keeps_execFadd h
  | fsub _ _ => exact keeps_execFsub h
  | fmul _ _ => exact keeps_execFmul h
  | fma _ _ => exact keeps_execFma h
  | fms _ _ => exact keeps_execFms h
  | fneg _ _ => exact keeps_execFneg h
  | fabs _ _ => exact keeps_execFabs h
  | fcmp _ _ => exact keeps_execFcmp h
  | itof _ _ => exact keeps_execItof h
  | ftoi _ _ => exact keeps_execFtoi h
  | mac _ _ => exact keeps_execMac h
  | msu _ _ => exact keeps_execMsu h
  | mac2 _ _ => exact keeps_execMac2 h
  | mclr _ _ => exact keeps_execMclr h
  | mtm _ _ => exact keeps_execMtm h
  | mfm _ _ => exact keeps_execMfm h
  | mfmh _ _ => exact keeps_execMfmh h
  | mfml _ _ => exact keeps_execMfml h
  | jr _ _ => exact keeps_execJr h
  | callr _ _ => exact keeps_execCallr h
  | addi _ _ => exact keeps_execAddi h
  | andi _ _ => exact keeps_execAndi h
  | ori _ _ => exact keeps_execOri h
  | xori _ _ => exact keeps_execXori h
  | cmpi _ _ => exact keeps_execCmpi h
  | li _ _ => exact keeps_execLi h
  | lui _ _ => exact keeps_execLui h
  | slli _ _ => exact keeps_execSlli h
  | srli _ _ => exact keeps_execSrli h
  | srai _ _ => exact keeps_execSrai h
  | bcc _ _ => exact keeps_execBcc h
  | jump _ _ => exact keeps_execJump h
  | call _ _ => exact keeps_execCall h
  | ld _ _ => exact keeps_execLd h
  | st _ _ => exact keeps_execSt h
  | budget _ => exact keeps_execBudget h
  | pin _ _ => exact keeps_execPin h
  | pout _ _ => exact keeps_execPout h
  | pids _ _ => exact keeps_execPids h
  | ramp _ _ => exact keeps_execRamp h
  | limitOp _ _ => exact keeps_execLimitOp h
  | tickwait _ _ => exact keeps_execTickwait h
  | checkin _ _ => exact keeps_execCheckin h
  | leave _ _ => exact keeps_execLeave h
  | leaveQuery _ _ => exact keeps_execLeaveQuery h
  | evraise _ _ => exact keeps_execEvraise h
  | endTask _ _ => exact keeps_execEndTask h
  | svcNop _ _ => exact keeps_execSvcNop h
  | svcNettime _ _ => exact keeps_execSvcNettime h
  | svcFrmno _ _ => exact keeps_execSvcFrmno h
  | svcJournal _ _ => exact keeps_execSvcJournal h
  | svcDevinfo _ _ => exact keeps_execSvcDevinfo h
  | svcXiSend _ _ => exact keeps_execSvcXiSend h
  | svcXiRecv _ _ => exact keeps_execSvcXiRecv h
  | svcLogRead _ _ => exact keeps_execSvcLogRead h
  | svcNvRead _ _ => exact keeps_execSvcNvRead h
  | svcNvWrite _ _ => exact keeps_execSvcNvWrite h
  | svcUnassigned _ _ _ => exact keeps_execSvcUnassigned h
  | serviceComplete _ _ => exact keeps_execServiceComplete h
  | evtRecclr _ _ => exact keeps_execEvtRecclr h
  | eventMsg => exact keeps_execEventMsg h
  | hello _ _ _ => exact keeps_execHello h
  | idRead _ => exact keeps_execIdRead h
  | certLoad _ _ _ => exact keeps_execCertLoad h
  | sessInit _ _ => exact keeps_execSessInit h
  | sessFin _ _ _ _ => exact keeps_execSessFin h
  | sessClose _ => exact keeps_execSessClose h
  | handshakeTimeout _ _ => exact keeps_execHandshakeTimeout h
  | sessionIdle _ _ => exact keeps_execSessionIdle h
  | sessionLoss => exact keeps_execSessionLoss h
  | peerContextEnd _ _ _ => exact keeps_execPeerContextEnd h
  | claim _ _ _ => exact keeps_execClaim h
  | transfer _ _ _ => exact keeps_execTransfer h
  | regRead _ _ _ => exact keeps_execRegRead h
  | regWrite _ _ _ _ => exact keeps_execRegWrite h
  | logRead _ _ _ _ _ => exact keeps_execLogRead h
  | eventSub _ _ => exact keeps_execEventSub h
  | cyclicBind _ => exact keeps_execCyclicBind h
  | cyclicUnbind _ => exact keeps_execCyclicUnbind h
  | app _ _ _ _ => exact keeps_execApp h
  | arpRequest _ _ _ => exact keeps_execArpRequest h
  | icmpEcho _ _ _ _ => exact keeps_execIcmpEcho h
  | ethFrameForward _ _ => exact keeps_execEthFrameForward h
  | macAgeing _ _ _ => exact keeps_execMacAgeing h
  | gateEntryEnd _ => exact keeps_execGateEntryEnd h
  | portLinkChange _ _ _ => exact keeps_execPortLinkChange h
  | feedRx _ _ => exact keeps_execFeedRx h
  | trainLaunch => exact keeps_execTrainLaunch h
  | carriageRx _ _ _ => exact keeps_execCarriageRx h
  | segmentVerified _ _ _ => exact keeps_execSegmentVerified h
  | trainReturn _ => exact keeps_execTrainReturn h
  | ringOpen _ => exact keeps_execRingOpen h
  | ringClose => exact keeps_execRingClose h
  | hpNop _ _ => exact keeps_execHpNop h
  | hpRead _ => exact keeps_execHpRead h
  | hpReadFixed _ => exact keeps_execHpReadFixed h
  | hpWrite _ => exact keeps_execHpWrite h
  | hpWriteFixed _ => exact keeps_execHpWriteFixed h
  | hpFrameDiscard _ _ _ => exact keeps_execHpFrameDiscard h
  | hpReplyReady => exact keeps_execHpReplyReady h
  | hpLen _ _ => exact keeps_execHpLen h
  | secMbin _ _ => exact keeps_execSecMbin h
  | mailboxSend _ _ => exact keeps_execMailboxSend h
  | mailboxClear _ _ => exact keeps_execMailboxClear h
  | mailboxReply => exact keeps_execMailboxReply h
  | mailboxOutRead _ => exact keeps_execMailboxOutRead h
  | xpStart _ _ => exact keeps_execXpStart h
  | xpReadyResume => exact keeps_execXpReadyResume h
  | xpReadyTimeout _ => exact keeps_execXpReadyTimeout h
  | xpTransferDone _ => exact keeps_execXpTransferDone h
  | xipLineFill _ _ => exact keeps_execXipLineFill h
  | xipFillDone _ => exact keeps_execXipFillDone h
  | crcCfg _ _ _ => exact keeps_execCrcCfg h
  | crcDin8 _ _ _ => exact keeps_execCrcDin8 h
  | crcDin16 _ _ _ => exact keeps_execCrcDin16 h
  | crcRunSave _ _ => exact keeps_execCrcRunSave h
  | crcRunRestore _ _ _ => exact keeps_execCrcRunRestore h
  | frameRecord => exact keeps_execFrameRecord h
  | waveBlockWrite _ => exact keeps_execWaveBlockWrite h
  | logWfarm _ _ => exact keeps_execLogWfarm h
  | waveCaptureStop => exact keeps_execWaveCaptureStop h
  | telemetryRecord _ _ _ => exact keeps_execTelemetryRecord h
  | tempWarn _ _ => exact keeps_execTempWarn h
  | supplyWarn _ _ => exact keeps_execSupplyWarn h
  | sramScrubDone _ => exact keeps_execSramScrubDone h
  | logbookScrubDone _ => exact keeps_execLogbookScrubDone h
  | eflashVerifyDone _ => exact keeps_execEflashVerifyDone h
  | backgroundStarved _ => exact keeps_execBackgroundStarved h
  | frzSnap _ _ => exact keeps_execFrzSnap h
  | snapshotWrite => exact keeps_execSnapshotWrite h
  | wdtServe _ _ _ => exact keeps_execWdtServe h
  | watchdogExpiry => exact keeps_execWatchdogExpiry h
  | tallyPeriodEnd => exact keeps_execTallyPeriodEnd h
  | freezeNRequest => exact keeps_execFreezeNRequest h
  | jtagFreeze => exact keeps_execJtagFreeze h
  | freezeStop _ => exact keeps_execFreezeStop h
  | frzRead _ => exact keeps_execFrzRead h
  | jtagIdcode => exact keeps_execJtagIdcode h
  | jtagUnlockChal => exact keeps_execJtagUnlockChal h
  | jtagUnlockResp _ _ => exact keeps_execJtagUnlockResp h
  | jtagUnlockStat => exact keeps_execJtagUnlockStat h
  | updateBegin _ => exact keeps_execUpdateBegin h
  | manifest _ _ _ _ => exact keeps_execManifest h
  | chunk _ _ _ _ _ => exact keeps_execChunk h
  | chunkWritten _ _ => exact keeps_execChunkWritten h
  | groupImageAck _ _ => exact keeps_execGroupImageAck h
  | groupImageTimeout _ => exact keeps_execGroupImageTimeout h
  | updateAbort _ => exact keeps_execUpdateAbort h
  | updateStatus _ => exact keeps_execUpdateStatus h
  | updateLockTimeout _ => exact keeps_execUpdateLockTimeout h
  | activateMarker => exact keeps_execActivateMarker h
  | trialChecks => exact keeps_execTrialChecks h
  | healthConfirm _ => exact keeps_execHealthConfirm h
  | updHealth _ _ => exact keeps_execUpdHealth h
  | confirmation => exact keeps_execConfirmation h
  | updateRevert _ => exact keeps_execUpdateRevert h
  | updRevert _ _ => exact keeps_execUpdRevert h
  | trialTimeout _ => exact keeps_execTrialTimeout h
  | revertMarker => exact keeps_execRevertMarker h
  | calUserReset _ _ => exact keeps_execCalUserReset h
  | calDataWrite _ _ => exact keeps_execCalDataWrite h
  | registerWrite _ _ _ => exact keeps_execRegisterWrite h
  | inrushWindowEnd _ => exact keeps_execInrushWindowEnd h
  | pwmTransition _ => exact keeps_execPwmTransition h
  | ovc _ _ => exact keeps_execOvc h
  | readWithSnapshot _ _ => exact keeps_execReadWithSnapshot h

/-- Every command keeps the canonical form; the two that change the active set make another canonical set the active one. -/
theorem exec_keeps_canonical {C : Prop} {A : CfgSet} {s t : State} {i : Instr} (h : Canon C A s)
    (ht : exec i s = .next t) : ∃ B, Canon C B t := by
  by_cases hs : ∃ t0, i = .commitSwitch t0
  · obtain ⟨t0, rfl⟩ := hs
    obtain ⟨B, u, hu, hB⟩ := execCommitSwitch_canon (t := t0) h
    cases ht.symm.trans hu
    exact ⟨B, hB⟩
  by_cases hr : ∃ b, i = .resetRelease b
  · obtain ⟨b, rfl⟩ := hr
    obtain ⟨B, u, hu, hB⟩ := execResetRelease_canon (b := b) h
    cases ht.symm.trans hu
    exact ⟨B, hB⟩
  exact ⟨A, keeps_exec (fun t0 e => hs ⟨t0, e⟩) (fun b e => hr ⟨b, e⟩) h t ht⟩

/-- Settles O3: a step runs the command at the front of the queue, or none is there and the state stays. -/
theorem everyStepKeepsStoresCanonical : Obligations.EveryStepKeepsStoresCanonical := by
  unfold Obligations.EveryStepKeepsStoresCanonical
  intro s t h ht
  unfold step at ht
  split at ht
  · cases ht
    exact h
  · next c rest _ =>
    have hs : Canon True s.cfg.active { s with pending := rest } := h.canon.update rfl
    obtain ⟨B, hB⟩ := exec_keeps_canonical hs ht
    exact hB.storesCanonical

/-- Settles O4: of the active set alone, nothing need be known of the stores. -/
theorem onlySwitchAndBootChangeTheActiveSet : Obligations.OnlySwitchAndBootChangeTheActiveSet := by
  unfold Obligations.OnlySwitchAndBootChangeTheActiveSet
  intro s t i ht hne
  by_contra hn
  obtain ⟨hs, hr⟩ := not_or.1 hn
  have h : Canon False s.cfg.active t :=
    keeps_exec (fun t0 e => hs ⟨t0, e⟩) (fun b e => hr ⟨b, e⟩) (canon_false_iff.2 rfl) t ht
  exact hne h.active

/-- Settles O2: no store lists an entry after reset. -/
theorem storesAreCanonicalAtReset : Obligations.StoresAreCanonicalAtReset := by
  unfold Obligations.StoresAreCanonicalAtReset
  have hc : ∀ c : CoreId, State.reset.core[c] = .reset := by simp [State.reset]
  have hg : ∀ g : GroupId, State.reset.grp[g] = .reset := by simp [State.reset]
  refine ⟨rfl, rfl, rfl, fun c => ?_, rfl, rfl, nofun, nofun, nofun, fun g => ?_, rfl, rfl⟩
  · rw [hc c]
    exact ⟨rfl, rfl, rfl, nofun⟩
  · rw [hg g]
    exact ⟨rfl, nofun⟩

end Sys2Proof.Machine
end

section
/-! Register writes (R4 to R6, R314, R429): what each write reaches, and the configuration registers as a store. -/

open Sys2Proof Sys2Proof.Machine
namespace Sys2Proof.Machine

/-! ### Canonical stores with equal contents are equal -/

section
variable {w : Nat} {d : Nat → BitVec w}

theorem spGet_ne_of_head {m : Sparse w} {lo a : Nat} {v : BitVec w} (h : spWfFrom d lo ((a, v) :: m) = true) :
    spGet d ((a, v) :: m) a ≠ d a := by
  simp only [spWfFrom, Bool.and_eq_true, decide_eq_true_eq] at h
  simpa [spGet] using h.1.2

theorem sparse_ext_from {m m' : Sparse w} {lo : Nat} (h : spWfFrom d lo m = true) (h' : spWfFrom d lo m' = true)
    (e : ∀ k, spGet d m k = spGet d m' k) : m = m' := by
  induction m generalizing m' lo with
  | nil =>
    cases m' with
    | nil => rfl
    | cons y t =>
      obtain ⟨b, x⟩ := y
      exact absurd (e b).symm (spGet_ne_of_head h')
  | cons y t ih =>
    obtain ⟨a, v⟩ := y
    cases m' with
    | nil => exact absurd (e a) (spGet_ne_of_head h)
    | cons y' t' =>
      obtain ⟨b, x⟩ := y'
      have hne := spGet_ne_of_head h
      have hne' := spGet_ne_of_head h'
      simp only [spWfFrom, Bool.and_eq_true, decide_eq_true_eq] at h h'
      have below : ∀ {c k z} {l : Sparse w}, spWfFrom d (c + 1) l = true → k < c → spGet d ((c, z) :: l) k = d k := by
        intro c k z l hl hk
        rw [spGet, if_neg (by omega)]
        exact spGet_below hl (by omega)
      obtain hab | rfl | hab := Nat.lt_trichotomy a b
      · exact absurd ((e a).trans (below h'.2 hab)) hne
      · have hv : v = x := by simpa [spGet] using e a
        rw [hv, ih h.2 h'.2 fun k => ?_]
        by_cases hk : a = k
        · subst hk
          rw [spGet_below h.2 (Nat.lt_succ_self _), spGet_below h'.2 (Nat.lt_succ_self _)]
        · simpa [spGet, hk] using e k
      · exact absurd ((e b).symm.trans (below h.2 hab)) hne'

/-- A canonical store is its contents. -/
theorem sparse_ext {m m' : Sparse w} (h : spWf d m = true) (h' : spWf d m' = true) (e : ∀ k, spGet d m k = spGet d m' k) :
    m = m' := sparse_ext_from h h' e

/-- Writing back what a key read as undoes a write. -/
theorem spPut_spPut_spGet {m : Sparse w} {k : Nat} {x : BitVec w} (h : spWf d m = true) :
    spPut d (spPut d m k x) k (spGet d m k) = m := by
  refine sparse_ext (spPut_wf (spPut_wf h)) h fun j => ?_
  rw [spGet_spPut (spPut_wf h), spGet_spPut h]
  split
  · next hj => rw [hj]
  · rfl

end

/-! ### Registers of a set -/

section
variable {c : CfgSet} {a : Nat} {v : HWord}

theorem reg_setReg_same (h : c.wf = true) : (c.setReg a v).reg a = v &&& cmMask a := by
  rw [CfgSet.reg, CfgSet.setReg, spGet_spPut (cfgWf_iff.1 h).regs, if_pos rfl]

theorem reg_setReg_other {b : Nat} (h : c.wf = true) (hb : b ≠ a) : (c.setReg a v).reg b = c.reg b := by
  rw [CfgSet.reg, CfgSet.setReg, spGet_spPut (cfgWf_iff.1 h).regs, if_neg hb, CfgSet.reg]

theorem setReg_setReg_reg (h : c.wf = true) (hm : c.reg a &&& cmMask a = c.reg a) :
    (c.setReg a v).setReg a (c.reg a) = c := by
  have hr : spPut cmReset (spPut cmReset c.regs a (v &&& cmMask a)) a (c.reg a) = c.regs :=
    spPut_spPut_spGet (cfgWf_iff.1 h).regs
  rw [CfgSet.setReg, CfgSet.setReg, hm, hr]

end

/-! ### Kinds of addresses -/

section
variable {a : Nat}

/-- CM fields lie below 0x3800, and not between 0x1800 and 0x2000. -/
theorem isCm_bounds (h : isCm a = true) : a < 0x3800 ∧ ¬(0x1800 ≤ a ∧ a < 0x2000) := by
  by_contra hn
  have hc : cmInfo a = (0, 0) := by
    unfold cmInfo
    by_cases hhi : a < 0x3800
    · rw [if_neg (by omega), if_neg (by omega), if_pos (by omega)]
    · rw [if_neg (by omega), if_neg (by omega), if_neg (by omega), if_neg (by omega), if_neg (by omega)]
  simp [isCm, cmMask, hc] at h

theorem isMirror_iff : isMirror a = true ↔ 0x5800 ≤ a ∧ a < 0x5E00 := by
  simp [isMirror, inBlock]

theorem isMirror_of_isCm (h : isCm a = true) : isMirror a = false := by
  have := isCm_bounds h
  rw [← Bool.not_eq_true, isMirror_iff]
  omega

theorem isStg_of_lt (h : a < 0x4000) : isStg a = false := by
  simp [isStg, Nat.not_le.2 h]

/-- The addresses of a block, one by one. -/
theorem inBlock_one {b n : Nat} (h : inBlock a b 1 n = true) : ∃ k < n, a = b + k := by
  simp only [inBlock, Bool.and_eq_true, decide_eq_true_eq] at h
  exact ⟨a - b, by omega, by omega⟩

theorem isCm_block {b n : Nat} (hb : ∀ k < n, isCm (b + k) = false) (h : inBlock a b 1 n = true) : isCm a = false := by
  obtain ⟨k, hk, rfl⟩ := inBlock_one h
  exact hb k hk

theorem isCm_grp (hlo : 0x1000 ≤ a) (hhi : a < 0x1800) : isCm a = decide ((cmGrp (a % 0x100)).1 ≠ 0) := by
  rw [isCm, cmMask, cmInfo, if_neg (by omega), if_pos hhi]

theorem isCm_ch (hlo : 0x2000 ≤ a) (hhi : a < 0x3000) : isCm a = decide ((cmCh (a % 0x40)).1 ≠ 0) := by
  rw [isCm, cmMask, cmInfo, if_neg (by omega), if_neg (by omega), if_neg (by omega), if_pos hhi]

/-- A register with W1C bits has no CM field. -/
theorem isCm_of_isW1c (h : isW1c a = true) : isCm a = false := by
  unfold isW1c at h
  split at h
  · simp only [Bool.or_eq_true, decide_eq_true_eq, Bool.and_eq_true] at h
    obtain ((((((((((((rfl | rfl) | rfl) | h) | h) | rfl) | h) | rfl) | rfl) | rfl) | h) | rfl) | ⟨h, h3⟩) | rfl := h
    · rfl
    · rfl
    · rfl
    · exact isCm_block (b := 0x0280) (n := 8) (by decide) h
    · exact isCm_block (b := 0x0290) (n := 8) (by decide) h
    · rfl
    · exact isCm_block (b := 0x0311) (n := 8) (by decide) h
    · rfl
    · rfl
    · rfl
    · exact isCm_block (b := 0x0804) (n := 3) (by decide) h
    · rfl
    · simp only [inBlock, Bool.and_eq_true, decide_eq_true_eq] at h
      have hk : ∀ k < 5, isCm (0x0C03 + 8 * k) = false := by decide
      rw [show a = 0x0C03 + 8 * ((a - 0x0C00) / 8) by omega]
      exact hk _ (by omega)
    · rfl
  · next hlo =>
    split at h
    · next hhi =>
      rw [isCm_grp (by omega) hhi]
      simp only [Bool.or_eq_true, decide_eq_true_eq] at h
      obtain ((h | h) | h) | h := h
      all_goals
        rw [h]
        rfl
    · split at h
      · cases h
      · split at h
        · next h1 h2 h3 =>
          rw [isCm_ch (by omega) h3]
          simp only [Bool.or_eq_true, decide_eq_true_eq] at h
          obtain h | h := h
          all_goals
            rw [h]
            rfl
        · simp only [decide_eq_true_eq] at h
          subst h
          rfl

/-- A write of another address reaches its register as it is. -/
theorem sameCycle_of_not_w1c {v same : HWord} (h : isW1c a = false) : sameCycle a v same = v := by
  simp [sameCycle, h]

end

/-! ### What a write stores -/

section
variable {s : State} {acc : Access} {a : Nat} {v : HWord}

/-- A write that its authority allows has its effect. -/
theorem guarded_of_allowed {f : State → State} (h : WriteAllowed s acc a v) : guarded acc a v f s = f s := by
  obtain ⟨hc, hw⟩ := h
  unfold guarded onCore
  rw [if_pos hc]
  cases acc with
  | core c => simp only [hw, Bool.false_eq_true, if_false]
  | _ => simp only [hw]

theorem exec_registerWrite {addr same : HWord} (h : WriteAllowed s acc addr.toNat v) :
    exec (.registerWrite acc addr ⟨v, same⟩) s = .next (storeReg acc addr.toNat (sameCycle addr.toNat v same) s) :=
  congrArg _ (guarded_of_allowed h)

theorem plainCm_iff : plainCm a = true ↔ isCm a = true ∧ a ≠ 0x0109 ∧ a ≠ 0x0112 ∧ a ≠ 0x0113 ∧ a ≠ 0x0884 ∧ a ≠ 0x0885 ∧
    a ≠ 0x0886 ∧ a ≠ 0x3002 ∧ a ≠ 0x3003 := by
  simp [plainCm, and_assoc]

theorem storeCm_plain (h : plainCm a = true) :
    storeCm acc a v s = { s with cfg := { s.cfg with staged := s.cfg.staged.setReg a v } } := by
  obtain ⟨-, -, h112, h113, h884, h885, h886, h3002, h3003⟩ := plainCm_iff.1 h
  have hg : ¬inBlock a 0x0884 1 3 = true := by
    simp only [inBlock, Bool.and_eq_true, decide_eq_true_eq]
    omega
  simp only [storeCm, cmPut, h3002, h3003, h112, h113, hg, or_self, if_false, Bool.false_eq_true]

theorem storeReg_cm (h : isCm a = true) : storeReg acc a v s = storeCm acc a v s := by
  have hb := isCm_bounds h
  have hm : ¬isMirror a = true := by rw [isMirror_of_isCm h]; exact Bool.false_ne_true
  have hs : ¬isStg a = true := by rw [isStg_of_lt (by omega)]; exact Bool.false_ne_true
  rw [storeReg, if_neg hm, if_neg hs, if_pos h]

theorem storeReg_stg (h : isCm (a - 0x4000) = true) (hlo : 0x4000 ≤ a) (hm : isMirror a = false) :
    storeReg acc a v s = storeCm acc (a - 0x4000) v s := by
  have hs : isStg a = true := by
    have hb := isCm_bounds h
    simp only [isStg, Bool.and_eq_true, decide_eq_true_eq]
    exact ⟨⟨hlo, by omega⟩, h⟩
  rw [storeReg, hm, if_neg Bool.false_ne_true, if_pos hs]

/-- EVT_PEND: the bits of the written word are cleared. -/
theorem storeReg_evtPend (hlo : 0x0280 ≤ a) (hhi : a < 0x0288) : storeReg acc a v s =
    { s with evt := { s.evt with
      pend := w1c s.evt.pend (atWord v (a - 0x0280)), irq := w1c s.evt.irq (atWord v (a - 0x0280)) } } := by
  have hb : inBlock a 0x0280 1 8 = true := by simp [inBlock, hlo, hhi]
  have hcm : isCm a = false := isCm_block (by decide) hb
  have hm : isMirror a = false := by rw [← Bool.not_eq_true, isMirror_iff]; omega
  have h40 : inBlock a 0x0040 8 4 = false := by
    simp only [inBlock, Bool.and_eq_false_iff, decide_eq_false_iff_not]
    omega
  rw [storeReg, hm, isStg_of_lt (by omega), hcm]
  simp only [Bool.false_eq_true, if_false]
  rw [if_pos (by omega), storeSys]
  dsimp only
  rw [if_neg (by omega), if_neg (by omega), if_neg (by omega), if_neg (by omega), h40, if_neg Bool.false_ne_true,
    if_neg (by omega), if_neg (by omega), if_neg (by omega), if_pos hb]

/-! ### The mode does not change -/

@[simp] theorem raise_sys (e : Fin 128) (p : W32) : (raise e p s).sys = s.sys := by
  have h : apartFromEvents (raise e p s) = apartFromEvents s := raise_frame e p s
  have hs := congrArg State.sys h
  exact hs

theorem each_congr {α β : Type} {l : List α} {f : α → State → State} {π : State → β} (h : ∀ x s, π (f x s) = π s) :
    π (each l f s) = π s := by
  induction l generalizing s with
  | nil => rfl
  | cons x l ih => exact ih.trans (h x s)

@[simp] theorem refuse_sys (i : Fin 4) (c : Byte) : (refuse i c s).sys = s.sys := by
  unfold refuse
  dsimp only
  split
  · rfl
  · rw [raise_sys]

@[simp] theorem safeTrigger_mode : (safeTrigger s).sys.mode = s.sys.mode := by
  unfold safeTrigger
  split <;> rfl

theorem nmiCore_sys (c : CoreId) : (nmiCore c s).sys = s.sys := by
  unfold nmiCore
  dsimp only
  split
  · rfl
  · split <;> rfl

@[simp] theorem fireWdt_mode (b : Bool) : (fireWdt b s).sys.mode = s.sys.mode := by
  unfold fireWdt
  have he : (each cores nmiCore s).sys = s.sys := each_congr fun c _ => nmiCore_sys c
  simp [he]

@[simp] theorem trialFail_sys (r : BitVec 4) : (trialFail r s).sys = s.sys := by
  unfold trialFail
  split <;> rfl

@[simp] theorem requestCommit_sys (src : BitVec 2) (q : Option QCmd) : (requestCommit src q s).sys = s.sys := by
  unfold requestCommit
  split
  · simp
  · rfl

theorem holdCtx_sys (x : Option CtxId) : (holdCtx x s).sys = s.sys := by
  unfold holdCtx
  split <;> rfl

theorem startJob_sys (j : XpJob) : (startJob j s).sys = s.sys := by
  unfold startJob
  dsimp only
  split <;> rfl

theorem storeXpCmd_sys : (storeXpCmd v s).sys = s.sys := by
  unfold storeXpCmd
  split
  · rfl
  split
  · rfl
  · next bits tx rx _ =>
    extract_lets dev len s1 s2 j _ s3
    have h1 : s1.sys = s.sys := (holdCtx_sys rx).trans (holdCtx_sys tx)
    have h2 : s2.sys = s.sys := by
      refine Eq.trans ?_ h1
      unfold s2
      cases tx with
      | none => rfl
      | some t => rfl
    split
    · exact h2
    · exact (startJob_sys j).trans h2

@[simp] theorem storeXp_sys : (storeXp acc a v s).sys = s.sys := by
  simp only [storeXp, apply_ite State.sys, storeXpCmd_sys, modRdr_sys, ite_self]

theorem crcStore_sys (x : CtxId) (f : Crc → Crc) : (crcStore x f s).sys = s.sys := by
  unfold crcStore
  split <;> rfl

@[simp] theorem storeCrc_sys (x : CtxId) (o : Nat) : (storeCrc x o v s).sys = s.sys := by
  simp only [storeCrc, apply_ite State.sys, crcStore_sys, ite_self]

@[simp] theorem storePort_sys : (storePort acc a v s).sys = s.sys := by
  simp only [storePort, storeHpLen, apply_ite State.sys, storeCrc_sys, storeXp_sys, ite_self]

@[simp] theorem storeNet_sys : (storeNet acc a v s).sys = s.sys := by
  simp only [storeNet, storeWfarm, apply_ite State.sys, modPort_sys, modRdr_sys, modBuf_sys, ite_self]

@[simp] theorem storeGrp_sys (g : GroupId) (o : Nat) : (storeGrp acc g o v s).sys = s.sys := by
  have he : ∀ s : State, (each (chansOf g) (fun n s => modFlt s n fun f => { f with clrReq := true }) s).sys = s.sys :=
    fun s => each_congr fun n s => modFlt_sys s n _
  simp only [storeGrp, storeGrpFltclr, apply_ite State.sys, he, modGrp_sys, ite_self]

@[simp] theorem storeCh_sys (n : ChanId) (o : Nat) : (storeCh acc n o v s).sys = s.sys := by
  simp only [storeCh, storeCntclr, storeChFltclr, apply_ite State.sys, modDi_sys, modAi_sys, modFlt_sys, ite_self]

@[simp] theorem storeCal_sys : (storeCal acc a v s).sys = s.sys := by
  simp only [storeCal, storeUserReset, apply_ite State.sys, modRdr_sys, ite_self]

theorem noteBadIdx_sys (r : Rdr) : (noteBadIdx r s).sys = s.sys := by
  unfold noteBadIdx
  split <;> rfl

theorem storeCalData_sys : (storeCalData acc a v s).sys = s.sys := by
  unfold storeCalData
  dsimp only
  split
  · split
    · exact noteBadIdx_sys _
    · exact noteBadIdx_sys _
  · rw [modRdr_sys]
    split
    · split
      · exact noteBadIdx_sys _
      · exact noteBadIdx_sys _
    · exact noteBadIdx_sys _

@[simp] theorem storeCm_sys : (storeCm acc a v s).sys = s.sys := by
  simp only [storeCm, apply_ite State.sys, storeCalData_sys, modRdr_sys, ite_self]

@[simp] theorem storeSys_mode : (storeSys acc a v s).sys.mode = s.sys.mode := by
  have hr : (storeSysRst acc v s).sys.mode = s.sys.mode := by
    unfold storeSysRst
    split
    · rfl
    · split <;> rfl
  have hd : ∀ i, (storeDlv acc i v s).sys = s.sys := by
    intro i
    unfold storeDlv
    split <;> rfl
  simp only [storeSys, storeCmtCtl, storeRecclr, apply_ite (fun s : State => s.sys.mode), hr, hd, requestCommit_sys, modCore_sys,
    modRdr_sys,
    ite_self]

@[simp] theorem storeSup_mode : (storeSup acc a v s).sys.mode = s.sys.mode := by
  have hw : (storeWdt acc v s).sys.mode = s.sys.mode := by
    simp only [storeWdt, apply_ite (fun s : State => s.sys.mode), fireWdt_mode, ite_self]
  have hi : (storeMbin acc v s).sys = s.sys := by
    unfold storeMbin
    split <;> rfl
  have hm : (storeMbctl acc v s).sys = s.sys := by
    unfold storeMbctl mailboxSend
    split
    · rfl
    · split
      · simp only [apply_ite State.sys, refuse_sys, ite_self]
      · rfl
      · rfl
  have hh : (storeHealth acc v s).sys = s.sys := by
    unfold storeHealth
    split
    · rfl
    · split <;> rfl
  have hv : (storeRevert acc v s).sys = s.sys := by
    unfold storeRevert
    split
    · rfl
    · split
      · rfl
      · exact trialFail_sys _
      · exact trialFail_sys _
  simp only [storeSup, apply_ite (fun s : State => s.sys.mode), hw, hi, hm, hh, hv, ite_self]

/-- No register write changes the mode. -/
theorem storeReg_mode : (storeReg acc a v s).sys.mode = s.sys.mode := by
  simp only [storeReg, apply_ite (fun s : State => s.sys.mode), storeCm_sys, storeSys_mode, storeSup_mode, storePort_sys,
    storeNet_sys, storeGrp_sys, storeCh_sys, storeCal_sys, ite_self]

/-! ### A hole takes no write -/

theorem ne_of_plainLow {k : Nat} (h : plainLow a = false) (hk : plainLow k = true) : a ≠ k := by
  rintro rfl
  rw [h] at hk
  cases hk

theorem storeSys_hole (h : plainLow a = false) : storeSys acc a v s = s := by
  have hb : ¬inBlock a 0x0280 1 30 = true := fun e => by simp [plainLow, e] at h
  have h40 : inBlock a 0x0040 8 4 = true → ¬a % 8 = 6 := fun e h6 => by simp [plainLow, e, h6] at h
  simp only [inBlock, Bool.and_eq_true, decide_eq_true_eq] at hb
  unfold storeSys
  dsimp only
  rw [if_neg (ne_of_plainLow h rfl), if_neg (ne_of_plainLow h rfl), if_neg (ne_of_plainLow h rfl),
    if_neg (ne_of_plainLow h rfl)]
  split
  · next e => rw [if_neg (h40 e)]
  · simp only [inBlock, Bool.and_eq_true, decide_eq_true_eq]
    rw [if_neg (ne_of_plainLow h rfl), if_neg (ne_of_plainLow h rfl), if_neg (ne_of_plainLow h rfl), if_neg (by omega),
      if_neg (by omega), if_neg (by omega), if_neg (by omega), if_neg (by omega)]

theorem storeSup_hole (h : plainLow a = false) : storeSup acc a v s = s := by
  have hb : ¬inBlock a 0x0311 1 12 = true := fun e => by simp [plainLow, e] at h
  simp only [inBlock, Bool.and_eq_true, decide_eq_true_eq] at hb
  have hn : ∀ {k}, plainLow k = true → a ≠ k := ne_of_plainLow h
  rw [storeSup, if_neg (hn rfl), if_neg (hn rfl), if_neg (by omega), if_neg (by omega), if_neg (hn rfl), if_neg (hn rfl),
    if_neg (hn rfl), if_neg (hn rfl), if_neg (hn rfl), if_neg (hn rfl), if_neg (hn rfl), if_neg (hn rfl), if_neg (hn rfl)]

theorem storePort_hole (h : plainLow a = false) : storePort acc a v s = s := by
  have h7C0 : inBlock a 0x07C0 8 4 = true → a % 8 = 7 := fun e => by
    by_contra h7
    simp [plainLow, e, h7] at h
  have hn : ∀ {k}, plainLow k = true → a ≠ k := ne_of_plainLow h
  rw [storePort, if_neg (hn rfl), if_neg (hn rfl), if_neg (hn rfl), if_neg (hn rfl)]
  split
  · next e =>
    rw [h7C0 e]
    rfl
  · rw [if_neg (hn rfl), storeXp]
    dsimp only
    rw [if_neg (hn rfl), if_neg (hn rfl), if_neg (hn rfl), if_neg (hn rfl), if_neg (hn rfl), if_neg (hn rfl),
      if_neg (hn rfl)]

theorem storeNet_hole (h : plainLow a = false) : storeNet acc a v s = s := by
  have hb : ∀ {b n c}, (inBlock a b n c = true → plainLow a = true) → ¬inBlock a b n c = true := fun hb e => by
    rw [h] at hb
    cases hb e
  have hn : ∀ {k}, plainLow k = true → a ≠ k := ne_of_plainLow h
  rw [storeNet, if_neg (hb fun e => by simp [plainLow, e]), if_neg (hn rfl), if_neg (hn rfl), if_neg (hn rfl), if_neg (hn rfl),
    if_neg (hb fun e => by simp [plainLow, e]), if_neg (hn rfl), if_neg (hn rfl), if_neg (hn rfl), if_neg (hn rfl),
    if_neg (hb fun e => by simp [plainLow, e])]

theorem storeGrp_hole {g : GroupId} {o : Nat} (ho : inBlock o 0x12 1 2 = false) (hs : inBlock o 0x16 1 16 = false)
    (hc : inBlock o 0x27 1 3 = false) : storeGrp acc g o v s = s := by
  simp only [inBlock, Bool.and_eq_false_iff, decide_eq_false_iff_not] at ho hs hc
  rw [storeGrp, if_neg (by omega), if_neg (by omega), if_neg (by omega)]

theorem storeCh_hole {n : ChanId} {o : Nat} (h8 : inBlock o 0x08 1 4 = false) (h15 : inBlock o 0x15 1 2 = false)
    (h1A : inBlock o 0x1A 1 4 = false) : storeCh acc n o v s = s := by
  simp only [inBlock, Bool.and_eq_false_iff, decide_eq_false_iff_not] at h8 h15 h1A
  rw [storeCh, if_neg (by omega), if_neg (by omega), if_neg (by omega), if_neg (by omega)]

theorem storeCal_hole (h : inBlock a 0x3000 1 6 = false) : storeCal acc a v s = s := by
  simp only [inBlock, Bool.and_eq_false_iff, decide_eq_false_iff_not] at h
  rw [storeCal, if_neg (by omega), if_neg (by omega), if_neg (by omega), if_neg (by omega)]

/-- A write of a hole or of the mirror does nothing. -/
theorem storeReg_hole (h : isReg a = false ∨ isMirror a = true) : storeReg acc a v s = s := by
  unfold storeReg
  split
  · rfl
  · next hm =>
    have hr := h.resolve_right hm
    simp only [isReg, Bool.or_eq_false_iff] at hr
    obtain ⟨⟨⟨hcm, hstg⟩, -⟩, hp⟩ := hr
    rw [hcm, hstg, if_neg Bool.false_ne_true, if_neg Bool.false_ne_true]
    split at hp
    · rw [storeSys_hole hp, storeSup_hole hp, storePort_hole hp, storeNet_hole hp]
      simp only [ite_self, if_pos ‹a < 0x1000›]
    · next hlo =>
      rw [if_neg (by omega), if_neg (by omega), if_neg (by omega), if_neg (by omega)]
      simp only [plainHigh] at hp
      split at hp
      · next hg =>
        simp only [Bool.or_eq_false_iff] at hp
        obtain ⟨⟨⟨⟨⟨h12, h16⟩, h27⟩, -⟩, -⟩, -⟩ := hp
        rw [if_pos hg, storeGrp_hole h12 h16 h27]
      · next hg =>
        rw [if_neg hg]
        split at hp
        · next hch =>
          simp only [Bool.or_eq_false_iff] at hp
          obtain ⟨⟨h8, h15⟩, h1A⟩ := hp
          rw [if_neg (by omega), if_pos hch.2, storeCh_hole h8 h15 h1A]
        · simp only [Bool.or_eq_false_iff] at hp
          split
          · rfl
          · rw [if_neg (by omega), storeCal_hole hp.1]

end

/-- Settles O42: `storeReg` at an address of each kind, and a canonical set is determined by what its registers read. -/
theorem registerWrites : Obligations.RegisterWrites := by
  unfold Obligations.RegisterWrites
  refine ⟨fun s acc a v same hw => ?_, fun c a v hc => ⟨reg_setReg_same hc, fun b => reg_setReg_other hc, setReg_wf hc,
    setReg_setReg_reg hc⟩⟩
  simp only [exec_registerWrite hw, Host.Outcome.next.injEq]
  refine ⟨⟨_, rfl, ?_, storeReg_mode⟩, fun h => ?_, fun hlo h hm => ?_, fun hlo hhi => ?_, storeReg_hole⟩
  · exact (canon_storeReg (canon_false_iff.2 rfl)).active
  · have hcm := (plainCm_iff.1 h).1
    have h1 : isW1c a.toNat = false := by
      rw [← Bool.not_eq_true]
      intro h1
      rw [isCm_of_isW1c h1] at hcm
      cases hcm
    rw [sameCycle_of_not_w1c h1, storeReg_cm hcm, storeCm_plain h]
  · have h1 : isW1c a.toNat = false := by
      rw [isW1c, if_neg (by omega), if_neg (by omega), if_neg (by omega), if_neg (by omega), decide_eq_false_iff_not]
      omega
    rw [sameCycle_of_not_w1c h1, storeReg_stg (plainCm_iff.1 h).1 hlo hm, storeCm_plain h]
  · have h1 : isW1c a.toNat = true := by
      have hb : inBlock a.toNat 0x0280 1 8 = true := by simp [inBlock, hlo, hhi]
      rw [isW1c, if_pos (by omega), hb]
      simp
    rw [storeReg_evtPend hlo hhi, sameCycle, if_pos h1]
    rfl

end Sys2Proof.Machine
end

section
/-! Loads and stores of the Canter cores in the memory windows (R187, R200). -/

open Sys2Proof Sys2Proof.Machine
namespace Sys2Proof.Machine

/-! ### The general registers of a core -/

section
variable {k : Core} {r f : BitVec 5} {v : W32}

/-- The value of d0 to d15 and a0 to a7, by operand field. -/
def Core.general (k : Core) (r : BitVec 5) : W32 :=
  if h : r.toNat < 16 then k.d[r.toNat] else if h : r.toNat < 24 then k.a[r.toNat - 16] else 0

theorem rdReg_eq_general {s : State} {c : CoreId} {x : Nat} (hr : r.toNat < 24) :
    rdReg s c r x = s.core[c].general r := by
  simp only [rdReg, Core.general, hr, dif_pos]

theorem general_congr {k' : Core} (hd : k'.d = k.d) (ha : k'.a = k.a) : k'.general r = k.general r := by
  unfold Core.general
  rw [hd, ha]

/-- A register write is read back, and no other general register changes. -/
theorem general_wr (hr : r.toNat < 24) : (k.wr f v).general r = if r = f then v else k.general r := by
  have hne : r.toNat ≠ f.toNat → r ≠ f := fun h e => h (congrArg _ e)
  unfold Core.wr
  dsimp only
  split
  · next hf =>
    by_cases e : r = f
    · subst e
      simp [Core.general, hf]
    · have hn : f.toNat ≠ r.toNat := fun h => e (BitVec.eq_of_toNat_eq h.symm)
      simp [Core.general, e, hn]
  split
  · next hlo hf =>
    by_cases e : r = f
    · subst e
      simp [Core.general, hlo, hf]
    · have hn : ¬r.toNat < 16 → f.toNat - 16 ≠ r.toNat - 16 := fun h h' => e (BitVec.eq_of_toNat_eq (by omega))
      rw [if_neg e]
      simp only [Core.general]
      split
      · rfl
      · next h16 => simp [hn h16]
  · rw [if_neg (hne (by omega))]
    split <;> rfl

/-- Retiring an instruction changes no register and frees the core after its cost. -/
theorem retire_keeps (k : Core) (sh : Shape) (t i : Nat) : (k.retire sh t i).d = k.d ∧ (k.retire sh t i).a = k.a ∧
    (k.retire sh t i).m = k.m ∧ (k.retire sh t i).st = k.st ∧ (k.retire sh t i).freeAt = t + i := by
  have hdst : ∀ (l : List (BitVec 5 × Nat)) (k : Core), let k' := l.foldl (fun k d => k.setReady t d.1 d.2) k
      k'.d = k.d ∧ k'.a = k.a ∧ k'.m = k.m ∧ k'.st = k.st ∧ k'.freeAt = k.freeAt := by
    intro l
    induction l with
    | nil => exact fun _ => ⟨rfl, rfl, rfl, rfl, rfl⟩
    | cons x l ih =>
      intro k
      obtain ⟨hd, ha, hm, hst, hf⟩ := setReady_keeps k t x.1 x.2
      obtain ⟨hd', ha', hm', hst', hf'⟩ := ih (k.setReady t x.1 x.2)
      exact ⟨hd'.trans hd, ha'.trans ha, hm'.trans hm, hst'.trans hst, hf'.trans hf⟩
  have h := hdst sh.dst { k with freeAt := t + i }
  unfold Core.retire
  dsimp only
  split <;> split <;> exact h

end

/-! ### Changes of one core -/

section
variable {s : State} {c : CoreId}

theorem modCore_id : modCore s c (fun k => k) = s := by
  simp [modCore]

theorem coreOnly_modCore (n : Nat) (g : Core → Core) : CoreOnly s (modCore (atCycle n s) c g) c := by
  simp [CoreOnly, modCore, atCycle]

/-- The core once an instruction of shape `sh` has retired. -/
def Core.after (k : Core) (sh : Shape) (n i : Nat) (pc : W32) : Core := { k.retire sh n i with pc := pc, tw := sh.tw }

theorem after_registersOnly (k : Core) (sh : Shape) (n i : Nat) (pc : W32) : RegistersOnly k (k.after sh n i pc) :=
  (retire_fields k sh n i).trans rfl

/-! ### What a load and a base update do to their core -/

/-- The core after the base update of an access (R200). -/
def Core.updateBase (k : Core) (f : MF) (b : W32) : Core := if f.am = 0 then k else k.wr (aField f.ab) (b + mDisp f)

theorem mUpdate_eq (f : MF) (b : W32) : mUpdate c f b s = modCore s c fun k => k.updateBase f b := by
  unfold mUpdate Core.updateBase
  split
  · exact modCore_id.symm
  · rfl

/-- The core after a load of the number `x` into rt. -/
def Core.load (k : Core) (f : MF) (x : Nat) : Core :=
  if f.sz = 5 then { k with m := k.m.set (mIdx f.rt) (BitVec.ofNat 64 x) } else k.wr f.rt (mExtend f x)

theorem aField_toNat (b : BitVec 3) : 16 ≤ (aField b).toNat ∧ (aField b).toNat < 24 := by
  have h : (aField b).toNat = 16 + b.toNat := by
    rw [aField, BitVec.toNat_append, BitVec.toNat_ofNat, ← Nat.shiftLeft_add_eq_or_of_lt b.isLt]
    rfl
  have := b.isLt
  omega

theorem aField_ne_st (b : BitVec 3) : aField b ≠ stField := by
  intro h
  have := aField_toNat b
  rw [h] at this
  exact absurd this.2 (by decide)

theorem updateBase_registersOnly (k : Core) (f : MF) (b : W32) : RegistersOnly k (k.updateBase f b) := by
  unfold Core.updateBase
  split
  · rfl
  · exact wr_fields k _ _

theorem updateBase_general {k : Core} {f : MF} {b : W32} {r : BitVec 5} (hr : r.toNat < 24) :
    (k.updateBase f b).general r = if r = aField f.ab ∧ f.am ≠ 0 then b + mDisp f else k.general r := by
  unfold Core.updateBase
  by_cases h : f.am = 0
  · simp [h]
  · rw [if_neg h, general_wr hr]
    simp only [ne_eq, h, not_false_eq_true, and_true]

theorem updateBase_st (k : Core) (f : MF) (b : W32) : (k.updateBase f b).st = k.st := by
  unfold Core.updateBase
  split
  · rfl
  · rw [wr_st, if_neg (aField_ne_st f.ab)]

theorem updateBase_m (k : Core) (f : MF) (b : W32) : (k.updateBase f b).m = k.m := by
  unfold Core.updateBase
  split
  · rfl
  · exact wr_m k _ _

theorem load_registersOnly (k : Core) (f : MF) (x : Nat) : RegistersOnly k (k.load f x) := by
  unfold Core.load
  split
  · rfl
  · exact wr_fields k _ _

/-- A doubleword load names an accumulator, which is no general register and not st. -/
theorem load_general {k : Core} {f : MF} {x : Nat} {r : BitVec 5} (hm : isM f.rt = decide (f.sz = 5))
    (hr : r.toNat < 24) : (k.load f x).general r = if r = f.rt then mExtend f x else k.general r := by
  unfold Core.load
  split
  · next h =>
    have hrt : 24 ≤ f.rt.toNat := by
      simp only [h, decide_true, isM, Bool.and_eq_true, decide_eq_true_eq] at hm
      exact hm.1
    have hne : r ≠ f.rt := by
      rintro rfl
      omega
    rw [if_neg hne]
    exact general_congr rfl rfl
  · exact general_wr hr

theorem load_st {k : Core} {f : MF} {x : Nat} (hm : isM f.rt = decide (f.sz = 5)) :
    (k.load f x).st = if f.rt = stField then (mExtend f x).setWidth 5 else k.st := by
  unfold Core.load
  split
  · next h =>
    have hne : f.rt ≠ stField := by
      intro e
      rw [e, h] at hm
      exact absurd hm (by decide)
    rw [if_neg hne]
  · exact wr_st k _ _

theorem load_m (k : Core) (f : MF) (x : Nat) :
    (k.load f x).m = if f.sz = 5 then k.m.set (mIdx f.rt) (BitVec.ofNat 64 x) else k.m := by
  unfold Core.load
  split
  · rfl
  · exact wr_m k _ _

/-! ### Loads -/

variable {f : MF}

theorem mLegal_isM (h : mLegal f = true) : isM f.rt = decide (f.sz = 5) := by
  simp only [mLegal, Bool.and_eq_true, beq_iff_eq] at h
  exact h.2

/-- A load outside the register space reads its bytes and changes nothing. -/
theorem mLoad_snd {ea : W32} {n : Nat} (h : window ea ≠ .regs) : (mLoad c ea n s).2 = s := by
  unfold mLoad
  dsimp only
  split
  case h_5 hw => exact absurd hw h
  all_goals rfl

theorem mLoad_atCycle {ea : W32} {n t : Nat} (h : window ea ≠ .regs) :
    (mLoad c ea n (atCycle t s)).1 = (mLoad c ea n s).1 := by
  unfold mLoad
  dsimp only
  split
  case h_5 hw => exact absurd hw h
  all_goals rfl

/-- The effect of a load outside the register space is a change of its core. -/
theorem ldEff_eq (ha : (mEa s c f).toNat % mSize f = 0) (hf : mFault s c f false = none) (hw : window (mEa s c f) ≠ .regs) :
    ldEff c f s = .ok (modCore s c fun k =>
      (k.updateBase f (mBase s c f)).load f (ofLe (mLoad c (mEa s c f) (mSize f) s).1)) none (mCost s c f) := by
  unfold ldEff
  dsimp only
  rw [if_neg (not_not.2 ha), hf]
  dsimp only
  rw [mLoad_snd hw, mUpdate_eq]
  unfold wrM wrReg
  rw [modCore_twice, modCore_twice]
  unfold Core.load
  split <;> rfl

/-- What a load leaves (R200): the core it changed, and the machine it leaves. -/
theorem execLd_eq (hx : Executes s c (ldLegal f) (ldShape s c f) (mCost s c f)) (ha : (mEa s c f).toNat % mSize f = 0)
    (hf : mFault s c f false = none) (hl : ldWaits s c f = false) (hw : window (mEa s c f) ≠ .regs) :
    execLd c f s = .next (modCore (atCycle (issueAt s.core[c] (ldShape s c f)) s) c fun k =>
      ((k.updateBase f (mBase s c f)).load f (ofLe (mLoad c (mEa s c f) (mSize f) s).1)).after (ldShape s c f)
        (issueAt s.core[c] (ldShape s c f)) (mCost s c f) (s.core[c].pc + 4)) := by
  unfold execLd
  rw [hl, if_neg Bool.false_ne_true]
  have he := ldEff_eq (s := atCycle (issueAt s.core[c] (ldShape s c f)) s) (c := c) (f := f) ha hf hw
  rw [canter_ok hx he, modCore_twice, ← mLoad_atCycle (t := issueAt s.core[c] (ldShape s c f)) hw]
  rfl


/-- What a load says of its core: the registers (R180, R182, R200). -/
theorem loaded {k : Core} {b : W32} {x n i : Nat} {sh : Shape} {pc : W32} (hm : isM f.rt = decide (f.sz = 5)) :
    let k' := ((k.updateBase f b).load f x).after sh n i pc
    (∀ r : BitVec 5, r.toNat < 24 → k'.general r =
      if r = f.rt then mExtend f x else if r = aField f.ab ∧ f.am ≠ 0 then b + mDisp f else k.general r) ∧
    k'.st = (if f.rt = stField then (mExtend f x).setWidth 5 else k.st) ∧
    k'.m = (if f.sz = 5 then k.m.set (mIdx f.rt) (BitVec.ofNat 64 x) else k.m) ∧
    k'.pc = pc ∧ k'.freeAt = n + i ∧ RegistersOnly k k' := by
  obtain ⟨hd, ha, hacc, hst, hfree⟩ := retire_keeps ((k.updateBase f b).load f x) sh n i
  refine ⟨fun r hr => ?_, ?_, ?_, rfl, hfree, ?_⟩
  · rw [← updateBase_general hr, ← load_general hm hr]
    exact general_congr hd ha
  · rw [← updateBase_st k f b, ← load_st hm]
    exact hst
  · rw [← updateBase_m k f b, ← load_m]
    exact hacc
  · exact ((updateBase_registersOnly k f b).trans (load_registersOnly _ f x)).trans (after_registersOnly _ sh n i pc)

end

/-! ### Stores -/

section
variable {s : State} {c : CoreId} {f : MF}

theorem mStore_dmem {ea : W32} {l : List Byte} {g : Core → Core} (hw : window ea = .dmem) : mStore c ea l (modCore s c g) =
    modCore s c fun k => { g k with dmem := memPuts (g k).dmem (ea.toNat - 0x10000000) l } := by
  simp only [mStore, hw, modCore_twice]

theorem mStore_sram {ea : W32} {l : List Byte} {g : Core → Core} (hw : window ea = .sram) :
    mStore c ea l (modCore s c g) = modCore { s with sram := memPuts s.sram (ea.toNat - 0x20000000) l } c g := by
  simp only [mStore, hw]
  rfl

/-- The bytes of a store that issues at `n` (R200). -/
def storeBytes (s : State) (c : CoreId) (f : MF) (n : Nat) : List Byte :=
  leBytes (mSize f) (if f.sz = 5 then (rdM s c f.rt).toNat else (rdReg s c f.rt n).toNat)

/-- The core moves to the next instruction before its store takes effect. -/
def Core.nextPc (k : Core) : Core := { k with pc := k.pc + 4 }

/-- The effect of a store to data memory or shared SRAM, whose bytes make the machine `modCore u c g`. -/
theorem stEff_eq {n : Nat} {u : State} {g : Core → Core} (ha : (mEa s c f).toNat % mSize f = 0)
    (hw : window (mEa s c f) = .dmem ∨ window (mEa s c f) = .sram)
    (hu : mStore c (mEa s c f) (storeBytes s c f n) (modCore s c Core.nextPc) = modCore u c g) :
    stEff c f n s = .ok (modCore u c fun k => (g k).updateBase f (mBase s c f)) (some (g u.core[c]).pc) (mCost s c f) := by
  have hfault : mFault s c f true = none := by
    obtain hw | hw := hw <;> simp [mFault, hw]
  have hforb : regForbidden (mEa s c f) (mSize f) = false := by
    obtain hw | hw := hw <;> simp [regForbidden, hw]
  unfold storeBytes Core.nextPc at hu
  unfold stEff
  dsimp only
  rw [if_neg (not_not.2 ha), hfault]
  dsimp only
  rw [hforb, if_neg Bool.false_ne_true, hu, mUpdate_eq, modCore_twice, modCore_get]

/-- What a store leaves: the machine `u` that its bytes make, and its core, which they make `k1`. -/
theorem execSt_core {u : State} {g : Core → Core} {k1 : Core} (hx : Executes s c (stLegal f) (stShape f) (mCost s c f))
    (ha : (mEa s c f).toNat % mSize f = 0) (hw : window (mEa s c f) = .dmem ∨ window (mEa s c f) = .sram)
    (hu : mStore c (mEa s c f) (storeBytes s c f (issueAt s.core[c] (stShape f)))
      (modCore (atCycle (issueAt s.core[c] (stShape f)) s) c Core.nextPc) = modCore u c g)
    (hk : g u.core[c] = k1) (hpc : k1.pc = s.core[c].pc + 4) :
    ∃ t, execSt c f s = .next t ∧ t = { u with core := u.core.set c t.core[c] } ∧
      t.core[c] = (k1.updateBase f (mBase s c f)).after (stShape f) (issueAt s.core[c] (stShape f)) (mCost s c f)
        (s.core[c].pc + 4) := by
  have he := stEff_eq (s := atCycle (issueAt s.core[c] (stShape f)) s) (n := issueAt s.core[c] (stShape f)) ha hw hu
  rw [hk, hpc] at he
  unfold execSt
  rw [canter_ok hx he, modCore_twice]
  refine ⟨_, rfl, ?_, ?_⟩
  · rw [modCore_get]
    rfl
  · rw [modCore_get, hk]
    rfl

/-- What a store says of its core's registers. -/
theorem stored {k k' : Core} {b : W32} {n i : Nat} {sh : Shape} {pc : W32} (hk' : k' = (k.updateBase f b).after sh n i pc) :
    (∀ r : BitVec 5, r.toNat < 24 → k'.general r =
      if r = aField f.ab ∧ f.am ≠ 0 then b + mDisp f else k.general r) ∧
    k'.st = k.st ∧ k'.m = k.m ∧ k'.pc = pc ∧ k'.freeAt = n + i ∧ RegistersOnly k k' := by
  subst hk'
  obtain ⟨hd, ha, hacc, hst, hfree⟩ := retire_keeps (k.updateBase f b) sh n i
  refine ⟨fun r hr => ?_, hst.trans (updateBase_st k f b), hacc.trans (updateBase_m k f b), rfl, hfree, ?_⟩
  · rw [← updateBase_general hr]
    exact general_congr hd ha
  · exact (updateBase_registersOnly k f b).trans (after_registersOnly _ sh n i pc)

/-- A memory after a store reads as the stored bytes within them and as before elsewhere. -/
theorem memGet_memPuts {m : Mem} {a b n : Nat} {l : List Byte} (h : spWf Config.memDefault m = true)
    (hl : l.length = n) : memGet (memPuts m a l) b = if a ≤ b ∧ b < a + n then l.getD (b - a) 0 else memGet m b := by
  subst hl
  split
  · next hb =>
    have hi : b - a < l.length := by omega
    have := memGet_memPuts_in (a := a) h hi
    rw [show a + (b - a) = b by omega] at this
    rw [this, List.getD_eq_getElem _ _ hi]
  · exact memGet_memPuts_out h (by omega)

end

/-- An access that no rule faults is to a mapped address. -/
theorem window_of_no_fault {s : State} {c : CoreId} {f : MF} {b : Bool} (h : mFault s c f b = none) :
    window (mEa s c f) ≠ .unmapped := by
  intro e
  simp only [mFault, e] at h
  split at h <;> cases h

/-- Settles O13: a load is one change of its core, and a store one of its core and its window. -/
theorem loadsAndStores : Obligations.LoadsAndStores := by
  unfold Obligations.LoadsAndStores
  constructor
  · intro s c f k ea a n bytes hx ha hf hl hw
    have hm := mLegal_isM (by
      obtain ⟨-, -, hlegal, -⟩ := hx
      simp only [ldLegal, Bool.and_eq_true] at hlegal
      exact hlegal.1)
    have hbytes : (mLoad c ea (mSize f) s).1 = bytes := by
      simp only [mLoad, bytes]
      cases e : window ea
      case regs => exact absurd e hw
      case unmapped => exact absurd e (window_of_no_fault hf)
      all_goals rfl
    refine ⟨_, execLd_eq hx ha hf hl hw, ?_⟩
    rw [hbytes, modCore_get]
    obtain ⟨hgen, hst, hacc, hpc, hfree, honly⟩ := loaded (k := s.core[c]) (b := mBase s c f) (x := ofLe bytes)
      (n := issueAt s.core[c] (ldShape s c f)) (i := mCost s c f) (sh := ldShape s c f) (pc := s.core[c].pc + 4) hm
    refine ⟨fun r hr => ?_, hst, hacc, hpc, hfree, ?_, honly⟩
    · rw [rdReg_eq_general hr, rdReg_eq_general hr, modCore_get]
      exact hgen r hr
    · exact coreOnly_modCore _ _
  · intro s c f k ea n value hx ha hw hd hsr
    have hlen : value.length = mSize f := leBytes_length _ _
    obtain hw' | hw' := hw
    · obtain ⟨t, ht, hu, hc⟩ := execSt_core hx ha (.inl hw') (mStore_dmem hw') rfl rfl
      obtain ⟨hgen, hst, hacc, hpc, hfree, honly⟩ := stored hc
      have hdmem : t.core[c].dmem = memPuts k.dmem (ea.toNat - 0x10000000) value := congrArg Core.dmem honly
      refine ⟨t, ht, fun r hr => ?_, hst, hacc, hpc, hfree, fun _ => ⟨fun b => ?_, ?_, ?_⟩, fun h => ?_⟩
      · rw [rdReg_eq_general hr, rdReg_eq_general hr]
        exact hgen r hr
      · rw [hdmem, memGet_memPuts hd hlen, dite_eq_ite]
      · rw [CoreOnly, congrArg State.now hu]
        exact hu
      · rw [hdmem]
        exact honly
      · rw [hw'] at h
        cases h
    · obtain ⟨t, ht, hu, hc⟩ := execSt_core hx ha (.inr hw') (mStore_sram hw') rfl rfl
      obtain ⟨hgen, hst, hacc, hpc, hfree, honly⟩ := stored hc
      have hsram : t.sram = memPuts s.sram (ea.toNat - 0x20000000) value := congrArg State.sram hu
      refine ⟨t, ht, fun r hr => ?_, hst, hacc, hpc, hfree, fun h => ?_, fun _ => ⟨fun b => ?_, ?_, ?_⟩⟩
      · rw [rdReg_eq_general hr, rdReg_eq_general hr]
        exact hgen r hr
      · rw [hw'] at h
        cases h
      · rw [hsram, memGet_memPuts hsr hlen, dite_eq_ite]
      · rw [congrArg State.now hu, hsram]
        exact hu
      · exact honly

end Sys2Proof.Machine
end

section
/-! BOOT (R389 to R391, R432): what its steps leave, and where it ends. Each operation that BOOT and a change of mode use has one
lemma, `control_` and its name: it leaves the parts that hold what the device as a whole does. -/

open Sys2Proof Sys2Proof.Machine
namespace Sys2Proof.Machine

/-- The parts that hold what the device as a whole does: its mode and pins, the configuration, the frame, the watchdog, the Tally,
the Bridle and the host port. The two findings of BOOT that its steps still write are left out. -/
def control (s : State) : Sys × Cfg × Frm × Wdt × Tal × Sec × Hp :=
  ({ s.sys with imgFail := false, grpFail := 0 }, s.cfg, s.frm, s.wdt, s.tal, s.sec, s.hp)

/-- The parts of `control` are `x`. -/
def ControlIs (x : Sys × Cfg × Frm × Wdt × Tal × Sec × Hp) (s : State) : Prop := control s = x

section
variable {x : Sys × Cfg × Frm × Wdt × Tal × Sec × Hp} {s : State}

theorem ControlIs.refl : ControlIs (control s) s := rfl

theorem ControlIs.update {t : State} (h : ControlIs x s) (e : control t = control s) : ControlIs x t := e.trans h

theorem control_modCore {c : CoreId} {f : Core → Core} (h : ControlIs x s) : ControlIs x (modCore s c f) := h
theorem control_modGrp {g : GroupId} {f : Grp → Grp} (h : ControlIs x s) : ControlIs x (modGrp s g f) := h
theorem control_modRot {g : GroupId} {f : Rot → Rot} (h : ControlIs x s) : ControlIs x (modRot s g f) := h
theorem control_modCh {n : ChanId} {f : Chan → Chan} (h : ControlIs x s) : ControlIs x (modCh s n f) := h
theorem control_modDi {n : ChanId} {f : ChDi → ChDi} (h : ControlIs x s) : ControlIs x (modDi s n f) := h
theorem control_modOut {n : ChanId} {f : ChDo → ChDo} (h : ControlIs x s) : ControlIs x (modOut s n f) := h
theorem control_modFlt {n : ChanId} {f : ChFlt → ChFlt} (h : ControlIs x s) : ControlIs x (modFlt s n f) := h
theorem control_modAi {n : ChanId} {f : ChAi → ChAi} (h : ControlIs x s) : ControlIs x (modAi s n f) := h
theorem control_modSlot {i : Fin 96} {f : Slot → Slot} (h : ControlIs x s) : ControlIs x (modSlot s i f) := h
theorem control_modBuf {b : Fin 5} {f : LogBuf → LogBuf} (h : ControlIs x s) : ControlIs x (modBuf s b f) := h

theorem control_raise {e : Fin 128} {p : W32} (h : ControlIs x s) : ControlIs x (raise e p s) := by
  have hr : apartFromEvents (raise e p s) = apartFromEvents s := raise_frame e p s
  have hc : control (apartFromEvents (raise e p s)) = control (apartFromEvents s) := congrArg control hr
  exact Eq.trans hc h

theorem control_ite {p : Prop} [Decidable p] {t u : State} (ht : ControlIs x t) (hu : ControlIs x u) :
    ControlIs x (if p then t else u) := by
  split
  · exact ht
  · exact hu

theorem control_foldl {α : Type} {l : List α} {f : State → α → State} (h : ControlIs x s)
    (hf : ∀ s y, ControlIs x s → ControlIs x (f s y)) : ControlIs x (l.foldl f s) := by
  induction l generalizing s with
  | nil => exact h
  | cons y l ih => exact ih (hf s y h)

theorem control_each {α : Type} {l : List α} {f : α → State → State} (hf : ∀ y s, ControlIs x s → ControlIs x (f y s))
    (h : ControlIs x s) : ControlIs x (each l f s) :=
  control_foldl h fun s y => hf y s

theorem control_onCore {f : State → State} (hf : ControlIs x s → ControlIs x (f s)) (h : ControlIs x s) :
    ControlIs x (onCore f s) :=
  control_ite (hf h) h

theorem control_keepLease {i : Fin 96} (h : ControlIs x s) : ControlIs x (keepLease i s) := control_ite (h.update rfl) h

theorem control_openSlot {i : Fin 96} {op : ReqOp} {cls : BitVec 2} {gc : Vector Nat 8} {dc frames : Nat}
    {members : BitVec 64} (h : ControlIs x s) : ControlIs x (openSlot i op cls gc dc frames members s) :=
  (control_keepLease h).update rfl

theorem control_openOp {i : Fin 96} {op : ReqOp} (h : ControlIs x s) : ControlIs x (openOp i op s) := control_openSlot h

theorem control_groomReq {op : ReqOp} (h : ControlIs x s) : ControlIs x (groomReq op s) := by
  unfold groomReq
  split
  · exact control_openOp h
  · exact h.update rfl

theorem control_serveWait (h : ControlIs x s) : ControlIs x (serveWait s) := by
  unfold serveWait
  split
  · exact control_openOp (h.update rfl)
  · exact h

theorem control_joinSet {i : Fin 96} {n : ChanId} {mw frames : Nat} (h : ControlIs x s) :
    ControlIs x (joinSet i n mw frames s) :=
  control_modSlot h

theorem control_askLeave {n : ChanId} {op : ReqOp} (h : ControlIs x s) : ControlIs x (askLeave n op s) := by
  unfold askLeave
  dsimp only
  split
  · exact control_ite (control_openOp h) h
  · exact control_ite (control_openOp h) h
  · split
    · exact control_joinSet h
    · exact control_ite (control_openSlot h) h

theorem control_conflict {kind : Nat} {g : Option GroupId} (h : ControlIs x s) : ControlIs x (conflict kind g s) :=
  control_raise (h.update rfl)

theorem control_chargeLease {n : ChanId} (h : ControlIs x s) : ControlIs x (chargeLease n s) :=
  control_ite (control_conflict (h.update rfl)) (control_ite (control_conflict (h.update rfl)) (h.update rfl))

theorem control_withdraw {n : ChanId} (h : ControlIs x s) : ControlIs x (withdraw n s) :=
  control_each (fun _ _ h => control_ite (control_serveWait (control_modSlot h)) h) h

theorem control_endLease {n : ChanId} (h : ControlIs x s) : ControlIs x (endLease n s) := by
  unfold endLease
  extract_lets mine s1
  have h1 : ControlIs x s1 := control_each (fun _ _ h => control_ite (control_modSlot h) h) h
  clear_value s1
  exact h1.update rfl

theorem control_endOwn {n : ChanId} (h : ControlIs x s) : ControlIs x (endOwn n s) :=
  control_each (fun _ _ h => control_ite (control_modSlot h) h) (control_endLease h)

theorem control_protectConflict {n : ChanId} (h : ControlIs x s) : ControlIs x (protectConflict n s) :=
  control_ite (control_conflict (control_endOwn (control_withdraw h))) h

theorem control_loadRegs (h : ControlIs x s) : ControlIs x (loadRegs s) := h.update rfl

theorem control_setApplied {n : ChanId} {w : W32} (h : ControlIs x s) : ControlIs x (setApplied n w s) :=
  control_modOut (control_ite (control_modFlt h) h)

theorem control_startBusy {n : ChanId} {k : BitVec 2} (h : ControlIs x s) : ControlIs x (startBusy n k s) :=
  control_ite h (control_modFlt h)

theorem control_queueReq {n : ChanId} {q : QReq} (h : ControlIs x s) : ControlIs x (queueReq n q s) :=
  control_modOut (control_modFlt h)

theorem control_latchQual {n : ChanId} (h : ControlIs x s) : ControlIs x (latchQual n s) := control_modOut h

theorem control_switchOff {n : ChanId} (h : ControlIs x s) : ControlIs x (switchOff n s) :=
  control_ite h (control_latchQual (control_onCore control_endLease (control_startBusy (control_modOut h))))

theorem control_putSafe {n : ChanId} {w : W32} (h : ControlIs x s) : ControlIs x (putSafe n w s) :=
  control_ite (control_ite (control_endLease (control_startBusy (control_setApplied h))) (control_setApplied h))
    (control_ite (control_modOut (control_setApplied h)) (control_ite (control_ite (control_setApplied h)
    (control_chargeLease (control_modOut (control_setApplied h)))) (control_ite (control_ite (control_endLease
    (control_startBusy (control_setApplied h))) (control_setApplied h)) (control_setApplied h))))

theorem control_applySafe {n : ChanId} (h : ControlIs x s) : ControlIs x (applySafe n s) :=
  control_ite h (control_latchQual (control_ite (control_modOut (control_modOut h)) (control_ite (control_queueReq
    (control_modOut h)) (control_ite (control_modOut h) (control_putSafe (control_modOut h))))))

theorem control_refreshSafe {l : List ChanId} (h : ControlIs x s) : ControlIs x (refreshSafe l s) :=
  control_each (fun _ _ h => control_ite (control_applySafe h) h) h

theorem control_askOnce {n : ChanId} {op : ReqOp} (h : ControlIs x s) : ControlIs x (askOnce n op s) :=
  control_ite (control_modOut h) (control_askLeave (control_modOut h))

theorem control_leaveMode {n : ChanId} {old : CfgSet} (h : ControlIs x s) : ControlIs x (leaveMode n old s) :=
  control_endLease (control_withdraw (control_startBusy (control_modOut (control_modAi h))))

theorem control_askStage {n : ChanId} (h : ControlIs x s) : ControlIs x (askStage n s) :=
  control_ite (control_latchQual (control_askOnce (control_modOut h))) h

theorem control_enterMode {n : ChanId} {old : CfgSet} (h : ControlIs x s) : ControlIs x (enterMode n old s) :=
  control_latchQual (control_askStage (control_refreshSafe (control_ite (control_askLeave (control_modAi (control_modCh h)))
    (control_modCh h))))

theorem control_raiseOn {e : Fin 128} {payload : W32} (h : ControlIs x s) : ControlIs x (raiseOn e payload s) :=
  control_onCore control_raise h

theorem control_raiseSum {n : ChanId} (h : ControlIs x s) : ControlIs x (raiseSum n s) := control_raiseOn h

theorem control_dropReq {op : ReqOp} (h : ControlIs x s) : ControlIs x (dropReq op s) :=
  control_serveWait (control_each (fun _ _ h => control_ite (control_modSlot h) h) (h.update rfl))

theorem control_endOp {op : ReqOp} (h : ControlIs x s) : ControlIs x (endOp op s) :=
  control_each (fun _ _ h => control_ite (control_modSlot h) h) h

theorem control_askSweep {g : GroupId} (h : ControlIs x s) : ControlIs x (askSweep g s) :=
  control_onCore control_groomReq (control_modRot (control_modGrp h))

theorem control_startRot {g : GroupId} (h : ControlIs x s) : ControlIs x (startRot g s) :=
  control_ite h (control_askSweep h)

theorem control_suspendRot {g : GroupId} (h : ControlIs x s) : ControlIs x (suspendRot g s) := by
  unfold suspendRot
  exact control_modRot (control_modGrp (control_endOp (control_dropReq (control_dropReq h))))

theorem control_protectCh {n : ChanId} (h : ControlIs x s) : ControlIs x (protectCh n s) :=
  control_modOut (control_onCore control_protectConflict h)

theorem control_supplyOff {n : ChanId} (h : ControlIs x s) : ControlIs x (supplyOff n s) :=
  control_modAi (control_modOut (control_switchOff (control_protectCh h)))

theorem control_stopLanes {g : GroupId} (h : ControlIs x s) : ControlIs x (stopLanes g s) :=
  control_modGrp (control_suspendRot h)

theorem control_startScan {g : GroupId} (h : ControlIs x s) : ControlIs x (startScan g s) := control_modGrp h

theorem control_leaveScan {g : GroupId} (h : ControlIs x s) : ControlIs x (leaveScan g s) :=
  control_startRot (control_modGrp h)

theorem control_enterScan {g : GroupId} (h : ControlIs x s) : ControlIs x (enterScan g s) :=
  control_startScan (control_modGrp (control_suspendRot h))

theorem control_putIn {n : ChanId} {w : W32} (h : ControlIs x s) : ControlIs x (putIn n w s) := h.update rfl

theorem control_putFormed {n : ChanId} {w : W32} (h : ControlIs x s) : ControlIs x (putFormed n w s) :=
  control_putIn (h.update rfl)

theorem control_switchDi {a b : CfgSet} {n : ChanId} (h : ControlIs x s) : ControlIs x (switchDi a b n s) :=
  control_modDi h

theorem control_switchCh {a b : CfgSet} {n : ChanId} (h : ControlIs x s) : ControlIs x (switchCh a b n s) :=
  control_ite (control_applySafe (control_ite (control_ite (control_queueReq (control_leaveMode (control_switchDi
    (control_ite (control_ite (control_modAi h) (control_putFormed (control_modAi h))) h)))) (control_ite (control_enterMode
    (control_leaveMode (control_switchDi (control_ite (control_ite (control_modAi h) (control_putFormed (control_modAi h)))
    h)))) (control_leaveMode (control_switchDi (control_ite (control_ite (control_modAi h) (control_putFormed (control_modAi
    h))) h))))) (control_ite (control_queueReq (control_switchDi (control_ite (control_ite (control_modAi h)
    (control_putFormed (control_modAi h))) h))) (control_switchDi (control_ite (control_ite (control_modAi h)
    (control_putFormed (control_modAi h))) h))))) (control_ite (control_ite (control_queueReq (control_leaveMode
    (control_switchDi (control_ite (control_ite (control_modAi h) (control_putFormed (control_modAi h))) h)))) (control_ite
    (control_enterMode (control_leaveMode (control_switchDi (control_ite (control_ite (control_modAi h) (control_putFormed
    (control_modAi h))) h)))) (control_leaveMode (control_switchDi (control_ite (control_ite (control_modAi h)
    (control_putFormed (control_modAi h))) h))))) (control_ite (control_queueReq (control_switchDi (control_ite (control_ite
    (control_modAi h) (control_putFormed (control_modAi h))) h))) (control_switchDi (control_ite (control_ite (control_modAi
    h) (control_putFormed (control_modAi h))) h))))

theorem control_switchGrp {b : CfgSet} {g : GroupId} (h : ControlIs x s) : ControlIs x (switchGrp b g s) :=
  control_ite (control_modGrp h) (control_each (fun _ _ => control_switchCh) (control_ite (control_modRot (control_modGrp
    h)) (control_modGrp h)))

theorem control_switchBuf {a b : CfgSet} {k : Fin 5} (h : ControlIs x s) : ControlIs x (switchBuf a b k s) :=
  control_ite (control_modBuf h) h

theorem control_tickCh {i : TickIn} {n : ChanId} (h : ControlIs x s) : ControlIs x (tickCh i n s) :=
  control_ite h (control_modCh h)

theorem control_tickFault {i : TickIn} {n : ChanId} (h : ControlIs x s) : ControlIs x (tickFault i n s) :=
  control_ite h (control_modFlt h)

theorem control_tickSummary {n : ChanId} (h : ControlIs x s) : ControlIs x (tickSummary n s) :=
  control_ite (control_modFlt (control_modFlt h)) (control_raiseSum (control_modFlt (control_modFlt h)))

theorem control_measureGrp {i : TickIn} {g : GroupId} (h : ControlIs x s) : ControlIs x (measureGrp i g s) :=
  control_modGrp h

theorem control_sysWords {late ok : Bool} (h : ControlIs x s) : ControlIs x (sysWords late ok s) := h.update rfl

theorem control_withdrawControl (h : ControlIs x s) : ControlIs x (withdrawControl s) := by
  unfold withdrawControl
  refine control_each ?_ h
  intro _ _ h
  refine control_ite ?_ h
  split
  · exact control_modOut (control_modSlot h)
  · exact control_modOut (control_modSlot h)
  · exact control_each (fun _ _ => control_modOut) (control_modSlot h)
  · exact control_serveWait (control_modSlot h)
  · exact control_serveWait (control_modSlot h)
  · exact h

theorem control_modeLanes {old new : Mode} (h : ControlIs x s) : ControlIs x (modeLanes old new s) :=
  control_ite (control_each (fun _ _ => control_leaveScan) h) (control_ite (control_each (fun _ _ => control_enterScan) h)
    h)

theorem control_factoryFail {b : Nat × Nat} (h : ControlIs x s) : ControlIs x (factoryFail b s) :=
  control_raise (h.update rfl)

theorem control_loadSect {b : List Byte} {y : Sect} (h : ControlIs x s) : ControlIs x (loadSect b y s) :=
  control_ite (control_modCore h) (control_ite (control_modCore h) (h.update rfl))

theorem control_loadImage {b : List Byte} (h : ControlIs x s) : ControlIs x (loadImage b s) :=
  (control_foldl h (fun _ _ => control_loadSect)).update rfl

theorem control_bootImage {b : BootIn} {l : List MfEntry} {i : Nat} {e : MfEntry} (h : ControlIs x s) :
    ControlIs x (bootImage b l i e s) := by
  unfold bootImage
  dsimp only
  exact control_ite (control_loadImage h) (h.update rfl)

theorem control_bootImages {b : BootIn} (h : ControlIs x s) : ControlIs x (bootImages b s) := by
  unfold bootImages
  dsimp only
  refine control_foldl h ?_
  intro _ _ h
  split
  · exact control_bootImage h
  · exact h

theorem control_bootGroup {b : BootIn} {g : GroupId} (h : ControlIs x s) : ControlIs x (bootGroup b g s) := by
  unfold bootGroup
  extract_lets bankOk ver _ _ s1 s2 s3 s4
  have h2 : ControlIs x s2 := control_modGrp (h.update rfl)
  have h3 : ControlIs x s3 := control_ite h2 (control_switchGrp h2)
  have h4 : ControlIs x s4 := control_ite h3
    (control_modGrp (control_each (fun _ _ => control_supplyOff) (control_stopLanes h3)))
  exact control_ite (control_enterScan (control_modGrp h4)) h4


end
end Sys2Proof.Machine
end

section
/-! The release of a reset, the end of BOOT, and the reset out of recovery (R389 to R391, R432). -/

open Sys2Proof Sys2Proof.Machine
namespace Sys2Proof.Machine

/-! ### The release of a reset -/

section
variable {s : State} {b : BootIn}

theorem raise_upd (e : Fin 128) (p : W32) : (raise e p s).upd = s.upd := by
  have h : apartFromEvents (raise e p s) = apartFromEvents s := raise_frame e p s
  have hu := congrArg State.upd h
  exact hu

/-- The machine when the reset is released and the change into BOOT is raised. -/
def atRelease (b : BootIn) (s : State) : State :=
  bootChange { atTime b.t s with
    sys := { s.sys with mode := .boot, bootReady := true, bootsel := b.bootsel, xpMode := b.xpMode, claimN := b.claimN }
    sec := { s.sec with claimPin := !b.claimN }
    hp := { s.hp with ready := true } }

/-- What `control` holds of it. -/
def releaseSys (b : BootIn) (s : State) : Sys :=
  { s.sys with
    mode := .boot, bootReady := true, bootsel := b.bootsel, xpMode := b.xpMode, claimN := b.claimN
    imgFail := false, grpFail := 0 }

theorem atRelease_control : control (atRelease b s) =
    (releaseSys b s, s.cfg, s.frm, s.wdt, s.tal, { s.sec with claimPin := !b.claimN }, { s.hp with ready := true }) :=
  control_raise rfl

theorem atRelease_upd : (atRelease b s).upd = s.upd := raise_upd _ _

/-- A reset in a trial finds the trial flag set and reverts (R375). -/
def afterRevert (b : BootIn) (s : State) : State :=
  if (atRelease b s).upd.trialFlag && (atRelease b s).sys.cause ≠ 5 then revertBanks 7 (atRelease b s) else atRelease b s

/-- Recovery is entered: the values of the Reset columns are active and staged (R390). -/
def recoveryBoot (b : BootIn) (s : State) : State :=
  enterRecovery { afterRevert b s with cfg := { (afterRevert b s).cfg with active := .none, staged := .none } }

/-- A second release changes nothing. -/
theorem execResetRelease_again (h : s.sys.bootReady = true) : execResetRelease b s = .next s := by
  unfold execResetRelease
  rw [if_pos h]

theorem execResetRelease_of (h : s.sys.bootReady = false) : execResetRelease b s = .next (
    if !b.bootsel then recoveryBoot b s
    else if !b.firmwareOk && !(afterRevert b s).upd.trialFlag then recoveryBoot b s
    else bootSteps b (afterRevert b s)) := by
  unfold execResetRelease
  rw [if_neg (by simp [h])]
  rfl

theorem afterRevert_control : ∃ w, control (afterRevert b s) =
    (releaseSys b s, { s.cfg with writing := w }, s.frm, s.wdt, s.tal, { s.sec with claimPin := !b.claimN },
      { s.hp with ready := true }) := by
  have h := atRelease_control (b := b) (s := s)
  unfold afterRevert
  split
  · simp only [control, Prod.mk.injEq] at h ⊢
    obtain ⟨hsys, hcfg, hfrm, hwdt, htal, hsec, hhp⟩ := h
    exact ⟨none, hsys, congrArg (fun k : Cfg => { k with writing := none }) hcfg, hfrm, hwdt, htal, hsec, hhp⟩
  · exact ⟨s.cfg.writing, h⟩

theorem afterRevert_trialFlag : (afterRevert b s).upd.trialFlag = (s.upd.trialFlag && decide (s.sys.cause = 5)) := by
  have hcause : (atRelease b s).sys.cause = s.sys.cause := congrArg (fun x => x.1.cause) atRelease_control
  unfold afterRevert
  rw [hcause, atRelease_upd]
  split
  · next h =>
    simp only [Bool.and_eq_true, decide_eq_true_eq] at h
    rw [decide_eq_false h.2, Bool.and_false]
    rfl
  · next h =>
    simp only [Bool.and_eq_true, decide_eq_true_eq, not_and, not_not] at h
    rw [atRelease_upd]
    cases hf : s.upd.trialFlag with
    | false => rfl
    | true => simp [h hf]

/-- `control`'s system part after the steps of BOOT: what failed, and the address from the straps (R389, R397). -/
def bootedSys (b : BootIn) (x : Sys) : Sys :=
  let lo := strapLevel b.strapA
  let hi := strapLevel b.strapB
  { x with
    swFail := !b.switchOk, farFail := !b.farrierOk, imgFail := false, grpFail := 0
    addr := BitVec.ofNat 6 (8 * hi.1 + lo.1), strapBad := lo.2 || hi.2 }

/-- The configuration once the committed set is loaded (R8). -/
def bootedCfg (x : Cfg) : Cfg :=
  { x with active := x.committed.getD .none, staged := x.committed.getD .none, writing := none, wrote := 0, leave := false }

/-- The frame's time source after the steps of BOOT. -/
def bootedFrm (b : BootIn) (a : CfgSet) (x : Frm) : Frm :=
  { x with srcAct := (a.reg 0x0100).setWidth 2, srcValid := b.timeValid }

theorem bootSteps_control : control (bootSteps b s) =
    (bootedSys b s.sys, bootedCfg s.cfg, bootedFrm b (bootedCfg s.cfg).active s.frm, s.wdt, s.tal, s.sec, s.hp) := by
  unfold bootSteps
  extract_lets _ s0 s1 s2
  have h0 : ControlIs (control { s with
      sys := { s.sys with swFail := !b.switchOk, farFail := !b.farrierOk }, cfg := bootedCfg s.cfg }) s0 :=
    control_each (fun _ _ => control_switchBuf) rfl
  have h1 : ControlIs _ s1 := control_ite (control_bootImages h0) h0
  have h2 : ControlIs _ s2 := control_foldl h1 fun _ _ => control_factoryFail
  split
  next la ba hA =>
  split
  next lb bb hB =>
  extract_lets s3 s4
  have h3 : ControlIs (bootedSys b s.sys, bootedCfg s.cfg, bootedFrm b (bootedCfg s.cfg).active s.frm, s.wdt, s.tal,
      s.sec, s.hp) s3 := by
    simp only [ControlIs, control, Prod.mk.injEq] at h2 ⊢
    obtain ⟨hsys, hcfg, hfrm, hrest⟩ := h2
    refine ⟨?_, hcfg, ?_, hrest⟩
    · simp only [bootedSys, hA, hB]
      exact congrArg (fun y : Sys => { y with addr := BitVec.ofNat 6 (8 * lb + la), strapBad := ba || bb }) hsys
    · rw [← hcfg, ← hfrm]
      rfl
  have h4 : ControlIs _ s4 := control_foldl h3 fun _ _ => control_bootGroup
  exact control_ite (h4.update rfl) (control_ite (control_raise (h4.update rfl)) h4)

end

/-! ### The end of BOOT -/

section
variable {s : State} {i : TickIn}

theorem changeMode_control (m : Mode) (mask : BitVec 8) : ∃ p d, control (changeMode m mask s) =
    ({ s.sys with mode := m, prevMode := p, degMask := d, imgFail := false, grpFail := 0 }, s.cfg, s.frm, s.wdt, s.tal,
      s.sec, s.hp) := by
  unfold changeMode
  split
  · next h =>
    subst h
    exact ⟨s.sys.prevMode, _, rfl⟩
  · exact ⟨_, _, control_raise (control_ite (control_each (fun _ _ => control_modOut) rfl) rfl)⟩

theorem goMode_control (m : Mode) (mask : BitVec 8) : ∃ p d, control (goMode m mask s) =
    ({ s.sys with mode := m, prevMode := p, degMask := d, imgFail := false, grpFail := 0 }, s.cfg, s.frm, s.wdt, s.tal,
      s.sec, s.hp) := by
  obtain ⟨p, d, h⟩ := changeMode_control (s := s) m mask
  unfold goMode
  extract_lets s1 s2 s3
  have h1 : ControlIs _ s1 := control_modeLanes h
  have h2 : ControlIs _ s2 := control_ite (control_withdrawControl h1) h1
  have h3 : ControlIs _ s3 := control_ite (control_each (fun _ _ => control_modOut) h2) h2
  exact ⟨p, d, control_each (fun _ _ => control_askStage) (control_refreshSafe h3)⟩

/-- The trial begins or a revert is answered; of the configuration only the record under way changes. -/
theorem bootUpdate_control :
    ∃ k : Cfg, k.active = s.cfg.active ∧ control (bootUpdate s) = ((control s).1, k, (control s).2.2) := by
  unfold bootUpdate
  split
  · extract_lets _ s1
    have h1 : ControlIs (control s) s1 := control_raise rfl
    split
    · exact ⟨s.cfg, rfl, h1⟩
    · have hcfg : s1.cfg = s.cfg := congrArg (fun x => x.2.1) h1
      refine ⟨{ s1.cfg with writing := some s1.cfg.active, wrote := 0, leave := false }, ?_, control_groomReq ?_⟩
      · rw [hcfg]
      · exact congrArg (fun x : Sys × Cfg × Frm × Wdt × Tal × Sec × Hp =>
          (x.1, ({ s1.cfg with writing := some s1.cfg.active, wrote := 0, leave := false } : Cfg), x.2.2)) h1
  · split
    · exact ⟨s.cfg, rfl, control_raise rfl⟩
    · exact ⟨s.cfg, rfl, rfl⟩

theorem bootTick_control {x : Sys × Cfg × Frm × Wdt × Tal × Sec × Hp} (h : ControlIs x s) :
    ControlIs x (bootTick i s) :=
  control_each (fun _ _ => control_tickSummary) (control_each (fun _ _ h => control_ite (control_measureGrp h) h)
    (control_each (fun _ _ h => control_tickFault (control_tickCh h)) h))

/-! ### The fault bits are compared -/

/-- The fault bits of a channel were compared and are those it shows. -/
def SeenFaults (s : State) (n : ChanId) : Prop := s.ch[n].flt.seen = faultBits s.ch[n].flt

theorem SeenFaults.of_ch {t : State} {n : ChanId} (h : SeenFaults s n) (e : t.ch = s.ch) : SeenFaults t n := by
  unfold SeenFaults at *
  simp only [e]
  exact h

theorem raise_ch (e : Fin 128) (p : W32) : (raise e p s).ch = s.ch := by
  have h : apartFromEvents (raise e p s) = apartFromEvents s := raise_frame e p s
  have hc := congrArg State.ch h
  exact hc

theorem raiseSum_ch (n : ChanId) : (raiseSum n s).ch = s.ch := by
  unfold raiseSum raiseOn onCore
  split
  · exact raise_ch _ _
  · rfl

theorem tickSummary_other {n k : ChanId} (h : k ≠ n) : (tickSummary n s).ch[k] = s.ch[k] := by
  unfold tickSummary
  extract_lets u s1 bits s2
  have h2 : s2.ch[k] = s.ch[k] := (modCh_other _ _ h).trans (modCh_other _ _ h)
  split
  · exact h2
  · exact (congrArg (·[k]) (raiseSum_ch n)).trans h2

theorem tickSummary_seen (n : ChanId) : SeenFaults (tickSummary n s) n := by
  unfold tickSummary
  extract_lets u s1 bits s2
  have h2 : SeenFaults s2 n := by
    unfold SeenFaults s2
    rw [modFlt, modCh_self]
    rfl
  split
  · exact h2
  · unfold SeenFaults
    rw [raiseSum_ch]
    exact h2

theorem each_tickSummary_seen {l : List ChanId} {n : ChanId} (h : n ∈ l ∨ SeenFaults s n) :
    SeenFaults (each l tickSummary s) n := by
  induction l generalizing s with
  | nil => exact h.resolve_left (by simp)
  | cons k l ih =>
    refine ih ?_
    by_cases hk : n = k
    · subst hk
      exact .inr (tickSummary_seen n)
    · refine h.imp (fun hm => (List.mem_cons.1 hm).resolve_left hk) fun hs => ?_
      unfold SeenFaults
      rw [tickSummary_other hk]
      exact hs

theorem bootTick_seen (n : ChanId) : SeenFaults (bootTick i s) n :=
  each_tickSummary_seen (.inl (List.mem_finRange n))

end

section
variable {s : State} {b : BootIn} {i : TickIn} {dur : Nat}

/-- In recovery the values of the Reset columns are active (R390). -/
theorem release_recovers (h : s.sys.bootReady = false)
    (hrec : b.bootsel = false ∨ (b.firmwareOk = false ∧ (s.upd.trialFlag && decide (s.sys.cause = 5)) = false)) :
    ∃ t w, exec (.resetRelease b) s = .next t ∧ control t =
      ({ releaseSys b s with recov := true }, { s.cfg with active := .none, staged := .none, writing := w },
        s.frm, s.wdt, s.tal, { s.sec with claimPin := !b.claimN }, { s.hp with ready := true }) := by
  obtain ⟨w, hc⟩ := afterRevert_control (b := b) (s := s)
  refine ⟨recoveryBoot b s, w, ?_, ?_⟩
  · refine (execResetRelease_of h).trans ?_
    rw [afterRevert_trialFlag]
    obtain hrec | ⟨hfw, htrial⟩ := hrec
    · simp [hrec]
    · rw [hfw, htrial]
      simp
  · simp only [control, Prod.mk.injEq] at hc ⊢
    obtain ⟨hsys, hcfg, hrest⟩ := hc
    exact ⟨congrArg (fun x : Sys => { x with recov := true }) hsys,
      congrArg (fun k : Cfg => { k with active := .none, staged := .none }) hcfg, hrest⟩

/-- Otherwise the steps of BOOT run (R389). -/
theorem release_boots (h : s.sys.bootReady = false) (hsel : b.bootsel = true)
    (hfw : b.firmwareOk = true ∨ (s.upd.trialFlag && decide (s.sys.cause = 5)) = true) :
    ∃ t, exec (.resetRelease b) s = .next t ∧ control t =
      (bootedSys b (releaseSys b s), bootedCfg s.cfg, bootedFrm b (bootedCfg s.cfg).active s.frm, s.wdt, s.tal,
        { s.sec with claimPin := !b.claimN }, { s.hp with ready := true }) := by
  obtain ⟨w, hc⟩ := afterRevert_control (b := b) (s := s)
  refine ⟨bootSteps b (afterRevert b s), ?_, ?_⟩
  · refine (execResetRelease_of h).trans ?_
    rw [afterRevert_trialFlag]
    obtain hfw | hfw := hfw
    · simp [hsel, hfw]
    · simp only [hsel, hfw, Bool.not_true, Bool.and_false, Bool.false_eq_true, if_false]
  · rw [bootSteps_control]
    simp only [control, Prod.mk.injEq] at hc ⊢
    obtain ⟨hsys, hcfg, hfrm, hrest⟩ := hc
    have hcfg' : bootedCfg (afterRevert b s).cfg = bootedCfg s.cfg := (congrArg bootedCfg hcfg :)
    refine ⟨(congrArg (bootedSys b) hsys :), hcfg', ?_, hrest⟩
    rw [hcfg', hfrm]

/-- The first tick at the end of a BOOT that took `w`. -/
def bootFirstTick (t : Nat) (w : HWord) (s : State) : State := firstTick t { s with sys := { s.sys with bootTime := w } }

theorem bootMode_bootFirstTick (t : Nat) (w : HWord) : bootMode (bootFirstTick t w s) = bootMode s := rfl

/-- The machine when BOOT has ended: the first tick, the mode, the trial, and what a tick captures. -/
def bootEnded (i : TickIn) (w : HWord) (s : State) : State :=
  loadRegs (sysWords false false (bootTick i (bootUpdate (goMode (bootMode s) 0 (bootFirstTick i.t w s)))))

theorem execBootEnd_of (hon : coreOn s = true) (hm : s.sys.mode = .boot) (hr : s.sys.recov = false)
    (hrev : s.upd.revert = none) : execBootEnd i dur s = .next (bootEnded i (sat16u (dur / 10000)) s) := by
  have hgo : (decide (s.sys.mode = .boot) && !s.sys.recov && s.upd.revert.isNone) = true := by simp [hm, hr, hrev]
  unfold execBootEnd onCore
  dsimp only
  rw [if_pos hon, if_pos hgo, bootEnded, ← bootMode_bootFirstTick i.t (sat16u (dur / 10000))]
  rfl

theorem loadRegs_ch : (loadRegs s).ch = s.ch := rfl
theorem sysWords_ch (late ok : Bool) : (sysWords late ok s).ch = s.ch := rfl

/-- The parts of the state that `control` holds. -/
theorem parts_of_control {x : Sys × Cfg × Frm × Wdt × Tal × Sec × Hp} (h : control s = x) :
    { s.sys with imgFail := false, grpFail := 0 } = x.1 ∧ s.cfg = x.2.1 ∧ s.frm = x.2.2.1 ∧ s.wdt = x.2.2.2.1 ∧
      s.tal = x.2.2.2.2.1 ∧ s.sec = x.2.2.2.2.2.1 ∧ s.hp = x.2.2.2.2.2.2 := by
  subst h
  exact ⟨rfl, rfl, rfl, rfl, rfl, rfl, rfl⟩

theorem bootFirstTick_control (t : Nat) (w : HWord) : control (bootFirstTick t w s) =
    ({ (bootFirstTick t w s).sys with imgFail := false, grpFail := 0 }, s.cfg, (bootFirstTick t w s).frm,
      (bootFirstTick t w s).wdt, (bootFirstTick t w s).tal, s.sec, s.hp) := rfl

/-- The first frame's number (R29, R391). -/
theorem bootFirstTick_no (t : Nat) (w : HWord) : (bootFirstTick t w s).frm.no =
    if fld (act s 0x0100) 1 0 = 0 ∧ s.frm.srcValid then netFrameNo s.cfg.active t else 0 := rfl

/-- The watchdog runs from the first tick where the fuse or its register enables it (R341). -/
theorem bootFirstTick_wdtRun (t : Nat) (w : HWord) :
    (bootFirstTick t w s).wdt.run = (s.wdt.fuseOn || (act s 0x0300).getLsbD 15) := rfl

theorem bootEnded_seen {w : HWord} (n : ChanId) : SeenFaults (bootEnded i w s) n :=
  (bootTick_seen n).of_ch (by rw [bootEnded, loadRegs_ch, sysWords_ch])

/-- What the end of BOOT leaves: its mode and time, the first tick's frame and watchdog, and every channel's fault bits
compared (R391, R153). -/
theorem bootEnd_ends (hon : coreOn s = true) (hm : s.sys.mode = .boot) (hr : s.sys.recov = false)
    (hrev : s.upd.revert = none) (w : HWord) (hw : w = sat16u (dur / 10000)) :
    ∃ t x k, exec (.bootEnd i dur) s = .next t ∧ x.mode = bootMode s ∧ x.bootTime = w ∧ k.active = s.cfg.active ∧
      control t = (x, k, (bootFirstTick i.t w s).frm, (bootFirstTick i.t w s).wdt, (bootFirstTick i.t w s).tal,
        s.sec, s.hp) ∧
      ∀ n, SeenFaults t n := by
  obtain ⟨p, d, hg⟩ := goMode_control (s := bootFirstTick i.t w s) (bootMode s) 0
  obtain ⟨k, hk, hu⟩ := bootUpdate_control (s := goMode (bootMode s) 0 (bootFirstTick i.t w s))
  have ht : control (bootEnded i w s) = control (bootUpdate (goMode (bootMode s) 0 (bootFirstTick i.t w s))) :=
    control_loadRegs (control_sysWords (bootTick_control ControlIs.refl))
  obtain ⟨-, hcfg, -, -, -, hsec, hhp⟩ := parts_of_control (bootFirstTick_control (s := s) i.t w)
  rw [hcfg, hsec, hhp] at hg
  have hga : (goMode (bootMode s) 0 (bootFirstTick i.t w s)).cfg = s.cfg := (parts_of_control hg).2.1
  refine ⟨bootEnded i w s, (control (goMode (bootMode s) 0 (bootFirstTick i.t w s))).1, k, ?_, ?_, ?_, ?_, ?_,
    bootEnded_seen⟩
  · rw [hw]
    exact execBootEnd_of hon hm hr hrev
  · rw [hg]
  · rw [hg]
    rfl
  · rw [hk, hga]
  · rw [ht, hu, hg]

end

/-- A staged recovery set resets the machine (R390, R391). -/
def recoveryReset (s : State) : State :=
  let r := resetState 6 (switchBanks s)
  { r with upd := { r.upd with old := none, oldImages := [] } }

theorem execRecoveryReset_of {s : State} (hon : coreOn s = true) (hr : s.sys.recov = true) (hst : s.upd.st = .staged) :
    execRecoveryReset s = .next (recoveryReset s) := by
  have hgo : (s.sys.recov && decide (s.upd.st = .staged)) = true := by simp [hr, hst]
  exact congrArg Host.Outcome.next ((if_pos hon).trans (if_pos hgo))

/-- The cause is 6, the banks have changed places, and BOOT begins again. -/
theorem recoveryReset_boots {s : State} : (recoveryReset s).sys.cause = 6 ∧ (recoveryReset s).sys.mode = .boot ∧
    (recoveryReset s).sys.bootReady = false ∧ (recoveryReset s).upd.active = s.upd.staged ∧
    (recoveryReset s).upd.old = none :=
  ⟨rfl, rfl, rfl, rfl, rfl⟩

/-- Settles O21: the parts of `control` after each step, and for the fault bits the channels after the first tick. -/
theorem bootLoadsAndEnds : Obligations.BootLoadsAndEnds := by
  unfold Obligations.BootLoadsAndEnds
  constructor
  · intro s b
    refine ⟨fun h => ?_, fun h => ?_⟩
    · exact execResetRelease_again h
    intro trial
    by_cases hrec : b.bootsel = false ∨ (b.firmwareOk = false ∧ trial = false)
    · obtain ⟨t, w, ht, hc⟩ := release_recovers h hrec
      obtain ⟨hsys, hcfg, -, -, -, hsec, hhp⟩ := parts_of_control hc
      refine ⟨t, ht, congrArg Sys.mode hsys, congrArg Sys.bootReady hsys, congrArg Hp.ready hhp,
        congrArg Sys.bootsel hsys, congrArg Sys.xpMode hsys, congrArg Sys.claimN hsys, congrArg Sec.claimPin hsec,
        fun _ => ⟨congrArg Sys.recov hsys, congrArg Cfg.active hcfg, congrArg Cfg.staged hcfg⟩, fun hsel hfw => ?_⟩
      obtain hrec | ⟨hrec, htrial⟩ := hrec
      · simp [hsel] at hrec
      · simp [hrec, htrial] at hfw
    · obtain ⟨hsel, hfw⟩ := not_or.1 hrec
      have hfw' : b.firmwareOk = true ∨ trial = true := by
        simpa only [not_and_or, Bool.not_eq_false] using hfw
      obtain ⟨t, ht, hc⟩ := release_boots h (Bool.eq_true_of_not_eq_false hsel) hfw'
      obtain ⟨hsys, hcfg, hfrm, -, -, hsec, hhp⟩ := parts_of_control hc
      refine ⟨t, ht, congrArg Sys.mode hsys, congrArg Sys.bootReady hsys, congrArg Hp.ready hhp,
        congrArg Sys.bootsel hsys, congrArg Sys.xpMode hsys, congrArg Sys.claimN hsys,
        congrArg Sec.claimPin hsec, fun h => absurd h hrec,
        fun _ _ => ⟨(congrArg Sys.recov hsys :), congrArg Cfg.active hcfg, ?_, (congrArg Cfg.committed hcfg :),
          congrArg Sys.addr hsys, congrArg Sys.strapBad hsys, ?_⟩⟩
      · rw [hcfg, bootedCfg]
      · rw [hfrm, hcfg, bootedFrm]
  · intro s hon
    refine ⟨fun i dur hm hr hrev => ?_, fun hr hst => ?_⟩
    · obtain ⟨t, x, k, ht, hmode, htime, hk, hc, hseen⟩ := bootEnd_ends (i := i) (dur := dur) hon hm hr hrev _ rfl
      obtain ⟨hsys, hcfg, hfrm, hwdt, htal, -, -⟩ := parts_of_control hc
      exact ⟨t, ht, (congrArg Sys.mode hsys).trans hmode, (congrArg Sys.bootTime hsys).trans htime,
        congrArg Frm.tickT hfrm, (congrArg Frm.no hfrm).trans (bootFirstTick_no ..),
        (congrArg Wdt.run hwdt).trans (bootFirstTick_wdtRun ..), congrArg Wdt.cnt hwdt, congrArg Tal.started htal,
        (congrArg Cfg.active hcfg).trans hk, hseen⟩
    · exact ⟨_, execRecoveryReset_of hon hr hst, recoveryReset_boots⟩

end Sys2Proof.Machine
end

section
/-! What raising an event and answering in a session leave: every part of the state that their rules do not name. -/

open Sys2Proof Sys2Proof.Machine
namespace Sys2Proof.Machine

section
variable {s : State} {e : Fin 128} {p : W32}

/-- Raising an event leaves whatever can be read off the state apart from events (R238). -/
theorem raise_field {β : Type} {π : State → β} (h : ∀ s, π (apartFromEvents s) = π s) : π (raise e p s) = π s :=
  (h _).symm.trans ((congrArg π (raise_frame e p s)).trans (h s))

@[simp] theorem raise_now : (raise e p s).now = s.now := raise_field fun _ => rfl
@[simp] theorem raise_cfg : (raise e p s).cfg = s.cfg := raise_field fun _ => rfl
@[simp] theorem raise_cmt : (raise e p s).cmt = s.cmt := raise_field fun _ => rfl
@[simp] theorem raise_frm : (raise e p s).frm = s.frm := raise_field fun _ => rfl
@[simp] theorem raise_img : (raise e p s).img = s.img := raise_field fun _ => rfl
@[simp] theorem raise_grp : (raise e p s).grp = s.grp := raise_field fun _ => rfl
@[simp] theorem raise_pi : (raise e p s).pi = s.pi := raise_field fun _ => rfl
@[simp] theorem raise_wdt : (raise e p s).wdt = s.wdt := raise_field fun _ => rfl
@[simp] theorem raise_tal : (raise e p s).tal = s.tal := raise_field fun _ => rfl
@[simp] theorem raise_frz : (raise e p s).frz = s.frz := raise_field fun _ => rfl
@[simp] theorem raise_pgv : (raise e p s).pgv = s.pgv := raise_field fun _ => rfl
@[simp] theorem raise_sec : (raise e p s).sec = s.sec := raise_field fun _ => rfl
@[simp] theorem raise_far : (raise e p s).far = s.far := raise_field fun _ => rfl
@[simp] theorem raise_cal : (raise e p s).cal = s.cal := raise_field fun _ => rfl
@[simp] theorem raise_sent : (raise e p s).sent = s.sent := raise_field fun _ => rfl

end
end Sys2Proof.Machine
end

section
/-! Answers in a session: what they leave, and their equation while the session sends on (R268, R281, R302). -/

open Sys2Proof Sys2Proof.Machine
namespace Sys2Proof.Machine

section
variable {s : State} {m : MsgCtx} {i : Fin 16} {msg : HWord} {body : List Byte}

/-- The state less what the end of a session changes: the Bridle, the COMMIT that would be answered in it, and the open lock. -/
def apartFromSessions (s : State) : State :=
  { s with
    now := 0, sent := [], sec := State.reset.sec, cmt := { s.cmt with answer := none }
    upd := { s.upd with lockOpen := false } }

theorem sessionsOnly_of_apart {t : State} (h : apartFromSessions t = apartFromSessions s) :
    t = { s with now := t.now, sent := t.sent, sec := t.sec, cmt := { s.cmt with answer := t.cmt.answer },
                 upd := { s.upd with lockOpen := t.upd.lockOpen } } :=
  congrArg (fun x : State => { x with now := t.now, sent := t.sent, sec := t.sec, cmt := { x.cmt with answer := t.cmt.answer },
                                      upd := { x.upd with lockOpen := t.upd.lockOpen } }) h

@[simp] theorem closeSess_apart : apartFromSessions (closeSess i s) = apartFromSessions s := by
  unfold closeSess
  extract_lets live s1 s2
  split <;> rfl

@[simp] theorem bumpSend_apart {sid : Option (Fin 16)} : apartFromSessions (bumpSend sid s) = apartFromSessions s := by
  unfold bumpSend
  split
  · extract_lets s1
    split
    · exact closeSess_apart
    · rfl
  · rfl

@[simp] theorem reply_apart {sid : Option (Fin 16)} : apartFromSessions (reply m sid msg body s) = apartFromSessions s := by
  unfold reply
  dsimp only
  rw [bumpSend_apart]
  split <;> rfl

@[simp] theorem answerCmd_apart {q : QCmd} {st : Byte} : apartFromSessions (answerCmd q st s) = apartFromSessions s := by
  unfold answerCmd
  split
  · exact reply_apart
  · rfl

@[simp] theorem answerCommit_apart {cause : Byte} : apartFromSessions (answerCommit cause s) = apartFromSessions s := by
  unfold answerCommit
  dsimp only
  split
  · exact answerCmd_apart
  · rfl

/-- A session sends a record and goes on (R268, R281). -/
def sentOne (i : Fin 16) (s : State) : State := modSess s i fun x => { x with sendSeq := x.sendSeq + 1 }

theorem bumpSend_of_sendsOn (h : SendsOn s i) : bumpSend (some i) s = sentOne i s := by
  have hs : isSpent (sentOne i s) i = false := by
    have hne : s.sec.sess[i].sendSeq + 1 ≠ 0xFFFFFFFFFFFFFFFF := by
      have := h
      unfold SendsOn at this
      bv_omega
    simpa [isSpent, sentOne, modSess] using hne
  exact if_neg (by rw [← sentOne, hs]; exact Bool.false_ne_true)

/-- The bytes of an answer as the mailbox holds them (R278, R302). -/
def replyBytes (m : MsgCtx) (sid : Option (Fin 16)) (msg : HWord) (body : List Byte) (s : State) : List Byte :=
  match sid with
  | some i => msgHeader m 0x0003 true (recordBytes s i (beBytes 2 msg.toNat ++ body)).length ++
      recordBytes s i (beBytes 2 msg.toNat ++ body)
  | none => msgHeader m msg true body.length ++ body

theorem replyBytes_ne_nil {sid : Option (Fin 16)} : replyBytes m sid msg body s ≠ [] := by
  unfold replyBytes
  split <;> simp [msgHeader]

/-- The state when an answer has been handed over, before the send counter moves. -/
def answeredWith (m : MsgCtx) (sid : Option (Fin 16)) (msg : HWord) (body b : List Byte) (s : State) : State :=
  { s with
    sent := .response m.iface m.peer sid msg m.txid body (msgTag s m.iface) :: s.sent
    sec := { s.sec with mbReply := if m.iface = .host then b else s.sec.mbReply } }

theorem reply_eq {sid : Option (Fin 16)} :
    ∃ b ≠ [], reply m sid msg body s = bumpSend sid (answeredWith m sid msg body b s) := by
  refine ⟨replyBytes m sid msg body { s with
    sent := .response m.iface m.peer sid msg m.txid body (msgTag s m.iface) :: s.sent }, replyBytes_ne_nil, ?_⟩
  unfold reply answeredWith replyBytes
  split <;> split <;> rfl

theorem reply_of_sendsOn (h : SendsOn s i) :
    ∃ b ≠ [], reply m (some i) msg body s = sentOne i (answeredWith m (some i) msg body b s) := by
  obtain ⟨b, hb, e⟩ := reply_eq (s := s) (m := m) (sid := some i) (msg := msg) (body := body)
  exact ⟨b, hb, e.trans (bumpSend_of_sendsOn h)⟩

end
end Sys2Proof.Machine
end

section
/-! A COMMIT up to its acceptance, and the eFlash writes of records and NV stores (R19 to R22, R141, R246). -/

open Sys2Proof Sys2Proof.Machine
namespace Sys2Proof.Machine

section
variable {s : State} {acc : Access} {a : Nat} {v : HWord} {g : GroupId} {op : ReqOp} {cause : Byte} {t : Nat}

/-- A write that the Bridle lets pass is allowed (R277). -/
theorem writeAllowed_of_passes (hon : coreOn s = true) (hacc : ∀ c, acc ≠ .core c) (h : writeCause s acc a v = none) :
    WriteAllowed s acc a v := by
  refine ⟨hon, ?_⟩
  cases acc with
  | core c => exact absurd rfl (hacc c)
  | _ => exact h

theorem onCore_of_on {f : State → State} (hon : coreOn s = true) : onCore f s = f s := if_pos hon

/-! ### The answer to a COMMIT -/

/-- An answer to the command that waits for the COMMIT leaves whatever the end of its session leaves. -/
theorem answerCommit_field {β : Type} {π : State → β} (h : ∀ s, π (apartFromSessions s) = π s) :
    π (answerCommit cause s) = π s :=
  (h _).symm.trans ((congrArg π answerCommit_apart).trans (h s))

@[simp] theorem answerCommit_cfg : (answerCommit cause s).cfg = s.cfg := answerCommit_field fun _ => rfl
@[simp] theorem answerCommit_grp : (answerCommit cause s).grp = s.grp := answerCommit_field fun _ => rfl
@[simp] theorem answerCommit_evt : (answerCommit cause s).evt = s.evt := answerCommit_field fun _ => rfl
@[simp] theorem answerCommit_frm : (answerCommit cause s).frm = s.frm := answerCommit_field fun _ => rfl
@[simp] theorem answerCommit_phase : (answerCommit cause s).cmt.phase = s.cmt.phase :=
  answerCommit_field (π := fun s => s.cmt.phase) fun _ => rfl
@[simp] theorem answerCommit_cause : (answerCommit cause s).cmt.cause = s.cmt.cause :=
  answerCommit_field (π := fun s => s.cmt.cause) fun _ => rfl
@[simp] theorem answerCommit_acked : (answerCommit cause s).cmt.acked = s.cmt.acked :=
  answerCommit_field (π := fun s => s.cmt.acked) fun _ => rfl

/-- A COMMIT that ends with a cause, its portions taken back, before it is answered. -/
def commitEnded (cause : Byte) (s : State) : State :=
  { s with
    cmt := { s.cmt with phase := .idle, cause := cause }
    grp := s.grp.map fun x => { x with portionNext := none } }

theorem refuseCommit_eq :
    refuseCommit cause s = raise 81 (cause.setWidth 32) (answerCommit cause (commitEnded cause s)) := rfl

/-- A refused COMMIT changes no set, ends with its cause, and takes the portions back (R20). -/
theorem refuseCommit_spec : (refuseCommit cause s).cfg = s.cfg ∧ (refuseCommit cause s).cmt.phase = .idle ∧
    (refuseCommit cause s).cmt.cause = cause ∧ (∀ h : GroupId, (refuseCommit cause s).grp[h].portionNext = none) ∧
    Raised 81 (cause.setWidth 32) s (refuseCommit cause s) := by
  rw [refuseCommit_eq]
  have hr := raise_raised 81 (cause.setWidth 32) (answerCommit cause (commitEnded cause s)) (by decide)
  refine ⟨by simp [commitEnded], by simp [commitEnded], by simp [commitEnded], fun h => by simp [commitEnded], ?_⟩
  unfold Raised at hr ⊢
  rwa [answerCommit_evt, answerCommit_frm] at hr

/-- The acceptance of a COMMIT changes its phase, and its answer leaves it (R19). -/
theorem acceptIfDone_spec (h : s.cmt.phase = .portions) : (acceptIfDone t s).cfg = s.cfg ∧ (acceptIfDone t s).grp = s.grp ∧
    (acceptIfDone t s).cmt.acked = s.cmt.acked ∧
    (acceptIfDone t s).cmt.phase = if allAcked s then .accepted else .portions := by
  unfold acceptIfDone
  by_cases ha : allAcked s = true <;> simp [h, ha]

/-! ### The steps of a COMMIT -/

theorem exec_commitKey (h : WriteAllowed s acc 0x0010 0xC3A5) (hp : cmtPend s = false) : exec (.commitKey acc) s =
    .next { s with cmt := { s.cmt with phase := .requested, src := 2, answer := none, gaitErr0 := 0, gaitErr1 := 0 } } := by
  refine congrArg Host.Outcome.next ((guarded_of_allowed h).trans ?_)
  simp [storeCmtCtl, requestCommit, hp]

theorem exec_discardKey (h : WriteAllowed s acc 0x0010 0x3C5A) : exec (.discardKey acc) s =
    .next { s with cfg := { s.cfg with staged := s.cfg.active } } := by
  refine congrArg Host.Outcome.next ((guarded_of_allowed h).trans ?_)
  simp [storeCmtCtl]

/-- The findings of the checks of a COMMIT are written (R19, R44). -/
def checksDone (t : Nat) (s : State) : State :=
  let r := stage3Checks s
  { atTime t s with cmt := { s.cmt with
      gaitErr0 := (r.err.map GaitErr.reg0).getD 0, gaitErr1 := (r.err.map GaitErr.reg1).getD 0
      fitErr := if r.cause = 0 ∨ 5 ≤ r.cause.toNat then r.fit else s.cmt.fitErr
      chkErr := if r.cause = 7 then r.chk else s.cmt.chkErr } }

/-- The portions of a COMMIT go out to the powered groups (R19). -/
def portionsSent (s : State) : State :=
  { s with cmt := { s.cmt with
      phase := .portions, acked := 0, frames := .ofFn fun g => if alive s g then some 0 else none } }

theorem exec_commitChecks_eq (hon : coreOn s = true) (hr : s.cmt.phase = .requested) : exec (.commitChecks t) s =
    .next (if (stage3Checks s).cause ≠ 0 then refuseCommit (stage3Checks s).cause (checksDone t s)
      else acceptIfDone t (portionsSent (checksDone t s))) :=
  congrArg Host.Outcome.next ((onCore_of_on hon).trans (if_pos hr))

theorem exec_commitChecks (hon : coreOn s = true) (hr : s.cmt.phase = .requested) :
    ∃ t', exec (.commitChecks t) s = .next t' ∧ t'.cfg = s.cfg ∧
      ((stage3Checks s).cause ≠ 0 → t'.cmt.phase = .idle ∧ t'.cmt.cause = (stage3Checks s).cause ∧
        Raised 81 ((stage3Checks s).cause.setWidth 32) s t') ∧
      ((stage3Checks s).cause = 0 → t'.cmt.phase =
        if groups.all (fun g => decide (s.grp[g].supply = .unpowered)) then .accepted else .portions) := by
  refine ⟨_, exec_commitChecks_eq hon hr, ?_⟩
  by_cases hc : (stage3Checks s).cause = 0
  · rw [if_neg (not_not_intro hc)]
    obtain ⟨hcfg, -, -, hphase⟩ := acceptIfDone_spec (t := t) (s := portionsSent (checksDone t s)) rfl
    refine ⟨hcfg, fun h => absurd hc h, fun _ => hphase.trans ?_⟩
    have hacked : ∀ h : GroupId, (portionsSent (checksDone t s)).cmt.acked.getLsbD h.val = false := fun h => BitVec.getLsbD_zero
    simp only [allAcked, hacked, Bool.or_false]
    rfl
  · rw [if_pos hc]
    obtain ⟨hcfg, hphase, hcause, -, hraised⟩ :=
      refuseCommit_spec (cause := (stage3Checks s).cause) (s := checksDone t s)
    exact ⟨hcfg, fun _ => ⟨hphase, hcause, hraised⟩, fun h => absurd h hc⟩

/-- A group has acknowledged its portion (R20). -/
def portionAcked (g : GroupId) (t : Nat) (s : State) : State :=
  { modGrp (atTime t s) g fun x => { x with portionNext := some s.cfg.staged } with
    cmt := { s.cmt with acked := setBit s.cmt.acked g.val true } }

theorem setBit_acked (v : BitVec 8) (g h : GroupId) :
    (setBit v g.val true).getLsbD h.val = (decide (h = g) || v.getLsbD h.val) := by
  rcases eq_or_ne h g with rfl | hne
  · simp [setBit_self _ _ h.isLt]
  · have hv : h.val ≠ g.val := Fin.val_ne_of_ne hne
    simp [setBit, hne]
    omega

theorem exec_groupPortionAck (hon : coreOn s = true) (hp : s.cmt.phase = .portions) (ha : alive s g = true)
    (hl : s.grp[g].link = false) (hf : ∃ k, s.cmt.frames[g] = some k ∧ k ≤ 4) :
    ∃ t', exec (.groupPortionAck g t) s = .next t' ∧ t'.cfg = s.cfg ∧ t'.grp[g].portionNext = some s.cfg.staged ∧
      t'.cmt.acked = setBit s.cmt.acked g.val true ∧
      t'.cmt.phase = if groups.all (fun h => decide (s.grp[h].supply = .unpowered) || decide (h = g) ||
        s.cmt.acked.getLsbD h.val) then .accepted else .portions := by
  obtain ⟨k, hk, hle⟩ := hf
  have hgo : (s.cmt.phase = .portions && alive s g && !(s.grp[g]).link &&
      (portionFrames s g).any (fun k => decide (k ≤ 4))) = true := by
    simp only [portionFrames, hp, ha, hl, hk]
    simpa using hle
  refine ⟨acceptIfDone t (portionAcked g t s),
    congrArg Host.Outcome.next ((onCore_of_on hon).trans (if_pos hgo)), ?_⟩
  obtain ⟨hcfg, hgrp, hacked, hphase⟩ := acceptIfDone_spec (t := t) (s := portionAcked g t s) hp
  refine ⟨hcfg, ?_, hacked, hphase.trans ?_⟩
  · rw [hgrp]
    simp [portionAcked, modGrp, atTime]
  · have hsup : ∀ h : GroupId, (portionAcked g t s).grp[h].supply = s.grp[h].supply := by
      intro h
      rcases eq_or_ne h g with rfl | hne
      · simp [portionAcked, modGrp, atTime]
      · exact congrArg Grp.supply (vec_set_other _ _ hne)
    have hall : ∀ h : GroupId, (decide ((portionAcked g t s).grp[h].supply = .unpowered) ||
        (portionAcked g t s).cmt.acked.getLsbD h.val) = (decide (s.grp[h].supply = .unpowered) || decide (h = g) ||
        s.cmt.acked.getLsbD h.val) := by
      intro h
      rw [hsup, Bool.or_assoc, ← setBit_acked]
      rfl
    simp only [allAcked, hall]

theorem exec_commitLinkTimeout (hon : coreOn s = true) (hp : s.cmt.phase = .portions) (ha : alive s g = true)
    (hn : s.cmt.acked.getLsbD g.val = false) (hf : ∃ k, s.cmt.frames[g] = some k ∧ 4 ≤ k) :
    exec (.commitLinkTimeout g) s = .next (refuseCommit 9 s) := by
  obtain ⟨k, hk, hle⟩ := hf
  have hgo : (s.cmt.phase = .portions && alive s g && !s.cmt.acked.getLsbD g.val &&
      (portionFrames s g).any (fun k => decide (4 ≤ k))) = true := by
    simp only [portionFrames, hp, ha, hn, hk]
    simpa using hle
  exact congrArg Host.Outcome.next ((onCore_of_on hon).trans (if_pos hgo))

/-! ### Records and stores in the eFlash -/

@[simp] theorem reqPending_openOp {i : Fin 96} : reqPending (openOp i op s) op = true := by
  have h : (openOp i op s).pgv.slots[i].st = .pending ∧ (openOp i op s).pgv.slots[i].op = op := by
    simp [openOp, openSlot, modSlot]
  simp only [reqPending, Bool.or_eq_true, List.any_eq_true, decide_eq_true_eq]
  exact .inl ⟨i, List.mem_finRange i, h⟩

/-- A request of the Groom core is pending, in a slot or waiting for one (R255). -/
@[simp] theorem reqPending_groomReq : reqPending (groomReq op s) op = true := by
  unfold groomReq
  split
  · exact reqPending_openOp
  · simp [reqPending]

/-- A request of the Groom core is one of the Reins alone. -/
theorem groomReq_frame : groomReq op s = { s with pgv := (groomReq op s).pgv } := by
  unfold groomReq
  split
  · unfold openOp openSlot keepLease
    dsimp only
    split <;> rfl
  · rfl

end

/-- Settles O24: each step of a COMMIT by its own equation, and the two jobs of the eFlash. -/
theorem commitUpToAcceptanceAndEflashWrites : Obligations.CommitUpToAcceptanceAndEflashWrites := by
  unfold Obligations.CommitUpToAcceptanceAndEflashWrites
  refine ⟨fun s => ⟨?_, ?_, ?_, ?_, ?_⟩, fun s hon => ⟨fun c hw => ⟨?_, ?_, ?_⟩, ?_⟩⟩
  · intro acc hon hacc hw hp
    exact ⟨_, exec_commitKey (writeAllowed_of_passes hon hacc hw) hp, rfl, rfl, rfl⟩
  · intro acc hon hacc hw
    exact exec_discardKey (writeAllowed_of_passes hon hacc hw)
  · intro t0 hon hr
    exact exec_commitChecks hon hr
  · intro g t0 hon hp ha hl hf
    exact exec_groupPortionAck hon hp ha hl hf
  · intro g hon hp ha hn hf
    obtain ⟨hcfg, hphase, hcause, hnext, -⟩ := refuseCommit_spec (cause := 9) (s := s)
    exact ⟨_, exec_commitLinkTimeout hon hp ha hn hf, hcfg, hphase, hcause, hnext⟩
  · intro hl ht
    refine congrArg Host.Outcome.next ((onCore_of_on hon).trans ?_)
    simp [sectorDone, hw, hl, ht]
  · intro hl hlt
    refine ⟨groomReq .record { s with
      cfg := { s.cfg with wrote := s.cfg.wrote + 1, leave := false }, far := { s.far with recErase := s.far.recErase + 1 } },
      congrArg Host.Outcome.next ((onCore_of_on hon).trans ?_), ?_, ?_, reqPending_groomReq⟩
    · simp [sectorDone, hw, hl, hlt]
    · rw [groomReq_frame]
    · rw [groomReq_frame]
  · intro hl last
    refine congrArg Host.Outcome.next ((onCore_of_on hon).trans ?_)
    simp [sectorDone, hw, hl]
  · intro c w hsvc hnum hst hgr ht
    refine ⟨nvDone c s, congrArg Host.Outcome.next (onCore_of_on hon), ?_⟩
    simp only [nvDone, hsvc, hnum, hst, hgr, ht, and_self, if_true, Bool.false_eq_true, if_false, modCore_self]
    exact ⟨rfl, trivial, rfl, rfl, rfl⟩

end Sys2Proof.Machine
end

section
/-! The operating mode is none of a helper operation's business: for each operation of the model, what it leaves of the `sys` part
of the state, or of its mode. An operation that takes an operation keeps the mode where that one does. -/

open Sys2Proof Sys2Proof.Machine
namespace Sys2Proof.Machine

section
variable {s : State} {c : CoreId} {g : GroupId} {n : ChanId} {acc : Access} {v : HWord} {m : MsgCtx}
  {r : RecCtx} {i : Fin 96} {op : ReqOp}

@[simp] theorem ite_sys {p : Prop} [Decidable p] {t : State} : (if p then s else t).sys = if p then s.sys else t.sys := by
  split <;> rfl

@[simp] theorem ite_sysMode {p : Prop} [Decidable p] {a b : Sys} :
    (if p then a else b).mode = if p then a.mode else b.mode := by
  split <;> rfl

@[simp] theorem each_sys {α : Type} {l : List α} {f : α → State → State} (h : ∀ x s, (f x s).sys = s.sys) :
    (each l f s).sys = s.sys := each_congr h

@[simp] theorem each_mode {α : Type} {l : List α} {f : α → State → State} (h : ∀ x s, (f x s).sys.mode = s.sys.mode) :
    (each l f s).sys.mode = s.sys.mode := each_congr (π := fun s => s.sys.mode) h

@[simp] theorem foldl_sys {α : Type} {l : List α} {f : State → α → State} (h : ∀ s x, (f s x).sys = s.sys) :
    (l.foldl f s).sys = s.sys := each_congr (f := fun x s => f s x) fun x s => h s x

@[simp] theorem foldl_mode {α : Type} {l : List α} {f : State → α → State} (h : ∀ s x, (f s x).sys.mode = s.sys.mode) :
    (l.foldl f s).sys.mode = s.sys.mode := each_congr (f := fun x s => f s x) (π := fun s => s.sys.mode) fun x s => h s x

@[simp] theorem foldl_fst_sys {α β : Type} {l : List α} {f : State × β → α → State × β} {p : State × β}
    (h : ∀ p x, (f p x).1.sys = p.1.sys) : (l.foldl f p).1.sys = p.1.sys := by
  induction l generalizing p with
  | nil => rfl
  | cons x l ih => exact ih.trans (h p x)

/-- The mode of the state an instruction's effect leaves, `m` where it raises an exception. -/
def effMode (m : Mode) : Eff → Mode
  | .ok s _ _ => s.sys.mode
  | .trap _ _ _ => m

@[simp] theorem effMode_ok {m : Mode} {target : Option W32} {k : Nat} : effMode m (.ok s target k) = s.sys.mode := rfl

@[simp] theorem effMode_trap {m : Mode} {cause bus : BitVec 4} {a : W32} : effMode m (.trap cause bus a) = m := rfl

@[simp] theorem effMode_ite {m : Mode} {p : Prop} [Decidable p] {x y : Eff} :
    effMode m (if p then x else y) = if p then effMode m x else effMode m y := by
  split <;> rfl

@[simp] theorem atSlot_sys {k : BitVec 8} : (atSlot k s).sys = s.sys := by
  simp [atSlot]

@[simp] theorem logPut_sys {b : Fin 5} {bytes : List Byte} : (logPut s b bytes).1.sys = s.sys := by
  simp only [logPut]
  repeat' split
  all_goals simp

@[simp] theorem journal_sys {entry : List Byte} : (journal s entry).1.sys = s.sys := by
  simp [journal]

@[simp] theorem record_sys {b : Fin 5} {bytes : List Byte} : (record b bytes s).sys = s.sys := by
  simp [record]

@[simp] theorem closeSess_sys {i : Fin 16} : (closeSess i s).sys = s.sys := by
  simp [closeSess]

@[simp] theorem bumpSend_sys {sid : Option (Fin 16)} : (bumpSend sid s).sys = s.sys := by
  unfold bumpSend
  split <;> simp

@[simp] theorem reply_sys {sid : Option (Fin 16)} {body : List Byte} : (reply m sid v body s).sys = s.sys := by
  simp [reply]

@[simp] theorem refuseMsg_sys {sid : Option (Fin 16)} {cause : Byte} : (refuseMsg m sid cause s).sys = s.sys := by
  simp only [refuseMsg]
  repeat' split
  all_goals simp

@[simp] theorem wrReg_sys {f : BitVec 5} {v : W32} : (wrReg c f v s).sys = s.sys := by
  simp [wrReg]

@[simp] theorem wrM_sys {f : BitVec 5} {v : W64} : (wrM c f v s).sys = s.sys := by
  simp [wrM]

@[simp] theorem wrFlags_sys {f : Flags} : (wrFlags c f s).sys = s.sys := by
  simp [wrFlags]

@[simp] theorem wrResult_sys {rd : BitVec 5} {v : W32} {f : Flags} : (wrResult c rd v f s).sys = s.sys := by
  simp [wrResult]

@[simp] theorem onCore_mode {f : State → State} (hf : ∀ s, (f s).sys.mode = s.sys.mode) :
    (onCore f s).sys.mode = s.sys.mode := by
  simp [onCore, hf]

@[simp] theorem afterBoot_mode {f : State → State} (hf : ∀ s, (f s).sys.mode = s.sys.mode) :
    (afterBoot f s).sys.mode = s.sys.mode := by
  simp [afterBoot, hf]

@[simp] theorem frameOverrun_mode {kind core : BitVec 2} {grp : BitVec 3} {slot : BitVec 8} :
    (frameOverrun kind core grp slot s).sys.mode = s.sys.mode := by
  simp [frameOverrun]

@[simp] theorem answerCmd_sys {q : QCmd} {st : Byte} : (answerCmd q st s).sys = s.sys := by
  simp [answerCmd]

@[simp] theorem refuseCmd_sys {q : QCmd} {cause : Byte} : (refuseCmd q cause s).sys = s.sys := by
  simp [refuseCmd]

@[simp] theorem answerCommit_sys {cause : Byte} : (answerCommit cause s).sys = s.sys := by
  unfold answerCommit
  split <;> simp

@[simp] theorem refuseCommit_sys {cause : Byte} : (refuseCommit cause s).sys = s.sys := by
  simp [refuseCommit]

@[simp] theorem acceptIfDone_sys {t : Nat} : (acceptIfDone t s).sys = s.sys := by
  simp [acceptIfDone]

@[simp] theorem haltCore_sys : (haltCore c s).sys = s.sys := by
  simp [haltCore]

@[simp] theorem takeExc_mode {cause bus : BitVec 4} {addr : W32} {t : Nat} :
    (takeExc c cause bus addr t s).sys.mode = s.sys.mode := by
  simp only [takeExc]
  repeat' split
  all_goals simp

@[simp] theorem atCycle_sys {t : Nat} : (atCycle t s).sys = s.sys := by
  simp [atCycle]

@[simp] theorem budgetExc_mode {t : Nat} : (budgetExc c t s).sys.mode = s.sys.mode := by
  simp [budgetExc]

@[simp] theorem trapAt_mode {cause bus : BitVec 4} {addr : W32} {t : Nat} :
    (trapAt c cause bus addr t s).sys.mode = s.sys.mode := by
  simp [trapAt]

@[simp] theorem canter_mode {legal : Bool} {sh : Shape} {eff : Nat → State → Eff}
    (heff : ∀ t s, effMode s.sys.mode (eff t s) = s.sys.mode) : (canter c legal sh eff s).sys.mode = s.sys.mode := by
  have he := heff (issueAt s.core[c] sh) (atCycle (issueAt s.core[c] sh) s)
  unfold canter
  dsimp only
  split
  · rfl
  split
  · exact trapAt_mode
  split
  · exact trapAt_mode
  split
  · exact trapAt_mode
  · next heq =>
    rw [heq] at he
    split
    · exact budgetExc_mode
    · exact he

@[simp] theorem calPut_sys {t i : Nat} {v : W32} : (calPut t i v s).sys = s.sys := by
  simp [calPut]

@[simp] theorem keepLease_sys : (keepLease i s).sys = s.sys := by
  simp [keepLease]

@[simp] theorem openSlot_sys {cls : BitVec 2} {gc : Vector Nat 8} {dc frames : Nat} {members : BitVec 64} :
    (openSlot i op cls gc dc frames members s).sys = s.sys := by
  simp [openSlot]

@[simp] theorem openOp_sys : (openOp i op s).sys = s.sys := by
  simp [openOp]

@[simp] theorem groomReq_sys : (groomReq op s).sys = s.sys := by
  unfold groomReq
  split <;> simp

@[simp] theorem serveWait_sys : (serveWait s).sys = s.sys := by
  unfold serveWait
  split <;> simp

@[simp] theorem joinSet_sys {mw frames : Nat} : (joinSet i n mw frames s).sys = s.sys := by
  simp [joinSet]

@[simp] theorem askLeave_sys : (askLeave n op s).sys = s.sys := by
  simp only [askLeave]
  repeat' split
  all_goals simp

@[simp] theorem conflict_sys {kind : Nat} {g : Option GroupId} : (conflict kind g s).sys = s.sys := by
  simp [conflict]

@[simp] theorem chargeLease_sys : (chargeLease n s).sys = s.sys := by
  simp [chargeLease]

@[simp] theorem withdraw_sys : (withdraw n s).sys = s.sys := by
  simp [withdraw]

@[simp] theorem endLease_sys : (endLease n s).sys = s.sys := by
  simp [endLease]

@[simp] theorem endOwn_sys : (endOwn n s).sys = s.sys := by
  simp [endOwn]

@[simp] theorem protectConflict_sys : (protectConflict n s).sys = s.sys := by
  simp [protectConflict]

@[simp] theorem examine_sys {p : State × Exam} : (examine i p).1.sys = p.1.sys := by
  unfold examine
  dsimp only
  split <;> simp

@[simp] theorem ageLeases_sys : (ageLeases s).sys = s.sys := by
  unfold ageLeases
  dsimp only
  rw [each_sys]
  · rfl
  · intro i s
    split
    · split <;> rfl
    · rfl

@[simp] theorem updateCorr_sys : (updateCorr s).sys = s.sys := by
  simp [updateCorr]

@[simp] theorem overCheck_sys : (overCheck s).sys = s.sys := by
  simp [overCheck]

@[simp] theorem loadRegs_sys : (loadRegs s).sys = s.sys := by
  simp [loadRegs]

@[simp] theorem reinsTick_mode : (reinsTick s).sys.mode = s.sys.mode := by
  simp [reinsTick]

@[simp] theorem setApplied_sys {w : W32} : (setApplied n w s).sys = s.sys := by
  simp [setApplied]

@[simp] theorem startBusy_sys {k : BitVec 2} : (startBusy n k s).sys = s.sys := by
  simp [startBusy]

@[simp] theorem queueReq_sys {q : QReq} : (queueReq n q s).sys = s.sys := by
  simp [queueReq]

@[simp] theorem latchQual_sys : (latchQual n s).sys = s.sys := by
  simp [latchQual]

@[simp] theorem switchOff_sys : (switchOff n s).sys = s.sys := by
  simp only [switchOff, onCore]
  repeat' split
  all_goals simp

@[simp] theorem putSafe_sys {w : W32} : (putSafe n w s).sys = s.sys := by
  simp [putSafe]

@[simp] theorem applySafe_sys : (applySafe n s).sys = s.sys := by
  simp [applySafe]

@[simp] theorem refreshSafe_sys {l : List ChanId} : (refreshSafe l s).sys = s.sys := by
  simp [refreshSafe]

@[simp] theorem askOnce_sys : (askOnce n op s).sys = s.sys := by
  simp [askOnce]

@[simp] theorem usePrepared_sys : (usePrepared i n op s).sys = s.sys := by
  simp [usePrepared]

@[simp] theorem applyValue_mode {w : W32} {move : Bool} : (applyValue n w move s).sys.mode = s.sys.mode := by
  simp only [applyValue]
  repeat' split
  all_goals simp

@[simp] theorem noteLast_sys : (noteLast n s).sys = s.sys := by
  simp [noteLast]

@[simp] theorem valueBehind_sys {w : W32} : (valueBehind n w s).sys = s.sys := by
  simp only [valueBehind]
  repeat' split
  all_goals simp

@[simp] theorem applyAt_mode {fresh : Bool} : (applyAt n fresh s).sys.mode = s.sys.mode := by
  simp [applyAt]

@[simp] theorem applyCh_mode {fresh : Bool} : (applyCh n fresh s).sys.mode = s.sys.mode := by
  simp [applyCh]

@[simp] theorem leaveMode_sys {old : CfgSet} : (leaveMode n old s).sys = s.sys := by
  simp [leaveMode]

@[simp] theorem askStage_sys : (askStage n s).sys = s.sys := by
  simp [askStage]

@[simp] theorem enterMode_sys {old : CfgSet} : (enterMode n old s).sys = s.sys := by
  simp [enterMode]

@[simp] theorem serveBytes_sys {n : Nat} : (serveBytes n s).sys = s.sys := by
  simp [serveBytes]

@[simp] theorem eccServed_sys {b : Fin 5} : (eccServed b s).sys = s.sys := by
  simp [eccServed]

@[simp] theorem putBlock_sys : (putBlock g s).sys = s.sys := by
  simp [putBlock]

@[simp] theorem addSample_sys {j : Nat} {x : W32} : (addSample g j x s).sys = s.sys := by
  simp [addSample]

@[simp] theorem jobDone_sys {code : Nat} : (jobDone code s).sys = s.sys := by
  simp [jobDone]

@[simp] theorem raiseOn_sys {e : Fin 128} {payload : W32} : (raiseOn e payload s).sys = s.sys := by
  simp only [raiseOn, onCore]
  repeat' split
  all_goals simp

@[simp] theorem raiseSum_sys : (raiseSum n s).sys = s.sys := by
  simp [raiseSum]

@[simp] theorem setStuck_sys : (setStuck n s).sys = s.sys := by
  simp [setStuck]

@[simp] theorem darkSeen_mode : (darkSeen n s).sys.mode = s.sys.mode := by
  exact each_mode fun _ _ => rfl

@[simp] theorem setCross_sys {a b : ChanId} : (setCross a b s).sys = s.sys := by
  simp [setCross]

@[simp] theorem coreBus_mode {a : Nat} : (coreBus c a s).sys.mode = s.sys.mode := by
  simp [coreBus]

@[simp] theorem keyWhilePending_mode {a : Nat} {cause : Byte} : (keyWhilePending a v cause s).sys.mode = s.sys.mode := by
  simp [keyWhilePending]

@[simp] theorem guarded_mode {a : Nat} {f : State → State} (hf : ∀ s, (f s).sys.mode = s.sys.mode) :
    (guarded acc a v f s).sys.mode = s.sys.mode := by
  simp only [guarded, onCore]
  repeat' split
  all_goals simp [hf]

@[simp] theorem guardedRead_mode {a : Nat} {f : State → State} (hf : ∀ s, (f s).sys.mode = s.sys.mode) :
    (guardedRead acc a f s).sys.mode = s.sys.mode := by
  simp only [guardedRead, onCore]
  repeat' split
  all_goals simp [hf]

@[simp] theorem modRot_sys {f : Rot → Rot} : (modRot s g f).sys = s.sys := by
  simp [modRot]

@[simp] theorem dropReq_sys : (dropReq op s).sys = s.sys := by
  simp [dropReq]

@[simp] theorem endOp_sys : (endOp op s).sys = s.sys := by
  simp [endOp]

@[simp] theorem askSweep_sys : (askSweep g s).sys = s.sys := by
  simp only [askSweep, onCore]
  repeat' split
  all_goals simp

@[simp] theorem startRot_sys : (startRot g s).sys = s.sys := by
  simp [startRot]

@[simp] theorem suspendRot_sys : (suspendRot g s).sys = s.sys := by
  simp [suspendRot]

@[simp] theorem swapConv_sys {r : Fin 3} : (swapConv g r s).sys = s.sys := by
  simp [swapConv]

@[simp] theorem handover_sys : (handover g s).sys = s.sys := by
  simp [handover]

@[simp] theorem beginOverlap_sys : (beginOverlap g s).sys = s.sys := by
  simp [beginOverlap]

@[simp] theorem restartOverlap_sys : (restartOverlap g s).sys = s.sys := by
  simp [restartOverlap]

@[simp] theorem laneFault_sys {conv : BitVec 2} : (laneFault g conv s).sys = s.sys := by
  simp [laneFault]

@[simp] theorem resetLaneCorr_sys : (resetLaneCorr g s).sys = s.sys := by
  simp [resetLaneCorr]

@[simp] theorem protectCh_sys : (protectCh n s).sys = s.sys := by
  simp only [protectCh, onCore]
  repeat' split
  all_goals simp

@[simp] theorem thermOff_sys {k : Bool} : (thermOff n k s).sys = s.sys := by
  simp [thermOff]

@[simp] theorem endBusy_sys {k : BitVec 2} : (endBusy n k s).sys = s.sys := by
  simp [endBusy]

@[simp] theorem openPath_sys : (openPath n s).sys = s.sys := by
  simp [openPath]

@[simp] theorem supplyOff_sys : (supplyOff n s).sys = s.sys := by
  simp [supplyOff]

@[simp] theorem stopLanes_sys : (stopLanes g s).sys = s.sys := by
  simp [stopLanes]

@[simp] theorem supplyFail_sys {st : Supply} : (supplyFail g st v s).sys = s.sys := by
  simp [supplyFail]

@[simp] theorem givePortion_sys : (givePortion g s).sys = s.sys := by
  simp [givePortion]

@[simp] theorem joinPortions_sys : (joinPortions g s).sys = s.sys := by
  simp [joinPortions]

@[simp] theorem endHold_sys : (endHold g s).sys = s.sys := by
  simp [endHold]

@[simp] theorem dropQueued_sys : (dropQueued n s).sys = s.sys := by
  simp [dropQueued]

@[simp] theorem enterHold_sys : (enterHold g s).sys = s.sys := by
  simp [enterHold]

@[simp] theorem leaveHold_sys : (leaveHold g s).sys = s.sys := by
  simp [leaveHold]

@[simp] theorem clearCh_sys : (clearCh n s).sys = s.sys := by
  simp [clearCh]

@[simp] theorem clearGrp_sys : (clearGrp g s).sys = s.sys := by
  simp [clearGrp]

@[simp] theorem openSensor_sys {c v : Int} : (openSensor n c v s).sys = s.sys := by
  simp [openSensor]

@[simp] theorem writeEntry_sys {r : Role} {i : Fin 16} {e : Entry} {x : ConvIn} : (writeEntry g r i e x s).sys = s.sys := by
  unfold writeEntry
  split <;> simp

@[simp] theorem releaseHold_sys {e : Entry} {t : Nat} : (releaseHold e t s).sys = s.sys := by
  unfold releaseHold
  split <;> simp

@[simp] theorem clearPair_sys : (clearPair g s).sys = s.sys := by
  simp [clearPair]

@[simp] theorem shadowSample_sys {x : ConvIn} : (shadowSample g x s).sys = s.sys := by
  simp [shadowSample]

@[simp] theorem startScan_sys : (startScan g s).sys = s.sys := by
  simp [startScan]

@[simp] theorem selfCheck_sys : (selfCheck g s).sys = s.sys := by
  simp [selfCheck]

@[simp] theorem leaveScan_sys : (leaveScan g s).sys = s.sys := by
  simp [leaveScan]

@[simp] theorem enterScan_sys : (enterScan g s).sys = s.sys := by
  simp [enterScan]

@[simp] theorem endRecovery_sys : (endRecovery g s).sys = s.sys := by
  simp [endRecovery]

@[simp] theorem putOut_sys {w : W32} : (putOut n w s).sys = s.sys := by
  simp [putOut]

@[simp] theorem outOwner_sys {w : Nat} : (outOwner n w s).sys = s.sys := by
  simp [outOwner]

@[simp] theorem putDmem_sys {o : Nat} {v : W32} : (putDmem c o v s).sys = s.sys := by
  simp [putDmem]

@[simp] theorem svcFixed_mode {f : SvcF} {l : Nat} {g : State → State} (hg : ∀ s, (g s).sys.mode = s.sys.mode) :
    (svcFixed c f l g s).sys.mode = s.sys.mode := by
  simp [svcFixed, hg]

@[simp] theorem svcD0_sys {v : W32} : (svcD0 c v s).sys = s.sys := by
  simp [svcD0]

@[simp] theorem svcD1_sys {v : W32} : (svcD1 c v s).sys = s.sys := by
  simp [svcD1]

@[simp] theorem svcLong_mode {f : SvcF} {n : Byte} : (svcLong c f n s).sys.mode = s.sys.mode := by
  simp [svcLong]

@[simp] theorem putSram_sys {a : W32} {l : List Byte} : (putSram a l s).sys = s.sys := by
  simp [putSram]

@[simp] theorem putIn_sys {w : W32} : (putIn n w s).sys = s.sys := by
  simp [putIn]

@[simp] theorem putFormed_sys {w : W32} : (putFormed n w s).sys = s.sys := by
  simp [putFormed]

@[simp] theorem putStatus_sys : (putStatus g s).sys = s.sys := by
  simp [putStatus]

@[simp] theorem checkEcho_mode {chans : BitVec 64} {grpBit : Bool} : (checkEcho g chans grpBit s).sys.mode = s.sys.mode := by
  unfold checkEcho
  dsimp only
  split
  · rw [raise_sys]
    exact each_mode fun _ _ => rfl
  · exact each_mode fun _ _ => rfl

@[simp] theorem coldJunction_sys {die : Int} : (coldJunction die n s).sys = s.sys := by
  simp [coldJunction]

@[simp] theorem endXfer_mode {x : InXferIn} : (endXfer g x s).sys.mode = s.sys.mode := by
  simp only [endXfer]
  repeat' split
  all_goals simp

@[simp] theorem deadlineCore_mode {slot : BitVec 8} : (deadlineCore slot c s).sys.mode = s.sys.mode := by
  simp [deadlineCore]

@[simp] theorem sendWord_mode : (sendWord n s).sys.mode = s.sys.mode := by
  simp [sendWord]

@[simp] theorem takeWord_mode : (takeWord n s).sys.mode = s.sys.mode := by
  simp [takeWord]

@[simp] theorem applyGroup_mode : (applyGroup g s).sys.mode = s.sys.mode := by
  simp [applyGroup]

@[simp] theorem svcPut_sys {d0 : W32} {d1 : Option W32} {t : Nat} : (svcPut c d0 d1 t s).sys = s.sys := by
  simp [svcPut]

@[simp] theorem resumeServed_sys {t : Nat} : (resumeServed c t s).sys = s.sys := by
  unfold resumeServed
  split <;> simp

@[simp] theorem tapCopy_sys {p : PortId} {x : Tapped} : (tapCopy p x s).sys = s.sys := by
  simp [tapCopy]

@[simp] theorem drainPort_sys {p : PortId} : (drainPort s p).sys = s.sys := by
  simp [drainPort]

@[simp] theorem sendFrame_sys {f : EthFrame} {vid : BitVec 12} {untag : Bool} {p : PortId} :
    (sendFrame f vid untag s p).sys = s.sys := by
  simp [sendFrame]

@[simp] theorem tickGates_sys : (tickGates s).sys = s.sys := by
  simp [tickGates]

@[simp] theorem timeValid_sys : (timeValid s).sys = s.sys := by
  simp [timeValid]

@[simp] theorem timeStep_sys : (timeStep s).sys = s.sys := by
  simp [timeStep]

@[simp] theorem bmca_sys : (bmca s).sys = s.sys := by
  simp [bmca]

@[simp] theorem storeCmtCtl_sys : (storeCmtCtl v s).sys = s.sys := by
  simp [storeCmtCtl]

@[simp] theorem switchDi_sys {a b : CfgSet} : (switchDi a b n s).sys = s.sys := by
  simp [switchDi]

@[simp] theorem dropAccepted_sys {a b : CfgSet} : (dropAccepted a b n s).sys = s.sys := by
  simp [dropAccepted]

@[simp] theorem switchCh_sys {a b : CfgSet} : (switchCh a b n s).sys = s.sys := by
  simp [switchCh]

@[simp] theorem switchGrp_sys {b : CfgSet} : (switchGrp b g s).sys = s.sys := by
  simp [switchGrp]

@[simp] theorem switchBuf_sys {a b : CfgSet} {k : Fin 5} : (switchBuf a b k s).sys = s.sys := by
  simp [switchBuf]

@[simp] theorem switchBudget_sys {a b : CfgSet} : (switchBudget a b s).sys = s.sys := by
  simp [switchBudget]

@[simp] theorem switchCore_mode {a b : CfgSet} : (switchCore a b s).sys.mode = s.sys.mode := by
  simp [switchCore]

@[simp] theorem switchPtp_sys {a b : CfgSet} : (switchPtp a b s).sys = s.sys := by
  simp [switchPtp]

@[simp] theorem startRecord_sys {a b : CfgSet} : (startRecord a b s).sys = s.sys := by
  simp [startRecord]

@[simp] theorem doSwitch_mode {b : CfgSet} : (doSwitch b s).sys.mode = s.sys.mode := by
  simp [doSwitch]

@[simp] theorem sectorDone_sys {last : Bool} : (sectorDone last s).sys = s.sys := by
  unfold sectorDone
  split <;> simp

@[simp] theorem nvDone_sys : (nvDone c s).sys = s.sys := by
  unfold nvDone
  split <;> simp

@[simp] theorem tickFrm_sys {i : TickIn} : (tickFrm i s).sys = s.sys := by
  simp [tickFrm]

@[simp] theorem tickCh_sys {i : TickIn} : (tickCh i n s).sys = s.sys := by
  simp [tickCh]

@[simp] theorem tickFault_sys {i : TickIn} : (tickFault i n s).sys = s.sys := by
  simp [tickFault]

@[simp] theorem tickCross_sys : (tickCross n s).sys = s.sys := by
  simp [tickCross]

@[simp] theorem tickSummary_sys : (tickSummary n s).sys = s.sys := by
  simp [tickSummary]

@[simp] theorem measureGrp_sys {i : TickIn} : (measureGrp i g s).sys = s.sys := by
  simp [measureGrp]

@[simp] theorem tickGrp_sys {i : TickIn} : (tickGrp i g s).sys = s.sys := by
  simp [tickGrp]

@[simp] theorem dropIdleSets_sys : (dropIdleSets s).sys = s.sys := by
  unfold dropIdleSets
  refine each_sys fun i s => ?_
  split
  · split <;> rfl
  · rfl

@[simp] theorem tickAsk_sys : (tickAsk n s).sys = s.sys := by
  simp [tickAsk]

@[simp] theorem tickRetry_sys : (tickRetry s).sys = s.sys := by
  simp [tickRetry]

@[simp] theorem sysWords_sys {late ok : Bool} : (sysWords late ok s).sys = s.sys := by
  simp [sysWords]

@[simp] theorem tickCores_mode {dt : Nat} : (tickCores dt s).sys.mode = s.sys.mode := by
  exact each_mode fun _ _ => rfl

@[simp] theorem tickMisc_sys : (tickMisc s).sys = s.sys := by
  simp [tickMisc]

@[simp] theorem tickNet_sys : (tickNet s).sys = s.sys := by
  simp [tickNet]

@[simp] theorem syncErr_sys : (syncErr s).sys = s.sys := by
  simp [syncErr]

@[simp] theorem storeWdt_mode : (storeWdt acc v s).sys.mode = s.sys.mode := by
  simp [storeWdt]

@[simp] theorem talCompare_sys {t : Task} {p : State × Bool} : (talCompare t p).1.sys = p.1.sys := by
  simp only [talCompare]
  repeat' split
  all_goals simp

@[simp] theorem talBegin_sys : (talBegin s).sys = s.sys := by
  simp [talBegin]

@[simp] theorem talEnd_mode {bad : Bool} : (talEnd bad s).sys.mode = s.sys.mode := by
  simp [talEnd]

@[simp] theorem requestFreeze_sys {bit : Nat} : (requestFreeze bit s).sys = s.sys := by
  simp [requestFreeze]

@[simp] theorem onMsg_mode {f : State → State} (hf : ∀ s, (f s).sys.mode = s.sys.mode) :
    (onMsg m f s).sys.mode = s.sys.mode := by
  simp [onMsg, hf]

@[simp] theorem touch_sys : (touch m s).sys = s.sys := by
  simp [touch]

@[simp] theorem outerMsg_mode {open_ rec : Bool} {f : State → State} (hf : ∀ s, (f s).sys.mode = s.sys.mode) :
    (outerMsg m open_ rec f s).sys.mode = s.sys.mode := by
  unfold outerMsg
  refine onMsg_mode fun s => ?_
  split <;> simp [hf]

@[simp] theorem recordLayer_mode {x : RecIn} {f : State → State} (hf : ∀ s, (f s).sys.mode = s.sys.mode) :
    (recordLayer m x f s).sys.mode = s.sys.mode := by
  simp only [recordLayer]
  repeat' split
  all_goals simp [hf]

@[simp] theorem plainMsg_mode {open_ rec : Bool} {f : State → State} (hf : ∀ s, (f s).sys.mode = s.sys.mode) :
    (plainMsg m open_ rec f s).sys.mode = s.sys.mode := by
  unfold plainMsg
  split <;> simp [hf]

@[simp] theorem verifying_mode {maint : Bool} {f : State → State} (hf : ∀ s, (f s).sys.mode = s.sys.mode) :
    (verifying maint f s).sys.mode = s.sys.mode := by
  simp [verifying, hf]

@[simp] theorem useKey_sys {kid : BitVec 64} : (useKey kid s).sys = s.sys := by
  unfold useKey
  split <;> simp

@[simp] theorem recMsg_mode {f : State → State} (hf : ∀ s, (f s).sys.mode = s.sys.mode) :
    (recMsg r f s).sys.mode = s.sys.mode := by
  unfold recMsg
  refine outerMsg_mode fun s => ?_
  split
  · rw [refuseMsg_sys]
  · exact recordLayer_mode hf

@[simp] theorem okRec_sys {body : List Byte} : (okRec r v body s).sys = s.sys := by
  simp [okRec]

@[simp] theorem noRec_sys {cause : Byte} : (noRec r cause s).sys = s.sys := by
  simp [noRec]

@[simp] theorem certDone_sys {cert : List Byte} {sigOk : Bool} : (certDone m cert sigOk s).sys = s.sys := by
  simp only [certDone]
  repeat' split
  all_goals simp

theorem drainFrom_mode {l : List QItem} : (drainFrom l s).sys.mode = s.sys.mode := by
  induction l generalizing s with
  | nil => rfl
  | cons x l ih =>
    cases x with
    | cmd q => rfl
    | cert m b ok => exact verifying_mode fun s => by simp [ih]

@[simp] theorem drainCerts_mode : (drainCerts s).sys.mode = s.sys.mode := drainFrom_mode

@[simp] theorem serveRead_sys {w : LogWait} : (serveRead w s).sys = s.sys := by
  simp [serveRead]

@[simp] theorem askRead_sys {w : LogWait} : (askRead w s).sys = s.sys := by
  simp [askRead]

@[simp] theorem freeReads_sys : (freeReads s).sys = s.sys := by
  simp [freeReads]

@[simp] theorem acceptCmd_sys {q : QCmd} : (acceptCmd q s).sys = s.sys := by
  simp [acceptCmd]

@[simp] theorem runCmd_mode {t : Nat} {sigOk : Bool} {f : QCmd → State → State}
    (hf : ∀ q s, (f q s).sys.mode = s.sys.mode) : (runCmd v sigOk t f s).sys.mode = s.sys.mode := by
  unfold runCmd
  refine onCore_mode fun s => ?_
  split
  · split
    · rfl
    · refine (verifying_mode fun s => ?_).trans rfl
      dsimp only
      split <;> simp [hf]
  · rfl

@[simp] theorem rrInstr_mode {f : RR} {two readFl wrFl : Bool} {i l : Nat} {op : AluOp} :
    (rrInstr c f two readFl wrFl i l op s).sys.mode = s.sys.mode := by
  simp [rrInstr]

@[simp] theorem cmpInstr_mode {f : RR} {op : W32 → W32 → Flags → Flags} : (cmpInstr c f op s).sys.mode = s.sys.mode := by
  simp [cmpInstr]

@[simp] theorem fmaInstr_mode {f : RR} {neg : Bool} : (fmaInstr c f neg s).sys.mode = s.sys.mode := by
  simp [fmaInstr]

@[simp] theorem macInstr_mode {f : RR} {g : Int → W32 → W32 → Int} : (macInstr c f g s).sys.mode = s.sys.mode := by
  simp [macInstr]

@[simp] theorem mfInstr_mode {f : RR} {mdOk : Bool} {flL : Option Nat} {g : W64 → W32 × Bool} :
    (mfInstr c f mdOk flL g s).sys.mode = s.sys.mode := by
  simp [mfInstr]

@[simp] theorem jrInstr_mode {f : RR} {link : Bool} : (jrInstr c f link s).sys.mode = s.sys.mode := by
  simp [jrInstr]

@[simp] theorem riInstr_mode {f : RI} {legal useS1 wrFl : Bool} {op : W32 → Flags → W32 × Flags} :
    (riInstr c f legal useS1 wrFl op s).sys.mode = s.sys.mode := by
  simp [riInstr]

@[simp] theorem jInstr_mode {off : BitVec 26} {link : Bool} : (jInstr c off link s).sys.mode = s.sys.mode := by
  simp [jInstr]

@[simp] theorem times_mode {n : Nat} {f : State → State} (hf : ∀ s, (f s).sys.mode = s.sys.mode) :
    (times n f s).sys.mode = s.sys.mode := by
  simp [times, hf]

@[simp] theorem scrub_mode {memory : W32} {x : ScrubIn} : (scrub memory x s).sys.mode = s.sys.mode := by
  simp [scrub]

@[simp] theorem inWindow_mode {f : State → State} (hf : ∀ s, (f s).sys.mode = s.sys.mode) :
    (inWindow f s).sys.mode = s.sys.mode := by
  simp [inWindow, hf]

@[simp] theorem factoryFail_sys {b : Nat × Nat} : (factoryFail b s).sys = s.sys := by
  simp [factoryFail]

@[simp] theorem storeWfarm_sys : (storeWfarm v s).sys = s.sys := by
  simp [storeWfarm]

@[simp] theorem forIp_mode {p : PortId} {x : Tapped} {ip : W32} {f : State → State} (hf : ∀ s, (f s).sys.mode = s.sys.mode) :
    (forIp p x ip f s).sys.mode = s.sys.mode := by
  simp [forIp, hf]

@[simp] theorem learn_sys {p : PortId} {f : EthFrame} {vid : BitVec 12} : (learn p f vid s).sys = s.sys := by
  simp [learn]

@[simp] theorem bridge_sys {p : PortId} {f : EthFrame} : (bridge p f s).sys = s.sys := by
  unfold bridge
  dsimp only
  split <;> simp

@[simp] theorem putSegment_sys {words : List W32} : (putSegment words s).sys = s.sys := by
  simp [putSegment]

@[simp] theorem verifySeg_sys {g : SegIn} {dir2 : Bool} : (verifySeg g dir2 s).sys = s.sys := by
  simp only [verifySeg]
  repeat' split
  all_goals simp

@[simp] theorem segError_sys : (segError s).sys = s.sys := by
  simp [segError]

@[simp] theorem sendCar_sys {p : PortId} {x : Carriage} : (sendCar p x s).sys = s.sys := by
  simp [sendCar]

@[simp] theorem comeBack_sys {x : Carriage} : (comeBack x s).sys = s.sys := by
  simp [comeBack]

@[simp] theorem passOn_sys {p : PortId} {c : CfgSet} {x : Carriage} : (passOn p c x s).sys = s.sys := by
  simp [passOn]

@[simp] theorem ownSeg_sys {c : CfgSet} {x : Carriage} {g : Option SegIn} : (ownSeg c x g s).sys = s.sys := by
  unfold ownSeg
  split <;> simp

@[simp] theorem sendBack_sys {cars : List Carriage} : (sendBack cars s).sys = s.sys := by
  simp [sendBack]

@[simp] theorem sendTrain_sys {dir2 : Bool} : (sendTrain dir2 s).sys = s.sys := by
  simp [sendTrain]

@[simp] theorem sendEvent_sys {x : EvXi} : (sendEvent x s).sys = s.sys := by
  simp [sendEvent]

@[simp] theorem storeSysRst_mode : (storeSysRst acc v s).sys.mode = s.sys.mode := by
  simp only [storeSysRst]
  repeat' split
  all_goals simp

@[simp] theorem bootUpdate_sys : (bootUpdate s).sys = s.sys := by
  simp [bootUpdate]

@[simp] theorem bootTick_sys {i : TickIn} : (bootTick i s).sys = s.sys := by
  simp [bootTick]

@[simp] theorem checkStaged_sys : (checkStaged s).sys = s.sys := by
  simp [checkStaged]

@[simp] theorem updReply_sys {u : UpdCtx} {status : Byte} {body : List Byte} : (updReply u v status body s).sys = s.sys := by
  unfold updReply
  split <;> simp

@[simp] theorem updRefuse_sys {u : UpdCtx} {cause : Byte} : (updRefuse u cause s).sys = s.sys := by
  unfold updRefuse
  split <;> simp

@[simp] theorem onUpd_mode {u : UpdCtx} {f : State → State} (hf : ∀ s, (f s).sys.mode = s.sys.mode) :
    (onUpd u f s).sys.mode = s.sys.mode := by
  unfold onUpd
  split
  · refine recMsg_mode fun s => ?_
    split <;> simp [hf]
  · refine plainMsg_mode fun s => ?_
    split <;> simp [hf]

@[simp] theorem needLock_mode {u : UpdCtx} {f : State → State} (hf : ∀ s, (f s).sys.mode = s.sys.mode) :
    (needLock u v f s).sys.mode = s.sys.mode := by
  simp [needLock, hf]

@[simp] theorem dropLock_sys : (dropLock s).sys = s.sys := by
  simp [dropLock]

@[simp] theorem setPart_sys {e : Nat} {l : List Byte} : (setPart e l s).sys = s.sys := by
  simp [setPart]

@[simp] theorem entryDone_sys {u : UpdCtx} {i : Nat} {e : MfEntry} : (entryDone u i e s).sys = s.sys := by
  simp [entryDone]

@[simp] theorem entryFails_sys {u : UpdCtx} {i : Nat} {status : Byte} : (entryFails u i status s).sys = s.sys := by
  simp [entryFails]

@[simp] theorem entryCheck_sys {u : UpdCtx} {i : Nat} {e : MfEntry} {hashOk imgSigOk : Bool} :
    (entryCheck u i e hashOk imgSigOk s).sys = s.sys := by
  simp [entryCheck]

@[simp] theorem groupOutcome_sys {ok : Bool} : (groupOutcome g ok s).sys = s.sys := by
  simp only [groupOutcome]
  repeat' split
  all_goals simp

@[simp] theorem storeHealth_sys : (storeHealth acc v s).sys = s.sys := by
  unfold storeHealth
  split
  · rfl
  · split <;> rfl

@[simp] theorem storeRevert_sys : (storeRevert acc v s).sys = s.sys := by
  simp only [storeRevert]
  repeat' split
  all_goals simp

@[simp] theorem freeCtx_sys {x : Option CtxId} : (freeCtx x s).sys = s.sys := by
  unfold freeCtx
  split <;> simp

@[simp] theorem runCtx_sys {x : CtxId} {l : List Byte} : (runCtx x l s).sys = s.sys := by
  simp [runCtx]

@[simp] theorem failFill_mode {q : FillReq} {ea : W32} : (failFill q ea s).sys.mode = s.sys.mode := by
  simp only [failFill]
  repeat' split
  all_goals simp

@[simp] theorem startFill_mode {q : FillReq} {ea : W32} : (startFill q ea s).sys.mode = s.sys.mode := by
  simp [startFill]

@[simp] theorem readyTimeout_sys {dev : BitVec 4} : (readyTimeout dev s).sys = s.sys := by
  simp [readyTimeout]

theorem nextFill_mode {k : Nat} : (nextFill k s).sys.mode = s.sys.mode := by
  induction k generalizing s with
  | zero => rfl
  | succ k ih =>
    unfold nextFill
    split
    · rfl
    · split
      · split
        · rfl
        · split
          · rw [startJob_sys]
          · simp [ih]
      · split
        · rfl
        · rw [startJob_sys]
      · simp [ih]
      · rfl

@[simp] theorem endFill_mode {res : FillResult} : (endFill res s).sys.mode = s.sys.mode := by
  unfold endFill
  split
  · rfl
  · dsimp only
    rw [nextFill_mode]
    split
    · simp
    · split <;> rfl

@[simp] theorem rxCheck_sys {j : XpJob} {len : Nat} {r : CtxId} : (rxCheck j len r s).sys = s.sys := by
  simp [rxCheck]

@[simp] theorem noteMiss_sys {q : Fin 7} {base : Nat} {miss : Bool} : (noteMiss q base miss s).sys = s.sys := by
  simp [noteMiss]

@[simp] theorem readEffect_sys {a : Nat} : (readEffect acc a s).sys = s.sys := by
  simp only [readEffect, ite_sys, modGrp_sys, modRdr_sys, noteBadIdx_sys, ite_self]

@[simp] theorem readSnap_sys {base len a : Nat} : (readSnap acc base len a s).2.sys = s.sys := by
  unfold readSnap
  dsimp only
  split
  · rfl
  · split <;> simp

@[simp] theorem readReg_sys {a : Nat} : (readReg acc a s).2.sys = s.sys := by
  unfold readReg
  dsimp only
  split <;> simp

@[simp] theorem readRegs_sys {l : List Nat} : (readRegs acc l s).2.sys = s.sys := by
  induction l generalizing s with
  | nil => rfl
  | cons a l ih => exact ih.trans readReg_sys

@[simp] theorem readBlock_sys {l : List Nat} : (readBlock acc l s).2.sys = s.sys := by
  induction l generalizing s with
  | nil => rfl
  | cons a l ih =>
    unfold readBlock
    by_cases ha : inMap a = true
    · rw [if_pos ha]
      exact ih.trans readReg_sys
    · rw [if_neg ha]
      exact ih

@[simp] theorem storeUserReset_sys : (storeUserReset v s).sys = s.sys := by
  simp [storeUserReset]

@[simp] theorem storeMbin_sys : (storeMbin acc v s).sys = s.sys := by
  simp [storeMbin]

@[simp] theorem mailboxSend_sys {n : Nat} : (mailboxSend n s).sys = s.sys := by
  simp [mailboxSend]

@[simp] theorem storeMbctl_sys : (storeMbctl acc v s).sys = s.sys := by
  simp only [storeMbctl]
  repeat' split
  all_goals simp

@[simp] theorem storeHpLen_sys : (storeHpLen v s).sys = s.sys := by
  simp [storeHpLen]

@[simp] theorem storeRecclr_sys : (storeRecclr acc v s).sys = s.sys := by
  simp [storeRecclr]

@[simp] theorem storeGrpFltclr_sys : (storeGrpFltclr acc g v s).sys = s.sys := by
  unfold storeGrpFltclr
  split
  · exact each_sys fun _ _ => rfl
  · rfl

@[simp] theorem storeChFltclr_sys : (storeChFltclr acc n v s).sys = s.sys := by
  simp [storeChFltclr]

@[simp] theorem storeCntclr_sys : (storeCntclr n v s).sys = s.sys := by
  simp [storeCntclr]

@[simp] theorem mUpdate_sys {f : MF} {b : W32} : (mUpdate c f b s).sys = s.sys := by
  simp [mUpdate]

@[simp] theorem storeRegs_mode {l : List (Nat × HWord)} : (storeRegs acc l s).sys.mode = s.sys.mode := by
  induction l generalizing s with
  | nil => rfl
  | cons x l ih => exact ih.trans storeReg_mode

@[simp] theorem mLoad_sys {ea : W32} {k : Nat} : (mLoad c ea k s).2.sys = s.sys := by
  unfold mLoad
  dsimp only
  split <;> simp

@[simp] theorem mStore_mode {ea : W32} {l : List Byte} : (mStore c ea l s).sys.mode = s.sys.mode := by
  unfold mStore
  dsimp only
  split <;> simp

@[simp] theorem ldEff_mode {f : MF} : effMode s.sys.mode (ldEff c f s) = s.sys.mode := by
  unfold ldEff
  dsimp only
  split
  · rfl
  · split <;> simp

@[simp] theorem stEff_mode {f : MF} {t : Nat} : effMode s.sys.mode (stEff c f t s) = s.sys.mode := by
  unfold stEff
  dsimp only
  split
  · rfl
  · split
    · rfl
    · split <;> simp

@[simp] theorem shiftOut_sys {l : List Byte} : (shiftOut l s).sys = s.sys := by
  simp [shiftOut]

@[simp] theorem newChallenge_sys : (newChallenge s).sys = s.sys := rfl

@[simp] theorem blockKey_mode {l : List (Nat × HWord)} {cause : Byte} : (blockKey l cause s).sys.mode = s.sys.mode := by
  unfold blockKey
  split <;> simp

@[simp] theorem beginFrame_mode : (beginFrame s).sys.mode = s.sys.mode := by
  simp [beginFrame]

@[simp] theorem endFrame_mode {tag : Bool} {sid : Option (Fin 16)} {x : Rep} :
    (endFrame tag sid x s).sys.mode = s.sys.mode := by
  unfold endFrame
  split <;> simp

@[simp] theorem hpFlag_sys {b : BitVec 5} : (hpFlag b s).sys = s.sys := by
  simp [hpFlag]

@[simp] theorem discard_mode {edges : Nat} {notReady : Bool} : (discard edges notReady s).sys.mode = s.sys.mode := by
  simp [discard]

@[simp] theorem useCount_sys {f : HpFrame} : (useCount f s).sys = s.sys := by
  simp [useCount]

@[simp] theorem access_mode {cmd : BitVec 4} {f : HpFrame} : (access cmd f s).2.sys.mode = s.sys.mode := by
  unfold access
  dsimp only
  split
  · simp
  · split
    · split <;> simp
    · split <;> simp

@[simp] theorem checkFrame_mode {cmd : BitVec 4} {f : HpFrame} : (checkFrame cmd f v s).sys.mode = s.sys.mode := by
  unfold checkFrame
  dsimp only
  repeat' split
  all_goals simp

@[simp] theorem hpFrame_mode {cmd : BitVec 4} {f : HpFrame} : (hpFrame cmd f s).sys.mode = s.sys.mode := by
  simp [hpFrame]

@[simp] theorem grantMember_sys {members : BitVec 64} : (grantMember members n s).sys = s.sys := by
  simp [grantMember]

@[simp] theorem grantOut_sys : (grantOut n s).sys = s.sys := by
  simp [grantOut]

@[simp] theorem startOp_mode {members : BitVec 64} : (startOp op members s).sys.mode = s.sys.mode := by
  unfold startOp
  split <;> simp

@[simp] theorem grantSlot_sys : (grantSlot i s).sys = s.sys := by
  simp [grantSlot]

@[simp] theorem endSlot_sys : (endSlot i s).sys = s.sys := by
  simp [endSlot]

@[simp] theorem denied_sys : (denied op s).sys = s.sys := by
  unfold denied
  split <;> simp

@[simp] theorem failSlot_sys : (failSlot i s).sys = s.sys := by
  simp [failSlot]

end
end Sys2Proof.Machine
end

section
/-! The commands that change the operating mode (R25 to R27, R350, R372, R391, R392). -/

open Sys2Proof Sys2Proof.Machine
namespace Sys2Proof.Machine

section
variable {s : State} {c : CoreId}

/-- A step keeps the operating mode where it answers a next state. -/
def ModeKept (s : State) (o : Host.Outcome State Fault Refusal) : Prop := ∀ t, o = .next t → t.sys.mode = s.sys.mode

theorem mode_next {t : State} (h : t.sys.mode = s.sys.mode) : ModeKept s (.next t) := by
  rintro u ⟨⟩
  exact h

@[simp] theorem draw_mode : (draw s).2.sys.mode = s.sys.mode := rfl

@[simp] theorem freeDraw_mode : (freeDraw s).2.sys.mode = s.sys.mode := rfl

@[simp] theorem submit_mode {d : W32} : (submit c d s).2.2.sys.mode = s.sys.mode := by
  unfold submit
  dsimp only
  split
  · rfl
  split
  · rfl
  split
  · rfl
  split
  · exact congrArg Sys.mode openSlot_sys
  · rfl

@[simp] theorem doLogRead_mode {w : SvcWait} {ecc : Bool} : (doLogRead w ecc s).s.sys.mode = s.sys.mode := by
  unfold doLogRead
  dsimp only
  repeat' split
  all_goals simp

@[simp] theorem doXiSend_mode {w : SvcWait} : (doXiSend c w s).s.sys.mode = s.sys.mode := by
  unfold doXiSend
  dsimp only
  split
  · rfl
  split
  · rfl
  split <;> simp

@[simp] theorem doXiRecv_mode {w : SvcWait} : (doXiRecv c w s).s.sys.mode = s.sys.mode := by
  unfold doXiRecv
  split
  · rfl
  split
  · rfl
  split <;> rfl

@[simp] theorem putSram_mode {a : W32} {l : List Byte} : (putSram a l s).sys.mode = s.sys.mode := rfl

theorem svcResult_mode {w : SvcWait} {ecc : Bool} {r : SvcRes} (h : svcResult c w ecc s = some r) :
    r.s.sys.mode = s.sys.mode := by
  unfold svcResult at h
  split at h
  · exact Option.some.inj h ▸ doXiSend_mode
  split at h
  · exact Option.some.inj h ▸ doXiRecv_mode
  split at h
  · split at h
    · cases h
    · exact Option.some.inj h ▸ doLogRead_mode
  split at h
  · obtain rfl := Option.some.inj h
    dsimp only
    split <;> simp
  split at h
  · exact Option.some.inj h ▸ rfl
  split at h
  · exact Option.some.inj h ▸ rfl
  split at h
  · exact Option.some.inj h ▸ rfl
  · cases h

theorem taskRel_keepsMode : ∀ slot, ModeKept s (exec (.taskRel slot) s) := by
  intro slot
  refine mode_next (afterBoot_mode fun s => ?_)
  split
  · split <;> simp
  · rfl

theorem inXfer_keepsMode : ∀ slot, ModeKept s (exec (.inXfer slot) s) := by
  intro slot
  refine mode_next (afterBoot_mode fun s => ?_)
  split
  · refine each_mode fun g s => ?_
    dsimp only
    split
    · exact each_mode fun _ _ => rfl
    · rfl
  · rfl

@[simp] theorem each_modFlt_sys {l : List ChanId} {f : ChFlt → ChFlt} :
    (each l (fun n s => modFlt s n f) s).sys = s.sys :=
  each_sys fun _ _ => rfl

theorem fieldUnpowered_keepsMode : ∀ g, ModeKept s (exec (.fieldUnpowered g) s) := by
  intro g
  refine mode_next ?_
  split
  · simp
  · rfl

theorem outXferEnd_keepsMode : ∀ slot, ModeKept s (exec (.outXferEnd slot) s) := by
  intro slot
  refine mode_next (afterBoot_mode fun s => each_mode fun g s => ?_)
  split <;> simp

theorem channelApply_keepsMode : ∀ ch, ModeKept s (exec (.channelApply ch) s) := by
  intro ch
  refine mode_next ?_
  split <;> simp

theorem bgOpen_keepsMode : ∀ slot, ModeKept s (exec (.bgOpen slot) s) := by
  intro slot
  refine mode_next (afterBoot_mode fun s => ?_)
  split
  · dsimp only
    split
    · simp
    · refine each_mode fun c s => ?_
      split
      · split <;> simp
      · simp
  · rfl

theorem groupOvercurrent_keepsMode : ∀ g l, ModeKept s (exec (.groupOvercurrent g l) s) := by
  intro g l
  refine mode_next ?_
  split
  · split <;> simp
  · rfl

theorem leave_keepsMode : ∀ c f, ModeKept s (exec (.leave c f) s) := by
  intro c f
  refine mode_next (canter_mode fun t s => ?_)
  split <;> simp

theorem leaveQuery_keepsMode : ∀ c f, ModeKept s (exec (.leaveQuery c f) s) := by
  intro c f
  refine mode_next (canter_mode fun t s => ?_)
  split
  · rfl
  · split <;> simp

theorem serviceComplete_keepsMode : ∀ c e, ModeKept s (exec (.serviceComplete c e) s) := by
  intro c e
  refine mode_next (onCore_mode fun s => ?_)
  dsimp only
  split
  · rfl
  split
  · rfl
  next hr =>
    have h := svcResult_mode hr
    split <;> simpa using h

theorem sessInit_keepsMode : ∀ m body, ModeKept s (exec (.sessInit m body) s) := by
  intro m body
  refine mode_next (plainMsg_mode fun s => ?_)
  dsimp only
  repeat' split
  all_goals simp

theorem xpReadyTimeout_keepsMode : ∀ rx, ModeKept s (exec (.xpReadyTimeout rx) s) := by
  intro rx
  refine mode_next (onCore_mode fun s => ?_)
  dsimp only
  repeat' split
  all_goals simp [nextFill_mode]

theorem xpTransferDone_keepsMode : ∀ rx, ModeKept s (exec (.xpTransferDone rx) s) := by
  intro rx
  refine mode_next (onCore_mode fun s => ?_)
  dsimp only
  repeat' split
  all_goals simp [nextFill_mode]

theorem jtagUnlockResp_keepsMode : ∀ resp x, ModeKept s (exec (.jtagUnlockResp resp x) s) := by
  intro resp x
  refine mode_next (onCore_mode fun s => ?_)
  split
  · rfl
  · refine verifying_mode fun s => ?_
    split <;> simp

theorem trialChecks_keepsMode : ModeKept s (exec .trialChecks s) := by
  refine mode_next (onCore_mode fun s => ?_)
  dsimp only
  split
  · split <;> rfl
  · rfl

theorem healthConfirm_keepsMode : ∀ r, ModeKept s (exec (.healthConfirm r) s) := by
  intro r
  refine mode_next (onUpd_mode fun s => ?_)
  split <;> simp [confirm]

end

/-- The commands that may change the operating mode (R25 to R27, R350, R372, R391). -/
def mayChangeMode : Instr → Bool
  | .modeChange _ | .bootEnd .. | .confirmation | .freezeStop _ | .resetRelease _ | .powerOnReset | .brownout
  | .porstNAssert _ | .hardReset | .resetCommand | .recoveryReset | .activateMarker | .revertMarker => true
  | _ => false

theorem exec_keepsMode {s : State} (i : Instr) (h : mayChangeMode i = false) : ModeKept s (exec i s) := by
  cases i with
  | modeChange | bootEnd | confirmation | freezeStop | resetRelease | powerOnReset | brownout | porstNAssert | hardReset
  | resetCommand | recoveryReset | activateMarker | revertMarker =>
    cases h
  | syncInEdge | xiSend | xiDeadline | eflashVerifyDone =>
    refine mode_next (afterBoot_mode fun s => ?_)
    repeat' split
    all_goals simp
  | resultWrite =>
    refine mode_next ?_
    dsimp only
    repeat' split
    all_goals simp
  | inXfer => exact inXfer_keepsMode _
  | bgClose =>
    refine mode_next (afterBoot_mode fun s => ?_)
    split
    · exact each_mode fun _ _ => rfl
    · rfl
  | inXferEnd | commitSwitch | queuedRequestApply | interleaveSample | supplyRestored | leaveGrant | hpFrameDiscard
  | xipLineFill | watchdogExpiry | tallyPeriodEnd =>
    refine mode_next ?_
    repeat' split
    all_goals simp
  | taskStart | outApply | carriageRx =>
    refine mode_next (afterBoot_mode fun s => ?_)
    dsimp only
    repeat' split
    all_goals simp
  | outXfer | bgTaskStart | segmentVerified | trainReturn =>
    refine mode_next (afterBoot_mode fun s => ?_)
    split <;> simp
  | eflashWriteDone | testPulseEnd | thermalRetry | ld | budget | svcUnassigned | hello | certLoad | claim | logRead =>
    refine mode_next ?_
    split <;> simp
  | modeSet =>
    refine mode_next (runCmd_mode fun q s => ?_)
    split <;> simp
  | keyDrop =>
    refine mode_next (runCmd_mode fun q s => ?_)
    dsimp only
    split <;> simp
  | epochRaise =>
    refine mode_next (runCmd_mode fun q s => ?_)
    simp
  | fieldUnpowered => exact fieldUnpowered_keepsMode _
  | sessFin | transfer =>
    refine mode_next (plainMsg_mode fun s => ?_)
    repeat' split
    all_goals simp
  | sessionLoss =>
    refine mode_next (onCore_mode fun s => ?_)
    split <;> simp
  | regRead | regWrite =>
    refine mode_next (recMsg_mode fun s => ?_)
    dsimp only
    repeat' split
    all_goals simp
  | cyclicBind | app =>
    refine mode_next (recMsg_mode fun s => ?_)
    repeat' split
    all_goals simp
  | xpStart => exact mode_next (by simp [storeXpCmd_sys])
  | crcCfg | crcDin8 | crcDin16 | crcRunRestore | calDataWrite | registerWrite =>
    exact mode_next (by simp [storeReg_mode, crcStore_sys, storeCalData_sys])
  | chunk =>
    refine mode_next (needLock_mode fun s => ?_)
    split <;> simp
  | chunkWritten =>
    refine mode_next (onCore_mode fun s => ?_)
    repeat' split
    all_goals simp
  | taskRel => exact taskRel_keepsMode _
  | outXferEnd => exact outXferEnd_keepsMode _
  | channelApply => exact channelApply_keepsMode _
  | bgOpen => exact bgOpen_keepsMode _
  | groupOvercurrent => exact groupOvercurrent_keepsMode _ _
  | leave => exact leave_keepsMode _ _
  | leaveQuery => exact leaveQuery_keepsMode _ _
  | serviceComplete => exact serviceComplete_keepsMode _ _
  | sessInit => exact sessInit_keepsMode _ _
  | xpReadyTimeout => exact xpReadyTimeout_keepsMode _
  | xpTransferDone => exact xpTransferDone_keepsMode _
  | jtagUnlockResp => exact jtagUnlockResp_keepsMode _ _
  | trialChecks => exact trialChecks_keepsMode
  | healthConfirm => exact healthConfirm_keepsMode _
  | sysRst | frameTick | holdoverEntry | gptpSyncRx | gptpSyncTx | gptpPdelay | gptpAnnounce | laneStart | entryEnd
  | cfgmmSet | cfgResend | commitKey | discardKey | commitCmd | commitChecks | groupPortionAck | commitLinkTimeout | force
  | freeze | activate | hpTrust | signed | diRawChange | diFilterChange | freqGateEnd | chCntclr | counterClear
  | testPulseStart | crossSample | suspect | stuckTestEnd | openLoad | wireBreak | wireBreakClear | currentLimit
  | thermalShutdown | thermClear | demagEnd | aoRampdownEnd | dischargeEnd | sensePathOpen | sensePathReclose
  | sensePathCheck | scanEnd | scanModeExit | cnvResRead | sweepEnd | overlapEnd | lpwarn | lpwarnEnd | uvoff | overvoltage
  | heartbeat | holdEntry | holdTimeout | linkLoss | ihlileLinkUp | groupFwLoaded | chFltclr | grpFltclr | faultClearApply
  | leaseEnd | reinsDeny | add | addc | sub | subc | cmp | andOp | orOp | xorOp | andn | sll | srl | sra | ror | min | max
  | minu | maxu | abs | clz | sextb | sexth | zextb | zexth | mov | sel | mul | mulh | mulhu | div | divu | rem | remu
  | qadd | qsub | qneg | qabs | qmul | qadd2 | qsub2 | qmul2 | qshl | fadd | fsub | fmul | fma | fms | fneg | fabs | fcmp
  | itof | ftoi | mac | msu | mac2 | mclr | mtm | mfm | mfmh | mfml | jr | callr | addi | andi | ori | xori | cmpi | li
  | lui | slli | srli | srai | bcc | jump | call | st | pin | pout | pids | ramp | limitOp | tickwait | checkin | evraise
  | endTask | svcNop | svcNettime | svcFrmno | svcJournal | svcDevinfo | svcXiSend | svcXiRecv | svcLogRead | svcNvRead
  | svcNvWrite | evtRecclr | eventMsg | idRead | sessClose | handshakeTimeout | sessionIdle | peerContextEnd | eventSub
  | cyclicUnbind | arpRequest | icmpEcho | ethFrameForward | macAgeing | gateEntryEnd | portLinkChange | feedRx
  | trainLaunch | ringOpen | ringClose | hpNop | hpRead | hpReadFixed | hpWrite | hpWriteFixed | hpReplyReady | hpLen
  | secMbin | mailboxSend | mailboxClear | mailboxReply | mailboxOutRead | xpReadyResume | xipFillDone | crcRunSave
  | frameRecord | waveBlockWrite | logWfarm | waveCaptureStop | telemetryRecord | tempWarn | supplyWarn | sramScrubDone
  | logbookScrubDone | backgroundStarved | frzSnap | snapshotWrite | wdtServe | freezeNRequest | jtagFreeze | frzRead
  | jtagIdcode | jtagUnlockChal | jtagUnlockStat | updateBegin | manifest | groupImageAck | groupImageTimeout | updateAbort
  | updateStatus | updateLockTimeout | updHealth | updateRevert | updRevert | trialTimeout | calUserReset | inrushWindowEnd
  | pwmTransition | ovc | readWithSnapshot =>
    exact mode_next (by simp)

section
variable {s t : State} {m0 m : Mode}

/-- The mode `m` is `m0` still, or one the core die runs in. -/
def RunsOn (m0 m : Mode) : Prop := m = m0 ∨ (m ≠ .off ∧ m ≠ .frozen)

theorem RunsOn.trans {m1 : Mode} (h : RunsOn m0 m1) (h1 : RunsOn m1 m) : RunsOn m0 m := by
  rcases h1 with rfl | h1
  · exact h
  · exact .inr h1

theorem RunsOn.to (hoff : m ≠ .off) (hfrz : m ≠ .frozen) : RunsOn m0 m := .inr ⟨hoff, hfrz⟩

theorem control_mode : (control s).1.mode = s.sys.mode := rfl

@[simp] theorem goMode_mode {mask : BitVec 8} : (goMode m mask s).sys.mode = m := by
  obtain ⟨p, d, h⟩ := goMode_control (s := s) m mask
  rw [← control_mode, h]

/-- A transition that MODE_SET may ask for ends in a mode the core die runs in (R392). -/
theorem setEdge_runs (h : setEdge m0 m = true) : m ≠ .off ∧ m ≠ .frozen := by
  revert h
  cases m0 <;> cases m <;> decide

theorem takeSafe_runs : RunsOn s.sys.mode (takeSafe s).sys.mode := by
  unfold takeSafe
  dsimp only
  split
  · rw [goMode_mode]
    exact .to (by decide) (by decide)
  · exact .inl rfl

theorem takeReq_runs : RunsOn s.sys.mode (takeReq s).sys.mode := by
  unfold takeReq
  dsimp only
  split
  · exact .inl rfl
  split
  · exact .inl rfl
  next hset =>
    split
    · rw [goMode_mode]
      exact .to (by decide) (by decide)
    · rw [goMode_mode]
      simp only [setOk, Bool.not_eq_true', Bool.not_eq_false, Bool.and_eq_true] at hset
      exact .inr (setEdge_runs hset.1.1)

theorem goMode_runs {mask : BitVec 8} (hoff : m ≠ .off) (hfrz : m ≠ .frozen) : RunsOn m0 (goMode m mask s).sys.mode := by
  rw [goMode_mode]
  exact .to hoff hfrz

theorem takeOos_runs : RunsOn s.sys.mode (takeOos s).sys.mode := by
  unfold takeOos
  split
  · split
    · exact goMode_runs (by decide) (by decide)
    · exact goMode_runs (by decide) (by decide)
  split
  · exact goMode_runs (by decide) (by decide)
  split
  · exact goMode_runs (by decide) (by decide)
  · exact .inl rfl

theorem bootMode_runs : bootMode s ≠ .off ∧ bootMode s ≠ .frozen := by
  unfold bootMode
  split
  · split <;> decide
  · split <;> decide

/-- The mode after a step is the one before it, or one the core die runs in. -/
def StepRunsOn (s : State) (o : Host.Outcome State Fault Refusal) : Prop :=
  ∀ t, o = .next t → RunsOn s.sys.mode t.sys.mode

theorem runsOn_next (h : RunsOn s.sys.mode t.sys.mode) : StepRunsOn s (.next t) := by
  rintro u ⟨⟩
  exact h

theorem onCore_runs {f : State → State} (h : ∀ s, RunsOn s.sys.mode (f s).sys.mode) :
    RunsOn s.sys.mode (onCore f s).sys.mode := by
  unfold onCore
  split
  · exact h s
  · exact .inl rfl

/-- A reset leads to BOOT (R386). -/
theorem resetState_runs {cause : BitVec 4} : RunsOn m0 (resetState cause s).sys.mode :=
  .to (nofun : Mode.boot ≠ .off) (nofun : Mode.boot ≠ .frozen)

theorem modeChange_runs {t0 : Nat} : StepRunsOn s (exec (.modeChange t0) s) := by
  refine runsOn_next ?_
  unfold afterBoot
  split
  · dsimp only
    split
    · have h : RunsOn s.sys.mode (takeOos (takeReq (takeSafe s))).sys.mode :=
        (takeSafe_runs.trans takeReq_runs).trans takeOos_runs
      split
      · exact h
      · exact h
    · exact .inl rfl
  · exact .inl rfl

theorem bootEnd_runs {i : TickIn} {dur : Nat} : StepRunsOn s (exec (.bootEnd i dur) s) := by
  refine runsOn_next (onCore_runs fun s => ?_)
  split
  · refine .inr ?_
    dsimp only
    rw [loadRegs_sys, sysWords_sys, bootTick_sys, bootUpdate_sys, goMode_mode]
    exact bootMode_runs
  · exact .inl rfl

theorem confirmation_runs : StepRunsOn s (exec .confirmation s) := by
  refine runsOn_next (onCore_runs fun s => ?_)
  dsimp only
  split
  · rw [raise_sys]
    split
    · exact goMode_runs (by decide) (by decide)
    · exact .inl rfl
  · exact .inl rfl

theorem resetRelease_runs {b : BootIn} : StepRunsOn s (exec (.resetRelease b) s) := by
  cases h : s.sys.bootReady with
  | true =>
    have hagain : exec (.resetRelease b) s = .next s := execResetRelease_again h
    rw [hagain]
    exact runsOn_next (.inl rfl)
  | false =>
    have hboot : ∃ t, exec (.resetRelease b) s = .next t ∧ t.sys.mode = .boot := by
      by_cases hrec : b.bootsel = false ∨ (b.firmwareOk = false ∧ (s.upd.trialFlag && decide (s.sys.cause = 5)) = false)
      · obtain ⟨t, w, ht, hc⟩ := release_recovers h hrec
        exact ⟨t, ht, control_mode.symm.trans (congrArg (fun x => x.1.mode) hc)⟩
      · obtain ⟨hsel, hfw⟩ := not_or.1 hrec
        have hfw' : b.firmwareOk = true ∨ (s.upd.trialFlag && decide (s.sys.cause = 5)) = true := by
          simpa only [not_and_or, Bool.not_eq_false] using hfw
        obtain ⟨t, ht, hc⟩ := release_boots h (Bool.eq_true_of_not_eq_false hsel) hfw'
        exact ⟨t, ht, control_mode.symm.trans (congrArg (fun x => x.1.mode) hc)⟩
    obtain ⟨t, ht, hmode⟩ := hboot
    rw [ht]
    exact runsOn_next (hmode ▸ .to (by decide) (by decide))

theorem reset_runs {i : Instr} (h : isReset i) (hp : ∀ w, i ≠ .porstNAssert w) : StepRunsOn s (exec i s) := by
  obtain rfl | rfl | ⟨w, rfl⟩ | rfl | rfl | rfl | rfl | rfl := h
  · exact runsOn_next resetState_runs
  · exact runsOn_next resetState_runs
  · exact absurd rfl (hp w)
  · refine runsOn_next ?_
    split
    · exact resetState_runs
    · exact .inl rfl
  · refine runsOn_next (onCore_runs fun s => ?_)
    split
    · exact resetState_runs
    · exact .inl rfl
  · refine runsOn_next (onCore_runs fun s => ?_)
    split
    · exact resetState_runs
    · exact .inl rfl
  · refine runsOn_next (onCore_runs fun s => ?_)
    split
    · exact resetState_runs
    · exact .inl rfl
  · refine runsOn_next (onCore_runs fun s => ?_)
    split
    · exact .inl rfl
    split
    · exact resetState_runs
    · exact .inl rfl

/-- A command that may change the mode is one of those the rules name. -/
theorem mayChangeMode_names {i : Instr} (h : mayChangeMode i = true) :
    (∃ t0, i = .modeChange t0) ∨ (∃ t0 d, i = .bootEnd t0 d) ∨ i = .confirmation ∨ (∃ t0, i = .freezeStop t0) ∨
      (∃ b, i = .resetRelease b) ∨ isReset i := by
  unfold isReset
  revert h
  cases i <;> simp [mayChangeMode]

/-- PORST_N leads to OFF, or leaves the state (R385). -/
theorem porstNAssert_mode {w : Nat} (h : exec (.porstNAssert w) s = .next t) : t.sys.mode = s.sys.mode ∨ t.sys.mode = .off := by
  have hp : execPorstNAssert w s = .next t := h
  unfold execPorstNAssert at hp
  split at hp
  · cases hp
    exact .inl rfl
  split at hp
  · cases hp
  · cases hp
    exact .inr rfl

/-- FREEZE_STOP leads to FROZEN, or leaves the mode (R350). -/
theorem freezeStop_mode {t0 : Nat} (h : exec (.freezeStop t0) s = .next t) :
    t.sys.mode = s.sys.mode ∨ t.sys.mode = .frozen := by
  cases h
  unfold onCore
  dsimp only
  split
  · split
    · exact .inr rfl
    · exact .inl rfl
  · exact .inl rfl

/-- Where the mode after a step is one the core die runs in or not: PORST_N leads to OFF and a freeze to FROZEN alone. -/
theorem named_leads {i : Instr} (hmay : mayChangeMode i = true) (he : exec i s = .next t) :
    RunsOn s.sys.mode t.sys.mode ∨ ((∃ w, i = .porstNAssert w) ∧ t.sys.mode = .off) ∨
      ((∃ t0, i = .freezeStop t0) ∧ t.sys.mode = .frozen) := by
  by_cases hp : ∃ w, i = .porstNAssert w
  · obtain ⟨w, rfl⟩ := hp
    exact (porstNAssert_mode he).imp .inl fun h => .inl ⟨⟨w, rfl⟩, h⟩
  obtain ⟨t0, rfl⟩ | ⟨t0, d, rfl⟩ | rfl | ⟨t0, rfl⟩ | ⟨b, rfl⟩ | hr := mayChangeMode_names hmay
  · exact .inl (modeChange_runs t he)
  · exact .inl (bootEnd_runs t he)
  · exact .inl (confirmation_runs t he)
  · exact (freezeStop_mode he).imp .inl fun h => .inr ⟨⟨t0, rfl⟩, h⟩
  · exact .inl (resetRelease_runs t he)
  · exact .inl (reset_runs hr (fun w hw => hp ⟨w, hw⟩) t he)

end

/-- Settles O5: every command keeps the mode but those the rules name, and of these only PORST_N leads to OFF, only a freeze
to FROZEN. -/
theorem onlyTheseCommandsChangeTheMode : Obligations.OnlyTheseCommandsChangeTheMode := by
  unfold Obligations.OnlyTheseCommandsChangeTheMode
  intro s t i he hne
  have hmay : mayChangeMode i = true := by
    by_contra hno
    exact hne (exec_keepsMode i (by simpa using hno) t he)
  obtain (hsame | ⟨hoff, hfrz⟩) | ⟨hp, hoff⟩ | ⟨hf, hfrz⟩ := named_leads hmay he
  · exact absurd hsame hne
  · exact ⟨mayChangeMode_names hmay, fun h => absurd h hoff, fun h => absurd h hfrz⟩
  · exact ⟨mayChangeMode_names hmay, fun _ => hp, fun h => absurd (hoff.symm.trans h) (by decide)⟩
  · exact ⟨mayChangeMode_names hmay, fun h => absurd (hfrz.symm.trans h) (by decide), fun _ => hf⟩

end Sys2Proof.Machine
end

section
/-! What the work of the channels leaves: for each operation on a channel or on its requests, the state less what that work changes. -/

open Sys2Proof Sys2Proof.Machine
namespace Sys2Proof.Machine

section
variable {s : State} {c : CoreId} {g : GroupId} {n : ChanId} {acc : Access} {v : HWord} {m : MsgCtx}
  {r : RecCtx} {i : Fin 96} {op : ReqOp}

/-- The state less what the work of the channels changes: channels, requests, the process image, and events. -/
def apartFromChannels (s : State) : State :=
  { apartFromEvents s with ch := State.reset.ch, pgv := State.reset.pgv, pi := State.reset.pi }

@[simp] theorem ite_apartCh {p : Prop} [Decidable p] {t : State} :
    apartFromChannels (if p then s else t) = if p then apartFromChannels s else apartFromChannels t :=
  apply_ite _ _ _ _

@[simp] theorem each_apartCh {α : Type} {l : List α} {f : α → State → State}
    (h : ∀ x s, apartFromChannels (f x s) = apartFromChannels s) : apartFromChannels (each l f s) = apartFromChannels s :=
  each_congr h

@[simp] theorem raise_apartCh {e : Fin 128} {p : W32} : apartFromChannels (raise e p s) = apartFromChannels s :=
  congrArg (fun s : State => { s with ch := State.reset.ch, pgv := State.reset.pgv, pi := State.reset.pi }) (raise_frame e p s)

@[simp] theorem modCh_apartCh {f : Chan → Chan} : apartFromChannels (modCh s n f) = apartFromChannels s := rfl
@[simp] theorem modOut_apartCh {f : ChDo → ChDo} : apartFromChannels (modOut s n f) = apartFromChannels s := rfl
@[simp] theorem modDi_apartCh {f : ChDi → ChDi} : apartFromChannels (modDi s n f) = apartFromChannels s := rfl
@[simp] theorem modAi_apartCh {f : ChAi → ChAi} : apartFromChannels (modAi s n f) = apartFromChannels s := rfl
@[simp] theorem modFlt_apartCh {f : ChFlt → ChFlt} : apartFromChannels (modFlt s n f) = apartFromChannels s := rfl
@[simp] theorem modSlot_apartCh {f : Slot → Slot} : apartFromChannels (modSlot s i f) = apartFromChannels s := rfl

@[simp] theorem setPgv_apartCh {p : Pgv} : apartFromChannels { s with pgv := p } = apartFromChannels s := rfl
@[simp] theorem setPi_apartCh {p : Pimg} : apartFromChannels { s with pi := p } = apartFromChannels s := rfl

@[simp] theorem onCore_apartCh {f : State → State} (h : ∀ s, apartFromChannels (f s) = apartFromChannels s) :
    apartFromChannels (onCore f s) = apartFromChannels s := by
  simp [onCore, h]

@[simp] theorem keepLease_apartCh : apartFromChannels (keepLease i s) = apartFromChannels s := by
  simp [keepLease]

@[simp] theorem openSlot_apartCh {cls : BitVec 2} {gc : Vector Nat 8} {dc frames : Nat} {members : BitVec 64} :
    apartFromChannels (openSlot i op cls gc dc frames members s) = apartFromChannels s := by
  unfold openSlot
  extract_lets s1
  exact setPgv_apartCh.trans (modSlot_apartCh.trans keepLease_apartCh)

@[simp] theorem openOp_apartCh : apartFromChannels (openOp i op s) = apartFromChannels s := by
  simp [openOp]

@[simp] theorem groomReq_apartCh : apartFromChannels (groomReq op s) = apartFromChannels s := by
  unfold groomReq
  split <;> simp

@[simp] theorem serveWait_apartCh : apartFromChannels (serveWait s) = apartFromChannels s := by
  unfold serveWait
  split
  · exact openOp_apartCh
  · rfl

@[simp] theorem joinSet_apartCh {mw frames : Nat} :
    apartFromChannels (joinSet i n mw frames s) = apartFromChannels s := rfl

@[simp] theorem askLeave_apartCh : apartFromChannels (askLeave n op s) = apartFromChannels s := by
  unfold askLeave
  repeat' split
  all_goals simp

@[simp] theorem conflict_apartCh {kind : Nat} {g : Option GroupId} :
    apartFromChannels (conflict kind g s) = apartFromChannels s := by
  simp [conflict]

@[simp] theorem chargeLease_apartCh : apartFromChannels (chargeLease n s) = apartFromChannels s := by
  simp [chargeLease]

@[simp] theorem withdraw_apartCh : apartFromChannels (withdraw n s) = apartFromChannels s := by
  simp [withdraw]

@[simp] theorem endLease_apartCh : apartFromChannels (endLease n s) = apartFromChannels s := by
  unfold endLease
  extract_lets mine s1
  refine setPgv_apartCh.trans (each_apartCh fun i s => ?_)
  split <;> rfl

@[simp] theorem endOwn_apartCh : apartFromChannels (endOwn n s) = apartFromChannels s := by
  simp [endOwn]

@[simp] theorem protectConflict_apartCh : apartFromChannels (protectConflict n s) = apartFromChannels s := by
  simp [protectConflict]

@[simp] theorem setApplied_apartCh {w : W32} : apartFromChannels (setApplied n w s) = apartFromChannels s := by
  simp [setApplied]

@[simp] theorem startBusy_apartCh {k : BitVec 2} : apartFromChannels (startBusy n k s) = apartFromChannels s := by
  simp [startBusy]

@[simp] theorem queueReq_apartCh {q : QReq} : apartFromChannels (queueReq n q s) = apartFromChannels s := rfl

@[simp] theorem latchQual_apartCh : apartFromChannels (latchQual n s) = apartFromChannels s := rfl

@[simp] theorem switchOff_apartCh : apartFromChannels (switchOff n s) = apartFromChannels s := by
  simp [switchOff]

@[simp] theorem putSafe_apartCh {w : W32} : apartFromChannels (putSafe n w s) = apartFromChannels s := by
  simp [putSafe]

@[simp] theorem applySafe_apartCh : apartFromChannels (applySafe n s) = apartFromChannels s := by
  simp [applySafe]

@[simp] theorem refreshSafe_apartCh {l : List ChanId} : apartFromChannels (refreshSafe l s) = apartFromChannels s := by
  simp [refreshSafe]

@[simp] theorem askOnce_apartCh : apartFromChannels (askOnce n op s) = apartFromChannels s := by
  simp [askOnce]

@[simp] theorem leaveMode_apartCh {old : CfgSet} : apartFromChannels (leaveMode n old s) = apartFromChannels s := by
  simp [leaveMode]

@[simp] theorem askStage_apartCh : apartFromChannels (askStage n s) = apartFromChannels s := by
  simp [askStage]

@[simp] theorem enterMode_apartCh {old : CfgSet} : apartFromChannels (enterMode n old s) = apartFromChannels s := by
  simp [enterMode]

@[simp] theorem raiseOn_apartCh {e : Fin 128} {p : W32} : apartFromChannels (raiseOn e p s) = apartFromChannels s :=
  onCore_apartCh fun _ => raise_apartCh

@[simp] theorem dropReq_apartCh : apartFromChannels (dropReq op s) = apartFromChannels s := by
  simp [dropReq]

@[simp] theorem endOp_apartCh : apartFromChannels (endOp op s) = apartFromChannels s := by
  simp [endOp]

@[simp] theorem protectCh_apartCh : apartFromChannels (protectCh n s) = apartFromChannels s := by
  simp [protectCh]

@[simp] theorem supplyOff_apartCh : apartFromChannels (supplyOff n s) = apartFromChannels s := by
  simp [supplyOff]

@[simp] theorem putIn_apartCh {w : W32} : apartFromChannels (putIn n w s) = apartFromChannels s := rfl

@[simp] theorem putFormed_apartCh {w : W32} : apartFromChannels (putFormed n w s) = apartFromChannels s := rfl

@[simp] theorem switchDi_apartCh {a b : CfgSet} : apartFromChannels (switchDi a b n s) = apartFromChannels s := rfl

@[simp] theorem dropAccepted_apartCh {a b : CfgSet} :
    apartFromChannels (dropAccepted a b n s) = apartFromChannels s := by
  simp [dropAccepted]

@[simp] theorem switchCh_apartCh {a b : CfgSet} : apartFromChannels (switchCh a b n s) = apartFromChannels s := by
  simp [switchCh]

end
end Sys2Proof.Machine
end

section
/-! The switch tick (R21): what it does to the core die and to each group die. -/

open Sys2Proof Sys2Proof.Machine
namespace Sys2Proof.Machine

section
variable {s : State} {a b : CfgSet} {g h : GroupId}

/-- Whatever the element `x` of a list establishes holds after the whole list, where the other elements keep what it needs and
what it establishes. -/
theorem each_at {α : Type} {x : α} {f : α → State → State} {P Q : State → Prop}
    (hpre : ∀ y ≠ x, ∀ s, P s → P (f y s))
    (hstep : ∀ s, P s → Q (f x s)) (hpost : ∀ y ≠ x, ∀ s, Q s → Q (f y s)) {l : List α} (hn : l.Nodup) (hx : x ∈ l)
    (hs : P s) : Q (each l f s) := by
  have hrest : ∀ {l : List α} {s : State}, x ∉ l → Q s → Q (each l f s) := by
    intro l
    induction l with
    | nil => exact fun _ hq => hq
    | cons y l ih =>
      intro s hy hq
      obtain ⟨hne, hl⟩ := not_or.1 (fun h => hy (List.mem_cons.2 h))
      exact ih hl (hpost y (Ne.symm hne) s hq)
  induction l generalizing s with
  | nil => cases hx
  | cons y l ih =>
    obtain ⟨hy, hn⟩ := List.nodup_cons.1 hn
    by_cases hyx : y = x
    · subst hyx
      exact hrest (l := l) hy (hstep s hs)
    · exact ih hn ((List.mem_cons.1 hx).resolve_left (Ne.symm hyx)) (hpre y hyx s hs)

/-- The state less what the work of the channels and their groups changes. -/
def apartFromGroups (s : State) : State := { apartFromChannels s with grp := State.reset.grp }

theorem apartFromGroups_of_channels {t : State} (h : apartFromChannels t = apartFromChannels s) :
    apartFromGroups t = apartFromGroups s :=
  congrArg (fun s : State => { s with grp := State.reset.grp }) h

theorem grp_of_channels {t : State} (h : apartFromChannels t = apartFromChannels s) : t.grp = s.grp :=
  (congrArg State.grp h :)

theorem parts_of_groups {t : State} (h : apartFromGroups t = apartFromGroups s) :
    t.cfg = s.cfg ∧ t.cmt = s.cmt ∧ t.sys = s.sys :=
  ⟨(congrArg State.cfg h :), (congrArg State.cmt h :), (congrArg State.sys h :)⟩

/-- A group die takes its portion at the switch tick (R21, R117, R124). -/
def tookPortion (a b : CfgSet) (g : GroupId) (x : Grp) : Grp :=
  { x with portion := b, portionNext := none
           lanes := #v[switchLane a b g 0 x.lanes[0], switchLane a b g 1 x.lanes[1],
             switchLane a b g (if x.shadow = 2 then 1 else 0) x.lanes[2]]
           ilv := !x.scan && (b.reg (grpAddr g.val 0x11)).getLsbD 15 }

/-- A group at the switch tick, before its channels; a switch may restart its overlap (R148). -/
def switchedGrp (b : CfgSet) (g : GroupId) (s : State) : State :=
  let x := s.grp[g]
  if rotDiff x.portion b g x.shadow && (x.rot.step = 3 || x.rot.step = 4) then
    modRot (modGrp s g (tookPortion x.portion b g)) g fun r => { r with restart := true }
  else modGrp s g (tookPortion x.portion b g)

theorem switchGrp_eq (ha : alive s g = true) (hl : s.grp[g].link = false) :
    switchGrp b g s = each (chansOf g) (switchCh s.grp[g].portion b) (switchedGrp b g s) := by
  have hreach : ¬(!alive s g || s.grp[g].link) = true := by rw [ha, hl]; decide
  unfold switchGrp
  rw [if_neg hreach]
  rfl

theorem switchGrp_reached (ha : alive s g = true) (hl : s.grp[g].link = false) :
    apartFromChannels (switchGrp b g s) = apartFromChannels (switchedGrp b g s) := by
  rw [switchGrp_eq ha hl]
  exact each_apartCh fun _ _ => switchCh_apartCh

theorem switchedGrp_portion : (switchedGrp b g s).grp[g].portion = b := by
  unfold switchedGrp
  dsimp only
  split
  · unfold modRot
    rw [modGrp_self, modGrp_self]
    rfl
  · rw [modGrp_self]
    rfl

theorem switchedGrp_other (hne : h ≠ g) : (switchedGrp b g s).grp[h] = s.grp[h] := by
  unfold switchedGrp
  dsimp only
  split
  · exact (vec_set_other _ _ hne).trans (vec_set_other _ _ hne)
  · exact vec_set_other _ _ hne

theorem switchedGrp_apart : apartFromGroups (switchedGrp b g s) = apartFromGroups s := by
  unfold switchedGrp
  dsimp only
  split <;> rfl

/-- A group die that the marker does not reach drops the portion it holds staged (R24). -/
theorem switchGrp_missed (h : ¬(alive s g = true ∧ s.grp[g].link = false)) :
    switchGrp b g s = modGrp s g fun x => { x with portionNext := none } := by
  unfold switchGrp
  have hmiss : (!alive s g || s.grp[g].link) = true := by
    rcases ha : alive s g <;> rcases hl : s.grp[g].link <;> first | rfl | exact absurd ⟨ha, hl⟩ h
  exact if_pos hmiss

theorem switchGrp_other (hne : h ≠ g) : (switchGrp b g s).grp[h] = s.grp[h] := by
  by_cases hr : alive s g = true ∧ s.grp[g].link = false
  · rw [grp_of_channels (switchGrp_reached hr.1 hr.2)]
    exact switchedGrp_other hne
  · rw [switchGrp_missed hr]
    exact vec_set_other _ _ hne

theorem switchGrp_portion (ha : alive s g = true) (hl : s.grp[g].link = false) : (switchGrp b g s).grp[g].portion = b := by
  rw [grp_of_channels (switchGrp_reached ha hl)]
  exact switchedGrp_portion

theorem switchGrp_apart : apartFromGroups (switchGrp b g s) = apartFromGroups s := by
  by_cases hr : alive s g = true ∧ s.grp[g].link = false
  · exact (apartFromGroups_of_channels (switchGrp_reached hr.1 hr.2)).trans switchedGrp_apart
  · rw [switchGrp_missed hr]
    rfl

/-- At the switch tick every group die that the marker reaches takes its portion (R21). -/
theorem each_switchGrp_portion (ha : alive s g = true) (hl : s.grp[g].link = false) :
    (each groups (switchGrp b) s).grp[g].portion = b := by
  refine each_at (x := g) (P := fun s => alive s g = true ∧ s.grp[g].link = false) (Q := fun s => s.grp[g].portion = b)
    ?_ (fun s hs => switchGrp_portion hs.1 hs.2) ?_ (List.nodup_finRange 8) (List.mem_finRange g) ⟨ha, hl⟩
  · intro y hne s hs
    unfold alive at hs ⊢
    rwa [switchGrp_other hne.symm]
  · intro y hne s hs
    rwa [switchGrp_other hne.symm]

/-! ### The parts that a COMMIT is about -/

/-- The sets, the COMMIT, the mode with the stopped cores, and the groups. -/
def commitParts (s : State) : CfgSet × CfgSet × Commit × Sys × Vector Grp 8 :=
  (s.cfg.active, s.cfg.staged, s.cmt, s.sys, s.grp)

theorem commitParts_of_channels {t : State} (h : apartFromChannels t = apartFromChannels s) :
    commitParts t = commitParts s :=
  (congrArg commitParts h :)

theorem switchBuf_apartCh {k : Fin 5} : apartFromChannels (switchBuf a b k s) = apartFromChannels s := by
  unfold switchBuf
  dsimp only
  split <;> rfl

theorem switchBudget_apartCh : apartFromChannels (switchBudget a b s) = apartFromChannels s := by
  unfold switchBudget
  extract_lets one
  have hone : ∀ k adr load g s, apartFromChannels (one k adr load g s) = apartFromChannels s := by
    intro k adr load g s
    unfold one
    split
    · exact conflict_apartCh.trans setPgv_apartCh
    · rfl
  exact (hone _ _ _ _ _).trans (each_apartCh fun _ _ => hone _ _ _ _ _)

theorem timeStep_parts : commitParts (timeStep s) = commitParts s := commitParts_of_channels raise_apartCh

theorem timeValid_parts : commitParts (timeValid s) = commitParts s := by
  unfold timeValid
  dsimp only
  split <;> split <;> rfl

theorem bmca_parts : commitParts (bmca s) = commitParts s := by
  unfold bmca
  extract_lets best self gmId roles net s1 s2
  have h2 : commitParts s2 = commitParts s := by
    unfold s2
    split
    · exact timeValid_parts
    · rfl
  split
  · exact timeStep_parts.trans h2
  · exact h2

theorem switchPtp_parts : commitParts (switchPtp a b s) = commitParts s := by
  unfold switchPtp
  split
  · refine bmca_parts.trans ?_
    split <;> rfl
  · rfl

theorem startRecord_parts : commitParts (startRecord a b s) = commitParts s := by
  unfold startRecord
  split
  · rfl
  dsimp only
  split
  · rfl
  · exact (commitParts_of_channels groomReq_apartCh).trans rfl

/-- The core die and the COMMIT at the switch tick, before the groups and channels. -/
def switchStarted (b : CfgSet) (s : State) : State :=
  switchCore s.cfg.active b { s with
    cfg := { s.cfg with active := b }, cmt := { s.cmt with phase := .idle, cause := 0, frm := s.frm.no } }

/-- After the switch tick the parts of a COMMIT are those of the groups' own step (R21). -/
theorem doSwitch_parts : commitParts (doSwitch b s) =
    commitParts (each groups (switchGrp b) (each channels (dropAccepted s.cfg.active b) (switchStarted b s))) := by
  unfold doSwitch
  extract_lets a cfg cmt s1 s2 s3 s4
  have h3 : apartFromChannels s3 = apartFromChannels s2 := each_apartCh fun _ _ => switchBuf_apartCh
  have h4 : commitParts s4 = commitParts s3 := switchPtp_parts.trans (commitParts_of_channels (switchBudget_apartCh.trans
    ((each_apartCh fun _ _ => askStage_apartCh).trans refreshSafe_apartCh)))
  calc commitParts (raise 80 ((cmtStatReg s4).setWidth 32) (startRecord a b s4))
      = commitParts (startRecord a b s4) := commitParts_of_channels raise_apartCh
    _ = commitParts s4 := startRecord_parts
    _ = commitParts s3 := h4
    _ = commitParts s2 := commitParts_of_channels h3

theorem doSwitch_raises : (doSwitch b s).evt.pend.getLsbD 80 = true :=
  (raise_raised 80 _ _ (by decide)).2.2.2

theorem switchStarted_dropped : apartFromGroups (each groups (switchGrp b) (each channels (dropAccepted s.cfg.active b)
    (switchStarted b s))) = apartFromGroups (switchStarted b s) :=
  (each_congr fun _ _ => switchGrp_apart).trans (apartFromGroups_of_channels (each_apartCh fun _ _ => dropAccepted_apartCh))

theorem doSwitch_spec : (doSwitch b s).cfg.active = b ∧ (doSwitch b s).cfg.staged = s.cfg.staged ∧
    (∀ g : GroupId, alive s g = true → s.grp[g].link = false → (doSwitch b s).grp[g].portion = b) ∧
    (doSwitch b s).cmt = { s.cmt with phase := .idle, cause := 0, frm := s.frm.no } ∧
    (doSwitch b s).sys = { s.sys with stopped := 0, stopReq := 0 } := by
  have hparts := doSwitch_parts (b := b) (s := s)
  simp only [commitParts, Prod.mk.injEq] at hparts
  obtain ⟨hact, hstg, hcmt, hsys, hgrp⟩ := hparts
  obtain ⟨hcfg', hcmt', hsys'⟩ := parts_of_groups (switchStarted_dropped (b := b) (s := s))
  have hgrp' : (each channels (dropAccepted s.cfg.active b) (switchStarted b s)).grp = s.grp :=
    (grp_of_channels (each_apartCh fun _ _ => dropAccepted_apartCh)).trans rfl
  refine ⟨hact.trans (congrArg Cfg.active hcfg'), hstg.trans ((congrArg Cfg.staged hcfg').trans rfl), fun g ha hl => ?_,
    hcmt.trans hcmt', hsys.trans hsys'⟩
  rw [hgrp]
  exact each_switchGrp_portion (by unfold alive at ha ⊢; rwa [hgrp']) (by rwa [hgrp'])

end

/-- Settles O25: the switch tick by its parts; at any other instant the command's guard fails. -/
theorem theSwitchMakesTheStagedSetActive : Obligations.TheSwitchMakesTheStagedSetActive := by
  unfold Obligations.TheSwitchMakesTheStagedSetActive
  intro s t0
  constructor
  · intro hon hp hw ht
    have hgo : (s.cmt.phase = .accepted && decide (s.cmt.acceptT + 2000 ≤ t0) && decide (s.frm.tickT = t0)) = true := by
      simp [hp, hw, ht]
    obtain ⟨hact, hstg, hpor, hcmt, hsys⟩ := doSwitch_spec (b := s.cfg.staged) (s := s)
    refine ⟨doSwitch s.cfg.staged s, congrArg Host.Outcome.next ((if_pos hon).trans (if_pos hgo)), hact, hstg, hpor, ?_⟩
    rw [hcmt, hsys]
    exact ⟨rfl, rfl, rfl, rfl, rfl, rfl, doSwitch_raises⟩
  · intro hno
    refine congrArg Host.Outcome.next ?_
    unfold onCore
    dsimp only
    split
    · next hon =>
      refine if_neg fun hgo => hno ?_
      simp only [Bool.and_eq_true, decide_eq_true_eq] at hgo
      exact ⟨hon, hgo.1.1, hgo.1.2, hgo.2⟩
    · rfl
end Sys2Proof.Machine
end

section
/-! Mode changes at a tick (R25 to R27, R392, R393). -/

open Sys2Proof Sys2Proof.Machine
namespace Sys2Proof.Machine

section
variable {s t : State} {g h : GroupId} {m : Mode} {mask : BitVec 8}

/-! ### What a change of mode leaves of the groups -/

/-- A group less what its lanes and their rotation change. -/
def outOfLanes (x : Grp) : Grp :=
  { x with
    shadow := 0, lanes := Grp.reset.lanes, scan := false, selfChk := false, exitReq := false, ilv := false
    rot := Grp.reset.rot }

/-- The groups less their lanes. -/
def lanesAside (s : State) : Vector Grp 8 := s.grp.map outOfLanes

theorem lanesAside_of_channels (h : apartFromChannels t = apartFromChannels s) : lanesAside t = lanesAside s :=
  congrArg (Vector.map outOfLanes) (grp_of_channels h)

theorem modGrp_lanesAside {f : Grp → Grp} (hf : ∀ x, outOfLanes (f x) = outOfLanes x) :
    lanesAside (modGrp s g f) = lanesAside s := by
  refine Vector.ext fun i hi => ?_
  by_cases e : g.val = i
  · subst e
    simp [lanesAside, modGrp, hf]
  · simp [lanesAside, modGrp, Vector.getElem_set_ne _ _ e]

theorem modRot_lanesAside {f : Rot → Rot} : lanesAside (modRot s g f) = lanesAside s :=
  modGrp_lanesAside fun _ => rfl

theorem askSweep_lanesAside : lanesAside (askSweep g s) = lanesAside s :=
  (lanesAside_of_channels (onCore_apartCh fun _ => groomReq_apartCh)).trans
    (modRot_lanesAside.trans (modGrp_lanesAside fun _ => rfl))

theorem startRot_lanesAside : lanesAside (startRot g s) = lanesAside s := by
  unfold startRot
  split
  · rfl
  · exact askSweep_lanesAside

theorem leaveScan_lanesAside : lanesAside (leaveScan g s) = lanesAside s :=
  startRot_lanesAside.trans (modGrp_lanesAside fun _ => rfl)

theorem suspendRot_lanesAside : lanesAside (suspendRot g s) = lanesAside s := by
  unfold suspendRot
  extract_lets s1
  have h1 : lanesAside s1 = lanesAside s := by
    unfold s1
    exact lanesAside_of_channels (by simp)
  refine modRot_lanesAside.trans ((modGrp_lanesAside ?_).trans h1)
  exact fun _ => rfl

theorem enterScan_lanesAside : lanesAside (enterScan g s) = lanesAside s := by
  unfold enterScan startScan
  refine (modGrp_lanesAside ?_).trans ((modGrp_lanesAside ?_).trans suspendRot_lanesAside)
  · exact fun _ => rfl
  · exact fun _ => rfl

theorem modeLanes_lanesAside {old new : Mode} : lanesAside (modeLanes old new s) = lanesAside s := by
  unfold modeLanes
  split
  · exact each_congr fun _ _ => leaveScan_lanesAside
  split
  · exact each_congr fun _ _ => enterScan_lanesAside
  · rfl

theorem withdrawControl_apartCh : apartFromChannels (withdrawControl s) = apartFromChannels s := by
  unfold withdrawControl
  refine each_apartCh fun i s => ?_
  dsimp only
  split
  · split
    · rfl
    · rfl
    · exact each_apartCh fun _ _ => rfl
    · exact serveWait_apartCh
    · exact serveWait_apartCh
    · rfl
  · rfl

/-- A change of mode leaves a group apart from its lanes. -/
theorem changeMode_lanesAside : lanesAside (changeMode m mask s) = lanesAside s := by
  unfold changeMode
  split
  · rfl
  · extract_lets old sys frz s1 s2
    refine (lanesAside_of_channels raise_apartCh).trans ?_
    unfold s2
    split
    · exact (lanesAside_of_channels (each_apartCh fun _ _ => modOut_apartCh)).trans rfl
    · rfl

theorem goMode_lanesAside : lanesAside (goMode m mask s) = lanesAside s := by
  unfold goMode
  extract_lets s1 s2 s3
  have h1 : lanesAside s1 = lanesAside s := modeLanes_lanesAside.trans changeMode_lanesAside
  have h2 : lanesAside s2 = lanesAside s1 := by
    unfold s2
    split
    · exact lanesAside_of_channels withdrawControl_apartCh
    · rfl
  have h3 : lanesAside s3 = lanesAside s2 := by
    unfold s3
    split
    · exact lanesAside_of_channels (each_apartCh fun _ _ => modOut_apartCh)
    · rfl
  have h4 : lanesAside (each channels askStage (refreshSafe channels s3)) = lanesAside s3 :=
    lanesAside_of_channels ((each_apartCh fun _ _ => askStage_apartCh).trans refreshSafe_apartCh)
  exact h4.trans (h3.trans (h2.trans h1))

theorem outOfLanes_of_aside (hv : lanesAside t = lanesAside s) : outOfLanes t.grp[g] = outOfLanes s.grp[g] := by
  have := congrArg (fun v : Vector Grp 8 => v[g]) hv
  simpa [lanesAside] using this

theorem oosMask_of_aside (hv : lanesAside t = lanesAside s) : oosMask t = oosMask s := by
  have hg : ∀ g : GroupId, oos t.grp[g] = oos s.grp[g] := fun g => (congrArg oos (outOfLanes_of_aside hv) :)
  simp only [oosMask, hg]

theorem goMode_oosMask : oosMask (goMode m mask s) = oosMask s := oosMask_of_aside goMode_lanesAside

/-! ### The mode after each of the three steps -/

theorem sys_of_channels (h : apartFromChannels t = apartFromChannels s) : t.sys = s.sys :=
  (congrArg State.sys h :)

theorem modeLanes_sys {old new : Mode} : (modeLanes old new s).sys = s.sys := by
  unfold modeLanes
  split
  · exact each_sys fun _ _ => leaveScan_sys
  split
  · exact each_sys fun _ _ => enterScan_sys
  · rfl

/-- The mode, its mask and the mode before, after a change of mode (R25). -/
def sysInMode (m : Mode) (mask : BitVec 8) (x : Sys) : Sys :=
  { x with mode := m, prevMode := if x.mode = m then x.prevMode else x.mode, degMask := if m = .degraded then mask else 0 }

theorem changeMode_sys : (changeMode m mask s).sys = sysInMode m mask s.sys := by
  unfold changeMode sysInMode
  split
  · next h =>
    subst h
    simp
  · next h =>
    extract_lets old sys frz s1 s2
    have h2 : s2.sys = s1.sys := by
      unfold s2
      split
      · exact sys_of_channels (each_apartCh fun _ _ => modOut_apartCh)
      · rfl
    rw [raise_sys, h2]

theorem goMode_sys : (goMode m mask s).sys = sysInMode m mask s.sys := by
  unfold goMode
  extract_lets s1 s2 s3
  have h1 : s1.sys = sysInMode m mask s.sys := modeLanes_sys.trans changeMode_sys
  have h2 : s2.sys = s1.sys := by
    unfold s2
    split
    · exact sys_of_channels withdrawControl_apartCh
    · rfl
  have h3 : s3.sys = s2.sys := by
    unfold s3
    split
    · exact sys_of_channels (each_apartCh fun _ _ => modOut_apartCh)
    · rfl
  exact ((each_sys fun _ _ => askStage_sys).trans refreshSafe_sys).trans (h3.trans (h2.trans h1))

/-- Neither a trigger nor a request is due. -/
def NoneDue (s : State) : Prop := s.sys.safeReq = false ∧ s.sys.modeReq = none

theorem takeSafe_due : (takeSafe s).sys.safeReq = false ∧ (takeSafe s).sys.modeReq = s.sys.modeReq := by
  unfold takeSafe
  dsimp only
  split
  · rw [goMode_sys]
    exact ⟨rfl, rfl⟩
  · exact ⟨rfl, rfl⟩

theorem takeReq_due (h : s.sys.safeReq = false) : NoneDue (takeReq s) := by
  unfold takeReq
  dsimp only
  split
  · exact ⟨h, rfl⟩
  split
  · exact ⟨h, rfl⟩
  split
  · unfold NoneDue
    rw [goMode_sys]
    exact ⟨h, rfl⟩
  · unfold NoneDue
    rw [goMode_sys]
    exact ⟨h, rfl⟩

theorem goMode_due (h : NoneDue s) : NoneDue (goMode m mask s) := by
  unfold NoneDue at h ⊢
  rw [goMode_sys]
  exact h

theorem takeOos_due (h : NoneDue s) : NoneDue (takeOos s) := by
  unfold takeOos
  split
  · split
    · exact goMode_due h
    · exact goMode_due h
  split
  · exact goMode_due h
  split
  · exact goMode_due h
  · exact h

/-- Outside RUN and DEGRADED the groups out of service say nothing about the mode (R392). -/
theorem takeOos_idle (hr : s.sys.mode ≠ .run) (hd : s.sys.mode ≠ .degraded) : takeOos s = s := by
  unfold takeOos
  rw [if_neg (fun h => hr h.1), if_neg (fun h => hd h.1), if_neg hd]

theorem takeOos_mode : (takeOos s).sys.mode =
    if s.sys.mode = .run ∧ oosMask s ≠ 0 then (if degPol s then .degraded else .safe)
    else if s.sys.mode = .degraded ∧ oosMask s = 0 then .run else s.sys.mode := by
  unfold takeOos
  split
  · split
    · exact goMode_mode
    · exact goMode_mode
  split
  · exact goMode_mode
  split
  · next h => exact goMode_mode.trans h.symm
  · rfl

theorem takeSafe_triggered (hs : s.sys.safeReq = true) (hm : s.sys.mode = .run ∨ s.sys.mode = .degraded) :
    (takeSafe s).sys.mode = .safe := by
  have hgo : (s.sys.safeReq && (s.sys.mode = .run || s.sys.mode = .degraded)) = true := by
    simpa [hs] using hm
  unfold takeSafe
  dsimp only
  rw [if_pos hgo]
  exact goMode_mode

theorem takeReq_none (h : s.sys.modeReq = none) : takeReq s = s := by
  have hs : { s with sys := { s.sys with modeReq := none } } = s := by rw [← h]
  unfold takeReq
  simp only [h]
  exact hs

theorem takeSafe_none (h : s.sys.safeReq = false) : takeSafe s = s := by
  have hs : { s with sys := { s.sys with safeReq := false } } = s := by rw [← h]
  unfold takeSafe
  simp only [h, Bool.false_and, Bool.false_eq_true, if_false]
  exact hs

/-- An allowed request is taken by going to its mode, or to DEGRADED for RUN with a group out of service (R392, R393). -/
theorem takeReq_some (hreq : s.sys.modeReq = some m) (hset : setOk s m = true) :
    takeReq s = if m = .run ∧ oosMask s ≠ 0 then goMode .degraded (oosMask s) { s with sys := { s.sys with modeReq := none } }
      else goMode m 0 { s with sys := { s.sys with modeReq := none } } := by
  unfold takeReq
  simp only [hreq, hset, Bool.not_true, Bool.false_eq_true, if_false]

/-- A transition that MODE_SET may ask for leads to RUN, COMMISSION or SAFE (R392). -/
theorem setOk_target (h : setOk s m = true) : m = .run ∨ m = .commission ∨ m = .safe := by
  have he : setEdge s.sys.mode m = true := by
    simp only [setOk, Bool.and_eq_true] at h
    exact h.1.1
  revert he
  generalize s.sys.mode = m0
  cases m0 <;> cases m <;> decide

/-- The state after MODE_CHANGE, before the status words show it. -/
def modeTaken (s : State) : State := takeOos (takeReq (takeSafe s))

theorem modeTaken_due : NoneDue (modeTaken s) := takeOos_due (takeReq_due takeSafe_due.1)

theorem modeTaken_triggered (hs : s.sys.safeReq = true) (hm : s.sys.mode = .run ∨ s.sys.mode = .degraded)
    (hn : s.sys.modeReq = none) : (modeTaken s).sys.mode = .safe := by
  have hsafe := takeSafe_triggered hs hm
  unfold modeTaken
  rw [takeReq_none (takeSafe_due.2.trans hn), takeOos_idle (by simp [hsafe]) (by simp [hsafe])]
  exact hsafe

theorem modeTaken_request (hs : s.sys.safeReq = false) (hreq : s.sys.modeReq = some m) (hset : setOk s m = true)
    (hm : m ≠ .run) : (modeTaken s).sys.mode = m ∧ (modeTaken s).sys.degMask = 0 := by
  have hd : m ≠ .degraded := by
    rcases setOk_target hset with rfl | rfl | rfl <;> decide
  unfold modeTaken
  rw [takeSafe_none hs, takeReq_some hreq hset, if_neg (fun h => hm h.1),
    takeOos_idle (by rwa [goMode_mode]) (by rwa [goMode_mode]), goMode_sys]
  exact ⟨rfl, if_neg hd⟩

theorem modeTaken_run (hs : s.sys.safeReq = false) (hreq : s.sys.modeReq = some .run) (hset : setOk s .run = true) :
    (modeTaken s).sys.mode = (if oosMask s = 0 then .run else .degraded) ∧ (modeTaken s).sys.degMask = oosMask s := by
  unfold modeTaken
  rw [takeSafe_none hs, takeReq_some hreq hset]
  by_cases ho : oosMask s = 0
  · have hoos : oosMask (goMode .run 0 { s with sys := { s.sys with modeReq := none } }) = 0 := goMode_oosMask.trans ho
    rw [if_neg (fun h => h.2 ho), if_pos ho]
    unfold takeOos
    rw [if_neg (fun h => h.2 hoos), if_neg (by simp), if_neg (by simp), goMode_sys]
    exact ⟨rfl, ho.symm⟩
  · have hoos : oosMask (goMode .degraded (oosMask s) { s with sys := { s.sys with modeReq := none } }) = oosMask s :=
      goMode_oosMask
    rw [if_pos ⟨rfl, ho⟩, if_neg ho]
    unfold takeOos
    rw [if_neg (by simp), if_neg (fun h => ho (hoos.symm.trans h.2)), if_pos goMode_mode, hoos, goMode_sys, goMode_sys]
    exact ⟨rfl, rfl⟩

theorem modeTaken_oos (hs : s.sys.safeReq = false) (hn : s.sys.modeReq = none) : (modeTaken s).sys.mode =
    if s.sys.mode = .run ∧ oosMask s ≠ 0 then (if degPol s then .degraded else .safe)
    else if s.sys.mode = .degraded ∧ oosMask s = 0 then .run else s.sys.mode := by
  unfold modeTaken
  rw [takeSafe_none hs, takeReq_none hn]
  exact takeOos_mode

/-- MODE_CHANGE at its tick: the three steps, and the mode word of the tick (R27, R235). -/
theorem exec_modeChange {t0 : Nat} (hin : inService s = true) (ht : s.frm.tickT = t0) :
    ∃ t, exec (.modeChange t0) s = .next t ∧ t.sys = (modeTaken s).sys := by
  refine ⟨_, congrArg Host.Outcome.next ((if_pos hin).trans (if_pos ht)), ?_⟩
  dsimp only
  split
  · rfl
  · rfl

end

/-- Settles O26: a trigger, an allowed request and the groups out of service, each at its tick. -/
theorem modeChangesAtATick : Obligations.ModeChangesAtATick := by
  unfold Obligations.ModeChangesAtATick
  intro s t0 hin
  constructor
  · intro ht
    exact congrArg Host.Outcome.next ((if_pos hin).trans (if_neg ht))
  · intro ht
    obtain ⟨t, he, hsys⟩ := exec_modeChange hin ht
    refine ⟨t, he, ?_⟩
    rw [hsys]
    exact ⟨modeTaken_due.1, modeTaken_due.2, modeTaken_triggered, fun hs => ⟨fun m => modeTaken_request hs, modeTaken_run hs,
      modeTaken_oos hs⟩⟩
end Sys2Proof.Machine
end

section
/-! Refusals: a refused access, message or record changes nothing but the record of its refusal (R268, R277, R281, R302 to R304). -/

open Sys2Proof Sys2Proof.Machine
namespace Sys2Proof.Machine

section
variable {s t u : State} {m : MsgCtx} {r : RecCtx} {x : RecIn} {i : Fin 4} {cause : Byte} {sid : Option (Fin 16)}
  {acc : Access} {a : Nat} {v : HWord} {f : State → State}

/-! ### What a refusal leaves -/

/-- The state less what a refusal may change (R281, R283): the Bridle's records of it, what is sent, the instant and events. -/
def apartFromRefusals (s : State) : State :=
  { apartFromEvents s with
    now := 0, sent := []
    sec := { s.sec with
      refuseCnt := 0, refuseIf := 0, refuseCause := 0, evAt := State.reset.sec.evAt, plainAt := State.reset.sec.plainAt
      mbTaken := false, mbReply := [], peers := [], sess := State.reset.sec.sess } }

/-- A state with the parts of another that a refusal may change. -/
def withRefusalsOf (t x : State) : State :=
  { x with
    now := t.now, sent := t.sent
    sec := { x.sec with
      refuseCnt := t.sec.refuseCnt, refuseIf := t.sec.refuseIf, refuseCause := t.sec.refuseCause, evAt := t.sec.evAt
      plainAt := t.sec.plainAt, mbTaken := t.sec.mbTaken, mbReply := t.sec.mbReply, peers := t.sec.peers
      sess := t.sec.sess } }

theorem refusalOnly_of_apart (hr : Refused s t i cause) (h : apartFromRefusals t = apartFromRefusals s) :
    RefusalOnly s t i cause := by
  have hw : withRefusalsOf t (apartFromRefusals t) = withRefusalsOf t (apartFromRefusals s) := congrArg _ h
  exact ⟨hr, hw⟩

theorem raise_apartRefusals {e : Fin 128} {p : W32} : apartFromRefusals (raise e p s) = apartFromRefusals s :=
  congrArg (fun x : State => { x with
    now := 0, sent := []
    sec := { x.sec with
      refuseCnt := 0, refuseIf := 0, refuseCause := 0, evAt := State.reset.sec.evAt, plainAt := State.reset.sec.plainAt
      mbTaken := false, mbReply := [], peers := [], sess := State.reset.sec.sess } }) (raise_frame e p s)

theorem refuse_apart : apartFromRefusals (refuse i cause s) = apartFromRefusals s := by
  unfold refuse
  dsimp only
  split
  · rfl
  · exact raise_apartRefusals.trans rfl

theorem refuse_refused : Refused s (refuse i cause s) i cause := (refuse_spec i cause s).1

theorem refuse_sess : (refuse i cause s).sec.sess = s.sec.sess := by
  rw [(refuse_spec i cause s).2.1]

theorem refuse_only : RefusalOnly s (refuse i cause s) i cause := refusalOnly_of_apart refuse_refused refuse_apart

/-- A refusal is counted from any state that has counted as many. -/
theorem Refused.of_cnt (h : Refused u t i cause) (hc : u.sec.refuseCnt = s.sec.refuseCnt) : Refused s t i cause := by
  obtain ⟨hcnt, hif, hca⟩ := h
  exact ⟨hcnt.trans (congrArg inc16 hc), hif, hca⟩

theorem Refused.of_parts (h : Refused s u i cause) (hc : t.sec.refuseCnt = u.sec.refuseCnt)
    (hi : t.sec.refuseIf = u.sec.refuseIf) (hca : t.sec.refuseCause = u.sec.refuseCause) : Refused s t i cause := by
  obtain ⟨h1, h2, h3⟩ := h
  exact ⟨hc.trans h1, hi.trans h2, hca.trans h3⟩

theorem refuseMsg_plain : RefusalOnly s (refuseMsg m none cause s) (ifCode m.iface) cause := by
  have hr : Refused s (refuse (ifCode m.iface) cause s) (ifCode m.iface) cause := refuse_refused
  have ha : apartFromRefusals (refuse (ifCode m.iface) cause s) = apartFromRefusals s := refuse_apart
  unfold refuseMsg
  dsimp only
  generalize refuse (ifCode m.iface) cause s = s1 at hr ha ⊢
  split
  · exact refusalOnly_of_apart (hr.of_parts rfl rfl rfl) (Eq.trans rfl ha)
  split
  · exact refusalOnly_of_apart (hr.of_parts rfl rfl rfl) (Eq.trans rfl ha)
  · exact refusalOnly_of_apart (hr.of_parts rfl rfl rfl) (Eq.trans rfl ha)

theorem refuseMsg_inSession {k : Fin 16} (h : SendsOn s k) :
    RefusalOnly s (refuseMsg m (some k) cause s) (ifCode m.iface) cause := by
  have hr : Refused s (refuse (ifCode m.iface) cause s) (ifCode m.iface) cause := refuse_refused
  have ha : apartFromRefusals (refuse (ifCode m.iface) cause s) = apartFromRefusals s := refuse_apart
  have hs : SendsOn (refuse (ifCode m.iface) cause s) k := by
    unfold SendsOn
    rwa [refuse_sess]
  unfold refuseMsg
  dsimp only
  generalize refuse (ifCode m.iface) cause s = s1 at hr ha hs ⊢
  split
  · exact refusalOnly_of_apart (hr.of_parts rfl rfl rfl) (Eq.trans rfl ha)
  · rw [bumpSend_of_sendsOn (by exact hs)]
    exact refusalOnly_of_apart (hr.of_parts rfl rfl rfl) (Eq.trans rfl ha)


/-! ### A message on its way in -/

/-- The state in which a message has arrived: its instant, the copy of a tap, and the mailbox emptied (R278, R302). -/
def arrived (m : MsgCtx) (s : State) : State :=
  if m.iface = .host then atTime m.t { s with sec := { s.sec with mbTaken := true } }
  else tapCopy m.port (.message m) (atTime m.t s)

theorem tapCopy_eq {p : PortId} {y : Tapped} : ∃ l, tapCopy p y s = { s with sent := l } := by
  unfold tapCopy
  split
  · exact ⟨_, rfl⟩
  · exact ⟨s.sent, rfl⟩

/-- A message that has arrived changes the instant, what is sent and the mailbox alone. -/
theorem arrived_eq : ∃ l b, arrived m s = { s with now := max s.now m.t, sent := l, sec := { s.sec with mbTaken := b } } := by
  unfold arrived
  split
  · exact ⟨s.sent, true, rfl⟩
  · obtain ⟨l, hl⟩ := tapCopy_eq (s := atTime m.t s) (p := m.port) (y := .message m)
    exact ⟨l, s.sec.mbTaken, hl⟩

theorem onMsg_of_arrives (h : Arrives s m) : onMsg m f s = f (arrived m s) := by
  obtain ⟨hon, h⟩ := h
  unfold onMsg arrived
  rw [onCore_of_on hon]
  by_cases hh : m.iface = .host
  · simp only [hh, if_true] at h ⊢
    obtain ⟨hb, ht, hi⟩ := h
    simp [hb, ht, hi]
  · simp only [hh, if_false] at h ⊢
    obtain ⟨hm, hd, hs, hf⟩ := h
    simp [hm, hd, hs, hf]

/-- A message that has arrived and counts for its peer's context (R304). -/
def received (m : MsgCtx) (s : State) : State := touch m (arrived m s)

theorem received_eq : ∃ l b p, received m s =
    { s with now := max s.now m.t, sent := l, sec := { s.sec with mbTaken := b, peers := p } } := by
  obtain ⟨l, b, h⟩ := arrived_eq (m := m) (s := s)
  exact ⟨l, b, _, by rw [received, h]; rfl⟩

theorem msgCause_arrived {op rec_ : Bool} : msgCause (arrived m s) m op rec_ = msgCause s m op rec_ := by
  obtain ⟨l, b, h⟩ := arrived_eq (m := m) (s := s)
  rw [h]
  rfl

theorem outerMsg_passes {op rec_ : Bool} (h : Arrives s m) (hc : msgCause s m op rec_ = none) :
    outerMsg m op rec_ f s = f (received m s) := by
  unfold outerMsg
  rw [onMsg_of_arrives h, msgCause_arrived, hc]
  rfl

theorem outerMsg_refused {op rec_ : Bool} {c : Byte} (h : Arrives s m) (hc : msgCause s m op rec_ = some c) :
    outerMsg m op rec_ f s = refuseMsg m none c (received m s) := by
  unfold outerMsg
  rw [onMsg_of_arrives h, msgCause_arrived, hc]
  rfl

/-- What is refused once it has been received is refused. -/
theorem refusalOnly_of_received (h : RefusalOnly (received m s) t i cause) : RefusalOnly s t i cause := by
  obtain ⟨l, b, p, hu⟩ := received_eq (m := m) (s := s)
  rw [hu] at h
  obtain ⟨hr, hb⟩ := h
  exact ⟨hr.of_cnt rfl, hb⟩

theorem plainMsg_refused {op rec_ : Bool} {c : Byte} (h : Arrives s m) (hn : m.inRec = none)
    (hc : msgCause s m op rec_ = some c) : RefusalOnly s (plainMsg m op rec_ f s) (ifCode m.iface) c := by
  unfold plainMsg
  rw [hn]
  dsimp only
  rw [outerMsg_refused h hc]
  exact refusalOnly_of_received refuseMsg_plain

theorem recordLayer_bad (h : isLive s x.sid = false ∨ x.tagOk = false) :
    recordLayer m x f s = refuseMsg m none cTag s := by
  unfold recordLayer
  refine if_pos ?_
  rcases h with h | h <;> simp [h]

theorem isLive_received {k : Fin 16} : isLive (received m s) k = isLive s k := by
  obtain ⟨l, b, p, hu⟩ := received_eq (m := m) (s := s)
  rw [hu]
  rfl

theorem sendsOn_received {k : Fin 16} (h : SendsOn s k) : SendsOn (received m s) k := by
  obtain ⟨l, b, p, hu⟩ := received_eq (m := m) (s := s)
  rw [hu]
  exact h

/-- A record that carries a message of no session is refused there (R303). -/
theorem recordLayer_only (h : SendsOn s x.sid) : ∃ c, (c = cReplay ∨ c = cFormat) ∧ (isLive s x.sid = true → x.tagOk = true →
    RefusalOnly s (recordLayer m x (refuseMsg m (some x.sid) cFormat) s) (ifCode m.iface) c) := by
  unfold recordLayer
  cases hw : replayWindow s.sec.sess[x.sid].hi s.sec.sess[x.sid].mask x.seq.toNat with
  | none =>
    refine ⟨cReplay, .inl rfl, fun hl ht => ?_⟩
    rw [if_neg (by simp [hl, ht])]
    exact refuseMsg_inSession h
  | some p =>
    refine ⟨cFormat, .inr rfl, fun hl ht => ?_⟩
    rw [if_neg (by simp [hl, ht])]
    dsimp only
    have hs : SendsOn (modSess s x.sid fun y => { y with hi := p.1, mask := p.2, lastT := s.now }) x.sid := by
      unfold SendsOn
      rw [modSess_self]
      exact h
    obtain ⟨hr, hb⟩ := refuseMsg_inSession (m := m) (cause := cFormat) hs
    exact ⟨hr.of_cnt rfl, hb⟩

theorem plainMsg_inRecord {op rec_ : Bool} (hn : m.inRec = some x) (h : Arrives s m)
    (hc : msgCause s m false false = none) :
    plainMsg m op rec_ f s = recordLayer m x (refuseMsg m (some x.sid) cFormat) (received m s) := by
  unfold plainMsg
  rw [hn]
  exact outerMsg_passes h hc

/-- A record with a failed tag, of no live session, or outside a record where it has to stand in one (R268, R274). -/
theorem recMsg_refused (h : Arrives s r.msg) (hc : msgCause s r.msg false false = none)
    (hbad : r.bare = true ∨ isLive s r.sid = false ∨ r.tagOk = false) :
    RefusalOnly s (recMsg r f s) (ifCode r.msg.iface) (if r.bare then cNoSession else cTag) := by
  unfold recMsg
  rw [outerMsg_passes h hc]
  refine refusalOnly_of_received (m := r.msg) ?_
  split
  · exact refuseMsg_plain
  · next hb =>
    rw [recordLayer_bad]
    · exact refuseMsg_plain
    · rw [isLive_received]
      exact hbad.resolve_left hb

/-! ### Refused accesses to registers -/

theorem keyWhilePending_only (h : RefusalOnly s t i cause) : RefusalOnly s (keyWhilePending a v cause t) i cause := by
  unfold keyWhilePending
  split
  · obtain ⟨hr, hb⟩ := h
    refine ⟨hr.of_parts ?_ ?_ ?_, ?_⟩
    · rw [raise_sec]
    · rw [raise_sec]
    · rw [raise_sec]
    · rw [raise_now, raise_sent, raise_sec]
      exact (raise_frame 81 1 t).trans hb
  · exact h

theorem guarded_refused (hon : coreOn s = true) (hacc : ∀ c, acc ≠ .core c) (hc : writeCause s acc a v = some cause) :
    RefusalOnly s (guarded acc a v f s) (accIf acc) cause := by
  have he : guarded acc a v f s = keyWhilePending a v cause (refuse (accIf acc) cause s) := by
    unfold guarded
    rw [onCore_of_on hon]
    cases acc with
    | core c => exact absurd rfl (hacc c)
    | _ => simp only [hc]
  rw [he]
  exact keyWhilePending_only refuse_only

theorem guardedRead_refused (hon : coreOn s = true) (hc : readCause s acc a = some cause) :
    RefusalOnly s (guardedRead acc a f s) (accIf acc) cause := by
  unfold guardedRead
  rw [onCore_of_on hon, hc]
  exact refuse_only


/-! ### A forbidden write of a core (R17) -/

/-- A core's own record of an exception, before its task ends (R216). -/
def excRecord (cause bus : BitVec 4) (addr : W32) (f : HWord) (k : Core) : Core :=
  { k with cause := cause, bus := if cause = 3 then bus else 0, xtask := k.taskId.1, xbg := k.taskId.2, xpc := k.pc
           xaddr := if cause = 2 ∨ cause = 3 then addr else 0, xfrm := f, cnt := inc16 k.cnt }

/-- The state when the exception has been raised and the core's task has ended. -/
def excTaken (c : CoreId) (cause bus : BitVec 4) (addr : W32) (n : Nat) (s : State) : State :=
  let s1 := modCore s c (excRecord cause bus addr (s.frm.no.setWidth 16))
  modCore (raise 69 (BitVec.ofNat 32 (65536 * c.val + (s1.core[c]).causeReg.toNat)) s1) c fun k =>
    { k.endTask with freeAt := n + 4 }

/-- A bus fault records itself and ends the task; it may ask for the stop of its core (R216, R217). -/
theorem takeExc_bus {c : CoreId} {bus : BitVec 4} {addr : W32} {n : Nat} (h : s.core[c].run ≠ .nmi) :
    ∃ y, takeExc c 3 bus addr n s = { excTaken c 3 bus addr n s with sys := y } := by
  unfold takeExc
  extract_lets k s1 s2 y s3
  rw [if_neg h]
  have h3 : ∃ z, s3 = { s2 with sys := z } := by
    unfold s3
    split
    · exact ⟨_, rfl⟩
    · exact ⟨s2.sys, rfl⟩
  obtain ⟨z, hz⟩ := h3
  exact ⟨z, hz⟩

theorem endTask_keeps (k : Core) : k.endTask.cause = k.cause ∧ k.endTask.bus = k.bus ∧ k.endTask.xaddr = k.xaddr ∧
    k.endTask.d = k.d ∧ k.endTask.dmem = k.dmem := by
  unfold Core.endTask
  split <;> exact ⟨rfl, rfl, rfl, rfl, rfl⟩

theorem excTaken_core {c : CoreId} {bus : BitVec 4} {addr : W32} {n : Nat} {k : Core}
    (h : k = (excTaken c 3 bus addr n s).core[c]) :
    k.cause = 3 ∧ k.bus = bus ∧ k.xaddr = addr ∧ k.d = s.core[c].d ∧ k.dmem = s.core[c].dmem := by
  unfold excTaken at h
  extract_lets s1 at h
  have hd := (raise_only 69 (BitVec.ofNat 32 (65536 * c.val + (s1.core[c]).causeReg.toNat)) s1).2 c
  generalize raise 69 (BitVec.ofNat 32 (65536 * c.val + (s1.core[c]).causeReg.toNat)) s1 = s2 at h hd
  have h1 : s1.core[c] = excRecord 3 bus addr (s.frm.no.setWidth 16) s.core[c] := modCore_self s _ _
  rw [modCore_self] at h
  obtain ⟨hc, hb, hx, hdd, hm⟩ := endTask_keeps s2.core[c]
  unfold DeliveryOnly at hd
  rw [h1] at hd
  subst h
  refine ⟨hc.trans ?_, hb.trans ?_, hx.trans ?_, hdd.trans ?_, hm.trans ?_⟩ <;> rw [hd] <;> rfl

/-- A core that writes a register forbidden to it takes a bus fault of cause 3 instead (R17). -/
theorem coreBus_faults {c : CoreId} (hrun : canRun s c = true) (hn : s.core[c].run ≠ .nmi) :
    (coreBus c a s).cfg = s.cfg ∧ (coreBus c a s).ch = s.ch ∧ (coreBus c a s).core[c].cause = 3 ∧
      (coreBus c a s).core[c].bus = 3 ∧ (coreBus c a s).core[c].xaddr = BitVec.ofNat 32 (0x40000000 + 2 * a) ∧
      (coreBus c a s).core[c].d = s.core[c].d ∧ (coreBus c a s).core[c].dmem = s.core[c].dmem ∧
      (coreBus c a s).evt.pend.getLsbD 69 = true := by
  unfold coreBus
  rw [if_pos hrun]
  obtain ⟨y, hy⟩ := takeExc_bus (s := atCycle s.core[c].freeAt s) (bus := 3)
    (addr := BitVec.ofNat 32 (0x40000000 + 2 * a)) (n := s.core[c].freeAt) hn
  rw [hy]
  obtain ⟨hc, hb, hx, hd, hm⟩ := excTaken_core (s := atCycle s.core[c].freeAt s) (c := c) (bus := 3)
    (addr := BitVec.ofNat 32 (0x40000000 + 2 * a)) (n := s.core[c].freeAt) rfl
  exact ⟨raise_cfg, raise_ch _ _, hc, hb, hx, hd, hm, (raise_raised 69 _ _ (by decide)).2.2.2⟩

end

/-- Settles O41: each refused access or message ends in one refusal, of a state that differs from the first only in what the
arrival of a message changes; and a core's forbidden write in a bus fault. -/
theorem refusalsHaveNoEffect : Obligations.RefusalsHaveNoEffect := by
  unfold Obligations.RefusalsHaveNoEffect
  refine ⟨fun s acc a v hon => ⟨fun hacc cause same hc => ?_, fun cause hc => ?_, ?_⟩, fun s => ⟨?_, ?_, ?_⟩⟩
  · exact ⟨_, rfl, guarded_refused hon hacc hc⟩
  · exact ⟨_, rfl, guardedRead_refused hon hc⟩
  · rintro c same rfl hf hrun hn
    refine ⟨coreBus c a.toNat s, congrArg Host.Outcome.next ((if_pos hon).trans (if_pos hf)), coreBus_faults hrun hn⟩
  · intro m body ok z c h hn
    refine ⟨fun i hi hc => ?_, fun i hi hc => ?_, fun hc => ⟨_, rfl, plainMsg_refused h hn hc⟩⟩
    · rcases hi with rfl | rfl | rfl <;> exact ⟨_, rfl, plainMsg_refused h hn hc⟩
    · rcases hi with rfl | rfl <;> exact ⟨_, rfl, plainMsg_refused h hn hc⟩
  · intro m x body ok z i h hn hc hs hi
    have he : ∃ op rec_ f, exec i s = .next (plainMsg m op rec_ f s) := by
      rcases hi with rfl | rfl | rfl | rfl | rfl | rfl | ⟨p, l, rfl⟩
      · exact ⟨_, _, _, rfl⟩
      · exact ⟨_, _, _, rfl⟩
      · exact ⟨_, _, _, rfl⟩
      · exact ⟨_, _, _, rfl⟩
      · exact ⟨_, _, _, rfl⟩
      · exact ⟨_, _, _, rfl⟩
      · exact ⟨false, false, id, congrArg Host.Outcome.next (if_pos (by rw [hn]; rfl))⟩
    obtain ⟨op, rec_, f, he⟩ := he
    refine ⟨_, he, ?_⟩
    rw [plainMsg_inRecord hn h hc]
    obtain ⟨c, hcc, hlayer⟩ := recordLayer_only (m := m) (sendsOn_received (m := m) hs)
    refine ⟨fun hbad => refusalOnly_of_received (m := m) ?_, fun hl ht =>
      ⟨c, hcc, refusalOnly_of_received (m := m) (hlayer (isLive_received.trans hl) ht)⟩⟩
    rw [recordLayer_bad (by rwa [isLive_received])]
    exact refuseMsg_plain
  · intro r i h hc hbad hi
    have he : ∃ f, exec i s = .next (recMsg r f s) := by
      rcases hi with rfl | ⟨_, _, rfl⟩ | ⟨_, _, _, rfl⟩ | ⟨_, rfl⟩ | rfl | rfl | ⟨_, _, _, rfl⟩ | ⟨_, rfl⟩ | rfl |
        ⟨_, _, _, _, rfl⟩ | ⟨_, _, _, rfl⟩ | ⟨_, _, _, _, rfl⟩ | rfl | rfl | rfl | rfl <;> exact ⟨_, rfl⟩
    obtain ⟨f, he⟩ := he
    exact ⟨_, he, recMsg_refused h hc hbad⟩
end Sys2Proof.Machine
end

section
/-! The end of sessions, handshakes and contexts, and the loss of the last session (R267 to R272, R304). -/

open Sys2Proof Sys2Proof.Machine
namespace Sys2Proof.Machine

section
variable {s t u : State} {m : MsgCtx} {r : RecCtx} {i j : Fin 16} {f : State → State} {msg : HWord} {body : List Byte}

/-! ### The live sessions -/

theorem liveCount_congr (h : ∀ j, isLive t j = isLive s j) : liveCount t = liveCount s := by
  unfold liveCount
  simp only [h]

/-- One live session fewer. -/
theorem liveCount_ends (ho : ∀ j ≠ i, isLive t j = isLive s j) (hs : isLive s i = true) (ht : isLive t i = false) :
    liveCount s = liveCount t + 1 := by
  obtain ⟨l1, l2, hl⟩ := List.append_of_mem (List.mem_finRange i)
  have hn : (l1 ++ i :: l2).Nodup := hl ▸ List.nodup_finRange 16
  obtain ⟨h1, h2⟩ : i ∉ l1 ∧ i ∉ l2 := by
    have := List.nodup_middle.1 hn
    simpa using (List.nodup_cons.1 this).1
  have hf : ∀ l : List (Fin 16), i ∉ l → l.filter (fun j => isLive t j) = l.filter fun j => isLive s j := by
    intro l hi
    exact List.filter_congr fun j hj => ho j fun e => hi (e ▸ hj)
  unfold liveCount
  simp only [hl, List.filter_append, List.filter_cons, hs, ht, hf l1 h1, hf l2 h2, List.length_append]
  simp
  omega

/-! ### The end of a session -/

/-- A session has closed, before the loss timer (R270 to R272). -/
def closedSess (i : Fin 16) (s : State) : State :=
  { s with
    sec := { s.sec with
      sess := s.sec.sess.set i Sess.reset
      bound := if s.sec.bound = some i then none else s.sec.bound
      boundSeq := if s.sec.bound = some i then none else s.sec.boundSeq
      sigQ := s.sec.sigQ.filter fun x => match x with
        | .cmd q => q.sid ≠ i
        | .cert _ _ _ => true }
    cmt := { s.cmt with answer := s.cmt.answer.filter fun q => q.sid ≠ i }
    upd := { s.upd with lockOpen := s.upd.lockOpen && decide (s.upd.lock ≠ some i) } }

/-- The loss timer starts when the last live session closes (R271). -/
theorem closeSess_eq : closeSess i s = { closedSess i s with sec := { (closedSess i s).sec with
    lossAt := if s.sec.sess[i].st = .live ∧ liveCount (closedSess i s) = 0 then some s.now else s.sec.lossAt } } := by
  unfold closeSess
  extract_lets live s1 sec cmt upd s2
  have h2 : s2 = closedSess i s := rfl
  rw [h2]
  by_cases hl : s.sec.sess[i].st = .live ∧ liveCount (closedSess i s) = 0
  · rw [if_pos hl, if_pos (by simpa [live] using hl)]
    rfl
  · rw [if_neg hl, if_neg (by simpa [live] using hl)]
    rfl

theorem closeSess_sess : (closeSess i s).sec.sess = s.sec.sess.set i Sess.reset := by
  rw [closeSess_eq]
  rfl

theorem closeSess_bound : (closeSess i s).sec.bound = if s.sec.bound = some i then none else s.sec.bound := by
  rw [closeSess_eq]
  rfl

theorem mem_closeSess_sigQ {x : QItem} : x ∈ (closeSess i s).sec.sigQ ↔ x ∈ s.sec.sigQ ∧ ∀ q, x = .cmd q → q.sid ≠ i := by
  rw [closeSess_eq]
  show x ∈ s.sec.sigQ.filter _ ↔ _
  rw [List.mem_filter]
  cases x <;> simp

theorem closeSess_sent : (closeSess i s).sent = s.sent := by
  rw [closeSess_eq]
  rfl

theorem closeSess_mbReply : (closeSess i s).sec.mbReply = s.sec.mbReply := by
  rw [closeSess_eq]
  rfl

theorem closeSess_lossAt : (closeSess i s).sec.lossAt =
    if s.sec.sess[i].st = .live ∧ liveCount (closedSess i s) = 0 then some s.now else s.sec.lossAt := by
  rw [closeSess_eq]

theorem closedSess_self : (closedSess i s).sec.sess[i] = Sess.reset := by
  simp [closedSess]

theorem closedSess_other (h : j ≠ i) : (closedSess i s).sec.sess[j] = s.sec.sess[j] := vec_set_other _ _ h

theorem isLive_closed : isLive (closedSess i s) i = false := by
  unfold isLive
  rw [closedSess_self]
  rfl

theorem isLive_closed_other (h : j ≠ i) : isLive (closedSess i s) j = isLive s j := by
  unfold isLive isSpent
  rw [closedSess_other h]


/-! ### A record of a session -/

/-- A record has passed its session's checks: the window has moved, and the session is in use (R269, R270). -/
def inRecord (r : RecCtx) (s : State) : State :=
  match replayWindow s.sec.sess[r.sid].hi s.sec.sess[r.sid].mask r.seq.toNat with
  | some (h, k) => modSess s r.sid fun y => { y with hi := h, mask := k, lastT := s.now }
  | none => s

theorem sess_received : (received m s).sec.sess = s.sec.sess := by
  obtain ⟨l, b, p, hu⟩ := received_eq (m := m) (s := s)
  rw [hu]

theorem recMsg_passes (h : RecPasses s r) : recMsg r f s = f (inRecord r (received r.msg s)) := by
  obtain ⟨harr, hcause, hbare, hlive, htag, hwin⟩ := h
  have hw : replayWindow (received r.msg s).sec.sess[r.sid].hi (received r.msg s).sec.sess[r.sid].mask r.seq.toNat ≠ none := by
    rwa [sess_received]
  unfold recMsg
  rw [outerMsg_passes harr hcause, if_neg (by rw [hbare]; exact Bool.false_ne_true)]
  unfold recordLayer inRecord
  rw [if_neg (by simp [isLive_received, hlive, htag])]
  dsimp only
  cases hp : replayWindow (received r.msg s).sec.sess[r.sid].hi (received r.msg s).sec.sess[r.sid].mask r.seq.toNat with
  | none => exact absurd hp hw
  | some p => rfl

/-- A record of a session has arrived in `u`: what that changes of `s` is the session's window and time, the mailbox and the
peers, the instant and what is sent. -/
def RecordIn (r : RecCtx) (s u : State) : Prop :=
  ∃ l b p y, u = { s with
      now := max s.now r.msg.t, sent := l
      sec := { s.sec with mbTaken := b, peers := p, sess := s.sec.sess.set r.sid y } } ∧
    y.st = s.sec.sess[r.sid].st ∧ y.sendSeq = s.sec.sess[r.sid].sendSeq ∧ y.minor = s.sec.sess[r.sid].minor

theorem recordIn_inRecord : RecordIn r s (inRecord r (received r.msg s)) := by
  obtain ⟨l, b, p, hu⟩ := received_eq (m := r.msg) (s := s)
  rw [hu]
  unfold inRecord
  split
  · exact ⟨l, b, p, _, rfl, rfl, rfl, rfl⟩
  · exact ⟨l, b, p, s.sec.sess[r.sid], by simp, rfl, rfl, rfl⟩

theorem RecordIn.sess (h : RecordIn r s u) : u.sec.sess[r.sid].st = s.sec.sess[r.sid].st ∧
    u.sec.sess[r.sid].sendSeq = s.sec.sess[r.sid].sendSeq ∧ u.sec.sess[r.sid].minor = s.sec.sess[r.sid].minor := by
  obtain ⟨l, b, p, y, rfl, hst, hseq, hmin⟩ := h
  simp [hst, hseq, hmin]

theorem RecordIn.sendsOn (h : RecordIn r s u) : SendsOn u r.sid ↔ SendsOn s r.sid := by
  unfold SendsOn
  rw [h.sess.2.1]

/-- A session's event mask is no part of what its record is checked for. -/
theorem RecordIn.evMask (h : RecordIn r s u) (k : BitVec 128) :
    RecordIn r s (modSess u r.sid fun x => { x with evMask := k }) := by
  obtain ⟨l, b, p, y, rfl, hst, hseq, hmin⟩ := h
  exact ⟨l, b, p, { y with evMask := k }, by simp [modSess], hst, hseq, hmin⟩

theorem answered_of (hs : .response m.iface m.peer (some i) msg m.txid body (msgTag s m.iface) ∈ t.sent)
    {b : List Byte} (hb : b ≠ []) (hm : t.sec.mbReply = if m.iface = .host then b else s.sec.mbReply) :
    Answered s t m (some i) msg body := by
  refine ⟨hs, fun h => ?_, fun h => ?_⟩
  · rw [hm, if_pos h]
    exact hb
  · rw [hm, if_neg h]


theorem bumpSend_spent (h : ¬SendsOn s i) : bumpSend (some i) s = closeSess i (sentOne i s) := by
  have hs : isSpent (sentOne i s) i = true := by
    have he : s.sec.sess[i].sendSeq + 1 = 0xFFFFFFFFFFFFFFFF := by
      have := not_not.1 h
      bv_omega
    simpa [isSpent, sentOne, modSess] using he
  exact if_pos hs

/-- The loss timer starts when the session that closes was the last live one (R271). -/
theorem closeSess_last (ho : ∀ j ≠ i, t.sec.sess[j] = s.sec.sess[j]) (hst : t.sec.sess[i].st = .live)
    (hloss : t.sec.lossAt = s.sec.lossAt) (hlive : isLive s i = true) :
    (closeSess i t).sec.lossAt = if liveCount s = 1 then some t.now else s.sec.lossAt := by
  have hcount : liveCount s = liveCount (closedSess i t) + 1 := by
    refine liveCount_ends (fun j hj => ?_) hlive isLive_closed
    rw [isLive_closed_other hj]
    unfold isLive isSpent
    rw [ho j hj]
  rw [closeSess_lossAt, hloss]
  by_cases hz : liveCount (closedSess i t) = 0
  · rw [if_pos ⟨hst, hz⟩, if_pos (by omega)]
  · rw [if_neg (fun h => hz h.2), if_neg (by omega)]

theorem live_st (h : isLive s i = true) : s.sec.sess[i].st = .live := by
  unfold isLive at h
  simp only [Bool.and_eq_true, decide_eq_true_eq] at h
  exact h.1

/-- A session answers its record and closes: what that leaves of the Bridle, and what it leaves at all (R270 to R272). -/
theorem closed_answer (h : RecordIn r s u) (hlive : isLive s r.sid = true) {b : List Byte} (hb : b ≠ []) (ht : t =
    closeSess r.sid (sentOne r.sid (answeredWith r.msg (some r.sid) msg [] b u))) : t.sec.sess[r.sid] = Sess.reset ∧
    (∀ j : Fin 16, j ≠ r.sid → t.sec.sess[j] = s.sec.sess[j]) ∧ Answered s t r.msg (some r.sid) msg [] ∧
    t.sec.bound = (if s.sec.bound = some r.sid then none else s.sec.bound) ∧
    (∀ x, x ∈ t.sec.sigQ ↔ x ∈ s.sec.sigQ ∧ ∀ q, x = .cmd q → q.sid ≠ r.sid) ∧
    t.sec.lossAt = (if liveCount s = 1 then some (max s.now r.msg.t) else s.sec.lossAt) ∧
    apartFromSessions t = apartFromSessions s := by
  obtain ⟨l, mb, p, y, rfl, hst, hseq, -⟩ := h
  subst ht
  refine ⟨?_, fun j hj => ?_, answered_of ?_ hb closeSess_mbReply, closeSess_bound, fun x => mem_closeSess_sigQ,
    closeSess_last (fun j hj => ?_) ?_ rfl hlive, closeSess_apart.trans rfl⟩
  · rw [closeSess_sess]
    simp
  · rw [closeSess_sess]
    exact (vec_set_other _ _ hj).trans ((vec_set_other _ _ hj).trans (vec_set_other _ _ hj))
  · rw [closeSess_sent]
    exact List.mem_cons_self
  · exact (vec_set_other _ _ hj).trans (vec_set_other _ _ hj)
  · rw [sentOne, modSess_self]
    simp only [answeredWith, Fin.getElem_fin, Vector.getElem_set_self, hst]
    exact live_st hlive

/-- SESS_CLOSE after its record has passed: the answer goes out, and the session closes (R270). -/
theorem exec_sessClose (h : RecAccepted s r) : ∃ u b, RecordIn r s u ∧ b ≠ [] ∧ exec (.sessClose r) s =
    .next (closeSess r.sid (sentOne r.sid (answeredWith r.msg (some r.sid) 0x0014 [] b u))) := by
  obtain ⟨b, hb, hrep⟩ := reply_of_sendsOn (m := r.msg) (msg := 0x0014) (body := [])
    (recordIn_inRecord.sendsOn.2 h.2 : SendsOn (inRecord r (received r.msg s)) r.sid)
  refine ⟨_, b, recordIn_inRecord, hb, (congrArg Host.Outcome.next (recMsg_passes h.1)).trans ?_⟩
  unfold okRec
  rw [hrep]

/-- The answer that would be a session's last record closes the session (R268). -/
theorem exec_eventSub_spent {k : BitVec 128} (h : RecPasses s r) (hs : ¬SendsOn s r.sid)
    (hm : 1 ≤ s.sec.sess[r.sid].minor) : ∃ u b, RecordIn r s u ∧ b ≠ [] ∧ exec (.eventSub r k) s =
      .next (closeSess r.sid (sentOne r.sid (answeredWith r.msg (some r.sid) 0x0121 [] b u))) := by
  have hin := (recordIn_inRecord (s := s) (r := r)).evMask k
  obtain ⟨b, hb, hrep⟩ := reply_eq (m := r.msg) (sid := some r.sid) (msg := 0x0121) (body := [])
    (s := modSess (inRecord r (received r.msg s)) r.sid fun x => { x with evMask := k })
  have hspent : ¬SendsOn (answeredWith r.msg (some r.sid) 0x0121 [] b
      (modSess (inRecord r (received r.msg s)) r.sid fun x => { x with evMask := k })) r.sid :=
    fun h => hs (hin.sendsOn.1 h)
  refine ⟨_, b, hin, hb, (congrArg Host.Outcome.next (recMsg_passes h)).trans ?_⟩
  have hmin := recordIn_inRecord (s := s) (r := r) |>.sess.2.2
  rw [if_neg (by rw [hmin]; omega)]
  unfold okRec
  rw [hrep, bumpSend_spent hspent]

/-! ### Timers -/

theorem exec_handshakeTimeout {t0 : Nat} (hon : coreOn s = true) : exec (.handshakeTimeout i t0) s =
    .next (if s.sec.sess[i].st = .hs ∧ s.sec.sess[i].lastT + 1000000000 ≤ t0 then
      { s with now := max s.now t0, sec := { s.sec with sess := s.sec.sess.set i Sess.reset } } else s) :=
  congrArg Host.Outcome.next (if_pos hon)

theorem exec_sessionIdle {t0 : Nat} (hon : coreOn s = true) (hst : s.sec.sess[i].st = .live)
    (h : isSpent s i = true ∨ s.sec.sess[i].lastT + 100000000 * fld (act s 0x0506) 9 0 ≤ t0) :
    exec (.sessionIdle i t0) s = .next (closeSess i (atTime t0 s)) :=
  congrArg Host.Outcome.next ((if_pos hon).trans (if_pos ⟨hst, h⟩))

theorem exec_sessionIdle_none {t0 : Nat} (h : s.sec.sess[i].st ≠ .live ∨
    (isSpent s i = false ∧ t0 < s.sec.sess[i].lastT + 100000000 * fld (act s 0x0506) 9 0)) :
    exec (.sessionIdle i t0) s = .next s := by
  refine congrArg Host.Outcome.next ?_
  unfold onCore
  dsimp only
  split
  · refine if_neg fun hgo => ?_
    obtain ⟨hst, hend⟩ := hgo
    rcases h with h | ⟨hs, ht⟩
    · exact h hst
    · rcases hend with hend | hend
      · exact Bool.noConfusion (hs.symm.trans hend)
      · omega
  · rfl

theorem closeSess_cfg : (closeSess i s).cfg = s.cfg := (congrArg State.cfg closeSess_apart :)
theorem closeSess_evt : (closeSess i s).evt = s.evt := (congrArg State.evt closeSess_apart :)

/-- The loss timer starts as well when the session that ends is spent and no other is live (R268, R271). -/
theorem closeSess_spent (hst : s.sec.sess[i].st = .live) (hs : isSpent s i = true) (hz : liveCount s = 0) :
    (closeSess i s).sec.lossAt = some s.now := by
  have hcount : liveCount (closedSess i s) = liveCount s := by
    refine liveCount_congr fun j => ?_
    by_cases hj : j = i
    · subst hj
      rw [isLive_closed]
      unfold isLive
      rw [hs]
      simp
    · exact isLive_closed_other hj
  rw [closeSess_lossAt, if_pos ⟨hst, hcount.trans hz⟩]

/-- The loss timer that started at `k` has run (R26, R271, R375). -/
def lossTaken (k : Nat) (s : State) : State :=
  trialFail 6 (safeTrigger (raise 74 0 { atTime (lossEnd s k) s with sec := { s.sec with lossAt := none } }))

theorem safeTrigger_eq : safeTrigger s = { s with sys := { s.sys with
    safeReq := s.sys.safeReq || s.sys.mode = .run || s.sys.mode = .degraded } } := by
  unfold safeTrigger
  split
  · next h => rw [Bool.or_assoc, h, Bool.or_true]
  · next h =>
    simp only [Bool.not_eq_true] at h
    rw [Bool.or_assoc, h, Bool.or_false]

theorem trialFail_eq {reason : BitVec 4} : trialFail reason s = { s with upd := if s.upd.st = .trial then
    { s.upd with st := .reverting, revert := some reason, acceptT := s.now, confReq := false } else s.upd } := by
  unfold trialFail
  split <;> rfl

theorem lossTaken_spec {k : Nat} : (lossTaken k s).now = max s.now (lossEnd s k) ∧
    (lossTaken k s).sec = { s.sec with lossAt := none } ∧ Raised 74 0 s (lossTaken k s) ∧
    (lossTaken k s).sys.mode = s.sys.mode ∧
    (lossTaken k s).sys.safeReq = (s.sys.safeReq || s.sys.mode = .run || s.sys.mode = .degraded) ∧
    (s.upd.st = .trial → (lossTaken k s).upd.st = .reverting ∧ (lossTaken k s).upd.revert = some 6) ∧
    (s.upd.st ≠ .trial → (lossTaken k s).upd = s.upd) := by
  have hr := raise_raised 74 0 { atTime (lossEnd s k) s with sec := { s.sec with lossAt := none } } (by decide)
  unfold lossTaken
  rw [trialFail_eq, safeTrigger_eq]
  dsimp only
  rw [raise_sys, raise_upd, raise_sec, raise_now]
  refine ⟨rfl, rfl, hr, rfl, rfl, fun h => ?_, fun h => if_neg h⟩
  exact ⟨congrArg Upd.st (if_pos h), congrArg Upd.revert (if_pos h)⟩

/-- A peer's context ends 10 s after its latest message where no session of it is live (R304). -/
theorem exec_peerContextEnd {g : Iface} {p t0 : Nat} (hon : coreOn s = true)
    (hno : ∀ i : Fin 16, isLive s i = true → ¬(s.sec.sess[i].iface = g ∧ s.sec.sess[i].peer = p)) :
    exec (.peerContextEnd g p t0) s = .next { s with now := max s.now t0, sec := { s.sec with
      peers := s.sec.peers.filter fun x => ¬(x.iface = g ∧ x.peer = p ∧ x.t + 10000000000 ≤ t0) } } := by
  refine congrArg Host.Outcome.next ((if_pos hon).trans (if_neg fun hany => ?_))
  rw [List.any_eq_true] at hany
  obtain ⟨i, -, hi⟩ := hany
  simp only [Bool.and_eq_true, decide_eq_true_eq] at hi
  exact hno i hi.1 hi.2

/-- The loss timer has run: the trigger of SAFE, and the revert of a trial (R26, R271, R375). -/
theorem exec_sessionLoss {k : Nat} (hon : coreOn s = true) (hl : s.sec.lossAt = some k)
    (h : lossEnd s k ≤ frameEnd s) : exec .sessionLoss s = .next (lossTaken k s) := by
  refine congrArg Host.Outcome.next ((if_pos hon).trans ?_)
  simp only [hl]
  exact if_pos h

end

/-- Settles O48: the end of a session by `closeSess`, and each timer by its own command. -/
theorem sessionsEnd : Obligations.SessionsEnd := by
  unfold Obligations.SessionsEnd
  intro s
  refine ⟨fun r h => ?_, fun r hp hs k hm => ?_, fun i t0 hon => ⟨exec_handshakeTimeout hon, ?_, ?_, fun h =>
    exec_sessionIdle_none h⟩, fun hon => ⟨?_, ?_⟩, fun f p t0 hon hno => ?_⟩
  · obtain ⟨u, b, hin, hb, he⟩ := exec_sessClose h
    obtain ⟨h1, h2, h3, h4, h5, h6, h7⟩ := closed_answer hin h.1.2.2.2.1 hb rfl
    exact ⟨_, he, h1, h2, h3, h4, h5, h6, sessionsOnly_of_apart h7⟩
  · obtain ⟨u, b, hin, hb, he⟩ := exec_eventSub_spent (k := k) hp hs hm
    obtain ⟨h1, -, h3, h4, -, -, -⟩ := closed_answer hin hp.2.2.2.1 hb rfl
    exact ⟨_, he, h1, h3, h4⟩
  · intro hl ht
    exact ⟨_, exec_sessionIdle hon (live_st hl) (.inr ht), closeSess_sess, closeSess_cfg, closeSess_evt⟩
  · intro hst hs
    exact ⟨_, exec_sessionIdle hon hst (.inl hs), closeSess_sess, closeSess_spent (s := atTime t0 s) hst hs, closeSess_cfg,
      closeSess_evt⟩
  · intro hno
    refine congrArg Host.Outcome.next ((if_pos hon).trans ?_)
    dsimp only
    split
    · next u hu =>
      obtain ⟨h1, h2⟩ := hno u hu
      exact if_neg (by unfold lossEnd frameEnd; omega)
    · rfl
  · intro u hu hle
    obtain ⟨h1, h2, h3, h4, h5, h6, h7⟩ := lossTaken_spec (s := s) (k := u)
    exact ⟨_, exec_sessionLoss hon hu hle, h1, h2, h3, h4, h5, h6, h7⟩
  · exact exec_peerContextEnd hon hno
end Sys2Proof.Machine
end

section
/-! What the requests of a channel leave of the channels. -/

open Sys2Proof Sys2Proof.Machine
namespace Sys2Proof.Machine

section
variable {s : State} {n : ChanId} {op : ReqOp}

/-- Changing a channel leaves whatever is read off every channel and the change leaves of it. -/
theorem map_modCh {β : Type} {π : Chan → β} {f : Chan → Chan} (h : π (f s.ch[n]) = π s.ch[n]) :
    (modCh s n f).ch.map π = s.ch.map π := by
  unfold modCh
  refine Vector.ext fun k hk => ?_
  by_cases hn : n.val = k
  · subst hn
    simpa using h
  · simp [hn]

theorem endLease_chs : (endLease n s).ch = s.ch := by
  unfold endLease
  extract_lets mine s1
  have h1 : s1.ch = s.ch := by
    unfold s1
    refine each_congr (π := State.ch) fun i s => ?_
    split <;> rfl
  clear_value s1
  exact h1

theorem endOwn_chs : (endOwn n s).ch = s.ch := by
  unfold endOwn
  refine (each_congr (π := State.ch) fun i s => ?_).trans endLease_chs
  split <;> rfl

theorem openOp_chs {i : Fin 96} : (openOp i op s).ch = s.ch := by
  unfold openOp openSlot keepLease
  dsimp only
  split <;> rfl

theorem serveWait_chs : (serveWait s).ch = s.ch := by
  unfold serveWait
  split
  · exact openOp_chs
  · rfl

theorem withdraw_chs : (withdraw n s).ch = s.ch := by
  unfold withdraw
  refine each_congr (π := State.ch) fun i s => ?_
  dsimp only
  split
  · exact serveWait_chs
  · rfl

theorem conflict_chs {kind : Nat} {x : Option GroupId} : (conflict kind x s).ch = s.ch := raise_ch _ _

theorem protectConflict_chs : (protectConflict n s).ch = s.ch := by
  unfold protectConflict
  split
  · exact conflict_chs.trans (endOwn_chs.trans withdraw_chs)
  · rfl

theorem onCore_chs {f : State → State} (hf : ∀ s, (f s).ch = s.ch) : (onCore f s).ch = s.ch := by
  unfold onCore
  split
  · exact hf s
  · rfl

end
end Sys2Proof.Machine
end

section
/-! The signed commands (R275, R276): the command at the head of the queue, its acceptance and its answer. -/

open Sys2Proof Sys2Proof.Machine
namespace Sys2Proof.Machine

section
variable {s t u : State} {q : QCmd} {code : HWord} {sigOk : Bool} {t0 : Nat} {st cause : Byte} {i : Fin 16} {kid : BitVec 64}
  {f : QCmd → State → State}

/-! ### The key of a command moves to the front of the cache (R262) -/

theorem useKey_eq : ∃ c, useKey kid s = { s with sec := { s.sec with cache := c } } ∧ (∀ k, k ∈ c → k ∈ s.sec.cache) ∧
    (∀ k ∈ s.sec.cache, k.kid ≠ kid → k ∈ c) := by
  unfold useKey
  split
  · next k hk =>
    refine ⟨_, rfl, fun x hx => ?_, fun x hx hne => ?_⟩
    · rcases List.mem_cons.1 hx with rfl | hx
      · exact List.mem_of_find?_eq_some hk
      · exact (List.mem_filter.1 hx).1
    · exact List.mem_cons_of_mem _ (List.mem_filter.2 ⟨hx, by simpa using hne⟩)
  · exact ⟨s.sec.cache, rfl, fun _ h => h, fun _ h _ => h⟩

/-- A key is found in the cache where one of its identifier stands in it. -/
theorem findKey_none_iff : findKey s kid = none ↔ ∀ k ∈ s.sec.cache, k.kid ≠ kid := by
  unfold findKey
  simp

/-! ### A command at the head of the queue -/

/-- The command at the head of the queue is taken from it for its verification (R246, R276). -/
def cmdTaken (t0 : Nat) (s : State) : State :=
  { s with
    now := max s.now t0
    sec := { s.sec with
      verifT := max s.now t0 :: recentVerif (atTime t0 s), sigQ := s.sec.sigQ.drop 1 } }

/-- Certificates are verified only where one stands at the head of the queue (R276). -/
theorem drainCerts_none (h : ∀ m b ok, s.sec.sigQ.head? ≠ some (.cert m b ok)) : drainCerts s = s := by
  unfold drainCerts
  cases hq : s.sec.sigQ with
  | nil => rfl
  | cons x l =>
    cases x with
    | cert m b ok => exact absurd (by rw [hq]; rfl) (h m b ok)
    | cmd c => rfl

/-- The verification of the command at the head ends: refused, or taken with its key (R275, R276). -/
theorem runCmd_eq (hon : coreOn s = true) (he : EngineFree s (max s.now t0)) (hq : s.sec.sigQ.head? = some (.cmd q))
    (hcode : q.m.code = code) : runCmd code sigOk t0 f s = drainCerts (match cmdCause s q sigOk with
      | some c => refuseCmd q c (cmdTaken t0 s)
      | none => f q (useKey q.m.signer (cmdTaken t0 s))) := by
  obtain ⟨rest, hrest⟩ := List.head?_eq_some_iff.1 hq
  have hfree : ¬(1000 ≤ (recentVerif (atTime t0 s)).length ∧
      (leaseLive (atTime t0 s) .burst || leaseLive (atTime t0 s) .burstMaint) = false) :=
    fun h => absurd h.1 (Nat.not_le.2 he)
  unfold runCmd
  rw [onCore_of_on hon]
  simp only [hrest]
  rw [if_neg (fun h => h hcode)]
  unfold verifying
  dsimp only
  rw [if_neg hfree]
  unfold cmdTaken
  rw [hrest]
  rfl

theorem runCmd_passes (h : SignedPasses s code sigOk t0 q) :
    runCmd code sigOk t0 f s = drainCerts (f q (useKey q.m.signer (cmdTaken t0 s))) := by
  obtain ⟨hon, he, hq, hcode, hcause, -, -⟩ := h
  rw [runCmd_eq hon he hq hcode, hcause]

theorem runCmd_fails {c : Byte} (hon : coreOn s = true) (he : EngineFree s (max s.now t0))
    (hq : s.sec.sigQ.head? = some (.cmd q)) (hcode : q.m.code = code) (hc : cmdCause s q sigOk = some c) :
    runCmd code sigOk t0 f s = drainCerts (refuseCmd q c (cmdTaken t0 s)) := by
  rw [runCmd_eq hon he hq hcode, hc]

/-- A command has been accepted in `u`: its key is used, it has left the queue, and it is the latest of its session (R275). -/
def CmdIn (q : QCmd) (t0 : Nat) (s u : State) : Prop :=
  ∃ v c, u = { s with
      now := max s.now t0
      sec := { s.sec with
        verifT := v, sigQ := s.sec.sigQ.drop 1, cache := c
        sess := s.sec.sess.set q.sid { s.sec.sess[q.sid] with cmdSeq := q.m.cmdSeq } } } ∧
    (∀ k, k ∈ c → k ∈ s.sec.cache) ∧ (∀ k ∈ s.sec.cache, k.kid ≠ q.m.signer → k ∈ c)

theorem cmdIn_accept : CmdIn q t0 s (acceptCmd q (useKey q.m.signer (cmdTaken t0 s))) := by
  obtain ⟨c, hu, hsub, hrest⟩ := useKey_eq (kid := q.m.signer) (s := cmdTaken t0 s)
  rw [hu]
  exact ⟨_, c, rfl, hsub, hrest⟩

theorem CmdIn.sendsOn (h : CmdIn q t0 s u) (hs : SendsOn s q.sid) : SendsOn u q.sid := by
  obtain ⟨v, c, rfl, -, -⟩ := h
  unfold SendsOn at hs ⊢
  dsimp only
  rwa [Fin.getElem_fin, Vector.getElem_set_self]

theorem CmdIn.isLive (h : CmdIn q t0 s u) (i : Fin 16) : isLive u i = Machine.isLive s i := by
  obtain ⟨v, c, rfl, -, -⟩ := h
  by_cases hi : i = q.sid
  · subst hi
    simp [Machine.isLive, isSpent]
  · have he : (s.sec.sess.set q.sid { s.sec.sess[q.sid] with cmdSeq := q.m.cmdSeq })[i] = s.sec.sess[i] := vec_set_other _ _ hi
    unfold Machine.isLive isSpent
    dsimp only
    rw [he]

/-- A command has been answered in `t`, where `u` is the state before: what changes is its session's send counter, the mailbox
reply, and what is sent. -/
def CmdAnswer (q : QCmd) (st : Byte) (u t : State) : Prop :=
  ∃ l b n, t = { u with
      sent := l
      sec := { u.sec with
        mbReply := b, sess := u.sec.sess.set q.sid { u.sec.sess[q.sid] with sendSeq := n } } } ∧
    (isLive u q.sid = true → .response q.iface q.peer (some q.sid) 0x0102 q.txid [st] (msgTag u q.iface) ∈ l)

theorem cmdAnswer_answerCmd (h : SendsOn u q.sid) : CmdAnswer q st u (answerCmd q st u) := by
  unfold answerCmd
  split
  · obtain ⟨b, -, hrep⟩ := reply_of_sendsOn (m := cmdCtx u q) (msg := 0x0102) (body := [st]) h
    rw [hrep]
    exact ⟨_, _, u.sec.sess[q.sid].sendSeq + 1, rfl, fun _ => List.mem_cons_self⟩
  · next hl =>
    have he : u.sec.sess.set q.sid { u.sec.sess[q.sid] with sendSeq := u.sec.sess[q.sid].sendSeq } = u.sec.sess :=
      Vector.set_getElem_self q.sid.isLt
    exact ⟨u.sent, u.sec.mbReply, u.sec.sess[q.sid].sendSeq, by rw [he], fun h => absurd h hl⟩


theorem CmdAnswer.sigQ (h : CmdAnswer q st u t) : t.sec.sigQ = u.sec.sigQ := by
  obtain ⟨l, b, n, rfl, -⟩ := h
  rfl

theorem CmdAnswer.cmdSeq (h : CmdAnswer q st u t) : t.sec.sess[q.sid].cmdSeq = u.sec.sess[q.sid].cmdSeq := by
  obtain ⟨l, b, n, rfl, -⟩ := h
  simp

/-- An answer leaves all but the Bridle and what is sent. -/
theorem CmdAnswer.rest (h : CmdAnswer q st u t) : t = { u with sent := t.sent, sec := t.sec } := by
  obtain ⟨l, b, n, rfl, -⟩ := h
  rfl

theorem CmdIn.sigQ (h : CmdIn q t0 s u) : u.sec.sigQ = s.sec.sigQ.drop 1 := by
  obtain ⟨v, c, rfl, -, -⟩ := h
  rfl

theorem CmdIn.cmdSeq (h : CmdIn q t0 s u) : u.sec.sess[q.sid].cmdSeq = q.m.cmdSeq := by
  obtain ⟨v, c, rfl, -, -⟩ := h
  simp

theorem CmdIn.rest (h : CmdIn q t0 s u) : u = { s with now := max s.now t0, sec := u.sec } := by
  obtain ⟨v, c, rfl, -, -⟩ := h
  rfl

/-- What a command does to the rest of the machine, before it is answered, leaves the Bridle and what is sent. -/
def BesideBridle (u w : State) : Prop := w.sec = u.sec ∧ w.sent = u.sent ∧ w.cfg = u.cfg

theorem BesideBridle.refl : BesideBridle u u := ⟨rfl, rfl, rfl⟩

theorem BesideBridle.sendsOn (h : BesideBridle u t) (hs : SendsOn u i) : SendsOn t i := by
  unfold SendsOn
  rwa [h.1]

theorem msgTag_cfg {k : Iface} (h : t.cfg = s.cfg) : msgTag t k = msgTag s k := by
  unfold msgTag act
  rw [h]

/-- The last thing that is sent is what `s` would send as the answer of a command. -/
def CmdAnswered (s t : State) (q : QCmd) (st : Byte) : Prop :=
  isLive s q.sid = true → .response q.iface q.peer (some q.sid) 0x0102 q.txid [st] (msgTag s q.iface) ∈ t.sent

theorem isLive_of_sess (h : t.sec.sess = s.sec.sess) : Machine.isLive t i = Machine.isLive s i := by
  unfold Machine.isLive isSpent
  rw [h]

/-- The answer of an accepted command, whatever it does to all but the sessions and the configuration before it is answered. -/
theorem CmdIn.answers {w : State} (hin : CmdIn q t0 s u) (hsess : w.sec.sess = u.sec.sess) (hcfg : w.cfg = u.cfg)
    (ha : CmdAnswer q st w t) : CmdAnswered s t q st := by
  intro hl
  have hlw : Machine.isLive w q.sid = true := (isLive_of_sess hsess).trans ((hin.isLive q.sid).trans hl)
  have hws : w.cfg = s.cfg := by rw [hcfg, hin.rest]
  obtain ⟨l, b, n, rfl, hresp⟩ := ha
  rw [← msgTag_cfg hws]
  exact hresp hlw

/-- An accepted command that does `w` beside the Bridle and is answered: it leaves the queue, and its answer is sent. -/
theorem CmdIn.answered {w : State} (hin : CmdIn q t0 s u) (hw : BesideBridle u w) (ha : CmdAnswer q st w t) :
    TakenFromQueue s t q ∧ CmdAnswered s t q st ∧ t.cfg = s.cfg := by
  obtain ⟨hsec, -, hcfg⟩ := hw
  refine ⟨⟨?_, ?_⟩, hin.answers (by rw [hsec]) hcfg ha, ?_⟩
  · rw [ha.sigQ, hsec, hin.sigQ]
  · rw [ha.cmdSeq, hsec, hin.cmdSeq]
  · rw [ha.rest]
    refine hcfg.trans ?_
    rw [hin.rest]

/-- A command that is taken, does `w` beside the Bridle and is answered, as its instruction ends. -/
theorem drain_answered {w : State} (h : SignedPasses s code sigOk t0 q) (hin : CmdIn q t0 s u) (hw : BesideBridle u w) :
    CmdAnswer q st w (answerCmd q st w) ∧ drainCerts (answerCmd q st w) = answerCmd q st w := by
  have ha : CmdAnswer q st w (answerCmd q st w) := cmdAnswer_answerCmd (hw.sendsOn (hin.sendsOn h.2.2.2.2.2.2))
  refine ⟨ha, drainCerts_none ?_⟩
  rw [ha.sigQ, hw.1, hin.sigQ]
  exact h.2.2.2.2.2.1

/-- The accepted state of a command that passes. -/
def accepted (q : QCmd) (t0 : Nat) (s : State) : State := acceptCmd q (useKey q.m.signer (cmdTaken t0 s))

theorem cmdIn_accepted : CmdIn q t0 s (accepted q t0 s) := cmdIn_accept

/-- The rule of every signed command that answers: what its instruction ends in, where it does `w` beside the Bridle. -/
theorem signed_answered {j : Instr} {w : State} (h : SignedPasses s code sigOk t0 q)
    (he : exec j s = .next (drainCerts (answerCmd q st w))) (hw : BesideBridle (accepted q t0 s) w) :
    ∃ t, exec j s = .next t ∧ CmdAnswer q st w t ∧ TakenFromQueue s t q ∧ CmdAnswered s t q st ∧ t.cfg = s.cfg := by
  obtain ⟨ha, hd⟩ := drain_answered (st := st) h cmdIn_accepted hw
  obtain ⟨h1, h2, h3⟩ := cmdIn_accepted.answered hw ha
  exact ⟨_, by rw [he, hd], ha, h1, h2, h3⟩

/-- A signed command that is not answered leaves the queue all the same. -/
theorem signed_unanswered {j : Instr} {w : State} (h : SignedPasses s code sigOk t0 q)
    (he : exec j s = .next (drainCerts w)) (hw : BesideBridle (accepted q t0 s) w) :
    exec j s = .next w ∧ TakenFromQueue s w q ∧ w.cfg = s.cfg := by
  obtain ⟨hsec, -, hcfg⟩ := hw
  have hsig : w.sec.sigQ = s.sec.sigQ.drop 1 := by rw [hsec, cmdIn_accepted.sigQ]
  have hd : drainCerts w = w := drainCerts_none (by rw [hsig]; exact h.2.2.2.2.2.1)
  refine ⟨by rw [he, hd], ⟨hsig, by rw [hsec, cmdIn_accepted.cmdSeq]⟩, hcfg.trans ?_⟩
  rw [cmdIn_accepted.rest]

theorem accepted_rest : accepted q t0 s = { s with now := max s.now t0, sec := (accepted q t0 s).sec } := cmdIn_accepted.rest

theorem raise_beside {e : Fin 128} {p : W32} : BesideBridle u (raise e p u) := ⟨raise_sec, raise_sent, raise_cfg⟩

/-- What is raised when a command has been accepted was raised from the state before it. -/
theorem raised_accepted {e : Fin 128} {p : W32} (h : Raised e p (accepted q t0 s) t) : Raised e p s t := by
  rwa [accepted_rest] at h

end
end Sys2Proof.Machine
end

section
/-! What COMMIT, MODE_SET, FORCE, FREEZE and HP_TRUST do (R276, R280, R349). -/

open Sys2Proof Sys2Proof.Machine
namespace Sys2Proof.Machine

section
variable {s t u : State} {q : QCmd} {code : HWord} {sigOk : Bool} {t0 : Nat} {st cause : Byte} {i : Fin 16} {kid : BitVec 64}
  {f : QCmd → State → State}

/-! ### COMMIT, MODE_SET, FORCE, FREEZE, HP_TRUST -/

theorem cmtPend_accepted : cmtPend (accepted q t0 s) = cmtPend s := by
  rw [accepted_rest]
  rfl

/-- COMMIT as its step gives it (R19, R22). -/
def commitTo (q : QCmd) (s w : State) : State :=
  if cmtPend s then answerCmd q 1 (raise 81 1 w)
  else { w with cmt := { w.cmt with
    phase := .requested, src := if q.iface = .host then 2 else 1, answer := some q, gaitErr0 := 0, gaitErr1 := 0 } }

theorem exec_commitCmd (h : SignedPasses s 0x0101 sigOk t0 q) :
    exec (.commitCmd sigOk t0) s = .next (drainCerts (commitTo q s (accepted q t0 s))) := by
  have hx : exec (.commitCmd sigOk t0) s = .next (runCmd 0x0101 sigOk t0 (fun q s =>
      let s1 := acceptCmd q s
      if cmtPend s1 then answerCmd q 1 (requestCommit 1 none s1)
      else requestCommit (if q.iface = .host then 2 else 1) (some q) s1) s) := rfl
  have hf : (if cmtPend (accepted q t0 s) then answerCmd q 1 (requestCommit 1 none (accepted q t0 s))
      else requestCommit (if q.iface = .host then 2 else 1) (some q) (accepted q t0 s)) = commitTo q s (accepted q t0 s) := by
    unfold commitTo
    rw [cmtPend_accepted]
    by_cases hp : cmtPend s = true
    · rw [if_pos hp, if_pos hp, requestCommit, if_pos (cmtPend_accepted.trans hp)]
    · rw [if_neg hp, if_neg hp, requestCommit, if_neg (by rwa [cmtPend_accepted])]
  rw [hx, runCmd_passes h]
  exact congrArg (fun u => Host.Outcome.next (drainCerts u)) hf

theorem commitCmd_taken (h : SignedPasses s 0x0101 sigOk t0 q) (hp : cmtPend s = false) :
    ∃ t, exec (.commitCmd sigOk t0) s = .next t ∧ TakenFromQueue s t q ∧ t.cmt.phase = .requested ∧
      t.cmt.src = (if q.iface = .host then 2 else 1) ∧ t.cmt.answer = some q ∧ t.cfg = s.cfg := by
  have he := exec_commitCmd h
  unfold commitTo at he
  rw [if_neg (by rw [hp]; exact Bool.false_ne_true)] at he
  obtain ⟨hx, htaken, hcfg⟩ := signed_unanswered h he ⟨rfl, rfl, rfl⟩
  exact ⟨_, hx, htaken, rfl, rfl, rfl, hcfg⟩

theorem commitCmd_pending (h : SignedPasses s 0x0101 sigOk t0 q) (hp : cmtPend s = true) :
    ∃ t, exec (.commitCmd sigOk t0) s = .next t ∧ TakenFromQueue s t q ∧ CmdAnswered s t q 1 ∧ t.cmt = s.cmt ∧
      t.cfg = s.cfg ∧ Raised 81 1 s t := by
  have he := exec_commitCmd h
  unfold commitTo at he
  rw [if_pos hp] at he
  obtain ⟨t, ht, ha, htaken, hans, hcfg⟩ := signed_answered h he raise_beside
  refine ⟨t, ht, htaken, hans, ?_, hcfg, raised_accepted (q := q) (t0 := t0) ?_⟩
  · rw [ha.rest]
    refine raise_cmt.trans ?_
    rw [accepted_rest]
  · rw [ha.rest]
    exact raise_raised 81 1 (accepted q t0 s) (by decide)

/-- A signed command that changes nothing beside the Bridle but is answered. -/
theorem signed_status {j : Instr} (h : SignedPasses s code sigOk t0 q)
    (he : exec j s = .next (drainCerts (answerCmd q st (accepted q t0 s)))) :
    ∃ t, exec j s = .next t ∧ TakenFromQueue s t q ∧ CmdAnswered s t q st ∧
      t = { s with now := max s.now t0, sent := t.sent, sec := t.sec } := by
  obtain ⟨t, ht, ha, htaken, hans, -⟩ := signed_answered h he .refl
  refine ⟨t, ht, htaken, hans, ?_⟩
  have hrest := ha.rest
  rw [accepted_rest] at hrest
  exact hrest

/-- The state in which a command that passes is executed, before it is accepted, differs from `s` in the instant and the Bridle. -/
theorem useKey_taken : ∃ v c, useKey q.m.signer (cmdTaken t0 s) =
    { s with now := max s.now t0, sec := { s.sec with verifT := v, sigQ := s.sec.sigQ.drop 1, cache := c } } := by
  obtain ⟨c, hu, -, -⟩ := useKey_eq (kid := q.m.signer) (s := cmdTaken t0 s)
  exact ⟨_, c, hu⟩

/-- MODE_SET as its step gives it (R276, R373, R393), in terms of the state before the command. -/
def modeSetTo (q : QCmd) (s w : State) : State :=
  match setTarget (q.m.payload.getD 0 0) with
  | none => answerCmd q stMode w
  | some m =>
    if s.sys.mode = .boot ∨ s.sys.mode = .trial ∨ s.upd.trialFlag = true then answerCmd q stMode w
    else if setSame s m then answerCmd q 0 w
    else if setOk s m then answerCmd q 0 { w with sys := { w.sys with modeReq := some m } }
    else answerCmd q stMode w

theorem exec_modeSet (h : SignedPasses s 0x0102 sigOk t0 q) :
    exec (.modeSet sigOk t0) s = .next (drainCerts (modeSetTo q s (accepted q t0 s))) := by
  obtain ⟨v, c, hu⟩ := useKey_taken (q := q) (t0 := t0) (s := s)
  have hx : exec (.modeSet sigOk t0) s = .next (runCmd 0x0102 sigOk t0 (fun q s => modeSetTo q s (acceptCmd q s)) s) := rfl
  rw [hx, runCmd_passes h]
  unfold accepted
  rw [hu]
  rfl

theorem exec_modeSet_to (h : SignedPasses s 0x0102 sigOk t0 q) (hm : modeSetTo q s (accepted q t0 s) = u) :
    exec (.modeSet sigOk t0) s = .next (drainCerts u) := by
  rw [exec_modeSet h, hm]

theorem modeSet_status (h : SignedPasses s 0x0102 sigOk t0 q)
    (hm : modeSetTo q s (accepted q t0 s) = answerCmd q st (accepted q t0 s)) :
    ∃ t, exec (.modeSet sigOk t0) s = .next t ∧ TakenFromQueue s t q ∧ CmdAnswered s t q st ∧
      t.sys = s.sys ∧ t.cfg = s.cfg := by
  obtain ⟨t, ht, htaken, hans, hrest⟩ := signed_status h (exec_modeSet_to h hm)
  exact ⟨t, ht, htaken, hans, by rw [hrest], by rw [hrest]⟩

theorem modeSet_requested {m : Mode} (h : SignedPasses s 0x0102 sigOk t0 q)
    (hm : modeSetTo q s (accepted q t0 s) = answerCmd q 0 { accepted q t0 s with
      sys := { (accepted q t0 s).sys with modeReq := some m } }) :
    ∃ t, exec (.modeSet sigOk t0) s = .next t ∧ TakenFromQueue s t q ∧ CmdAnswered s t q 0 ∧
      t.sys = { s.sys with modeReq := some m } ∧ t.cfg = s.cfg := by
  obtain ⟨t, ht, ha, htaken, hans, hcfg⟩ := signed_answered h (exec_modeSet_to h hm) ⟨rfl, rfl, rfl⟩
  refine ⟨t, ht, htaken, hans, ?_, hcfg⟩
  rw [ha.rest, accepted_rest]

/-- MODE_SET (R276, R373, R393). -/
theorem modeSet_passes (h : SignedPasses s 0x0102 sigOk t0 q) :
    ∃ t, exec (.modeSet sigOk t0) s = .next t ∧ TakenFromQueue s t q ∧ t.sys.mode = s.sys.mode ∧ t.cfg = s.cfg ∧
      (∀ m, setTarget (q.m.payload.getD 0 0) = some m → s.sys.mode ≠ .boot → s.sys.mode ≠ .trial → s.upd.trialFlag = false →
        (setSame s m = true → t.sys = s.sys ∧ CmdAnswered s t q 0) ∧
        (setSame s m = false → setOk s m = true → t.sys = { s.sys with modeReq := some m } ∧ CmdAnswered s t q 0) ∧
        (setSame s m = false → setOk s m = false → t.sys = s.sys ∧ CmdAnswered s t q 2)) ∧
      (setTarget (q.m.payload.getD 0 0) = none ∨ s.sys.mode = .boot ∨ s.sys.mode = .trial ∨ s.upd.trialFlag = true →
        t.sys = s.sys ∧ CmdAnswered s t q 2) := by
  cases ht : setTarget (q.m.payload.getD 0 0) with
  | none =>
    obtain ⟨t, hx, htaken, hans, hsys, hcfg⟩ := modeSet_status (st := 2) h (by simp only [modeSetTo, ht, stMode])
    exact ⟨t, hx, htaken, by rw [hsys], hcfg, fun m hm => absurd hm (by simp), fun _ => ⟨hsys, hans⟩⟩
  | some m =>
    by_cases hbar : s.sys.mode = .boot ∨ s.sys.mode = .trial ∨ s.upd.trialFlag = true
    · obtain ⟨t, hx, htaken, hans, hsys, hcfg⟩ := modeSet_status (st := 2) h (by
        simp only [modeSetTo, ht, if_pos hbar, stMode])
      refine ⟨t, hx, htaken, by rw [hsys], hcfg, fun _ _ hb htr hf => ?_, fun _ => ⟨hsys, hans⟩⟩
      rcases hbar with hbar | hbar | hbar
      · exact absurd hbar hb
      · exact absurd hbar htr
      · exact absurd (hbar.symm.trans hf) (by decide)
    · have hnot : ¬(some m = none ∨ s.sys.mode = .boot ∨ s.sys.mode = .trial ∨ s.upd.trialFlag = true) := fun hor =>
        hor.elim (by simp) hbar
      by_cases hsame : setSame s m = true
      · obtain ⟨t, hx, htaken, hans, hsys, hcfg⟩ := modeSet_status (st := 0) h (by
          simp only [modeSetTo, ht, if_neg hbar, if_pos hsame])
        refine ⟨t, hx, htaken, by rw [hsys], hcfg, fun m1 hm1 _ _ _ => ?_, fun hor => absurd hor hnot⟩
        obtain rfl := Option.some.inj hm1
        exact ⟨fun _ => ⟨hsys, hans⟩, fun hn => absurd (hsame.symm.trans hn) (by decide),
          fun hn => absurd (hsame.symm.trans hn) (by decide)⟩
      by_cases hok : setOk s m = true
      · obtain ⟨t, hx, htaken, hans, hsys, hcfg⟩ := modeSet_requested (m := m) h (by
          simp only [modeSetTo, ht, if_neg hbar, if_neg hsame, if_pos hok])
        refine ⟨t, hx, htaken, by rw [hsys], hcfg, fun m1 hm1 _ _ _ => ?_, fun hor => absurd hor hnot⟩
        obtain rfl := Option.some.inj hm1
        exact ⟨fun hp => absurd hp hsame, fun _ _ => ⟨hsys, hans⟩, fun _ hn => absurd (hok.symm.trans hn) (by decide)⟩
      · obtain ⟨t, hx, htaken, hans, hsys, hcfg⟩ := modeSet_status (st := 2) h (by
          simp only [modeSetTo, ht, if_neg hbar, if_neg hsame, if_neg hok, stMode])
        refine ⟨t, hx, htaken, by rw [hsys], hcfg, fun m1 hm1 _ _ _ => ?_, fun hor => absurd hor hnot⟩
        obtain rfl := Option.some.inj hm1
        exact ⟨fun hp => absurd hp hsame, fun _ hp => absurd hp hok, fun _ _ => ⟨hsys, hans⟩⟩

/-! ### FORCE -/

/-- The word that a FORCE holds on each channel. -/
def forces (s : State) : Vector (Option W32) 64 := s.ch.map fun x => x.out.force

theorem modCh_forces {n : ChanId} {g : Chan → Chan} (h : (g s.ch[n]).out.force = s.ch[n].out.force) :
    forces (modCh s n g) = forces s := map_modCh h

@[simp] theorem modOut_forces {n : ChanId} {g : ChDo → ChDo} (h : ∀ o, (g o).force = o.force) :
    forces (modOut s n g) = forces s := modCh_forces (h _)

@[simp] theorem modFlt_forces {n : ChanId} {g : ChFlt → ChFlt} : forces (modFlt s n g) = forces s := modCh_forces rfl

theorem forces_of_ch (h : t.ch = s.ch) : forces t = forces s := by
  unfold forces
  rw [h]

@[simp] theorem endPulse_force {n : Nat} {o : ChDo} : (endPulse n o).force = o.force := rfl

@[simp] theorem setApplied_forces {n : ChanId} {w : W32} : forces (setApplied n w s) = forces s := by
  unfold setApplied
  dsimp only
  rw [modOut_forces]
  · split
    · exact modFlt_forces
    · rfl
  · intro o
    dsimp only
    split <;> split <;> rfl

@[simp] theorem startBusy_forces {n : ChanId} {k : BitVec 2} : forces (startBusy n k s) = forces s := by
  unfold startBusy
  split
  · rfl
  · exact modFlt_forces

@[simp] theorem endLease_forces {n : ChanId} : forces (endLease n s) = forces s := forces_of_ch endLease_chs

@[simp] theorem conflict_forces {kind : Nat} {g : Option GroupId} : forces (conflict kind g s) = forces s :=
  forces_of_ch conflict_chs

@[simp] theorem chargeLease_forces {n : ChanId} : forces (chargeLease n s) = forces s := by
  unfold chargeLease
  split
  extract_lets x s1
  repeat' split
  · exact conflict_forces
  · exact conflict_forces
  · rfl

@[simp] theorem queueReq_forces {n : ChanId} {r : QReq} : forces (queueReq n r s) = forces s := by
  refine (modOut_forces ?_).trans modFlt_forces
  exact fun _ => rfl

@[simp] theorem latchQual_forces {n : ChanId} : forces (latchQual n s) = forces s := by
  refine modOut_forces ?_
  exact fun _ => rfl

@[simp] theorem putSafe_forces {n : ChanId} {w : W32} : forces (putSafe n w s) = forces s := by
  unfold putSafe
  dsimp only
  repeat' split
  all_goals simp

@[simp] theorem applySafe_forces {n : ChanId} : forces (applySafe n s) = forces s := by
  unfold applySafe
  dsimp only
  repeat' split
  all_goals simp

theorem refreshSafe_forces {l : List ChanId} : forces (refreshSafe l s) = forces s := by
  unfold refreshSafe
  refine each_congr fun n s => ?_
  split
  · exact applySafe_forces
  · rfl

theorem refreshSafe_force {l : List ChanId} {n : ChanId} :
    (refreshSafe l s).ch[n].out.force = s.ch[n].out.force := by
  have h := congrArg (fun v : Vector (Option W32) 64 => v[n]) (refreshSafe_forces (l := l) (s := s))
  simpa [forces] using h

/-- FORCE as its step gives it (R276). -/
def forceTo (q : QCmd) (s w : State) : State :=
  let n := forceCh (q.m.payload.getD 0 0)
  if s.sys.mode ≠ .commission then answerCmd q stMode w
  else if (q.m.payload.getD 1 0).getLsbD 0 then
    answerCmd q 0 (refreshSafe [n] (modOut w n fun o => { o with force := none }))
  else answerCmd q 0 (raise 78 (BitVec.ofNat 32 n.val) (modOut w n fun o =>
    { o with force := some (BitVec.ofNat 32 (ofBe (slice q.m.payload 2 4))) }))

theorem exec_force (h : SignedPasses s 0x0103 sigOk t0 q) :
    exec (.force sigOk t0) s = .next (drainCerts (forceTo q s (accepted q t0 s))) := by
  obtain ⟨v, c, hu⟩ := useKey_taken (q := q) (t0 := t0) (s := s)
  have hx : exec (.force sigOk t0) s = .next (runCmd 0x0103 sigOk t0 (fun q s => forceTo q s (acceptCmd q s)) s) := rfl
  rw [hx, runCmd_passes h]
  unfold accepted
  rw [hu]
  rfl

theorem beside_of_channels {w : State} (h : apartFromChannels w = apartFromChannels u) : BesideBridle u w :=
  ⟨(congrArg State.sec h :), (congrArg State.sent h :), (congrArg State.cfg h :)⟩

theorem modOut_force {n : ChanId} {g : ChDo → ChDo} : (modOut s n g).ch[n].out.force = (g s.ch[n].out).force := by
  simp [modOut, modCh]

/-- FORCE (R276). -/
theorem force_passes {n : ChanId} (hn : forceCh (q.m.payload.getD 0 0) = n) (h : SignedPasses s 0x0103 sigOk t0 q) :
    ∃ t, exec (.force sigOk t0) s = .next t ∧ TakenFromQueue s t q ∧ t.cfg = s.cfg ∧
      (s.sys.mode ≠ .commission → t.ch = s.ch ∧ CmdAnswered s t q 2) ∧
      (s.sys.mode = .commission → (q.m.payload.getD 1 0).getLsbD 0 = true → t.ch[n].out.force = none ∧ CmdAnswered s t q 0) ∧
      (s.sys.mode = .commission → (q.m.payload.getD 1 0).getLsbD 0 = false → CmdAnswered s t q 0 ∧
        Raised 78 (BitVec.ofNat 32 n.val) s t ∧ t.ch = s.ch.set n { s.ch[n] with
          out := { s.ch[n].out with force := some (BitVec.ofNat 32 (ofBe (slice q.m.payload 2 4))) } }) := by
  have he := exec_force h
  unfold forceTo at he
  rw [hn] at he
  dsimp only at he
  by_cases hm : s.sys.mode = .commission
  swap
  · rw [if_pos hm] at he
    obtain ⟨t, hx, htaken, hans, hrest⟩ := signed_status h he
    exact ⟨t, hx, htaken, by rw [hrest], fun _ => ⟨by rw [hrest], hans⟩, fun hc => absurd hc hm, fun hc => absurd hc hm⟩
  rw [if_neg (not_not_intro hm)] at he
  cases hr : (q.m.payload.getD 1 0).getLsbD 0 with
  | true =>
    rw [if_pos hr] at he
    obtain ⟨t, hx, ha, htaken, hans, hcfg⟩ := signed_answered h he (beside_of_channels (by
      rw [refreshSafe_apartCh, modOut_apartCh]))
    refine ⟨t, hx, htaken, hcfg, fun hc => absurd hm hc, fun _ _ => ⟨?_, hans⟩, fun _ hf => absurd hf (by decide)⟩
    rw [ha.rest]
    exact refreshSafe_force.trans modOut_force
  | false =>
    rw [if_neg (by rw [hr]; exact Bool.false_ne_true)] at he
    obtain ⟨t, hx, ha, htaken, hans, hcfg⟩ := signed_answered h he (beside_of_channels (by
      rw [raise_apartCh, modOut_apartCh]))
    refine ⟨t, hx, htaken, hcfg, fun hc => absurd hm hc, fun _ hf => absurd hf (by decide), fun _ _ => ⟨hans, ?_, ?_⟩⟩
    · rw [ha.rest]
      exact raised_accepted (q := q) (t0 := t0) (raise_raised 78 _ _ (by decide))
    · rw [ha.rest, raise_ch, accepted_rest]
      rfl

/-! ### FREEZE, HP_TRUST and ACTIVATE -/

/-- FREEZE (R349). -/
theorem freeze_passes (h : SignedPasses s 0x0104 sigOk t0 q) :
    ∃ t, exec (.freeze sigOk t0) s = .next t ∧ TakenFromQueue s t q ∧ t.frz.req = true ∧ t.frz.src.getLsbD 2 = true ∧
      t.sent = s.sent ∧ t.sys = s.sys ∧ BridleOnly s { t with frz := s.frz } := by
  have he : exec (.freeze sigOk t0) s = .next (drainCerts (requestFreeze 2 (accepted q t0 s))) := by
    have hx : exec (.freeze sigOk t0) s = .next (runCmd 0x0104 sigOk t0 (fun q s => requestFreeze 2 (acceptCmd q s)) s) := rfl
    rw [hx, runCmd_passes h]
    rfl
  obtain ⟨hx, htaken, -⟩ := signed_unanswered h he ⟨rfl, rfl, rfl⟩
  refine ⟨_, hx, htaken, rfl, setBit_self _ _ (by decide), ?_, ?_, ?_⟩
  all_goals rw [accepted_rest]; rfl

theorem exec_hpTrust (h : SignedPasses s 0x0108 sigOk t0 q) : ∃ t, CmdAnswer q 0 (accepted q t0 s) t ∧
    exec (.hpTrust sigOk t0) s = .next { t with sec := { t.sec with hpTrust := decide (q.m.payload.getD 0 0 = 1) } } := by
  have hx : exec (.hpTrust sigOk t0) s = .next (runCmd 0x0108 sigOk t0 (fun q s =>
    let s1 := answerCmd q 0 (acceptCmd q s)
    { s1 with sec := { s1.sec with hpTrust := decide (q.m.payload.getD 0 0 = 1) } }) s) := rfl
  have ha : CmdAnswer q 0 (accepted q t0 s) (answerCmd q 0 (accepted q t0 s)) :=
    cmdAnswer_answerCmd (cmdIn_accepted.sendsOn h.2.2.2.2.2.2)
  refine ⟨_, ha, ?_⟩
  rw [hx, runCmd_passes h]
  refine congrArg Host.Outcome.next (drainCerts_none ?_)
  intro m b ok
  exact fun hq => h.2.2.2.2.2.1 m b ok (by rw [← cmdIn_accepted.sigQ (q := q) (t0 := t0), ← ha.sigQ]; exact hq)

/-- HP_TRUST (R280). -/
theorem hpTrust_passes (h : SignedPasses s 0x0108 sigOk t0 q) :
    ∃ t, exec (.hpTrust sigOk t0) s = .next t ∧ TakenFromQueue s t q ∧
      t.sec.hpTrust = decide (q.m.payload.getD 0 0 = 1) ∧ CmdAnswered s t q 0 ∧ BridleOnly s t := by
  obtain ⟨t, ha, hx⟩ := exec_hpTrust h
  obtain ⟨htaken, hans, -⟩ := cmdIn_accepted.answered .refl ha
  refine ⟨_, hx, htaken, rfl, hans, ?_⟩
  have hrest := ha.rest
  rw [accepted_rest] at hrest
  rw [hrest]
  rfl

end
end Sys2Proof.Machine
end

section
/-! A signed command that is refused, and ACTIVATE (R275, R281, R367). -/

open Sys2Proof Sys2Proof.Machine
namespace Sys2Proof.Machine

section
variable {s t u : State} {q : QCmd} {code : HWord} {sigOk : Bool} {t0 : Nat} {st cause : Byte} {i : Fin 16} {kid k0 : BitVec 64}
  {f : QCmd → State → State}

/-! ### A command that is refused (R275, R281) -/

theorem refuseCmd_only (h : SendsOn u q.sid) : RefusalOnly u (refuseCmd q cause u) (ifCode q.iface) cause := by
  unfold refuseCmd
  split
  · exact refuseMsg_inSession (m := cmdCtx u q) h
  · exact refuseMsg_plain (m := cmdCtx u q)

theorem sentOne_cmdSeq {j : Fin 16} : (sentOne i s).sec.sess[j].cmdSeq = s.sec.sess[j].cmdSeq := by
  by_cases hj : j = i
  · subst hj
    unfold sentOne
    rw [modSess_self]
  · exact congrArg Sess.cmdSeq (vec_set_other _ _ hj)

theorem refuseMsg_cmdSeq {m : MsgCtx} {j : Fin 16} {sid : Option (Fin 16)} (h : ∀ k, sid = some k → SendsOn s k) :
    (refuseMsg m sid cause s).sec.sess[j].cmdSeq = s.sec.sess[j].cmdSeq := by
  have hr : (refuse (ifCode m.iface) cause s).sec.sess = s.sec.sess := refuse_sess
  unfold refuseMsg
  dsimp only
  generalize refuse (ifCode m.iface) cause s = s1 at hr ⊢
  split
  · exact congrArg (fun v : Vector Sess 16 => v[j].cmdSeq) hr
  cases sid with
  | some k =>
    have hk : SendsOn s1 k := by
      unfold SendsOn
      rw [hr]
      exact h k rfl
    dsimp only
    rw [bumpSend_of_sendsOn (by exact hk), sentOne_cmdSeq]
    exact congrArg (fun v : Vector Sess 16 => v[j].cmdSeq) hr
  | none =>
    dsimp only
    split
    · exact congrArg (fun v : Vector Sess 16 => v[j].cmdSeq) hr
    · exact congrArg (fun v : Vector Sess 16 => v[j].cmdSeq) hr

theorem refuseCmd_cmdSeq {j : Fin 16} (h : SendsOn u q.sid) :
    (refuseCmd q cause u).sec.sess[j].cmdSeq = u.sec.sess[j].cmdSeq := by
  unfold refuseCmd
  refine refuseMsg_cmdSeq fun k hk => ?_
  split at hk
  · obtain rfl := Option.some.inj hk
    exact h
  · exact absurd hk (by simp)

/-- What a refusal leaves of the Bridle and the machine. -/
theorem RefusalOnly.keeps {k : Fin 4} (h : RefusalOnly u t k cause) : t.sec.sigQ = u.sec.sigQ ∧ t.sec.cache = u.sec.cache ∧
    t.sec.epoch = u.sec.epoch ∧ t.sec.hpTrust = u.sec.hpTrust ∧ t.upd = u.upd ∧ BridleOnly u t := by
  obtain ⟨-, hb⟩ := h
  have hsec := (congrArg State.sec hb :)
  refine ⟨(congrArg Sec.sigQ hsec :), (congrArg Sec.cache hsec :), (congrArg Sec.epoch hsec :),
    (congrArg Sec.hpTrust hsec :), (congrArg State.upd hb :), ?_⟩
  exact (congrArg (fun x : State => { x with sec := t.sec }) hb :)

/-- A command at the head of the queue is refused, whether its key has been used or not. -/
theorem refuseCmd_taken {v : List Nat} {c : List Key} (hn : NoCertNext s) (hs : SendsOn s q.sid) (hu : u = { s with
      now := max s.now t0, sec := { s.sec with verifT := v, sigQ := s.sec.sigQ.drop 1, cache := c } }) :
    RefusalOnly u (refuseCmd q cause u) (ifCode q.iface) cause ∧ drainCerts (refuseCmd q cause u) = refuseCmd q cause u := by
  have hr : RefusalOnly u (refuseCmd q cause u) (ifCode q.iface) cause := refuseCmd_only (by rw [hu]; exact hs)
  refine ⟨hr, drainCerts_none ?_⟩
  rw [hr.keeps.1, hu]
  exact hn

/-- A command that fails a step of R275 is refused with that step's cause, and does nothing else. -/
theorem signed_refused {j : Instr} {c : Byte} (hx : exec j s = .next (runCmd code sigOk t0 f s)) (hon : coreOn s = true)
    (he : EngineFree s (max s.now t0)) (hq : s.sec.sigQ.head? = some (.cmd q)) (hcode : q.m.code = code)
    (hc : cmdCause s q sigOk = some c) (hn : NoCertNext s) (hs : SendsOn s q.sid) :
    ∃ t, exec j s = .next t ∧ Refused s t (ifCode q.iface) c ∧ t.sec.sigQ = s.sec.sigQ.drop 1 ∧ BridleOnly s t ∧
      t.sec.cache = s.sec.cache ∧ t.sec.epoch = s.sec.epoch ∧ t.sec.hpTrust = s.sec.hpTrust := by
  obtain ⟨hr, hd⟩ := refuseCmd_taken (u := cmdTaken t0 s) (cause := c) hn hs rfl
  obtain ⟨hsig, hcache, hep, htr, -, hb⟩ := hr.keeps
  refine ⟨_, by rw [hx, runCmd_fails hon he hq hcode hc, hd], hr.1.of_cnt rfl, hsig, ?_, hcache, hep, htr⟩
  exact hb

/-! ### Keys -/

/-- The use of a key changes no key that is found (R262). -/
theorem findKey_useKey : findKey (useKey k0 s) kid = findKey s kid := by
  unfold useKey
  split
  next k hk =>
    have hkid : k.kid = k0 := by simpa using List.find?_some hk
    unfold findKey at hk ⊢
    dsimp only
    by_cases h : kid = k0
    · subst h
      rw [List.find?_cons_of_pos (by simpa using hkid), hk]
    · rw [List.find?_cons_of_neg (by simpa [hkid] using fun hh => h hh.symm), List.find?_filter]
      congr 1
      funext x
      by_cases hx : x.kid = kid <;> simp [hx, h]
  next => rfl

theorem findKey_accepted : findKey (accepted q t0 s) kid = findKey s kid :=
  findKey_useKey (s := cmdTaken t0 s)

/-! ### ACTIVATE -/

theorem mfSigner_useKey : mfSigner (useKey k0 (cmdTaken t0 s)) kid = mfSigner s kid := by
  have hf : findKey (useKey k0 (cmdTaken t0 s)) kid = findKey s kid := findKey_useKey (s := cmdTaken t0 s)
  obtain ⟨c, hu, -, -⟩ := useKey_eq (kid := k0) (s := cmdTaken t0 s)
  unfold mfSigner keyCause permOf
  rw [hf, hu]
  rfl

theorem activateStatus_useKey : activateStatus (useKey k0 (cmdTaken t0 s)) q = activateStatus s q := by
  have hm : ∀ x, mfSigner (useKey k0 (cmdTaken t0 s)) x = mfSigner s x := fun _ => mfSigner_useKey
  obtain ⟨c, hu, -, -⟩ := useKey_eq (kid := k0) (s := cmdTaken t0 s)
  unfold activateStatus
  simp only [hm]
  rw [hu]
  rfl

/-- The lock of an update stands against a session that asks for the activation (R367). -/
def lockBars (s : State) (q : QCmd) : Bool := s.upd.lock.isSome && !(s.upd.lockOpen && s.upd.lock = some q.sid)

/-- ACTIVATE as its step gives it (R367), with the state in which it is refused and the one in which it is accepted. -/
def activateTo (q : QCmd) (s u w : State) : State :=
  if lockBars s q then refuseCmd q cUpdBusy u
  else if activateStatus s q ≠ 0 then answerCmd q (activateStatus s q) w
  else answerCmd q 0 { w with upd := { w.upd with
    st := .activating, lock := none, acceptT := w.now, actMode := w.sys.mode } }

theorem exec_activate (h : SignedPasses s 0x0105 sigOk t0 q) : exec (.activate sigOk t0) s =
    .next (drainCerts (activateTo q s (useKey q.m.signer (cmdTaken t0 s)) (accepted q t0 s))) := by
  have hx : exec (.activate sigOk t0) s = .next (runCmd 0x0105 sigOk t0 (fun q s => activateTo q s s (acceptCmd q s)) s) := rfl
  have hl : lockBars (useKey q.m.signer (cmdTaken t0 s)) q = lockBars s q := by
    obtain ⟨v, c, hu⟩ := useKey_taken (q := q) (t0 := t0) (s := s)
    rw [hu]
    rfl
  rw [hx, runCmd_passes h]
  unfold activateTo
  rw [activateStatus_useKey, hl]
  rfl

theorem activate_locked (h : SignedPasses s 0x0105 sigOk t0 q) (hl : lockBars s q = true) :
    ∃ t, exec (.activate sigOk t0) s = .next t ∧ Refused s t (ifCode q.iface) cUpdBusy ∧ t.upd = s.upd := by
  have he := exec_activate h
  unfold activateTo at he
  rw [if_pos hl] at he
  obtain ⟨-, -, -, -, -, hn, hs⟩ := h
  obtain ⟨v, c, hu⟩ := useKey_taken (q := q) (t0 := t0) (s := s)
  obtain ⟨hr, hd⟩ := refuseCmd_taken (cause := cUpdBusy) hn hs hu
  refine ⟨_, by rw [he, hd], ?_, ?_⟩
  · exact hr.1.of_cnt (by rw [hu])
  · obtain ⟨-, -, -, -, hupd, -⟩ := hr.keeps
    rw [hupd, hu]

theorem activate_passes (h : SignedPasses s 0x0105 sigOk t0 q) (hl : lockBars s q = false) :
    ∃ t, exec (.activate sigOk t0) s = .next t ∧ TakenFromQueue s t q ∧ CmdAnswered s t q (activateStatus s q) ∧
      t.cfg = s.cfg ∧ (activateStatus s q ≠ 0 → t.upd = s.upd) ∧ (activateStatus s q = 0 → t.upd = { s.upd with
        st := .activating, lock := none, acceptT := max s.now t0, actMode := s.sys.mode }) := by
  have he := exec_activate h
  unfold activateTo at he
  rw [if_neg (by rw [hl]; exact Bool.false_ne_true)] at he
  by_cases hst : activateStatus s q = 0
  · rw [if_neg (not_not_intro hst)] at he
    obtain ⟨t, hx, ha, htaken, hans, hcfg⟩ := signed_answered h he ⟨rfl, rfl, rfl⟩
    refine ⟨t, hx, htaken, by rwa [hst], hcfg, fun hne => absurd hst hne, fun _ => ?_⟩
    rw [ha.rest, accepted_rest]
  · rw [if_pos hst] at he
    obtain ⟨t, hx, htaken, hans, hrest⟩ := signed_status h he
    exact ⟨t, hx, htaken, hans, by rw [hrest], fun _ => by rw [hrest], fun hz => absurd hz hst⟩

end
end Sys2Proof.Machine
end

section
/-! KEY_DROP and EPOCH_RAISE, and the signed commands together (R264, R276). -/

open Sys2Proof Sys2Proof.Machine
namespace Sys2Proof.Machine

section
variable {s t u w : State} {q : QCmd} {code : HWord} {sigOk : Bool} {t0 : Nat} {st cause : Byte} {i : Fin 16} {kid k0 : BitVec 64}
  {f : QCmd → State → State}

/-! ### The sessions of a key close (R264, R276) -/

theorem closeSess_sess_at {j : Fin 16} : (closeSess i s).sec.sess[j] = if j = i then Sess.reset else s.sec.sess[j] := by
  have h := congrArg (fun v : Vector Sess 16 => v[j]) (closeSess_sess (i := i) (s := s))
  refine Eq.trans h ?_
  split
  · next hj =>
    subst hj
    simp
  · next hj => exact vec_set_other _ _ hj

theorem each_closeSess_sess {l : List (Fin 16)} :
    (each l closeSess s).sec.sess[i] = if i ∈ l then Sess.reset else s.sec.sess[i] := by
  induction l generalizing s with
  | nil => rfl
  | cons x l ih =>
    refine (ih (s := closeSess x s)).trans ?_
    rw [closeSess_sess_at]
    by_cases hx : i = x
    · simp [hx]
    · simp [hx]

theorem mem_openSessions : i ∈ openSessions s kid ↔ s.sec.sess[i].st = .live ∧ s.sec.sess[i].kid = kid := by
  simp [openSessions]

/-- What the end of sessions leaves: all but the sessions and what belongs to them. -/
theorem closeSess_keeps : (closeSess i s).sec.cache = s.sec.cache ∧ (closeSess i s).sec.epoch = s.sec.epoch := by
  rw [closeSess_eq]
  exact ⟨rfl, rfl⟩

/-- Closing the sessions of a key. -/
def closeKey (kid : BitVec 64) (s : State) : State := each (openSessions s kid) closeSess s

/-- What the end of sessions leaves of the machine and the Bridle. -/
def closedRest (s : State) : List Sent × Cfg × Evt × Frm × List Key × W32 :=
  (s.sent, s.cfg, s.evt, s.frm, s.sec.cache, s.sec.epoch)

theorem closeSess_rest : closedRest (closeSess i s) = closedRest s := by
  obtain ⟨hc, he⟩ := closeSess_keeps (i := i) (s := s)
  have ha : apartFromSessions (closeSess i s) = apartFromSessions s := closeSess_apart
  have hf : (closeSess i s).frm = s.frm := (congrArg State.frm ha :)
  unfold closedRest
  rw [hc, he, hf, closeSess_sent, closeSess_cfg, closeSess_evt]

theorem closeKey_rest : closedRest (closeKey kid s) = closedRest s := each_congr fun _ _ => closeSess_rest

theorem closeSess_noCerts (h : NoCerts s) : NoCerts (closeSess i s) := fun x hx => h x (mem_closeSess_sigQ.1 hx).1

theorem each_noCerts {α : Type} {g : α → State → State} (hg : ∀ x s, NoCerts s → NoCerts (g x s)) {l : List α} (h : NoCerts s) :
    NoCerts (each l g s) := by
  induction l generalizing s with
  | nil => exact h
  | cons x l ih => exact ih (hg x s h)

theorem closeKey_noCerts (h : NoCerts s) : NoCerts (closeKey kid s) := each_noCerts (fun _ _ h => closeSess_noCerts h) h

theorem closeKey_sess : (closeKey kid s).sec.sess[i] =
    if s.sec.sess[i].st = .live ∧ s.sec.sess[i].kid = kid then Sess.reset else s.sec.sess[i] := by
  unfold closeKey
  rw [each_closeSess_sess]
  simp only [mem_openSessions]

theorem drainCerts_of_noCerts (h : NoCerts s) : drainCerts s = s := by
  refine drainCerts_none fun m b ok hq => ?_
  obtain ⟨c, hc⟩ := h _ (List.mem_of_head? hq)
  exact absurd hc (by simp)

theorem noCerts_of_sigQ (h : NoCerts s) (hq : ∀ x ∈ t.sec.sigQ, x ∈ s.sec.sigQ) : NoCerts t := fun x hx => h x (hq x hx)

/-- A session as an accepted command that is answered leaves it. -/
theorem answered_sess (hin : CmdIn q t0 s u) (hw : w.sec.sess = u.sec.sess) (ha : CmdAnswer q st w t) :
    t.sec.sess[i].st = s.sec.sess[i].st ∧ t.sec.sess[i].kid = s.sec.sess[i].kid ∧
      (i ≠ q.sid → t.sec.sess[i] = s.sec.sess[i]) := by
  obtain ⟨l, b, n, rfl, -⟩ := ha
  obtain ⟨v, c, rfl, -, -⟩ := hin
  dsimp only
  rw [hw]
  by_cases hi : i = q.sid
  · subst hi
    simp
  · have h1 := vec_set_other s.sec.sess { s.sec.sess[q.sid] with cmdSeq := q.m.cmdSeq } hi
    have h2 := vec_set_other (s.sec.sess.set q.sid { s.sec.sess[q.sid] with cmdSeq := q.m.cmdSeq })
      { (s.sec.sess.set q.sid { s.sec.sess[q.sid] with cmdSeq := q.m.cmdSeq })[q.sid] with sendSeq := n } hi
    have h3 := h2.trans h1
    exact ⟨congrArg Sess.st h3, congrArg Sess.kid h3, fun _ => h3⟩

/-! ### KEY_DROP (R276) -/

/-- The key that is dropped leaves the cache, and its sessions close unless it is a root. -/
def keyDropped (kid : BitVec 64) (s : State) : State :=
  let s1 := raise 76 0 { s with sec := { s.sec with cache := s.sec.cache.filter fun k => k.kid ≠ kid } }
  if isRoot s kid then s1 else closeKey kid s1

theorem exec_keyDrop (h : SignedPasses s 0x0106 sigOk t0 q) (hkid : BitVec.ofNat 64 (ofBe q.m.payload) = kid) :
    ∃ t, CmdAnswer q 0 (accepted q t0 s) t ∧
      exec (.keyDrop sigOk t0) s = .next (drainCerts (match findKey t kid with | none => t | some _ => keyDropped kid t)) := by
  have hx : exec (.keyDrop sigOk t0) s = .next (runCmd 0x0106 sigOk t0 (fun q s =>
    let kid : BitVec 64 := BitVec.ofNat 64 (ofBe q.m.payload)
    let s1 := answerCmd q 0 (acceptCmd q s)
    match findKey s1 kid with
    | none => s1
    | some _ =>
      let s2 := raise 76 0 { s1 with sec := { s1.sec with cache := s1.sec.cache.filter fun k => k.kid ≠ kid } }
      if isRoot s2 kid then s2 else each (openSessions s2 kid) closeSess s2) s) := rfl
  have ha : CmdAnswer q 0 (accepted q t0 s) (answerCmd q 0 (accepted q t0 s)) :=
    cmdAnswer_answerCmd (cmdIn_accepted.sendsOn h.2.2.2.2.2.2)
  refine ⟨_, ha, ?_⟩
  rw [hx, runCmd_passes h]
  unfold accepted
  dsimp only
  rw [hkid]
  generalize answerCmd q 0 (acceptCmd q (useKey q.m.signer (cmdTaken t0 s))) = s1
  cases findKey s1 kid with
  | none => rfl
  | some k =>
    have hroot : isRoot (raise 76 0 { s1 with sec := { s1.sec with cache := s1.sec.cache.filter fun k => k.kid ≠ kid } }) kid =
        isRoot s1 kid := by
      unfold isRoot
      rw [raise_sec]
    dsimp only
    rw [hroot]
    rfl

/-- What a KEY_DROP of a key of the cache leaves (R276). -/
theorem keyDropped_spec : closedRest (keyDropped kid s) = (s.sent, s.cfg, (raise 76 0 { s with sec := { s.sec with
      cache := s.sec.cache.filter fun k => k.kid ≠ kid } }).evt, s.frm, s.sec.cache.filter fun k => k.kid ≠ kid, s.sec.epoch) ∧
    (isRoot s kid = false → s.sec.sess[i].st = .live → s.sec.sess[i].kid = kid → (keyDropped kid s).sec.sess[i] = Sess.reset) ∧
    (s.sec.sess[i].st ≠ .live ∨ s.sec.sess[i].kid ≠ kid → (keyDropped kid s).sec.sess[i] = s.sec.sess[i]) ∧
    (NoCerts s → NoCerts (keyDropped kid s)) := by
  have hsec := raise_sec (e := 76) (p := 0) (s := { s with sec := { s.sec with
    cache := s.sec.cache.filter fun k => k.kid ≠ kid } })
  have hrest : closedRest (raise 76 0 { s with sec := { s.sec with cache := s.sec.cache.filter fun k => k.kid ≠ kid } }) =
      (s.sent, s.cfg, (raise 76 0 { s with sec := { s.sec with cache := s.sec.cache.filter fun k => k.kid ≠ kid } }).evt,
        s.frm, s.sec.cache.filter fun k => k.kid ≠ kid, s.sec.epoch) := by
    unfold closedRest
    rw [raise_sent, raise_cfg, raise_frm, hsec]
  unfold keyDropped
  dsimp only
  generalize raise 76 0 { s with sec := { s.sec with cache := s.sec.cache.filter fun k => k.kid ≠ kid } } = s1 at hsec hrest ⊢
  have hsess : s1.sec.sess = s.sec.sess := by rw [hsec]
  have hno : NoCerts s → NoCerts s1 := fun h => noCerts_of_sigQ h (by rw [hsec]; exact fun _ hx => hx)
  cases hr : isRoot s kid with
  | true =>
    rw [if_pos rfl]
    exact ⟨hrest, fun hf => absurd hf (by decide), fun _ => by rw [hsess], hno⟩
  | false =>
    rw [if_neg Bool.false_ne_true]
    refine ⟨closeKey_rest.trans hrest, fun _ hl hk => ?_, fun hor => ?_, fun h => closeKey_noCerts (hno h)⟩
    · rw [closeKey_sess, hsess, if_pos ⟨hl, hk⟩]
    · rw [closeKey_sess, hsess, if_neg (fun ⟨hl, hk⟩ => hor.elim (fun h => h hl) (fun h => h hk))]

theorem Raised.of_evt {e : Fin 128} {p : W32} (h : Raised e p u w) (hu : u.evt = s.evt) (hf : u.frm = s.frm)
    (ht : t.evt = w.evt) : Raised e p s t := by
  unfold Raised at h ⊢
  rw [ht, ← hu, ← hf]
  exact h

theorem CmdAnswered.of_sent (h : CmdAnswered s t q st) (hs : w.sent = t.sent) : CmdAnswered s w q st := by
  intro hl
  rw [hs]
  exact h hl

/-- An accepted command that is answered: its keys are those of the cache, in which only its own may stand twice. -/
theorem CmdIn.cache (h : CmdIn q t0 s u) : (∀ k ∈ u.sec.cache, k ∈ s.sec.cache) ∧
    (∀ k ∈ s.sec.cache, k.kid ≠ q.m.signer → k ∈ u.sec.cache) := by
  obtain ⟨v, c, rfl, hsub, hrest⟩ := h
  exact ⟨hsub, hrest⟩

theorem CmdAnswer.cache (h : CmdAnswer q st u t) : t.sec.cache = u.sec.cache := by
  obtain ⟨l, b, n, rfl, -⟩ := h
  rfl

theorem isRoot_accepted : isRoot (accepted q t0 s) kid = isRoot s kid := by
  obtain ⟨v, c, hu, -, -⟩ := cmdIn_accepted (q := q) (t0 := t0) (s := s)
  rw [hu]
  rfl

theorem CmdAnswer.isRoot (h : CmdAnswer q st u t) : Machine.isRoot t kid = Machine.isRoot u kid := by
  obtain ⟨l, b, n, rfl, -⟩ := h
  rfl

theorem findKey_of_cache (h : t.sec.cache = (accepted q t0 s).sec.cache) : findKey t kid = findKey s kid := by
  rw [← findKey_accepted (q := q) (t0 := t0) (s := s)]
  unfold findKey
  rw [h]

/-- KEY_DROP of a key that is not in the cache (R276). -/
theorem keyDrop_absent (h : SignedPasses s 0x0106 sigOk t0 q) (hkid : BitVec.ofNat 64 (ofBe q.m.payload) = kid)
    (hf : findKey s kid = none) : ∃ t, exec (.keyDrop sigOk t0) s = .next t ∧ t.cfg = s.cfg ∧ CmdAnswered s t q 0 ∧
      (∀ k ∈ t.sec.cache, k.kid ≠ kid ∧ k ∈ s.sec.cache) ∧
      (∀ k ∈ s.sec.cache, k.kid ≠ kid → k.kid ≠ q.m.signer → k ∈ t.sec.cache) ∧ TakenFromQueue s t q ∧ t.evt = s.evt := by
  obtain ⟨t, ha, hx⟩ := exec_keyDrop h hkid
  obtain ⟨htaken, hans, hcfg⟩ := cmdIn_accepted.answered .refl ha
  obtain ⟨hsub, hrest⟩ := cmdIn_accepted (q := q) (t0 := t0) (s := s).cache
  have hcache := ha.cache
  have hft : findKey t kid = none := (findKey_of_cache hcache).trans hf
  rw [hft, drainCerts_none (by rw [htaken.1]; exact h.2.2.2.2.2.1)] at hx
  refine ⟨t, hx, hcfg, hans, fun k hk => ?_, fun k hk _ hs => ?_, htaken, ?_⟩
  · have hks := hsub k (by rwa [← hcache])
    exact ⟨findKey_none_iff.1 hf k hks, hks⟩
  · rw [hcache]
    exact hrest k hk hs
  · rw [ha.rest, accepted_rest]

/-- KEY_DROP of a key of the cache: its sessions close, unless it is a root (R276). -/
theorem keyDrop_present (h : SignedPasses s 0x0106 sigOk t0 q) (hno : NoCerts s)
    (hkid : BitVec.ofNat 64 (ofBe q.m.payload) = kid)
    (hf : findKey s kid ≠ none) : ∃ t, exec (.keyDrop sigOk t0) s = .next t ∧ t.cfg = s.cfg ∧ CmdAnswered s t q 0 ∧
      (∀ k ∈ t.sec.cache, k.kid ≠ kid ∧ k ∈ s.sec.cache) ∧
      (∀ k ∈ s.sec.cache, k.kid ≠ kid → k.kid ≠ q.m.signer → k ∈ t.sec.cache) ∧ Raised 76 0 s t ∧
      (isRoot s kid = false → ∀ i : Fin 16, isLive s i = true → s.sec.sess[i].kid = kid → t.sec.sess[i] = Sess.reset) ∧
      (∀ i : Fin 16, i ≠ q.sid → (s.sec.sess[i].st ≠ .live ∨ s.sec.sess[i].kid ≠ kid) → t.sec.sess[i] = s.sec.sess[i]) := by
  obtain ⟨t, ha, hx⟩ := exec_keyDrop h hkid
  obtain ⟨htaken, hans, hcfg⟩ := cmdIn_accepted.answered .refl ha
  obtain ⟨hsub, hrest⟩ := cmdIn_accepted (q := q) (t0 := t0) (s := s).cache
  have hcache := ha.cache
  have hst := fun i => answered_sess (i := i) cmdIn_accepted rfl ha
  have hroot : isRoot t kid = isRoot s kid := ha.isRoot.trans isRoot_accepted
  have hnot : NoCerts t := noCerts_of_sigQ hno (by rw [htaken.1]; exact fun _ hx => List.mem_of_mem_drop hx)
  have hft : findKey t kid = findKey s kid := findKey_of_cache hcache
  obtain ⟨k, hk⟩ := Option.ne_none_iff_exists'.1 hf
  have hspec := fun i => keyDropped_spec (s := t) (kid := kid) (i := i)
  rw [hft, hk] at hx
  dsimp only at hx
  rw [drainCerts_of_noCerts ((hspec 0).2.2.2 hnot)] at hx
  have hparts := (hspec 0).1
  unfold closedRest at hparts
  obtain ⟨hsent, hcfg1, hevt, -, hc, -⟩ := by simpa only [Prod.mk.injEq] using hparts
  refine ⟨_, hx, hcfg1.trans hcfg, hans.of_sent hsent, fun k hk => ?_, fun k hk hne hs => ?_, ?_, fun hr i hl hki => ?_,
    fun i hi hor => ?_⟩
  · rw [hc] at hk
    obtain ⟨hkt, hne⟩ := List.mem_filter.1 hk
    exact ⟨by simpa using hne, hsub k (by rwa [← hcache])⟩
  · rw [hc, hcache]
    exact List.mem_filter.2 ⟨hrest k hk hs, by simpa using hne⟩
  · refine (raise_raised 76 0 { t with sec := { t.sec with cache := t.sec.cache.filter fun k => k.kid ≠ kid } }
      (by decide)).of_evt ?_ ?_ hevt
    · exact (congrArg State.evt (ha.rest.trans (by rw [accepted_rest])) :)
    · exact (congrArg State.frm (ha.rest.trans (by rw [accepted_rest])) :)
  · obtain ⟨hsti, hkidi, -⟩ := hst i
    exact (hspec i).2.1 (hroot.trans hr) (hsti.trans (live_st hl)) (hkidi.trans hki)
  · obtain ⟨hsti, hkidi, heq⟩ := hst i
    rw [(hspec i).2.2.1 (by rwa [hsti, hkidi]), heq hi]

/-! ### EPOCH_RAISE (R264) -/

/-- An event raised once keeps its record and stays pending when another is raised. -/
theorem Raised.raiseOne_other {e e1 : Fin 128} {p p1 : W32} (h : Raised e p s u) (hne : e ≠ e1) :
    Raised e p s (raiseOne e1 p1 u).1 := by
  obtain ⟨hrecs, hpend⟩ := raiseOne_recs e1 p1 u
  obtain ⟨hcnt, hp, hfrm, hb⟩ := h
  unfold Raised
  rw [hrecs, hpend, vec_set_other _ _ hne]
  exact ⟨hcnt, hp, hfrm, setBit_keeps _ _ _ hb⟩

theorem Raised.raise_other {e e1 : Fin 128} {p p1 : W32} (h : Raised e p s u) (hne : e ≠ e1) (hw : e ≠ evLogWrap) :
    Raised e p s (raise e1 p1 u) := by
  unfold raise
  dsimp only
  split
  · exact (h.raiseOne_other hne).raiseOne_other hw
  · exact h.raiseOne_other hne

/-- A step of a list that leads from `P` to `Q` does so in the list's course, where `P` holds before it and `Q` after it. -/
theorem each_reaches {α : Type} {x : α} {g : α → State → State} {P Q : State → Prop} (hP : ∀ y s, P s → P (g y s))
    (hx : ∀ s, P s → Q (g x s)) (hQ : ∀ y s, Q s → Q (g y s)) {l : List α} (hm : x ∈ l) (h : P s) : Q (each l g s) := by
  have hkeeps : ∀ l : List α, ∀ s, Q s → Q (each l g s) := fun l => by
    induction l with
    | nil => exact fun _ h => h
    | cons y l ih => exact fun s h => ih _ (hQ y s h)
  induction l generalizing s with
  | nil => exact absurd hm (by simp)
  | cons y l ih =>
    rcases List.mem_cons.1 hm with rfl | hm
    · exact hkeeps l _ (hx s h)
    · exact ih hm (hP y s h)

/-- The keys below an epoch, and the mark of their commands. -/
def keysBelow (v : W32) (s : State) : List (BitVec 64) := (s.sec.cache.filter fun k => k.epoch < v).map (·.kid)

def markGone (gone : List (BitVec 64)) (x : QItem) : QItem :=
  match x with
  | .cmd c => .cmd (if gone.contains c.m.signer then { c with gone := true } else c)
  | x => x

/-- The epoch is stored, and the keys below it leave the cache (R264). -/
def epochStored (v : W32) (s : State) : State :=
  { s with sec := { s.sec with
    epoch := v
    cache := s.sec.cache.filter fun k => ¬ (k.epoch < v)
    sigQ := s.sec.sigQ.map (markGone (keysBelow v s)) } }

/-- The sessions of the keys that have gone close (R264). -/
def epochClosed (gone : List (BitVec 64)) (s : State) : State :=
  let s1 := if gone.isEmpty then s else raise 76 0 s
  each (gone.filter fun k => !isRoot s1 k) closeKey s1

/-- EPOCH_RAISE as its step gives it, with the state in which it is refused and the one in which it is accepted. -/
def epochTo (q : QCmd) (v : W32) (s u a : State) : State :=
  if v ≤ s.sec.epoch then refuseCmd q cEpoch u
  else epochClosed (keysBelow v a) (answerCmd q 0 (raise 75 v (epochStored v a)))

theorem exec_epochRaise (h : SignedPasses s 0x0107 sigOk t0 q) {v : W32} (hv : BitVec.ofNat 32 (ofBe q.m.payload) = v) :
    exec (.epochRaise sigOk t0) s =
      .next (drainCerts (epochTo q v s (useKey q.m.signer (cmdTaken t0 s)) (accepted q t0 s))) := by
  have hx : exec (.epochRaise sigOk t0) s = .next (runCmd 0x0107 sigOk t0 (fun q s =>
      epochTo q (BitVec.ofNat 32 (ofBe q.m.payload)) s s (acceptCmd q s)) s) := rfl
  have hep : (useKey q.m.signer (cmdTaken t0 s)).sec.epoch = s.sec.epoch := by
    obtain ⟨v, c, hu⟩ := useKey_taken (q := q) (t0 := t0) (s := s)
    rw [hu]
  rw [hx, runCmd_passes h, hv]
  unfold epochTo accepted
  rw [hep]

theorem noCerts_markGone {gone : List (BitVec 64)} (h : NoCerts s)
    (ht : t.sec.sigQ = (s.sec.sigQ.drop 1).map (markGone gone)) : NoCerts t := by
  intro x hx
  rw [ht] at hx
  obtain ⟨y, hy, rfl⟩ := List.mem_map.1 hx
  obtain ⟨c, rfl⟩ := h y (List.mem_of_mem_drop hy)
  exact ⟨_, rfl⟩

/-- A session that is reset, or live under a key. -/
def ClosesWith (kid : BitVec 64) (i : Fin 16) (s : State) : Prop :=
  s.sec.sess[i] = Sess.reset ∨ (s.sec.sess[i].st = .live ∧ s.sec.sess[i].kid = kid)

theorem closeKey_reset (h : s.sec.sess[i] = Sess.reset) : (closeKey k0 s).sec.sess[i] = Sess.reset := by
  rw [closeKey_sess]
  split
  · rfl
  · exact h

theorem closeKey_closes (h : ClosesWith kid i s) : (closeKey kid s).sec.sess[i] = Sess.reset := by
  rcases h with h | h
  · exact closeKey_reset h
  · rw [closeKey_sess, if_pos h]

theorem closeKey_closesWith (h : ClosesWith kid i s) : ClosesWith kid i (closeKey k0 s) := by
  unfold ClosesWith
  rw [closeKey_sess]
  split
  · exact .inl rfl
  · exact h

/-- Once the keys below an epoch have gone, their sessions are closed, and all else is as it was. -/
theorem epochClosed_spec {gone : List (BitVec 64)} :
    (epochClosed gone s).sent = s.sent ∧ (epochClosed gone s).sec.cache = s.sec.cache ∧
    (epochClosed gone s).sec.epoch = s.sec.epoch ∧ (NoCerts s → NoCerts (epochClosed gone s)) ∧
    (∀ {e : Fin 128} {p : W32}, Raised e p u s → e ≠ 76 → e ≠ evLogWrap → Raised e p u (epochClosed gone s)) ∧
    (∀ kid ∈ gone, isRoot s kid = false → ∀ i : Fin 16, s.sec.sess[i].st = .live → s.sec.sess[i].kid = kid →
      (epochClosed gone s).sec.sess[i] = Sess.reset) := by
  unfold epochClosed
  extract_lets s1
  have hsec : s1.sec = s.sec := by
    unfold s1
    split
    · rfl
    · exact raise_sec
  have hsent : s1.sent = s.sent := by
    unfold s1
    split
    · rfl
    · exact raise_sent
  have hraised : ∀ {e : Fin 128} {p : W32}, Raised e p u s → e ≠ 76 → e ≠ evLogWrap → Raised e p u s1 := by
    intro e p h hne hw
    unfold s1
    split
    · exact h
    · exact h.raise_other hne hw
  clear_value s1
  have hrest : closedRest (each (gone.filter fun k => !isRoot s1 k) closeKey s1) = closedRest s1 :=
    each_congr fun _ _ => closeKey_rest
  unfold closedRest at hrest
  obtain ⟨hs, -, hevt, -, hc, he⟩ := by simpa only [Prod.mk.injEq] using hrest
  refine ⟨hs.trans hsent, hc.trans (by rw [hsec]), he.trans (by rw [hsec]), fun h => ?_, fun h hne hw => ?_,
    fun kid hk hr i hl hki => ?_⟩
  · exact each_noCerts (fun _ _ h => closeKey_noCerts h) (noCerts_of_sigQ h (by rw [hsec]; exact fun _ hx => hx))
  · exact (hraised h hne hw).of_evt rfl rfl hevt
  · refine each_reaches (x := kid) (g := closeKey) (P := ClosesWith kid i) (Q := fun s => s.sec.sess[i] = Sess.reset)
      (fun _ _ h => closeKey_closesWith h) (fun _ h => closeKey_closes h) (fun _ _ h => closeKey_reset h)
      (List.mem_filter.2 ⟨hk, ?_⟩) ?_
    · unfold isRoot at hr ⊢
      rw [hsec, hr]
      rfl
    · unfold ClosesWith
      rw [hsec]
      exact .inr ⟨hl, hki⟩

theorem epochRaise_refused (h : SignedPasses s 0x0107 sigOk t0 q) {v : W32} (hv : BitVec.ofNat 32 (ofBe q.m.payload) = v)
    (hle : v ≤ s.sec.epoch) : ∃ t, exec (.epochRaise sigOk t0) s = .next t ∧ Refused s t (ifCode q.iface) cEpoch ∧
      t.sec.epoch = s.sec.epoch ∧ t.sec.sess[q.sid].cmdSeq = s.sec.sess[q.sid].cmdSeq := by
  have he := exec_epochRaise h hv
  unfold epochTo at he
  rw [if_pos hle] at he
  obtain ⟨-, -, -, -, -, hn, hs⟩ := h
  obtain ⟨x, c, hu⟩ := useKey_taken (q := q) (t0 := t0) (s := s)
  obtain ⟨hr, hd⟩ := refuseCmd_taken (cause := cEpoch) hn hs hu
  obtain ⟨-, -, hep, -⟩ := hr.keeps
  refine ⟨_, by rw [he, hd], hr.1.of_cnt (by rw [hu]), hep.trans (by rw [hu]), ?_⟩
  rw [refuseCmd_cmdSeq (by rw [hu]; exact hs), hu]

theorem epochRaise_passes (h : SignedPasses s 0x0107 sigOk t0 q) (hno : NoCerts s) {v : W32}
    (hv : BitVec.ofNat 32 (ofBe q.m.payload) = v) (hlt : s.sec.epoch < v) (hroot : isRoot s q.m.signer = true) :
    ∃ t, exec (.epochRaise sigOk t0) s = .next t ∧ t.sec.epoch = v ∧ CmdAnswered s t q 0 ∧ Raised 75 v s t ∧
      (∀ k ∈ t.sec.cache, v ≤ k.epoch ∧ k ∈ s.sec.cache) ∧
      (∀ k ∈ s.sec.cache, k.epoch < v → isRoot s k.kid = false → ∀ i : Fin 16, isLive s i = true →
        s.sec.sess[i].kid = k.kid → t.sec.sess[i] = Sess.reset) := by
  have he := exec_epochRaise h hv
  unfold epochTo at he
  rw [if_neg (BitVec.not_le.2 hlt)] at he
  have hin : CmdIn q t0 s (accepted q t0 s) := cmdIn_accepted
  obtain ⟨hsub, hrest⟩ := hin.cache
  have hacc := hin.rest
  have hsig := hin.sigQ
  have hsend : SendsOn (accepted q t0 s) q.sid := hin.sendsOn h.2.2.2.2.2.2
  have hra : ∀ k, isRoot (accepted q t0 s) k = isRoot s k := fun _ => isRoot_accepted
  generalize accepted q t0 s = a at he hin hsub hrest hacc hsig hsend hra
  have hwsec : (raise 75 v (epochStored v a)).sec = (epochStored v a).sec := raise_sec
  have hwcfg : (raise 75 v (epochStored v a)).cfg = a.cfg := raise_cfg
  have hr75 : Raised 75 v s (raise 75 v (epochStored v a)) :=
    (raise_raised 75 v (epochStored v a) (by decide)).of_evt (by rw [hacc]; rfl) (by rw [hacc]; rfl) rfl
  generalize raise 75 v (epochStored v a) = w at he hwsec hwcfg hr75
  have hwsess : w.sec.sess = a.sec.sess := by rw [hwsec]; rfl
  have ha : CmdAnswer q 0 w (answerCmd q 0 w) := cmdAnswer_answerCmd (by unfold SendsOn; rw [hwsess]; exact hsend)
  have hans := hin.answers hwsess hwcfg ha
  have hst := fun i => answered_sess (i := i) hin hwsess ha
  have hroots : ∀ k, isRoot (answerCmd q 0 w) k = isRoot s k := fun k => by
    rw [ha.isRoot, ← hra k]
    unfold isRoot
    rw [hwsec]
    rfl
  have hcache := ha.cache
  have hq := ha.sigQ
  have hep : (answerCmd q 0 w).sec.epoch = v := by
    obtain ⟨l, b, n, ht, -⟩ := ha
    rw [ht]
    exact congrArg Sec.epoch hwsec
  have hr : Raised 75 v s (answerCmd q 0 w) := hr75.of_evt rfl rfl (by rw [ha.rest])
  generalize answerCmd q 0 w = x at he hans hst hroots hcache hq hep hr
  obtain ⟨hs1, hc1, he1, hn1, hr1, hcl⟩ := epochClosed_spec (s := x) (u := s) (gone := keysBelow v a)
  have hnx : NoCerts x := noCerts_markGone hno (by rw [hq, hwsec]; exact congrArg (List.map _) hsig)
  rw [drainCerts_of_noCerts (hn1 hnx)] at he
  refine ⟨_, he, he1.trans hep, hans.of_sent hs1, hr1 hr (by decide) (by decide), fun k hk => ?_,
    fun k hk hlow hkr i hl hki => ?_⟩
  · rw [hc1, hcache, hwsec] at hk
    obtain ⟨hka, hkv⟩ := List.mem_filter.1 hk
    exact ⟨by simpa using hkv, hsub k hka⟩
  · obtain ⟨hsti, hkidi, -⟩ := hst i
    have hne : k.kid ≠ q.m.signer := fun heq => absurd (hroot.symm.trans (heq ▸ hkr)) (by decide)
    refine hcl k.kid (List.mem_map.2 ⟨k, List.mem_filter.2 ⟨hrest k hk hne, by simpa using hlow⟩, rfl⟩) ((hroots _).trans hkr) i
      (hsti.trans (live_st hl)) (hkidi.trans hki)

/-- A command that needs an owner root passes only with one (R275, R276). -/
theorem cmdCause_root (hc : cmdCause s q sigOk = none) (hp : cmdPerm q.m.code = none) : isRoot s q.m.signer = true := by
  unfold cmdCause at hc
  rw [hp] at hc
  cases hr : isRoot s q.m.signer with
  | true => rfl
  | false =>
    dsimp only at hc
    rw [hr] at hc
    split at hc
    · exact absurd hc (by simp)
    · exact absurd hc (by simp)

end

/-- Settles O51: each command that passes leaves the queue, becomes the latest of its session and has its own effect; one that
fails a step is refused with that step's cause. -/
theorem signedCommands : Obligations.SignedCommands := by
  unfold Obligations.SignedCommands
  intro s sigOk t0 q passes answered taken b0
  refine ⟨fun h => ⟨commitCmd_taken h, commitCmd_pending h⟩, modeSet_passes, force_passes rfl, freeze_passes, fun h => ⟨?_, ?_⟩,
    fun h hno => ?_, fun h hno => ⟨epochRaise_refused h rfl, fun hlt => ?_⟩, hpTrust_passes, fun c hon he hq hc hn hs i hi => ?_⟩
  · rintro ⟨i, hl, hor⟩
    refine activate_locked h ?_
    unfold lockBars
    rw [hl]
    rcases hor with hne | ho
    · simp [hne]
    · simp [ho]
  · intro hor
    refine activate_passes h ?_
    unfold lockBars
    rcases hor with hl | ⟨hl, ho⟩
    · simp [hl]
    · simp [hl, ho]
  · by_cases hf : findKey s (BitVec.ofNat 64 (ofBe q.m.payload)) = none
    · obtain ⟨t, hx, hcfg, hans, hsub, hkeep, htaken, hevt⟩ := keyDrop_absent h rfl hf
      exact ⟨t, hx, hcfg, hans, hsub, hkeep, fun _ => ⟨htaken, hevt⟩, fun hne => absurd hf hne⟩
    · obtain ⟨t, hx, hcfg, hans, hsub, hkeep, hr, hclose, hother⟩ := keyDrop_present h hno rfl hf
      exact ⟨t, hx, hcfg, hans, hsub, hkeep, fun heq => absurd heq hf, fun _ => ⟨hr, hclose, hother⟩⟩
  · obtain ⟨-, -, -, hcode, hc, -, -⟩ := id h
    exact epochRaise_passes h hno rfl hlt (cmdCause_root hc (by rw [hcode]; rfl))
  · rcases hi with ⟨hcode, rfl⟩ | ⟨hcode, rfl⟩ | ⟨hcode, rfl⟩ | ⟨hcode, rfl⟩ | ⟨hcode, rfl⟩ | ⟨hcode, rfl⟩ |
      ⟨hcode, rfl⟩ | ⟨hcode, rfl⟩
    all_goals exact signed_refused rfl hon he hq hcode hc hn hs

end Sys2Proof.Machine
end

section
/-! The watchdog and the Tally (R341 to R348). -/

open Sys2Proof Sys2Proof.Machine
namespace Sys2Proof.Machine

section
variable {s t u : State} {c : CoreId} {acc : Access} {v : HWord} {cyc : Nat} {b : Bool}

/-! ### The NMI of the watchdog (R218, R343) -/

/-- What the NMI leaves of core `c`, as of `s`. -/
def NmiTaken (s : State) (c : CoreId) (k : Core) : Prop :=
  k.nmiSeen = true ∧ (s.core[c].run ≠ .halted → k.xpc = nmiPc s c ∧ k.d = s.core[c].d ∧
    (s.img.nmi[c] ≠ 0xFFFFFFFF → k.run = .nmi ∧ k.pc = s.img.nmi[c] ∧ k.cause = 5) ∧
    (s.img.nmi[c] = 0xFFFFFFFF → k.run = .halted ∧ k.cause = 6))

/-- A state that differs from `s` in its cores alone. -/
def CoresOnly (s t : State) : Prop := t = { s with core := t.core }

theorem nmiCore_self : NmiTaken s c (nmiCore c s).core[c] := by
  unfold nmiCore
  extract_lets k e s1
  have h1 : s1.core[c].nmiSeen = true ∧ s1.core[c].xpc = nmiPc s c ∧ s1.core[c].d = s.core[c].d ∧ s1.core[c].run = .nmi ∧
      s1.core[c].cause = 5 := by
    unfold s1
    rw [modCore_self]
    exact ⟨rfl, rfl, rfl, rfl, rfl⟩
  clear_value s1
  obtain ⟨hseen, hxpc, hd, hrun, hcause⟩ := h1
  split
  · next hh =>
    rw [modCore_self]
    exact ⟨rfl, fun hne => absurd hh hne⟩
  split
  · next he =>
    rw [modCore_self, haltCore, modCore_self]
    exact ⟨hseen, fun _ => ⟨rfl, hd, fun hne => absurd he hne, fun _ => ⟨rfl, rfl⟩⟩⟩
  · next he =>
    rw [modCore_self]
    exact ⟨hseen, fun _ => ⟨hxpc, hd, fun _ => ⟨hrun, rfl, hcause⟩, fun heq => absurd heq he⟩⟩

theorem modCore_coresOnly {g : Core → Core} (h : CoresOnly s u) : CoresOnly s (modCore u c g) := by
  unfold CoresOnly at h ⊢
  rw [h]
  rfl

theorem nmiCore_only : CoresOnly s (nmiCore c s) := by
  unfold nmiCore
  extract_lets k e s1
  have h1 : CoresOnly s s1 := rfl
  split
  · rfl
  split
  · exact modCore_coresOnly (modCore_coresOnly h1)
  · exact modCore_coresOnly h1

theorem nmiCore_other {d : CoreId} (h : c ≠ d) : (nmiCore d s).core[c] = s.core[c] := by
  unfold nmiCore
  extract_lets k e s1
  have h1 : s1.core[c] = s.core[c] := modCore_other _ _ h
  split
  · exact modCore_other _ _ h
  split
  · rw [modCore_other _ _ h, haltCore, modCore_other _ _ h, h1]
  · rw [modCore_other _ _ h, h1]

theorem CoresOnly.trans (h : CoresOnly s t) (h1 : CoresOnly t u) : CoresOnly s u := by
  unfold CoresOnly at h h1 ⊢
  rw [h1, h]

theorem NmiTaken.of_cores {k : Core} (h : NmiTaken u c k) (hu : CoresOnly s u) (hc : u.core[c] = s.core[c]) : NmiTaken s c k := by
  unfold CoresOnly at hu
  have hpc : nmiPc u c = nmiPc s c := by
    unfold nmiPc
    dsimp only
    rw [hc, hu]
    rfl
  have himg : u.img = s.img := by rw [hu]
  unfold NmiTaken at h ⊢
  rwa [hpc, hc, himg] at h

/-- Every core takes the NMI, once. -/
theorem each_nmiCore : CoresOnly s (each cores nmiCore s) ∧ NmiTaken s c (each cores nmiCore s).core[c] := by
  have h := each_at (x := c) (f := nmiCore) (P := fun u => CoresOnly s u ∧ u.core[c] = s.core[c])
    (Q := fun u => CoresOnly s u ∧ NmiTaken s c u.core[c])
    (fun y hy u ⟨h1, h2⟩ => ⟨h1.trans nmiCore_only, (nmiCore_other hy.symm).trans h2⟩)
    (fun u ⟨h1, h2⟩ => ⟨h1.trans nmiCore_only, nmiCore_self.of_cores h1 h2⟩)
    (fun y hy u ⟨h1, h2⟩ => ⟨h1.trans nmiCore_only, by rwa [nmiCore_other hy.symm]⟩)
    (l := cores) (List.nodup_finRange 4) (List.mem_finRange c) (s := s) ⟨rfl, rfl⟩
  exact h

/-! ### The watchdog fires (R343) -/

/-- What the firing of the watchdog does (R26, R343). -/
def Fires (s t : State) (p : W32) : Prop :=
  t.wdt.fired = true ∧ t.wdt.run = false ∧ t.sys.hrtRun = true ∧ Raised 70 p s t ∧
  (s.sys.mode = .run ∨ s.sys.mode = .degraded → t.sys.safeReq = true) ∧
  ∀ c : CoreId, t.core[c].nmiSeen = true ∧ (s.core[c].run ≠ .halted →
    t.core[c].xpc = (if (inBg s c = true ∧ s.core[c].svc.isSome = true) ∨
      (s.core[c].tw = true ∧ cycleNow t < s.core[c].freeAt) then s.core[c].pc - 4 else s.core[c].pc) ∧ t.core[c].d = s.core[c].d ∧
    (s.img.nmi[c] ≠ 0xFFFFFFFF → t.core[c].run = .nmi ∧ t.core[c].pc = s.img.nmi[c] ∧ t.core[c].cause = 5) ∧
    (s.img.nmi[c] = 0xFFFFFFFF → t.core[c].run = .halted ∧ t.core[c].cause = 6))

theorem nmiPc_eq : nmiPc s c = if (inBg s c = true ∧ s.core[c].svc.isSome = true) ∨
    (s.core[c].tw = true ∧ cycleNow s < s.core[c].freeAt) then s.core[c].pc - 4 else s.core[c].pc := by
  unfold nmiPc inBg
  dsimp only
  cases s.core[c].run <;> simp

/-- The state in which the NMI has been taken and the count has stopped. -/
def wdtStopped (violation : Bool) (s : State) : State :=
  { each cores nmiCore s with
    wdt := { (each cores nmiCore s).wdt with
      run := false, cnt := wdtCount (each cores nmiCore s), fired := true, causeV := violation }
    sys := { (each cores nmiCore s).sys with hrtRun := true } }

theorem fireWdt_eq : fireWdt b s = safeTrigger (raise 70 (if b then 1 else 0) (wdtStopped b s)) := rfl

theorem wdtStopped_spec : (wdtStopped b s).evt = s.evt ∧ (wdtStopped b s).frm = s.frm ∧ (wdtStopped b s).now = s.now ∧
    (wdtStopped b s).sys = { s.sys with hrtRun := true } ∧ (wdtStopped b s).wdt.fired = true ∧
    (wdtStopped b s).wdt.run = false ∧ ∀ c : CoreId, NmiTaken s c (wdtStopped b s).core[c] := by
  have hc : CoresOnly s (each cores nmiCore s) := (each_nmiCore (c := 0)).1
  have hn : ∀ c : CoreId, NmiTaken s c (each cores nmiCore s).core[c] := fun c => each_nmiCore.2
  unfold wdtStopped
  generalize each cores nmiCore s = u at hc hn
  unfold CoresOnly at hc
  refine ⟨?_, ?_, ?_, ?_, rfl, rfl, hn⟩ <;> rw [hc]

theorem NmiTaken.delivered {k k' : Core} (h : NmiTaken s c k) (hk : DeliveryOnly k k') : NmiTaken s c k' := by
  unfold DeliveryOnly at hk
  rw [hk]
  exact h

theorem fireWdt_fires : Fires s (fireWdt b s) (if b then 1 else 0) := by
  obtain ⟨hevt, hfrm, hnow, hsys, hfired, hrun, hnmi⟩ := wdtStopped_spec (s := s) (b := b)
  rw [fireWdt_eq, safeTrigger_eq]
  generalize wdtStopped b s = u at hevt hfrm hnow hsys hfired hrun hnmi
  have hr := raise_raised 70 (if b then 1 else 0) u (by decide)
  have hd := (raise_only 70 (if b then 1 else 0) u).2
  have hsys1 : (raise 70 (if b then 1 else 0) u).sys = u.sys := raise_sys _ _
  have hwdt : (raise 70 (if b then 1 else 0) u).wdt = u.wdt := raise_wdt
  have hcyc : cycleNow (raise 70 (if b then 1 else 0) u) = cycleNow s := by
    unfold cycleNow
    rw [raise_now, raise_frm, hnow, hfrm]
  generalize raise 70 (if b then 1 else 0) u = w at hr hd hsys1 hwdt hcyc
  refine ⟨by rw [hwdt]; exact hfired, by rw [hwdt]; exact hrun, ?_, hr.of_evt hevt hfrm rfl, fun hm => ?_, fun c => ?_⟩
  · dsimp only
    rw [hsys1, hsys]
  · dsimp only
    rw [hsys1, hsys]
    rcases hm with hm | hm <;> simp [hm]
  · obtain ⟨hseen, hrest⟩ := (hnmi c).delivered (hd c)
    have hcyc1 : cycleNow { w with sys := { w.sys with
        safeReq := w.sys.safeReq || w.sys.mode = .run || w.sys.mode = .degraded } } = cycleNow s := hcyc
    rw [nmiPc_eq] at hrest
    rw [hcyc1]
    exact ⟨hseen, hrest⟩

/-! ### WDT_SERVE (R342) -/

theorem exec_wdtServe (hon : coreOn s = true) (hacc : ∀ c, acc ≠ .core c) (h : writeCause s acc 0x0301 v = none)
    (hr : s.wdt.run = true) : exec (.wdtServe acc v cyc) s =
      .next (storeWdt acc v { s with now := max s.now (s.wdt.start + 2 * cyc) }) := by
  refine congrArg Host.Outcome.next ((guarded_of_allowed (writeAllowed_of_passes hon hacc h)).trans ?_)
  rw [if_pos hr]

theorem storeWdt_foreign (hf : s.wdt.fired = false) (h : serveCode acc ≠ some (fld (act s 0x0300) 14 12)) :
    storeWdt acc v s = { s with wdt := { s.wdt with foreign := true } } := by
  unfold storeWdt
  rw [if_neg (by rw [hf]; exact Bool.false_ne_true), if_pos h]

/-- A service by the source of WDT_CTL, while the period runs (R342). -/
theorem storeWdt_served (hf : s.wdt.fired = false) (hr : s.wdt.run = true)
    (h : serveCode acc = some (fld (act s 0x0300) 14 12)) : storeWdt acc v s =
      if v ≠ 0x6E5A then fireWdt true s
      else if wdtPeriod s ≤ (wdtCount s).toNat then fireWdt false s
      else if (wdtCount s).toNat < wdtWindow s then fireWdt true s
      else { s with wdt := { s.wdt with start := s.now } } := by
  unfold storeWdt
  rw [if_neg (by rw [hf]; exact Bool.false_ne_true), if_neg (not_not_intro h), if_neg (by rw [hr]; decide)]

/-- The instant of a service moves no watchdog, core or event. -/
def atServe (cyc : Nat) (s : State) : State := { s with now := s.wdt.start + 2 * cyc }

theorem wdtCount_atServe (hr : s.wdt.run = true) (hc : cyc < 2 ^ 32) : (wdtCount (atServe cyc s)).toNat = cyc := by
  have hcnt : wdtCount (atServe cyc s) = BitVec.ofNat 32 ((s.wdt.start + 2 * cyc - s.wdt.start) / 2) := if_pos hr
  rw [hcnt, BitVec.toNat_ofNat]
  omega

theorem fires_atServe {p : W32} (h : Fires (atServe cyc s) t p) : Fires s t p := h

theorem exec_service (hon : coreOn s = true) (hacc : ∀ c, acc ≠ .core c) (h : writeCause s acc 0x0301 v = none)
    (hf : s.wdt.fired = false) (hr : s.wdt.run = true) (hs : serveCode acc = some (fld (act s 0x0300) 14 12))
    (hnow : s.wdt.start + 2 * cyc ≥ s.now) (hc : cyc < 2 ^ 32) : exec (.wdtServe acc v cyc) s = .next (
      if v ≠ 0x6E5A then fireWdt true (atServe cyc s)
      else if wdtPeriod s ≤ cyc then fireWdt false (atServe cyc s)
      else if cyc < wdtWindow s then fireWdt true (atServe cyc s)
      else { atServe cyc s with wdt := { s.wdt with start := s.wdt.start + 2 * cyc } }) := by
  have hat : ({ s with now := max s.now (s.wdt.start + 2 * cyc) } : State) = atServe cyc s := by
    unfold atServe
    rw [max_eq_right hnow]
  rw [exec_wdtServe hon hacc h hr, hat, storeWdt_served (s := atServe cyc s) hf hr hs, wdtCount_atServe hr hc]
  rfl

/-- The watchdog's part (R341 to R343). -/
theorem watchdog (hon : coreOn s = true) (hf : s.wdt.fired = false) (hr : s.wdt.run = true) :
    (∃ t, exec .watchdogExpiry s = .next t ∧ Fires s t 0) ∧
    (∀ (acc : Access) (v : HWord) (cyc : Nat), (∀ c, acc ≠ .core c) → writeCause s acc 0x0301 v = none →
      (serveCode acc ≠ some (fld (act s 0x0300) 14 12) →
        ∃ t, exec (.wdtServe acc v cyc) s = .next t ∧ t.wdt = { s.wdt with foreign := true } ∧ t.evt = s.evt) ∧
      (serveCode acc = some (fld (act s 0x0300) 14 12) → s.wdt.start + 2 * cyc ≥ s.now → cyc < 2 ^ 32 →
        (v ≠ 0x6E5A → ∃ t, exec (.wdtServe acc v cyc) s = .next t ∧ Fires s t 1) ∧
        (v = 0x6E5A → wdtPeriod s ≤ cyc → ∃ t, exec (.wdtServe acc v cyc) s = .next t ∧ Fires s t 0) ∧
        (v = 0x6E5A → cyc < wdtPeriod s → cyc < wdtWindow s → ∃ t, exec (.wdtServe acc v cyc) s = .next t ∧ Fires s t 1) ∧
        (v = 0x6E5A → wdtWindow s ≤ cyc → cyc < wdtPeriod s →
          ∃ t, exec (.wdtServe acc v cyc) s = .next t ∧ t.wdt = { s.wdt with start := s.wdt.start + 2 * cyc } ∧
            t.now = s.wdt.start + 2 * cyc ∧ t.evt = s.evt ∧ t.core = s.core))) := by
  refine ⟨⟨_, congrArg Host.Outcome.next ((onCore_of_on hon).trans (if_pos (by simp [hr, hf]))), fireWdt_fires (b := false)⟩,
    fun acc v cyc hacc h => ⟨fun hs => ?_, fun hs hnow hc => ?_⟩⟩
  · rw [exec_wdtServe hon hacc h hr, storeWdt_foreign (by exact hf) (by exact hs)]
    exact ⟨_, rfl, rfl, rfl⟩
  have hfire : ∀ b : Bool, Fires s (fireWdt b (atServe cyc s)) (if b then 1 else 0) := fun _ => fires_atServe fireWdt_fires
  rw [exec_service hon hacc h hf hr hs hnow hc]
  refine ⟨fun hv => ?_, fun hv hp => ?_, fun hv hp hw => ?_, fun hv hw hp => ?_⟩
  · rw [if_pos hv]
    exact ⟨_, rfl, hfire true⟩
  · rw [if_neg (not_not_intro hv), if_pos hp]
    exact ⟨_, rfl, hfire false⟩
  · rw [if_neg (not_not_intro hv), if_neg (Nat.not_le.2 hp), if_pos hw]
    exact ⟨_, rfl, hfire true⟩
  · rw [if_neg (not_not_intro hv), if_neg (Nat.not_le.2 hp), if_neg (Nat.not_lt.2 hw)]
    exact ⟨_, rfl, rfl, rfl, rfl, rfl⟩

/-! ### The Tally (R345 to R348) -/

/-- What a comparison leaves: the run and the count of mismatching periods, the mode, and of each core all but deliveries. -/
def TalKept (s t : State) : Prop :=
  t.tal.run = s.tal.run ∧ t.tal.mmCnt = s.tal.mmCnt ∧ ∀ c : CoreId, DeliveryOnly s.core[c] t.core[c]

theorem TalKept.trans (h : TalKept s t) (h1 : TalKept t u) : TalKept s u := by
  obtain ⟨hr, hm, hc⟩ := h
  obtain ⟨hr1, hm1, hc1⟩ := h1
  refine ⟨hr1.trans hr, hm1.trans hm, fun c => ?_⟩
  have h2 := hc c
  have h3 := hc1 c
  unfold DeliveryOnly at h2 h3 ⊢
  rw [h3, h2]

/-- A monitored task has not checked in as often as it was expected to (R346). -/
def Mismatch (s : State) (x : Task) : Prop := ∃ e, talExpected s x = some e ∧ s.core[x.core].checkins[x.index.toNat] ≠ e

theorem TalKept.mismatch {x : Task} (h : TalKept s t) (hm : Mismatch s x) : Mismatch t x := by
  obtain ⟨e, he, hne⟩ := hm
  have hd := h.2.2 x.core
  unfold DeliveryOnly at hd
  refine ⟨e, ?_, ?_⟩
  · unfold talExpected at he ⊢
    rw [hd]
    exact he
  · rw [hd]
    exact hne

theorem talCompare_same {x : Task} (h : ∀ e, talExpected s x = some e → s.core[x.core].checkins[x.index.toNat] = e) :
    talCompare x (s, b) = (s, b) := by
  unfold talCompare
  dsimp only
  cases he : talExpected s x with
  | none => rfl
  | some e => exact if_pos (h e he)

theorem talCompare_differs {x : Task} (h : Mismatch s x) :
    ∃ (y : Tal) (m : Bool) (p : W32), y.run = s.tal.run ∧ y.mmCnt = s.tal.mmCnt ∧
    talCompare x (s, b) = (raise (if m then 71 else 72) p { s with tal := y }, true) := by
  obtain ⟨e, he, hne⟩ := h
  unfold talCompare
  dsimp only
  rw [he]
  dsimp only
  rw [if_neg hne]
  refine ⟨_, _, _, ?_, ?_, rfl⟩ <;> rfl

/-- A comparison has been found to fail, and one of its events is pending. -/
def FoundBad (p : State × Bool) : Prop := p.2 = true ∧ (p.1.evt.pend.getLsbD 71 = true ∨ p.1.evt.pend.getLsbD 72 = true)

theorem talCompare_bad {x : Task} (h : Mismatch s x) : FoundBad (talCompare x (s, b)) := by
  obtain ⟨y, m, p, -, -, hcmp⟩ := talCompare_differs (b := b) h
  rw [hcmp]
  refine ⟨rfl, ?_⟩
  cases m with
  | true => exact .inl (raise_raised 71 p _ (by decide)).2.2.2
  | false => exact .inr (raise_raised 72 p _ (by decide)).2.2.2

theorem match_or_mismatch (s : State) (x : Task) :
    (∀ e, talExpected s x = some e → s.core[x.core].checkins[x.index.toNat] = e) ∨ Mismatch s x := by
  by_cases h : Mismatch s x
  · exact .inr h
  · exact .inl fun e he => by_contra fun hne => h ⟨e, he, hne⟩

theorem talCompare_kept (x : Task) : TalKept s (talCompare x (s, b)).1 := by
  rcases match_or_mismatch s x with h | h
  · rw [talCompare_same h]
    exact ⟨rfl, rfl, fun _ => rfl⟩
  · obtain ⟨y, m, p, hr, hm, hcmp⟩ := talCompare_differs (b := b) h
    rw [hcmp]
    refine ⟨?_, ?_, fun c => (raise_only _ _ _).2 c⟩
    · rw [raise_tal]
      exact hr
    · rw [raise_tal]
      exact hm

theorem talCompare_found (x : Task) (h : FoundBad (s, b)) : FoundBad (talCompare x (s, b)) := by
  rcases match_or_mismatch s x with hs | hs
  · rwa [talCompare_same hs]
  · exact talCompare_bad hs

/-- The comparison of a list of tasks. -/
def talFold (l : List Task) (p : State × Bool) : State × Bool := l.foldl (fun p x => talCompare x p) p

theorem talFold_same {l : List Task}
    (h : ∀ x ∈ l, ∀ e, talExpected s x = some e → s.core[x.core].checkins[x.index.toNat] = e) : talFold l (s, b) = (s, b) := by
  unfold talFold
  induction l with
  | nil => rfl
  | cons x l ih =>
    rw [List.foldl_cons, talCompare_same (h x List.mem_cons_self)]
    exact ih fun y hy => h y (List.mem_cons_of_mem _ hy)

theorem talFold_kept {l : List Task} {p : State × Bool} : TalKept p.1 (talFold l p).1 := by
  unfold talFold
  induction l generalizing p with
  | nil => exact ⟨rfl, rfl, fun _ => rfl⟩
  | cons x l ih => exact (talCompare_kept (s := p.1) (b := p.2) x).trans ih

theorem talFold_found {l : List Task} {p : State × Bool} (h : FoundBad p) : FoundBad (talFold l p) := by
  unfold talFold
  induction l generalizing p with
  | nil => exact h
  | cons x l ih => exact ih (talCompare_found (s := p.1) (b := p.2) x h)

theorem talFold_bad {l : List Task} {x : Task} {p : State × Bool} (hx : x ∈ l) (h : Mismatch p.1 x) : FoundBad (talFold l p) := by
  induction l generalizing p with
  | nil => exact absurd hx (by simp)
  | cons y l ih =>
    rcases List.mem_cons.1 hx with rfl | hx
    · exact talFold_found (l := l) (talCompare_bad (s := p.1) (b := p.2) h)
    · exact ih hx ((talCompare_kept (s := p.1) (b := p.2) y).mismatch h)

theorem talEnd_ok : talEnd false s = { s with tal := { s.tal with run := 0 } } := rfl

/-- The end of a mismatching period changes nothing but the Tally's run and count, SAFE's request and the trial. -/
theorem talEnd_bad : ∃ x y, talEnd true s =
    { s with tal := { s.tal with run := inc8 s.tal.run, mmCnt := inc16 s.tal.mmCnt }, sys := x, upd := y } := by
  unfold talEnd
  extract_lets s1
  rw [if_neg (by decide)]
  split
  · split
    · rw [trialFail_eq]
      exact ⟨_, _, rfl⟩
    · rw [safeTrigger_eq]
      exact ⟨_, _, rfl⟩
  · exact ⟨_, _, rfl⟩

theorem talEnd_core {bad : Bool} : (talEnd bad s).core = s.core := by
  cases bad with
  | false => rfl
  | true =>
    obtain ⟨x, y, h⟩ := talEnd_bad (s := s)
    rw [h]

/-- A period begins: every count starts again from 0 (R345). -/
theorem talBegin_core {k : Core} (hk : DeliveryOnly k s.core[c]) : (∀ i : Fin 16, (talBegin s).core[c].checkins[i] = 0 ∧
    (talBegin s).core[c].releases[i] = 0) ∧ (talBegin s).core[c].d = k.d ∧ (talBegin s).core[c].pc = k.pc := by
  have hc : (talBegin s).core[c] = { s.core[c] with
      checkins := .replicate 16 0, releases := .replicate 16 0, bgMon := bgMode s.sys.mode } := by
    simp [talBegin]
  unfold DeliveryOnly at hk
  rw [hc]
  refine ⟨fun i => ⟨by simp, by simp⟩, ?_, ?_⟩
  · dsimp only
    rw [hk]
  · dsimp only
    rw [hk]

/-- The state in which a started period has been compared. -/
def periodEnded (s : State) : State :=
  talEnd (talFold (monitored s) (s, false)).2 (talFold (monitored s) (s, false)).1

theorem periodEnded_kept (c : CoreId) : DeliveryOnly s.core[c] (periodEnded s).core[c] := by
  have hc : (periodEnded s).core = (talFold (monitored s) (s, false)).1.core := talEnd_core
  have hk := (talFold_kept (l := monitored s) (p := (s, false))).2.2 c
  generalize (periodEnded s).core = k at hc ⊢
  subst hc
  exact hk

theorem exec_tallyPeriodEnd (hin : inService s = true) (hf : s.frm.no.toNat % 2 ^ fld (act s 0x0310) 3 0 = 0) :
    exec .tallyPeriodEnd s = .next (talBegin (if s.tal.started then periodEnded s else s)) := by
  refine congrArg Host.Outcome.next ((if_pos hin).trans ((if_pos hf).trans ?_))
  split <;> rfl

theorem tally (hin : inService s = true) (hf : s.frm.no.toNat % 2 ^ fld (act s 0x0310) 3 0 = 0) :
    ∃ t, exec .tallyPeriodEnd s = .next t ∧ t.tal.started = true ∧
      (∀ c : CoreId, (∀ i : Fin 16, t.core[c].checkins[i] = 0 ∧ t.core[c].releases[i] = 0) ∧
        t.core[c].d = s.core[c].d ∧ t.core[c].pc = s.core[c].pc) ∧
      (s.tal.started = true →
        (∀ x ∈ monitored s, ∀ e, talExpected s x = some e → s.core[x.core].checkins[x.index.toNat] = e) →
        t.tal.run = 0 ∧ t.tal.mmCnt = s.tal.mmCnt ∧ t.evt = s.evt ∧ t.sys = s.sys) ∧
      (s.tal.started = true →
        (∃ x ∈ monitored s, ∃ e, talExpected s x = some e ∧ s.core[x.core].checkins[x.index.toNat] ≠ e) →
        t.tal.run = inc8 s.tal.run ∧ t.tal.mmCnt = inc16 s.tal.mmCnt ∧
        (t.evt.pend.getLsbD 71 = true ∨ t.evt.pend.getLsbD 72 = true)) := by
  have hx := exec_tallyPeriodEnd hin hf
  by_cases hs : s.tal.started = true
  swap
  · rw [if_neg hs] at hx
    exact ⟨_, hx, rfl, fun c => talBegin_core rfl, fun h => absurd h hs, fun h => absurd h hs⟩
  rw [if_pos hs] at hx
  refine ⟨_, hx, rfl, fun c => talBegin_core (periodEnded_kept c), fun _ h => ?_, fun _ ⟨x, hx, hm⟩ => ?_⟩
  · rw [periodEnded, talFold_same h, talEnd_ok]
    exact ⟨rfl, rfl, rfl, rfl⟩
  · obtain ⟨hbad, hpend⟩ := talFold_bad (p := (s, false)) hx hm
    obtain ⟨hr, hmm, -⟩ := talFold_kept (l := monitored s) (p := (s, false))
    rw [periodEnded, hbad]
    generalize (talFold (monitored s) (s, false)).1 = w at hpend hr hmm
    obtain ⟨y, z, hend⟩ := talEnd_bad (s := w)
    rw [hend]
    exact ⟨congrArg inc8 hr, congrArg inc16 hmm, hpend⟩

end

/-- Settles O38: the firing of the watchdog core by core, the cases of a service, and the comparison of the Tally task by task. -/
theorem watchdogAndTally : Obligations.WatchdogAndTally := by
  unfold Obligations.WatchdogAndTally
  refine ⟨fun s hon hf hr => watchdog hon hf hr, fun s hin => ⟨fun hne => ?_, tally hin⟩⟩
  exact congrArg Host.Outcome.next ((if_pos hin).trans (if_neg hne))

end Sys2Proof.Machine
end

section
/-! Input transfers (R34, R35, R39, R177). -/

open Sys2Proof Sys2Proof.Machine
namespace Sys2Proof.Machine

section
variable {s t u : State} {g h : GroupId} {p : Fin 8} {n k : ChanId} {x : InXferIn} {w : W32} {slot : BitVec 8} {rcv subst : Bool}

/-! ### Channels of a group -/

theorem chGroup_grpCh : chGroup (grpCh g p) = g := by
  unfold chGroup grpCh
  apply Fin.ext
  dsimp only
  omega

theorem grpCh_ne (hne : h ≠ g) {p1 : Fin 8} : grpCh h p1 ≠ grpCh g p := fun heq =>
  hne (by rw [← chGroup_grpCh (g := h) (p := p1), heq, chGroup_grpCh])

theorem grpCh_pos {p1 : Fin 8} (hne : p1 ≠ p) : grpCh g p1 ≠ grpCh g p := by
  intro heq
  have hv := congrArg Fin.val heq
  unfold grpCh at hv
  dsimp only at hv
  exact hne (Fin.ext (by omega))

theorem mem_chansOf : k ∈ chansOf g ↔ ∃ p, grpCh g p = k := by
  simp [chansOf]

theorem chansOf_other (hne : h ≠ g) (hk : k ∈ chansOf h) : k ≠ grpCh g p := by
  obtain ⟨p1, rfl⟩ := mem_chansOf.1 hk
  exact grpCh_ne hne

theorem chansOf_nodup : (chansOf g).Nodup :=
  (List.nodup_finRange 8).map fun _ _ heq => by_contra fun hne => grpCh_pos hne heq

/-- A list's steps leave what each of them leaves. -/
theorem each_congr_mem {α β : Type} {π : State → β} {f : α → State → State} {l : List α}
    (h : ∀ y ∈ l, ∀ s, π (f y s) = π s) : π (each l f s) = π s := by
  induction l generalizing s with
  | nil => rfl
  | cons y l ih =>
    exact (ih fun z hz => h z (List.mem_cons_of_mem _ hz)).trans (h y List.mem_cons_self s)

/-! ### The words of a channel in the process image -/

/-- What a transfer replaces of channel `p` of group `g`, with the count of the group's link errors. -/
def shownOf (g : GroupId) (p : Fin 8) (s : State) : W32 × W32 × Vector (BitVec 64) 4 × HWord :=
  (s.pi.inw[grpCh g p], s.pi.last[grpCh g p], s.pi.recs[grpCh g p], s.far.linkErr[g])

theorem shownOf_congr (hpi : t.pi = s.pi) (hfar : t.far = s.far) : shownOf g p t = shownOf g p s := by
  unfold shownOf
  rw [hpi, hfar]

theorem putIn_shown (hn : grpCh g p ≠ n) : shownOf g p (putIn n w s) = shownOf g p s := by
  unfold shownOf putIn
  dsimp only
  rw [vec_set_other _ _ hn]

theorem putFormed_shown (hn : grpCh g p ≠ n) : shownOf g p (putFormed n w s) = shownOf g p s := by
  refine (putIn_shown hn).trans ?_
  unfold shownOf
  dsimp only
  rw [vec_set_other _ _ hn]

/-- Which channels' configurations mismatch (R177). -/
def mismatches (s : State) : Vector Bool 64 := s.ch.map fun x => x.flt.cfgmm

theorem mismatches_of_ch (h : t.ch = s.ch) : mismatches t = mismatches s := by
  unfold mismatches
  rw [h]

theorem cfgmm_of (h : mismatches t = mismatches s) : t.ch[n].flt.cfgmm = s.ch[n].flt.cfgmm := by
  have hv := congrArg (fun v : Vector Bool 64 => v[n]) h
  simpa [mismatches] using hv

theorem modCh_mismatches {f : Chan → Chan} (h : (f s.ch[n]).flt.cfgmm = s.ch[n].flt.cfgmm) :
    mismatches (modCh s n f) = mismatches s := map_modCh h

/-- What the words of channel `p` of group `g` depend on, beside what the transfer brings. -/
def xferView (g : GroupId) (p : Fin 8) (s : State) : Sys × Grp × Vector Bool 64 × (W32 × W32 × Vector (BitVec 64) 4 × HWord) :=
  (s.sys, s.grp[g], mismatches s, shownOf g p s)

theorem xferView_of (hsys : t.sys = s.sys) (hgrp : t.grp[g] = s.grp[g]) (hmm : mismatches t = mismatches s)
    (hsh : shownOf g p t = shownOf g p s) : xferView g p t = xferView g p s := by
  unfold xferView
  rw [hsys, hgrp, hmm, hsh]

theorem parts_of_view (hv : xferView g p t = xferView g p s) : t.sys = s.sys ∧ t.grp[g] = s.grp[g] ∧
    mismatches t = mismatches s ∧ shownOf g p t = shownOf g p s := by
  unfold xferView at hv
  simpa only [Prod.mk.injEq] using hv

/-! ### The steps of a transfer's end -/

/-- No group but `h` changes. -/
def GrpOther (h : GroupId) (s t : State) : Prop := ∀ g : GroupId, g ≠ h → t.grp[g] = s.grp[g]

theorem grpOther_of_grp (hg : t.grp = s.grp) : GrpOther h s t := fun g _ => by rw [hg]

theorem GrpOther.trans (h1 : GrpOther h s t) (h2 : GrpOther h t u) : GrpOther h s u := fun g hne => (h2 g hne).trans (h1 g hne)

theorem modGrp_grpOther {f : Grp → Grp} : GrpOther h s (modGrp s h f) := fun _ hne => modGrp_other _ _ hne

/-- What every step of a transfer's end leaves: the operating mode, the channels that mismatch, and the output words. -/
structure StepKeeps (s t : State) : Prop where
  sys : t.sys = s.sys
  mm : mismatches t = mismatches s
  outw : t.pi.outw = s.pi.outw

theorem StepKeeps.refl : StepKeeps s s := ⟨rfl, rfl, rfl⟩

theorem StepKeeps.trans (h : StepKeeps s t) (h1 : StepKeeps t u) : StepKeeps s u :=
  ⟨h1.sys.trans h.sys, h1.mm.trans h.mm, h1.outw.trans h.outw⟩

theorem each_stepKeeps {α : Type} {f : α → State → State} (h : ∀ y s, StepKeeps s (f y s)) {l : List α} :
    StepKeeps s (each l f s) := by
  induction l generalizing s with
  | nil => exact .refl
  | cons y l ih => exact (h y s).trans ih

theorem raise_stepKeeps {e : Fin 128} {v : W32} : StepKeeps s (raise e v s) :=
  ⟨raise_sys e v, mismatches_of_ch (raise_ch e v), by rw [raise_pi]⟩

theorem raise_shown {e : Fin 128} {v : W32} : shownOf g p (raise e v s) = shownOf g p s := shownOf_congr raise_pi raise_far

theorem raiseSum_stepKeeps : StepKeeps s (raiseSum n s) := by
  unfold raiseSum raiseOn onCore
  split
  · exact raise_stepKeeps
  · exact .refl

theorem raiseSum_shown : shownOf g p (raiseSum n s) = shownOf g p s := by
  unfold raiseSum raiseOn onCore
  split
  · exact raise_shown
  · rfl

theorem raiseSum_grp : (raiseSum n s).grp = s.grp := grp_of_channels raiseOn_apartCh

theorem modAi_stepKeeps {f : ChAi → ChAi} : StepKeeps s (modAi s n f) := ⟨rfl, modCh_mismatches rfl, rfl⟩

theorem modFlt_stepKeeps {f : ChFlt → ChFlt} (hf : ∀ y, (f y).cfgmm = y.cfgmm) : StepKeeps s (modFlt s n f) :=
  ⟨rfl, modCh_mismatches (hf _), rfl⟩

theorem modGrp_stepKeeps {f : Grp → Grp} : StepKeeps s (modGrp s g f) := ⟨rfl, mismatches_of_ch rfl, rfl⟩

theorem putIn_stepKeeps : StepKeeps s (putIn n w s) := ⟨rfl, mismatches_of_ch rfl, rfl⟩

theorem putFormed_stepKeeps : StepKeeps s (putFormed n w s) := ⟨rfl, mismatches_of_ch rfl, rfl⟩

theorem putStatus_stepKeeps : StepKeeps s (putStatus g s) := by
  unfold putStatus
  refine each_stepKeeps fun n s => ?_
  exact ⟨rfl, mismatches_of_ch rfl, rfl⟩

theorem putStatus_shown : shownOf g p (putStatus h s) = shownOf g p s := each_congr fun _ _ => rfl

theorem putStatus_grp : (putStatus h s).grp = s.grp := each_congr fun _ _ => rfl

theorem coldJunction_steps {die : Int} : StepKeeps s (coldJunction die n s) ∧ (coldJunction die n s).grp = s.grp ∧
    shownOf g p (coldJunction die n s) = shownOf g p s := by
  unfold coldJunction
  dsimp only
  split
  · exact ⟨.refl, rfl, rfl⟩
  split
  · exact ⟨modAi_stepKeeps, rfl, rfl⟩
  split
  · exact ⟨modAi_stepKeeps, rfl, rfl⟩
  split
  · exact ⟨modAi_stepKeeps, rfl, rfl⟩
  · exact ⟨modAi_stepKeeps.trans raiseSum_stepKeeps, raiseSum_grp, raiseSum_shown⟩

theorem coldJunctions_steps {die : Int} {l : List ChanId} : StepKeeps s (each l (coldJunction die) s) ∧
    (each l (coldJunction die) s).grp = s.grp ∧ shownOf g p (each l (coldJunction die) s) = shownOf g p s :=
  ⟨each_stepKeeps fun _ _ => (coldJunction_steps (g := g) (p := p)).1,
    each_congr fun _ _ => (coldJunction_steps (g := g) (p := p)).2.1, each_congr fun _ _ => coldJunction_steps.2.2⟩

/-- The comparison of an echo changes the group's own mismatch and no other group (R177). -/
theorem checkEcho_steps {chans : BitVec 64} {b : Bool} : StepKeeps s (checkEcho h chans b s) ∧
    GrpOther h s (checkEcho h chans b s) ∧ shownOf g p (checkEcho h chans b s) = shownOf g p s := by
  unfold checkEcho
  extract_lets coarse differs one gm newCh newGrp s1 s2 who
  have h1 : StepKeeps s s1 := by
    unfold s1
    refine each_stepKeeps fun n s => ?_
    exact modFlt_stepKeeps fun _ => rfl
  have hg1 : s1.grp = s.grp := each_congr (π := State.grp) fun _ _ => rfl
  have hs1 : shownOf g p s1 = shownOf g p s := each_congr fun _ _ => rfl
  have h2 : StepKeeps s s2 := h1.trans modGrp_stepKeeps
  have hg2 : GrpOther h s s2 := (grpOther_of_grp hg1).trans modGrp_grpOther
  have hs2 : shownOf g p s2 = shownOf g p s := hs1
  clear_value s2
  split
  · exact ⟨h2.trans (modGrp_stepKeeps.trans raise_stepKeeps),
      hg2.trans (modGrp_grpOther.trans (grpOther_of_grp raise_grp)), raise_shown.trans hs2⟩
  · exact ⟨h2, hg2, hs2⟩

/-! ### The end of a group's transfer (R35, R39) -/

/-- The earlier words of a group's channels stay, with their quality changed. -/
def keepWords (g : GroupId) (rcv subst : Bool) (s : State) : State :=
  each (chansOf g) (fun n s => putIn n (keepWord s n rcv subst) s) s

/-- The words that a group has sent replace the earlier ones. -/
def putWords (g : GroupId) (tx : Tx) (s : State) : State :=
  each (List.finRange 8) (fun p s => putFormed (grpCh g p) tx.words[p]
    { s with pi := { s.pi with recs := s.pi.recs.set (grpCh g p) tx.recs[p] } }) s

/-- A transfer that fails is counted (R39). -/
def countLinkErr (g : GroupId) (s : State) : State :=
  { s with far := { s.far with
    linkErr := s.far.linkErr.set g (inc16 s.far.linkErr[g]), link100 := s.far.link100.set g (inc16 s.far.link100[g]) } }

/-- The transfer of a group ends. -/
def clearTx (g : GroupId) (s : State) : State := modGrp s g fun x => { x with tx := none }

/-- The group's power report and the frame of its input (R35). -/
def reported (g : GroupId) (x : InXferIn) (s0 s : State) : State :=
  { s with
    pgv := { s.pgv with power := s.pgv.power.set g (match s0.upd.linkVer[g] with
      | some m => if 2 ≤ m then x.power.getD g.val none else none
      | none => none) }
    frm := { s.frm with inNo := s.frm.no } }

/-- What follows the words of a completed transfer: cold junctions, the power report, status words and the echo. -/
def afterWords (g : GroupId) (x : InXferIn) (s0 s : State) : State :=
  checkEcho g x.chanMismatch (x.groupMismatch.getLsbD g.val)
    (putStatus g (clearTx g (reported g x s0 (each (chansOf g) (coldJunction (x.dieTemp.getD g.val 0)) s))))

theorem endXfer_eq : endXfer g x s =
    if linkFailed x s g then clearTx g (keepWords g (recovering s.grp[g]) (s.sys.degMask.getLsbD g.val) (countLinkErr g s))
    else if wordsOut s.grp[g] then putStatus g (clearTx g (keepWords g (recovering s.grp[g]) (s.sys.degMask.getLsbD g.val) s))
    else match s.grp[g].tx with
      | none => s
      | some tx => afterWords g x s (if s.sys.degMask.getLsbD g.val then keepWords g false (s.sys.degMask.getLsbD g.val) s
          else putWords g tx s) := by
  unfold endXfer
  extract_lets y excl clear keepAll far0 s0 rep
  split
  · rfl
  split
  · rfl
  cases s.grp[g].tx with
  | none => rfl
  | some tx =>
    dsimp -zeta only
    extract_lets s1 s2 frm1 pgv1 s3
    have h1 : s1 = if s.sys.degMask.getLsbD g.val then keepWords g false (s.sys.degMask.getLsbD g.val) s
          else putWords g tx s := rfl
    have h3 : s3 = reported g x s s2 := rfl
    unfold afterWords
    rw [← h1, h3]
    rfl

theorem keepWords_stepKeeps : StepKeeps s (keepWords g rcv subst s) := by
  unfold keepWords
  refine each_stepKeeps fun n s => ?_
  exact putIn_stepKeeps

theorem keepWords_grp : (keepWords g rcv subst s).grp = s.grp := each_congr (π := State.grp) fun _ _ => rfl

theorem putWords_stepKeeps {tx : Tx} : StepKeeps s (putWords g tx s) := by
  unfold putWords
  refine each_stepKeeps fun p s => ?_
  refine StepKeeps.trans ?_ putFormed_stepKeeps
  exact ⟨rfl, mismatches_of_ch rfl, rfl⟩

theorem putWords_grp {tx : Tx} : (putWords g tx s).grp = s.grp := each_congr (π := State.grp) fun _ _ => rfl

theorem keepWords_shown_other (hne : h ≠ g) : shownOf g p (keepWords h rcv subst s) = shownOf g p s :=
  each_congr_mem fun _ hk _ => putIn_shown (chansOf_other hne hk).symm

theorem putWords_shown_other {tx : Tx} (hne : h ≠ g) : shownOf g p (putWords h tx s) = shownOf g p s := by
  unfold putWords
  refine each_congr fun p1 s => (putFormed_shown (grpCh_ne hne).symm).trans ?_
  unfold shownOf
  dsimp only
  rw [vec_set_other _ _ (grpCh_ne hne).symm]

theorem countLinkErr_shown_other (hne : h ≠ g) : shownOf g p (countLinkErr h s) = shownOf g p s := by
  unfold shownOf countLinkErr
  dsimp only
  rw [vec_set_other _ _ hne.symm]

theorem clearTx_shown : shownOf g p (clearTx h s) = shownOf g p s := shownOf_congr rfl rfl

theorem clearTx_grpOther : GrpOther h s (clearTx h s) := modGrp_grpOther

theorem afterWords_steps {s0 : State} : StepKeeps s (afterWords h x s0 s) ∧ GrpOther h s (afterWords h x s0 s) ∧
    shownOf g p (afterWords h x s0 s) = shownOf g p s := by
  obtain ⟨hk, hgrp, hsh⟩ := coldJunctions_steps (s := s) (g := g) (p := p) (l := chansOf h) (die := x.dieTemp.getD h.val 0)
  unfold afterWords
  generalize each (chansOf h) (coldJunction (x.dieTemp.getD h.val 0)) s = s1 at hk hgrp hsh
  obtain ⟨hk2, hgrp2, hsh2⟩ := checkEcho_steps (h := h) (g := g) (p := p)
    (chans := x.chanMismatch) (b := x.groupMismatch.getLsbD h.val) (s := putStatus h (clearTx h (reported h x s0 s1)))
  have hrep : StepKeeps s1 (reported h x s0 s1) := ⟨rfl, mismatches_of_ch rfl, rfl⟩
  have hgr : GrpOther h s (reported h x s0 s1) := grpOther_of_grp hgrp
  have hsr : shownOf g p (reported h x s0 s1) = shownOf g p s := hsh
  exact ⟨(hk.trans (hrep.trans (modGrp_stepKeeps.trans putStatus_stepKeeps))).trans hk2,
    (hgr.trans (clearTx_grpOther.trans (grpOther_of_grp putStatus_grp))).trans hgrp2, hsh2.trans (putStatus_shown.trans hsr)⟩

theorem endXfer_stepKeeps : StepKeeps s (endXfer g x s) := by
  have hcount : StepKeeps s (countLinkErr g s) := ⟨rfl, mismatches_of_ch rfl, rfl⟩
  rw [endXfer_eq]
  split
  · exact (hcount.trans keepWords_stepKeeps).trans modGrp_stepKeeps
  split
  · exact (keepWords_stepKeeps.trans modGrp_stepKeeps).trans putStatus_stepKeeps
  split
  · exact .refl
  split
  · exact keepWords_stepKeeps.trans (afterWords_steps (g := 0) (p := 0)).1
  · exact putWords_stepKeeps.trans (afterWords_steps (g := 0) (p := 0)).1

/-- The end of a group's transfer changes no other group. -/
theorem endXfer_grpOther : GrpOther h s (endXfer h x s) := by
  have hkeep : ∀ (r e : Bool) (u : State), GrpOther h u (clearTx h (keepWords h r e u)) := fun _ _ _ =>
    (grpOther_of_grp keepWords_grp).trans clearTx_grpOther
  rw [endXfer_eq]
  split
  · exact GrpOther.trans (t := countLinkErr h s) (grpOther_of_grp rfl) (hkeep _ _ _)
  split
  · exact (hkeep _ _ _).trans (grpOther_of_grp putStatus_grp)
  split
  · exact grpOther_of_grp rfl
  split
  · exact (grpOther_of_grp keepWords_grp).trans (afterWords_steps (g := 0) (p := 0)).2.1
  · exact (grpOther_of_grp putWords_grp).trans (afterWords_steps (g := 0) (p := 0)).2.1

/-- The end of a group's transfer changes no word of another group. -/
theorem endXfer_shown_other (hne : h ≠ g) : shownOf g p (endXfer h x s) = shownOf g p s := by
  rw [endXfer_eq]
  split
  · exact clearTx_shown.trans ((keepWords_shown_other hne).trans (countLinkErr_shown_other hne))
  split
  · exact putStatus_shown.trans (clearTx_shown.trans (keepWords_shown_other hne))
  split
  · rfl
  split
  · exact afterWords_steps.2.2.trans (keepWords_shown_other hne)
  · exact afterWords_steps.2.2.trans (putWords_shown_other hne)

theorem endXfer_view_other (hne : h ≠ g) : xferView g p (endXfer h x s) = xferView g p s :=
  xferView_of endXfer_stepKeeps.sys (endXfer_grpOther g hne.symm) endXfer_stepKeeps.mm (endXfer_shown_other hne)

/-- The word of a channel whose configuration mismatches (R152, R177). -/
def shownWord (b : Bool) (w : W32) : W32 := if b then (w ||| 0x40) &&& 0xFFFFFFFE else w

theorem mmWord_eq : mmWord s n w = shownWord s.ch[n].flt.cfgmm w := rfl

theorem putIn_self : shownOf g p (putIn (grpCh g p) w s) =
    (w, s.pi.last[grpCh g p], s.pi.recs[grpCh g p], s.far.linkErr[g]) := by
  unfold shownOf putIn
  simp

/-- Where earlier words stay, a channel's word is its last with its quality changed. -/
theorem keepWords_shown : shownOf g p (keepWords g rcv subst s) =
    (keepWord s (grpCh g p) rcv subst, s.pi.last[grpCh g p], s.pi.recs[grpCh g p], s.far.linkErr[g]) := by
  have hkeep : ∀ u : State, mismatches u = mismatches s → u.pi.last = s.pi.last →
      keepWord u (grpCh g p) rcv subst = keepWord s (grpCh g p) rcv subst := fun u hm hl => by
    unfold keepWord heldWord
    rw [mmWord_eq, mmWord_eq, cfgmm_of hm, hl]
  refine each_at (x := grpCh g p) (P := fun u => mismatches u = mismatches s ∧ u.pi.last = s.pi.last ∧ u.pi.recs = s.pi.recs ∧
      u.far = s.far) (Q := fun u => shownOf g p u =
        (keepWord s (grpCh g p) rcv subst, s.pi.last[grpCh g p], s.pi.recs[grpCh g p], s.far.linkErr[g]))
    (fun k hk u hu => ?_) (fun u hu => ?_) (fun k hk u hu => ?_) chansOf_nodup (mem_chansOf.2 ⟨p, rfl⟩) ⟨rfl, rfl, rfl, rfl⟩
  · obtain ⟨h1, h2, h3, h4⟩ := hu
    exact ⟨putIn_stepKeeps.mm.trans h1, h2, h3, h4⟩
  · obtain ⟨h1, h2, h3, h4⟩ := hu
    rw [putIn_self, hkeep u h1 h2, h2, h3, h4]
  · rw [putIn_shown hk.symm, hu]

/-- The words that a group has sent are shown, with SUBST where a channel's configuration mismatches. -/
theorem putWords_shown {tx : Tx} : shownOf g p (putWords g tx s) =
    (shownWord s.ch[grpCh g p].flt.cfgmm tx.words[p], tx.words[p], tx.recs[p], s.far.linkErr[g]) := by
  refine each_at (x := p) (P := fun u => mismatches u = mismatches s ∧ u.far = s.far)
    (Q := fun u => shownOf g p u =
      (shownWord s.ch[grpCh g p].flt.cfgmm tx.words[p], tx.words[p], tx.recs[p], s.far.linkErr[g]))
    (fun k hk u hu => ?_) (fun u hu => ?_) (fun k hk u hu => ?_) (List.nodup_finRange 8) (List.mem_finRange p) ⟨rfl, rfl⟩
  · obtain ⟨h1, h2⟩ := hu
    exact ⟨(mismatches_of_ch rfl).trans h1, h2⟩
  · obtain ⟨h1, h2⟩ := hu
    unfold putFormed
    rw [putIn_self, mmWord_eq]
    dsimp only
    rw [cfgmm_of h1, h2]
    simp
  · refine Eq.trans ((putFormed_shown (grpCh_pos hk).symm).trans ?_) hu
    unfold shownOf
    dsimp only
    rw [vec_set_other _ _ (grpCh_pos hk).symm]

/-- A transfer that completes shows what the group has sent (R35). -/
theorem endXfer_completed {tx : Tx} (hf : linkFailed x s g = false) (hw : wordsOut s.grp[g] = false)
    (hd : s.sys.degMask.getLsbD g.val = false) (htx : s.grp[g].tx = some tx) : shownOf g p (endXfer g x s) =
      (shownWord s.ch[grpCh g p].flt.cfgmm tx.words[p], tx.words[p], tx.recs[p], s.far.linkErr[g]) := by
  have he : endXfer g x s = afterWords g x s (putWords g tx s) := by
    rw [endXfer_eq, if_neg (by rw [hf]; exact Bool.false_ne_true), if_neg (by rw [hw]; exact Bool.false_ne_true), htx]
    exact congrArg (afterWords g x s) (if_neg (by rw [hd]; exact Bool.false_ne_true))
  rw [he, afterWords_steps.2.2, putWords_shown]

/-- A transfer that fails keeps the latest words, with HELD, and is counted (R39). -/
theorem endXfer_failed (hf : linkFailed x s g = true) : shownOf g p (endXfer g x s) =
    (keepWord s (grpCh g p) (recovering s.grp[g]) (s.sys.degMask.getLsbD g.val), s.pi.last[grpCh g p], s.pi.recs[grpCh g p],
      inc16 s.far.linkErr[g]) := by
  have hc : shownOf g p (endXfer g x s) = shownOf g p
      (keepWords g (recovering s.grp[g]) (s.sys.degMask.getLsbD g.val) (countLinkErr g s)) := by
    rw [endXfer_eq, if_pos hf]
    rfl
  have hn : (countLinkErr g s).far.linkErr[g] = inc16 s.far.linkErr[g] := by simp [countLinkErr]
  rw [hc, keepWords_shown, hn]
  rfl

/-! ### The words that a group sends (R61, R85) -/

theorem chGroup_partner : chGroup (partner n) = chGroup n := by
  unfold chGroup partner
  apply Fin.ext
  split
  · dsimp only
    omega
  · dsimp only
    omega

/-- What the word of channel `n` is formed from is as it was. -/
structure SameChannel (n : ChanId) (s t : State) : Prop where
  grp : t.grp[chGroup n] = s.grp[chGroup n]
  ch : t.ch[n] = s.ch[n]
  pair : t.ch[partner n] = s.ch[partner n]
  pi : t.pi = s.pi
  cfg : t.cfg = s.cfg
  cal : t.cal = s.cal

theorem SameChannel.modeG (h : SameChannel n s t) : modeG t n = Machine.modeG s n := by
  unfold Machine.modeG chG
  rw [h.grp]

theorem SameChannel.invG (h : SameChannel n s t) : invG t n = Machine.invG s n := by
  unfold Machine.invG chG
  rw [h.modeG, h.grp]

theorem SameChannel.inQual (h : SameChannel n s t) {valid ovr rcv cal : Bool} :
    inQual t n valid ovr rcv cal = Machine.inQual s n valid ovr rcv cal := by
  have hf : factBad t n = factBad s n := by
    unfold factBad modeA chA act
    rw [h.cfg, h.cal]
  unfold Machine.inQual
  rw [h.ch, hf]

theorem SameChannel.wordReady (h : SameChannel n s t) : inPair t n = inPair s n ∧ wordReady t n = Machine.wordReady s n := by
  have hp : inPair t n = inPair s n := by
    unfold inPair
    rw [h.grp, h.modeG]
  refine ⟨hp, ?_⟩
  unfold Machine.wordReady
  rw [h.ch, h.pair, hp]

theorem SameChannel.analogWord (h : SameChannel n s t) : analogWord t n = Machine.analogWord s n := by
  obtain ⟨hp, hr⟩ := h.wordReady
  unfold Machine.analogWord heldWord
  simp only [h.ch, h.pi, hr, hp, h.grp, h.inQual]

theorem SameChannel.formWord (h : SameChannel n s t) : formWord t n = Machine.formWord s n := by
  unfold Machine.formWord
  rw [h.ch, h.modeG, h.invG, h.grp, h.analogWord]
  simp only [h.inQual]

theorem SameChannel.formRecs (h : SameChannel n s t) : formRecs t n = Machine.formRecs s n := by
  unfold Machine.formRecs
  rw [h.ch, h.modeG]

/-- What a group sends (R35). -/
def formedTx (g : GroupId) (s : State) : Tx :=
  { words := Vector.ofFn fun p => formWord s (grpCh g p), recs := Vector.ofFn fun p => formRecs s (grpCh g p) }

/-- The words of a group are on their way. -/
def putTx (g : GroupId) (s : State) : State :=
  modGrp s g fun x => { x with tx := if alive s g then some (formedTx g s) else none }

/-- A group sends its words (R35). -/
def sendWords (g : GroupId) (s : State) : State :=
  if alive s g then
    each (chansOf g) (fun n s' => modAi s' n fun a =>
      { a with shown := a.shown || wordReady s n, fresh := a.fresh && !(s.grp[g]).scan }) (putTx g s)
  else putTx g s

/-- What sending leaves: all but the groups and the channels. -/
def SendKeeps (s t : State) : Prop := t.pi = s.pi ∧ t.cfg = s.cfg ∧ t.cal = s.cal

theorem modAi_ch_other {f : ChAi → ChAi} (hk : k ≠ n) : (modAi s n f).ch[k] = s.ch[k] := vec_set_other _ _ hk

theorem sendWords_keeps : SendKeeps s (sendWords g s) := by
  unfold sendWords
  split
  · exact ⟨each_congr (π := State.pi) fun _ _ => rfl, each_congr (π := State.cfg) fun _ _ => rfl,
      each_congr (π := State.cal) fun _ _ => rfl⟩
  · exact ⟨rfl, rfl, rfl⟩

theorem sendWords_ch_other (hk : chGroup k ≠ g) : (sendWords g s).ch[k] = s.ch[k] := by
  unfold sendWords
  split
  · refine each_congr_mem (π := fun s : State => s.ch[k]) fun y hy s => modAi_ch_other fun heq => hk ?_
    obtain ⟨p, rfl⟩ := mem_chansOf.1 hy
    rw [heq, chGroup_grpCh]
  · rfl

theorem sendWords_grp : (sendWords g s).grp = (putTx g s).grp := by
  unfold sendWords
  split
  · exact each_congr (π := State.grp) fun _ _ => rfl
  · rfl

theorem sendWords_grp_other (hne : g ≠ h) : (sendWords h s).grp[g] = s.grp[g] := by
  have hg : (putTx h s).grp[g] = s.grp[g] := modGrp_other _ _ hne
  rw [← hg]
  exact congrArg (fun v : Vector Grp 8 => v[g]) sendWords_grp

theorem sendWords_tx (ha : alive s g = true) : (sendWords g s).grp[g].tx = some (formedTx g s) := by
  have hg : (putTx g s).grp[g].tx = some (formedTx g s) := by
    unfold putTx
    rw [modGrp_self]
    exact if_pos ha
  rw [← hg]
  exact congrArg (fun v : Vector Grp 8 => v[g].tx) sendWords_grp

/-- Nothing that the words of group `g` are formed from has changed. -/
structure SameGroup (g : GroupId) (s t : State) : Prop where
  grp : t.grp[g] = s.grp[g]
  ch : ∀ k, chGroup k = g → t.ch[k] = s.ch[k]
  keeps : SendKeeps s t

theorem SameGroup.channel (h : SameGroup g s t) : SameChannel (grpCh g p) s t := by
  obtain ⟨hpi, hcfg, hcal⟩ := h.keeps
  have hp : chGroup (partner (grpCh g p)) = g := chGroup_partner.trans chGroup_grpCh
  have hg : ∀ g1, g1 = g → t.grp[g1] = s.grp[g1] := fun _ heq => heq ▸ h.grp
  exact ⟨hg _ chGroup_grpCh, h.ch _ chGroup_grpCh, h.ch _ hp, hpi, hcfg, hcal⟩

theorem SameGroup.sendWords (h1 : SameGroup g s t) (hne : h ≠ g) : SameGroup g s (sendWords h t) := by
  obtain ⟨hpi, hcfg, hcal⟩ := h1.keeps
  obtain ⟨hpi1, hcfg1, hcal1⟩ := sendWords_keeps (s := t) (g := h)
  refine ⟨(sendWords_grp_other hne.symm).trans h1.grp, fun k hk => ?_, hpi1.trans hpi, hcfg1.trans hcfg, hcal1.trans hcal⟩
  exact (sendWords_ch_other (by rw [hk]; exact hne.symm)).trans (h1.ch k hk)

/-- A named group that is powered has sent the words its channels form. -/
def HasSent (g : GroupId) (s t : State) : Prop := ∃ tx, t.grp[g].tx = some tx ∧
  ∀ p : Fin 8, tx.words[p] = formWord s (grpCh g p) ∧ tx.recs[p] = formRecs s (grpCh g p)

theorem sendWords_hasSent (h : SameGroup g s t) (ha : alive s g = true) : HasSent g s (sendWords g t) := by
  have hat : alive t g = true := by
    unfold alive at ha ⊢
    rwa [h.grp]
  refine ⟨_, sendWords_tx hat, fun p => ?_⟩
  rw [← h.channel.formWord, ← h.channel.formRecs]
  simp [formedTx]

theorem each_sendWords {l : List GroupId} (hn : l.Nodup) (hg : g ∈ l) (ha : alive s g = true) :
    HasSent g s (each l sendWords (atSlot slot s)) := by
  refine each_at (x := g) (P := SameGroup g s) (Q := HasSent g s) (fun h hne u hu => hu.sendWords hne)
    (fun u hu => sendWords_hasSent hu ha) (fun h hne u hu => ?_) hn hg ⟨rfl, fun _ _ => rfl, rfl, rfl, rfl⟩
  obtain ⟨tx, htx, hw⟩ := hu
  exact ⟨tx, by rw [sendWords_grp_other hne.symm]; exact htx, hw⟩

theorem slotGroups_nodup : (slotGroups s slot).Nodup := (List.nodup_finRange 8).filter _

theorem exec_inXfer (hin : inService s = true) (hs : slotIs s slot 2 = true) :
    exec (.inXfer slot) s = .next (each (slotGroups s slot) sendWords (atSlot slot s)) :=
  congrArg Host.Outcome.next ((if_pos hin).trans (if_pos hs))

/-! ### The transfers of a slot end -/

/-- The groups of a slot whose transfers end, before LINK_ERR is raised. -/
def slotEnded (slot : BitVec 8) (x : InXferIn) (s : State) : State := each (slotGroups s slot) (fun g s => endXfer g x s) s

theorem exec_inXferEnd (hin : inService s = true) (hs : slotIs s slot 2 = true) :
    ∃ t, exec (.inXferEnd slot x) s = .next t ∧ t.pi = (slotEnded slot x s).pi ∧ t.far = (slotEnded slot x s).far := by
  have he : exec (.inXferEnd slot x) s = .next (
      if ((slotGroups s slot).filter fun g => linkFailed x s g).isEmpty || s.frm.linkEv then slotEnded slot x s
      else raise 112 (BitVec.ofNat 32 ((((slotGroups s slot).filter fun g => linkFailed x s g).map fun g => 2 ^ g.val).sum))
        { slotEnded slot x s with frm := { (slotEnded slot x s).frm with linkEv := true } }) :=
    congrArg Host.Outcome.next ((if_pos hin).trans (if_pos hs))
  refine ⟨_, he, ?_⟩
  split
  · exact ⟨rfl, rfl⟩
  · exact ⟨raise_pi, raise_far⟩

theorem slotEnded_outw : (slotEnded slot x s).pi.outw = s.pi.outw :=
  each_congr (π := fun s : State => s.pi.outw) fun _ _ => endXfer_stepKeeps.outw

/-- A group of the slot shows what the end of its own transfer makes of it. -/
theorem slotEnded_shown {v : W32 × W32 × Vector (BitVec 64) 4 × HWord} (hg : g ∈ slotGroups s slot)
    (h : ∀ u, xferView g p u = xferView g p s → shownOf g p (endXfer g x u) = v) : shownOf g p (slotEnded slot x s) = v :=
  each_at (x := g) (P := fun u => xferView g p u = xferView g p s) (Q := fun u => shownOf g p u = v)
    (fun _ hne _ hu => (endXfer_view_other hne).trans hu) h (fun _ hne _ hu => (endXfer_shown_other hne).trans hu)
    slotGroups_nodup hg rfl

theorem slotEnded_other (hg : g ∉ slotGroups s slot) : shownOf g p (slotEnded slot x s) = shownOf g p s :=
  each_congr_mem fun _ hy _ => endXfer_shown_other fun heq => hg (heq ▸ hy)

theorem linkFailed_of_view (hv : u.grp[g] = s.grp[g]) : linkFailed x u g = linkFailed x s g := by
  unfold linkFailed alive
  rw [hv]

theorem slotEnded_completed {tx : Tx} (hg : g ∈ slotGroups s slot) (hl : x.linkErr.getLsbD g.val = false)
    (hw : wordsOut s.grp[g] = false) (hd : s.sys.degMask.getLsbD g.val = false) (htx : s.grp[g].tx = some tx) :
    shownOf g p (slotEnded slot x s) =
      (shownWord s.ch[grpCh g p].flt.cfgmm tx.words[p], tx.words[p], tx.recs[p], s.far.linkErr[g]) := by
  refine slotEnded_shown hg fun u hu => ?_
  obtain ⟨hsys, hgrp, hmm, hsh⟩ := parts_of_view hu
  have hfar : u.far.linkErr[g] = s.far.linkErr[g] := (congrArg (fun y => y.2.2.2) hsh :)
  rw [endXfer_completed (by unfold linkFailed; rw [hl]; rfl) (by rw [hgrp]; exact hw) (by rw [hsys]; exact hd)
    (by rw [hgrp]; exact htx), cfgmm_of hmm, hfar]

theorem slotEnded_failed (hg : g ∈ slotGroups s slot) (hf : linkFailed x s g = true) : shownOf g p (slotEnded slot x s) =
    (keepWord s (grpCh g p) (recovering s.grp[g]) (s.sys.degMask.getLsbD g.val), s.pi.last[grpCh g p], s.pi.recs[grpCh g p],
      inc16 s.far.linkErr[g]) := by
  refine slotEnded_shown hg fun u hu => ?_
  obtain ⟨hsys, hgrp, hmm, hsh⟩ := parts_of_view hu
  unfold shownOf at hsh
  obtain ⟨-, hlast, hrecs, hfar⟩ := by simpa only [Prod.mk.injEq] using hsh
  rw [endXfer_failed (by rw [linkFailed_of_view hgrp]; exact hf)]
  unfold keepWord heldWord
  rw [mmWord_eq, mmWord_eq, cfgmm_of hmm, hgrp, hsys, hlast, hrecs, hfar]

/-- A group in normal supply that is not excluded keeps its word with HELD and nothing more (R39). -/
theorem keepWord_held (hw : wordsOut s.grp[g] = false) : recovering s.grp[g] = false ∧
    keepWord s n false false = shownWord s.ch[n].flt.cfgmm (s.pi.last[n] ||| 0x20) := by
  refine ⟨?_, ?_⟩
  · unfold wordsOut at hw
    have hn : s.grp[g].supply = .normal := by simpa using (Bool.or_eq_false_iff.1 hw).1
    unfold recovering
    rw [hn]
    decide
  · unfold keepWord heldWord
    rw [mmWord_eq]
    simp

end

/-- Settles O29: group by group, as a slot's groups send their words and as their transfers end. -/
theorem inputTransfers : Obligations.InputTransfers := by
  unfold Obligations.InputTransfers
  intro s slot hin hs
  refine ⟨⟨_, exec_inXfer hin hs, ?_, fun g hg ha => each_sendWords slotGroups_nodup hg ha, fun g hg => ?_⟩, fun x => ?_⟩
  · exact each_congr (π := State.pi) fun _ _ => sendWords_keeps.1
  · exact each_congr_mem (π := fun s : State => s.grp[g]) fun y hy _ => sendWords_grp_other fun heq => hg (heq ▸ hy)
  obtain ⟨t, ht, hpi, hfar⟩ := exec_inXferEnd (x := x) hin hs
  have hsh : ∀ g p, shownOf g p t = shownOf g p (slotEnded slot x s) := fun _ _ => shownOf_congr hpi hfar
  refine ⟨t, ht, by rw [hpi]; exact slotEnded_outw, fun g hg hw hd p => ⟨fun hl tx htx => ?_, fun hl => ?_⟩,
    fun g hg ha hl => ?_, fun g hg p => ?_⟩
  · have h := (hsh g p).trans (slotEnded_completed hg hl hw hd htx)
    unfold shownOf at h
    obtain ⟨hinw, hlast, hrecs, -⟩ := by simpa only [Prod.mk.injEq] using h
    exact ⟨hinw, hlast, hrecs⟩
  · have ha : alive s g = true := by
      unfold wordsOut at hw
      have hn : s.grp[g].supply = .normal := by simpa using (Bool.or_eq_false_iff.1 hw).1
      unfold alive
      rw [hn]
      decide
    have h := (hsh g p).trans (slotEnded_failed hg (by unfold linkFailed; rw [hl, ha]; rfl))
    obtain ⟨hrec, hkeep⟩ := keepWord_held (n := grpCh g p) hw
    rw [hrec, hd, hkeep] at h
    unfold shownOf at h
    obtain ⟨hinw, hlast, -⟩ := by simpa only [Prod.mk.injEq] using h
    exact ⟨hinw, hlast⟩
  · have h := (hsh g 0).trans (slotEnded_failed hg (by unfold linkFailed; rw [hl, ha]; rfl))
    exact (congrArg (fun y => y.2.2.2) h :)
  · exact (congrArg (fun y => y.1) ((hsh g p).trans (slotEnded_other hg)) :)

end Sys2Proof.Machine
end

section
/-! The field supply of a group, and HOLD (R166 to R169, R174 to R176). -/

open Sys2Proof Sys2Proof.Machine
namespace Sys2Proof.Machine

section
variable {s t u : State} {g h : GroupId} {p : Fin 8} {n k : ChanId} {mv : HWord} {st : Supply} {e : Fin 128} {v : W32}

/-! ### An output goes off (R159, R167, R174) -/

/-- No channel but `n` changes. -/
def ChOther (n : ChanId) (s t : State) : Prop := ∀ k : ChanId, k ≠ n → t.ch[k] = s.ch[k]

theorem chOther_of_chs (hc : t.ch = s.ch) : ChOther n s t := fun k _ => by rw [hc]

theorem ChOther.trans (h1 : ChOther n s t) (h2 : ChOther n t u) : ChOther n s u := fun k hk => (h2 k hk).trans (h1 k hk)

theorem modCh_chOther {f : Chan → Chan} : ChOther n s (modCh s n f) := fun _ hk => vec_set_other _ _ hk

theorem protectCh_spec : ChOther n s (protectCh n s) ∧ (protectCh n s).ch[n].out.applied = s.ch[n].out.applied := by
  have h1 : (onCore (protectConflict n) s).ch = s.ch := onCore_chs fun _ => protectConflict_chs
  unfold protectCh
  dsimp only
  generalize onCore (protectConflict n) s = s1 at h1 ⊢
  refine ⟨(chOther_of_chs h1).trans modCh_chOther, ?_⟩
  unfold modOut
  rw [modCh_self]
  dsimp only
  rw [h1]

/-- An output is off, at 0. -/
def IsOff (n : ChanId) (s : State) : Prop := s.ch[n].out.applied = 0 ∧ s.ch[n].out.off = true

theorem startBusy_chOther {b : BitVec 2} : ChOther n s (startBusy n b s) := by
  unfold startBusy
  split
  · exact chOther_of_chs rfl
  · exact modCh_chOther

theorem startBusy_isOff {b : BitVec 2} (hoff : IsOff n s) : IsOff n (startBusy n b s) := by
  unfold startBusy
  split
  · exact hoff
  · unfold IsOff modFlt
    rw [modCh_self]
    exact hoff

theorem isOff_of_chs (hc : t.ch = s.ch) (hoff : IsOff n s) : IsOff n t := by
  unfold IsOff
  rwa [hc]

theorem latchQual_isOff (hoff : IsOff n s) : IsOff n (latchQual n s) := by
  unfold IsOff latchQual modOut
  rw [modCh_self]
  exact hoff

theorem switchOff_chOther : ChOther n s (switchOff n s) := by
  have hend : ∀ u : State, ChOther n u (latchQual n (onCore (endLease n) u)) := fun u =>
    (chOther_of_chs (onCore_chs fun _ => endLease_chs)).trans modCh_chOther
  unfold switchOff
  dsimp only
  split
  · exact chOther_of_chs rfl
  · exact (modCh_chOther.trans startBusy_chOther).trans (hend _)

theorem switchOff_isOff (hm : isOutMode (modeG s n) = true) : IsOff n (switchOff n s) := by
  have hend : ∀ u : State, IsOff n u → IsOff n (latchQual n (onCore (endLease n) u)) := fun u hu =>
    latchQual_isOff (isOff_of_chs (onCore_chs fun _ => endLease_chs) hu)
  unfold switchOff
  dsimp only
  rw [if_neg (by rw [hm]; decide)]
  refine hend _ (startBusy_isOff ?_)
  unfold IsOff modOut
  rw [modCh_self]
  exact ⟨rfl, rfl⟩

/-- A mode lies in the portion that the group die holds, which the work of the channels leaves. -/
theorem modeG_of_grp (hg : t.grp = s.grp) : modeG t n = modeG s n := by
  unfold modeG chG
  rw [hg]

theorem supplyOff_chOther : ChOther n s (supplyOff n s) := by
  have h1 : ChOther n s (switchOff n (protectCh n s)) := protectCh_spec.1.trans switchOff_chOther
  unfold supplyOff
  dsimp only
  generalize switchOff n (protectCh n s) = s1 at h1 ⊢
  exact h1.trans (modCh_chOther.trans modCh_chOther)

theorem supplyOff_isOff (hm : isOutMode (modeG s n) = true) :
    IsOff n (supplyOff n s) ∧ (supplyOff n s).ch[n].out.subst = true := by
  have hoff : IsOff n (switchOff n (protectCh n s)) := switchOff_isOff (by
    rw [modeG_of_grp (grp_of_channels protectCh_apartCh)]
    exact hm)
  unfold supplyOff
  dsimp only
  generalize switchOff n (protectCh n s) = s1 at hoff ⊢
  unfold IsOff modAi modOut
  rw [modCh_self, modCh_self]
  obtain ⟨h1, h2⟩ := hoff
  exact ⟨⟨h1, h2⟩, rfl⟩

theorem cal_of_channels (h : apartFromChannels t = apartFromChannels s) : t.cal = s.cal := (congrArg State.cal h :)

theorem supplyOff_grp : (supplyOff n s).grp = s.grp := grp_of_channels supplyOff_apartCh

theorem supplyOff_cal : (supplyOff n s).cal = s.cal := cal_of_channels supplyOff_apartCh

theorem portion_of_aside (h : lanesAside t = lanesAside s) : t.grp[g].portion = s.grp[g].portion :=
  (congrArg Grp.portion (outOfLanes_of_aside h) :)

/-- The outputs of a group go off one by one. -/
theorem each_supplyOff (hm : isOutMode (modeG s (grpCh g p)) = true) :
    IsOff (grpCh g p) (each (chansOf g) supplyOff s) ∧ (each (chansOf g) supplyOff s).ch[grpCh g p].out.subst = true := by
  refine each_at (x := grpCh g p) (f := supplyOff) (s := s) (P := fun u => u.grp = s.grp)
    (Q := fun u => IsOff (grpCh g p) u ∧ u.ch[grpCh g p].out.subst = true)
    (fun k _ u hu => supplyOff_grp.trans hu)
    (fun u hu => supplyOff_isOff (by rw [modeG_of_grp hu]; exact hm)) (fun k hk u hu => ?_) chansOf_nodup
    (mem_chansOf.2 ⟨p, rfl⟩) rfl
  have hch := supplyOff_chOther (s := u) (grpCh g p) hk.symm
  unfold IsOff at hu ⊢
  rw [hch]
  exact hu

/-! ### The supply of a group leaves its range (R166, R167) -/

theorem stopLanes_lanesAside : lanesAside (stopLanes g s) = lanesAside s := by
  unfold stopLanes
  refine (modGrp_lanesAside ?_).trans suspendRot_lanesAside
  exact fun _ => rfl

theorem stopLanes_modeG : modeG (stopLanes g s) n = modeG s n := by
  have h1 : (stopLanes g s).grp[chGroup n].portion = s.grp[chGroup n].portion := portion_of_aside stopLanes_lanesAside
  unfold modeG chG
  rw [h1]

theorem modRot_grpOther {f : Rot → Rot} : GrpOther g s (modRot s g f) := modGrp_grpOther

/-- The requests of a rotation end or are withdrawn. -/
theorem suspendRot_spec : GrpOther g s (suspendRot g s) ∧ (suspendRot g s).cal = s.cal := by
  unfold suspendRot
  extract_lets s1
  have h1 : apartFromChannels s1 = apartFromChannels s := by
    unfold s1
    rw [endOp_apartCh, dropReq_apartCh, dropReq_apartCh]
  have hg : s1.grp = s.grp := grp_of_channels h1
  have hc : s1.cal = s.cal := cal_of_channels h1
  clear_value s1
  exact ⟨(grpOther_of_grp hg).trans (modGrp_grpOther.trans modRot_grpOther), hc⟩

theorem stopLanes_spec : GrpOther g s (stopLanes g s) ∧ (stopLanes g s).cal = s.cal := by
  obtain ⟨hg, hc⟩ := suspendRot_spec (g := g) (s := s)
  unfold stopLanes
  generalize suspendRot g s = s1 at hg hc ⊢
  exact ⟨hg.trans modGrp_grpOther, hc⟩

theorem raiseOn_of_on (hon : coreOn s = true) : raiseOn e v s = raise e v s := onCore_of_on hon

theorem raiseOn_ch : (raiseOn e v s).ch = s.ch := onCore_chs fun _ => raise_ch e v

theorem raiseOn_grp : (raiseOn e v s).grp = s.grp := grp_of_channels raiseOn_apartCh

/-- The state in which a group's supply has left its range, before LPFAIL is raised. -/
def supplyLeft (g : GroupId) (st : Supply) (mv : HWord) (s : State) : State :=
  modGrp (each (chansOf g) supplyOff (stopLanes g s)) g fun x =>
    { x with supply := st, lplus := mv, restWait := false, rstRec := false }

theorem supplyFail_eq : supplyFail g st mv s =
    raiseOn (evLpfail g) ((supplyCode st).setWidth 32) (supplyLeft g st mv s) := rfl

theorem supplyLeft_sys : (supplyLeft g st mv s).sys = s.sys := by
  have h1 : (each (chansOf g) supplyOff (stopLanes g s)).sys = s.sys :=
    (each_congr (π := State.sys) fun _ _ => sys_of_channels supplyOff_apartCh).trans stopLanes_sys
  unfold supplyLeft
  rw [modGrp_sys, h1]

theorem evLpfail_ne : evLpfail g ≠ evLogWrap := by
  intro heq
  have hv := congrArg Fin.val heq
  unfold evLpfail evLogWrap at hv
  have hg := g.isLt
  dsimp only at hv
  omega

theorem supplyFail_spec : (supplyFail g st mv s).grp[g].supply = st ∧
    (∀ p : Fin 8, isOutMode (modeG s (grpCh g p)) = true → IsOff (grpCh g p) (supplyFail g st mv s) ∧
      (supplyFail g st mv s).ch[grpCh g p].out.subst = true) ∧
    (coreOn s = true → (supplyFail g st mv s).evt.pend.getLsbD (evLpfail g).val = true ∧
      (supplyFail g st mv s).evt.recs[evLpfail g].payload = (supplyCode st).setWidth 32) := by
  rw [supplyFail_eq]
  refine ⟨?_, fun p hm => ?_, fun hon => ?_⟩
  · have hg : (supplyLeft g st mv s).grp[g].supply = st := by
      unfold supplyLeft
      rw [modGrp_self]
    rw [raiseOn_grp]
    exact hg
  · have hoff := each_supplyOff (s := stopLanes g s) (g := g) (p := p) (by rw [stopLanes_modeG]; exact hm)
    have hch : (raiseOn (evLpfail g) ((supplyCode st).setWidth 32) (supplyLeft g st mv s)).ch =
        (each (chansOf g) supplyOff (stopLanes g s)).ch := raiseOn_ch
    unfold IsOff at hoff ⊢
    rwa [hch]
  · have hon1 : coreOn (supplyLeft g st mv s) = true := by
      unfold coreOn at hon ⊢
      rwa [supplyLeft_sys]
    rw [raiseOn_of_on hon1]
    obtain ⟨-, hp, -, hpend⟩ := raise_raised (evLpfail g) ((supplyCode st).setWidth 32) (supplyLeft g st mv s) evLpfail_ne
    exact ⟨hpend, hp⟩

/-! ### A group die without power (R10, R143) -/

theorem spGet_append_skip {w : Nat} {d : Nat → BitVec w} {a b : Sparse w} {j : Nat} (h : ∀ x ∈ a, x.1 ≠ j) :
    spGet d (a ++ b) j = spGet d b j := by
  induction a with
  | nil => rfl
  | cons x a ih =>
    obtain ⟨i, y⟩ := x
    have hne : i ≠ j := h (i, y) List.mem_cons_self
    exact (if_neg hne).trans (ih fun z hz => h z (List.mem_cons_of_mem _ hz))

theorem spGet_append_absent {w : Nat} {d : Nat → BitVec w} {a b : Sparse w} {j : Nat} (h : ∀ x ∈ b, x.1 ≠ j) :
    spGet d (a ++ b) j = spGet d a j := by
  induction a with
  | nil => simpa using spGet_append_skip (a := b) (b := []) (d := d) h
  | cons x a ih =>
    obtain ⟨i, y⟩ := x
    by_cases hij : i = j
    · exact (if_pos hij).trans (if_pos hij).symm
    · exact (if_neg hij).trans (ih.trans (if_neg hij).symm)

theorem spGet_filter {w : Nat} {d : Nat → BitVec w} {f : Nat → Bool} {a : Sparse w} {j : Nat} (h : f j = true) :
    spGet d (a.filter fun x => f x.1) j = spGet d a j := by
  induction a with
  | nil => rfl
  | cons x a ih =>
    obtain ⟨i, y⟩ := x
    by_cases hij : i = j
    · subst hij
      rw [List.filter_cons_of_pos (by exact h)]
      exact (if_pos rfl).trans (if_pos rfl).symm
    · refine Eq.trans ?_ (ih.trans (if_neg hij).symm)
      by_cases hf : f i = true
      · rw [List.filter_cons_of_pos (by exact hf)]
        exact if_neg hij
      · rw [List.filter_cons_of_neg (by exact hf)]

/-- The lane corrections of a group are as stored at test (R143). -/
theorem resetLaneCorr_get {i : Nat} (hi : i < 432) : calGet (resetLaneCorr g s) 5 (432 * g.val + i) =
    spGet calNominal s.cal.atTest (5 * 65536 + 432 * g.val + i) := by
  have hk : 65536 * 5 + (432 * g.val + i) = 5 * 65536 + 432 * g.val + i := by omega
  unfold calGet resetLaneCorr
  dsimp only
  rw [hk, spGet_append_absent, spGet_append_skip]
  · exact spGet_filter (f := fun a => decide (5 * 65536 + 432 * g.val ≤ a ∧ a < 5 * 65536 + 432 * g.val + 432))
      (by simp only [decide_eq_true_eq]; omega)
  · intro x hx
    have := (List.mem_filter.1 hx).2
    simp only [decide_eq_true_eq] at this
    omega
  · intro x hx
    have := (List.mem_filter.1 hx).2
    simp only [decide_eq_true_eq] at this
    omega

theorem acceptIfDone_keeps {t0 : Nat} : (acceptIfDone t0 s).grp = s.grp ∧ (acceptIfDone t0 s).cal = s.cal := by
  unfold acceptIfDone
  split
  · exact ⟨answerCommit_field fun _ => rfl, answerCommit_field fun _ => rfl⟩
  · exact ⟨rfl, rfl⟩

/-- The channels of a group whose die has lost its power. -/
def powerLost (g : GroupId) (s : State) : State :=
  each (chansOf g) (fun n s => modFlt s n fun f =>
    { f with busy := 0, queued := none, suspect := false, limit := false, opn := false, wbOpen := false })
    (resetLaneCorr g (each (chansOf g) supplyOff (stopLanes g s)))

/-- A group die without power (R10, R151, R166). -/
def unpower (g : GroupId) (s : State) : State :=
  modRot (modGrp s g fun x =>
    { x with supply := .unpowered, lplus := 0, lpwarn := false, hold := false, holdDone := false, hbRun := 0,
             hbFrm := none, heard := false, restWait := false, rstRec := false, conv := #v[0, 1, 2],
             ovc := false, xfer := none, xferNew := false, tx := none, selfFail := false }) g
    fun r => { r with step := 0, fails := 0, other := false }

theorem exec_fieldUnpowered (ha : alive s g = true) : exec (.fieldUnpowered g) s =
    .next (onCore (acceptIfDone s.now) (unpower g (powerLost g s))) := congrArg Host.Outcome.next (if_pos ha)

theorem unpower_self : (unpower g s).grp[g].supply = .unpowered ∧ (unpower g s).grp[g].hold = false ∧
    (unpower g s).grp[g].heard = false ∧ (unpower g s).grp[g].conv = #v[0, 1, 2] ∧ (unpower g s).grp[g].lplus = 0 := by
  unfold unpower modRot
  rw [modGrp_self, modGrp_self]
  exact ⟨rfl, rfl, rfl, rfl, rfl⟩

theorem unpower_cal : (unpower g s).cal = s.cal := rfl

theorem calGet_of_cal {a i : Nat} (hc : t.cal = s.cal) : calGet t a i = calGet s a i := by
  unfold calGet
  rw [hc]

theorem unpower_grpOther : GrpOther g s (unpower g s) := modGrp_grpOther.trans modRot_grpOther

/-- The outputs of a group have gone off as its power was lost. -/
theorem suppliesOff_spec : GrpOther g s (each (chansOf g) supplyOff (stopLanes g s)) ∧
    (each (chansOf g) supplyOff (stopLanes g s)).cal = s.cal := by
  obtain ⟨hg, hc⟩ := stopLanes_spec (g := g) (s := s)
  generalize stopLanes g s = s1 at hg hc ⊢
  exact ⟨hg.trans (grpOther_of_grp (each_congr (π := State.grp) fun _ _ => supplyOff_grp)),
    (each_congr (π := State.cal) fun _ _ => supplyOff_cal).trans hc⟩

theorem powerLost_spec {i : Nat} (hi : i < 432) : GrpOther g s (powerLost g s) ∧ calGet (powerLost g s) 5 (432 * g.val + i) =
    spGet calNominal s.cal.atTest (5 * 65536 + 432 * g.val + i) := by
  obtain ⟨hg, hc⟩ := suppliesOff_spec (g := g) (s := s)
  unfold powerLost
  generalize each (chansOf g) supplyOff (stopLanes g s) = s1 at hg hc ⊢
  have hget := resetLaneCorr_get (s := s1) (g := g) hi
  have hgr : GrpOther g s (resetLaneCorr g s1) := hg.trans (grpOther_of_grp rfl)
  rw [hc] at hget
  generalize resetLaneCorr g s1 = s2 at hget hgr ⊢
  refine ⟨hgr.trans (grpOther_of_grp (each_congr (π := State.grp) fun _ _ => rfl)), Eq.trans ?_ hget⟩
  exact each_congr (π := fun s : State => calGet s 5 (432 * g.val + i)) fun _ _ => rfl

theorem acceptOnCore_keeps {t0 : Nat} : (onCore (acceptIfDone t0) s).grp = s.grp ∧ (onCore (acceptIfDone t0) s).cal = s.cal := by
  unfold onCore
  split
  · exact acceptIfDone_keeps
  · exact ⟨rfl, rfl⟩

/-- FIELD_UNPOWERED (R10, R143, R151, R166). -/
theorem fieldUnpowered (ha : alive s g = true) : ∃ t, exec (.fieldUnpowered g) s = .next t ∧ t.grp[g].supply = .unpowered ∧
    t.grp[g].hold = false ∧ t.grp[g].heard = false ∧ t.grp[g].conv = #v[0, 1, 2] ∧ t.grp[g].lplus = 0 ∧
    (∀ h : GroupId, h ≠ g → t.grp[h] = s.grp[h]) ∧ ∀ i < 432,
      calGet t 5 (432 * g.val + i) = spGet calNominal s.cal.atTest (5 * 65536 + 432 * g.val + i) := by
  obtain ⟨hgrp, hcal⟩ := acceptOnCore_keeps (t0 := s.now) (s := unpower g (powerLost g s))
  have hother : GrpOther g s (unpower g (powerLost g s)) := (powerLost_spec (i := 0) (by decide)).1.trans unpower_grpOther
  obtain ⟨h1, h2, h3, h4, h5⟩ := unpower_self (g := g) (s := powerLost g s)
  refine ⟨_, exec_fieldUnpowered ha, ?_⟩
  generalize onCore (acceptIfDone s.now) (unpower g (powerLost g s)) = t at hgrp hcal
  rw [hgrp]
  refine ⟨h1, h2, h3, h4, h5, hother, fun i hi => ?_⟩
  rw [calGet_of_cal hcal, calGet_of_cal unpower_cal]
  exact (powerLost_spec hi).2

/-! ### The supply of a group returns (R169, R175) -/

/-- A group die starts up, or recovers (R169). -/
def restoredGrp (x : Supply) (fbs : Option Nat) (mv : HWord) (y : Grp) : Grp :=
  { y with
    supply := if x = .unpowered then .startup else .recovery, lplus := mv
    lpwarn := y.lpwarn && decide (mv.toNat ≤ 18500), fbs := (fbsCode fbs).1, strapBad := (fbsCode fbs).2
    rstRec := true, scans := 0, scanOk := false, selfChk := false, exitReq := false }

/-- A running core die gives the group its portion (R23). -/
def portionGiven (g : GroupId) (s : State) : State := onCore (fun s => joinPortions g (givePortion g s)) s

theorem exec_supplyRestored {fbs : Option Nat}
    (hx : s.grp[g].supply = .unpowered ∨ s.grp[g].supply = .uvoff ∨ s.grp[g].supply = .overvoltage) :
    exec (.supplyRestored g fbs mv) s = .next (
      if s.grp[g].supply = .unpowered then
        each (chansOf g) (fun n => enterMode n .none) (portionGiven g (modGrp s g (restoredGrp s.grp[g].supply fbs mv)))
      else portionGiven g (modGrp s g (restoredGrp s.grp[g].supply fbs mv))) := congrArg Host.Outcome.next (if_pos hx)

theorem joinPortions_grp : (joinPortions g s).grp = s.grp := by
  unfold joinPortions
  split <;> rfl

/-- A group that is given its portion keeps the rest. -/
theorem portionGiven_self :
    (portionGiven g s).grp[g].supply = s.grp[g].supply ∧ (portionGiven g s).grp[g].lplus = s.grp[g].lplus ∧
    (portionGiven g s).grp[g].fbs = s.grp[g].fbs ∧ (portionGiven g s).grp[g].strapBad = s.grp[g].strapBad ∧
    (coreOn s = true → (portionGiven g s).grp[g].portion = s.cfg.active) := by
  unfold portionGiven onCore
  by_cases hon : coreOn s = true
  · rw [if_pos hon, joinPortions_grp, givePortion, modGrp_self]
    exact ⟨rfl, rfl, rfl, rfl, fun _ => rfl⟩
  · rw [if_neg hon]
    exact ⟨rfl, rfl, rfl, rfl, fun h => absurd h hon⟩

theorem enterMode_grp {old : CfgSet} : (enterMode n old s).grp = s.grp := grp_of_channels enterMode_apartCh

/-- SUPPLY_RESTORED (R169). -/
theorem supplyRestored {fbs : Option Nat}
    (hx : s.grp[g].supply = .unpowered ∨ s.grp[g].supply = .uvoff ∨ s.grp[g].supply = .overvoltage) :
    ∃ t, exec (.supplyRestored g fbs mv) s = .next t ∧
      t.grp[g].supply = (if s.grp[g].supply = .unpowered then .startup else .recovery) ∧ t.grp[g].lplus = mv ∧
      t.grp[g].fbs = (fbsCode fbs).1 ∧ t.grp[g].strapBad = (fbsCode fbs).2 ∧
      (coreOn s = true → t.grp[g].portion = s.cfg.active) := by
  have hself := portionGiven_self (g := g) (s := modGrp s g (restoredGrp s.grp[g].supply fbs mv))
  rw [modGrp_self] at hself
  obtain ⟨h1, h2, h3, h4, h5⟩ := hself
  have heach : ∀ u : State, (each (chansOf g) (fun n => enterMode n .none) u).grp = u.grp := fun u =>
    each_congr (π := State.grp) fun _ _ => enterMode_grp
  refine ⟨_, exec_supplyRestored hx, ?_⟩
  generalize portionGiven g (modGrp s g (restoredGrp s.grp[g].supply fbs mv)) = u at h1 h2 h3 h4 h5
  have hg : (if s.grp[g].supply = .unpowered then each (chansOf g) (fun n => enterMode n .none) u else u).grp = u.grp := by
    split
    · exact heach u
    · rfl
  rw [hg]
  exact ⟨h1, h2, h3, h4, h5⟩

/-! ### HOLD (R174 to R176) -/

theorem applySafe_grp : (applySafe n s).grp = s.grp := grp_of_channels applySafe_apartCh

theorem switchOff_grp : (switchOff n s).grp = s.grp := grp_of_channels switchOff_apartCh

theorem protectCh_grp : (protectCh n s).grp = s.grp := grp_of_channels protectCh_apartCh

/-- An output whose holding ends in code 7. -/
def offInHold (n : ChanId) (s : State) : State :=
  modFlt (modOut (switchOff n s) n fun o => { o with subst := true }) n fun f =>
    { f with queued := if f.queued = some .safe then none else f.queued }

theorem offInHold_grp : (offInHold n s).grp = s.grp := switchOff_grp

theorem offInHold_chOther : ChOther n s (offInHold n s) := by
  have h1 : ChOther n s (switchOff n s) := switchOff_chOther
  unfold offInHold
  generalize switchOff n s = s1 at h1 ⊢
  exact h1.trans (modCh_chOther.trans modCh_chOther)

theorem offInHold_isOff (hm : isOutMode (modeG s n) = true) : IsOff n (offInHold n s) := by
  have h1 : IsOff n (switchOff n s) := switchOff_isOff hm
  unfold offInHold
  generalize switchOff n s = s1 at h1 ⊢
  unfold IsOff modFlt modOut
  rw [modCh_self, modCh_self]
  exact h1

/-- The holding of a group has ended. -/
def holdEnded (g : GroupId) (s : State) : State := modGrp s g fun x => { x with holdDone := true }

theorem endHold_eq : endHold g s = if holdCode s.grp[g] g = 7 then each (chansOf g) offInHold (holdEnded g s)
    else each (chansOf g) applySafe (holdEnded g s) := by
  unfold endHold
  by_cases h7 : holdCode s.grp[g] g = 7
  · rw [if_pos h7]
    simp only [h7]
    rfl
  · rw [if_neg h7]
    simp only [h7]
    rfl

theorem endHold_grp : (endHold g s).grp = (holdEnded g s).grp := by
  rw [endHold_eq]
  split
  · exact each_congr (π := State.grp) fun _ _ => offInHold_grp
  · exact each_congr (π := State.grp) fun _ _ => applySafe_grp

theorem endHold_self : (endHold g s).grp[g] = { s.grp[g] with holdDone := true } := by
  rw [endHold_grp]
  exact modGrp_self _ _ _

theorem modeG_modGrp {f : Grp → Grp} (hf : ∀ x, (f x).portion = x.portion) : modeG (modGrp s g f) n = modeG s n := by
  have h1 : (modGrp s g f).grp[chGroup n].portion = s.grp[chGroup n].portion := by
    by_cases hn : chGroup n = g
    · rw [← hn, modGrp_self]
      exact hf _
    · rw [modGrp_other _ _ hn]
  unfold modeG chG
  rw [h1]

theorem endHold_off (h7 : holdCode s.grp[g] g = 7) (hm : isOutMode (modeG s (grpCh g p)) = true) :
    IsOff (grpCh g p) (endHold g s) := by
  rw [endHold_eq, if_pos h7]
  refine each_at (x := grpCh g p) (f := offInHold) (s := holdEnded g s) (P := fun u => u.grp = (holdEnded g s).grp)
    (Q := IsOff (grpCh g p)) (fun k _ u hu => offInHold_grp.trans hu) (fun u hu => offInHold_isOff ?_) (fun k hk u hu => ?_)
    chansOf_nodup (mem_chansOf.2 ⟨p, rfl⟩) rfl
  · have he : modeG (holdEnded g s) (grpCh g p) = modeG s (grpCh g p) := modeG_modGrp fun _ => rfl
    rw [modeG_of_grp hu, he]
    exact hm
  · have hch := offInHold_chOther (s := u) (grpCh g p) hk.symm
    unfold IsOff at hu ⊢
    rwa [hch]

/-- A channel of a group that enters HOLD. -/
def heldCh (n : ChanId) (s : State) : State := dropQueued n (protectCh n s)

theorem dropQueued_spec : ChOther n s (dropQueued n s) ∧ (dropQueued n s).ch[n].out.applied = s.ch[n].out.applied := by
  unfold dropQueued
  refine ⟨modCh_chOther.trans modCh_chOther, ?_⟩
  unfold modFlt modOut
  rw [modCh_self, modCh_self]
  rfl

theorem heldCh_grp : (heldCh n s).grp = s.grp := protectCh_grp

theorem heldCh_applied : (heldCh n s).ch[k].out.applied = s.ch[k].out.applied := by
  obtain ⟨hother, hself⟩ := protectCh_spec (n := n) (s := s)
  obtain ⟨hother1, hself1⟩ := dropQueued_spec (n := n) (s := protectCh n s)
  unfold heldCh
  by_cases hk : k = n
  · subst hk
    rw [hself1, hself]
  · rw [hother1 k hk, hother k hk]

/-- The state of a group die in HOLD, before its holding may end at once. -/
def heldGrp (g : GroupId) (s : State) : State :=
  modGrp (each (chansOf g) heldCh s) g fun x => { x with hold := true, holdDone := false, hbRun := 0 }

theorem exec_holdEntry (ha : alive s g = true) (hh : s.grp[g].heard = true) (hn : s.grp[g].hold = false) :
    exec (.holdEntry g) s = .next (if 6 ≤ holdCode s.grp[g] g then endHold g (heldGrp g s) else heldGrp g s) :=
  congrArg Host.Outcome.next (if_pos (by rw [ha, hh, hn]; rfl))

theorem heldGrp_self : (heldGrp g s).grp[g] = { s.grp[g] with hold := true, holdDone := false, hbRun := 0 } := by
  have h1 : (each (chansOf g) heldCh s).grp = s.grp := each_congr (π := State.grp) fun _ _ => heldCh_grp
  unfold heldGrp
  rw [modGrp_self, h1]

theorem heldGrp_applied : (heldGrp g s).ch[k].out.applied = s.ch[k].out.applied :=
  each_congr (π := fun s : State => s.ch[k].out.applied) fun _ _ => heldCh_applied

/-- HOLD_ENTRY (R174). -/
theorem holdEntry (ha : alive s g = true) (hh : s.grp[g].heard = true) (hn : s.grp[g].hold = false) :
    ∃ t, exec (.holdEntry g) s = .next t ∧ t.grp[g].hold = true ∧ t.grp[g].hbRun = 0 ∧
      t.grp[g].holdDone = decide (6 ≤ holdCode s.grp[g] g) ∧
      (holdCode s.grp[g] g < 6 → ∀ p : Fin 8, t.ch[grpCh g p].out.applied = s.ch[grpCh g p].out.applied) := by
  have hx := exec_holdEntry ha hh hn
  by_cases h6 : 6 ≤ holdCode s.grp[g] g
  · rw [if_pos h6] at hx
    refine ⟨_, hx, ?_⟩
    rw [endHold_self, heldGrp_self]
    exact ⟨rfl, rfl, (decide_eq_true h6).symm, fun hlt => absurd h6 (Nat.not_le.2 hlt)⟩
  · rw [if_neg h6] at hx
    refine ⟨_, hx, ?_⟩
    rw [heldGrp_self]
    exact ⟨rfl, rfl, (decide_eq_false h6).symm, fun _ _ => heldGrp_applied⟩

/-- HOLD_TIMEOUT (R174). -/
theorem holdTimeout (ha : alive s g = true) (hh : s.grp[g].hold = true) (hn : s.grp[g].holdDone = false)
    (hc : 1 ≤ holdCode s.grp[g] g) : ∃ t, exec (.holdTimeout g) s = .next t ∧ t.grp[g].holdDone = true ∧ t.grp[g].hold = true ∧
      (holdCode s.grp[g] g = 7 → ∀ p : Fin 8, isOutMode (modeG s (grpCh g p)) = true →
        t.ch[grpCh g p].out.applied = 0 ∧ t.ch[grpCh g p].out.off = true) := by
  refine ⟨endHold g s, congrArg Host.Outcome.next (if_pos (by rw [ha, hh, hn, decide_eq_true hc]; rfl)), ?_, ?_,
    fun h7 p hm => endHold_off h7 hm⟩
  · rw [endHold_self]
  · rw [endHold_self]
    exact hh

/-- A heartbeat as the group die counts it (R11). -/
def heartbeatRun (s : State) (g : GroupId) : Nat := if s.grp[g].hbFrm = some (s.frm.no - 1) then s.grp[g].hbRun + 1 else 1

/-- The group die has heard a heartbeat. -/
def heardBeat (g : GroupId) (s : State) : State :=
  modGrp s g fun x => { x with hbFrm := some s.frm.no, hbRun := heartbeatRun s g, heard := true }

theorem exec_heartbeat (ha : alive s g = true) (hon : coreOn s = true) (hl : s.grp[g].link = false) (hw : s.wdt.fired = false)
    (hf : s.grp[g].hbFrm ≠ some s.frm.no) : exec (.heartbeat g) s = .next (
      if s.grp[g].hold && decide (2 ≤ heartbeatRun s g) then leaveHold g (heardBeat g s) else heardBeat g s) :=
  congrArg Host.Outcome.next (if_pos (by rw [ha, hon, hl, hw, decide_eq_true hf]; rfl))

theorem heardBeat_self : (heardBeat g s).grp[g] =
    { s.grp[g] with hbFrm := some s.frm.no, hbRun := heartbeatRun s g, heard := true } := modGrp_self _ _ _

/-- A group die leaves HOLD and reports it (R176). -/
theorem leaveHold_self : (leaveHold g s).grp[g] = { s.grp[g] with
    hold := false, holdDone := false, hbRun := 0, holdSeen := true
    restWait := s.grp[g].restWait || (s.grp[g].holdDone && !restoreAuto s g), xferNew := false } := by
  unfold leaveHold
  dsimp only
  rw [raiseOn_grp, modGrp_self]

/-- HEARTBEAT (R11, R176). -/
theorem heartbeat (ha : alive s g = true) (hon : coreOn s = true) (hl : s.grp[g].link = false) (hw : s.wdt.fired = false)
    (hf : s.grp[g].hbFrm ≠ some s.frm.no) :
    ∃ t, exec (.heartbeat g) s = .next t ∧ t.grp[g].heard = true ∧ t.grp[g].hbFrm = some s.frm.no ∧
      (s.grp[g].hold = true → s.grp[g].hbFrm = some (s.frm.no - 1) → 1 ≤ s.grp[g].hbRun →
        t.grp[g].hold = false ∧ t.grp[g].holdSeen = true ∧ Raised 95 (BitVec.ofNat 32 g.val) s t ∧
        t.grp[g].restWait = (s.grp[g].restWait || (s.grp[g].holdDone && !(grpG s g 0x26).getLsbD 15))) ∧
      (s.grp[g].hold = true → s.grp[g].hbFrm ≠ some (s.frm.no - 1) → t.grp[g].hold = true) := by
  have hx := exec_heartbeat ha hon hl hw hf
  have hauto : restoreAuto (heardBeat g s) g = (grpG s g 0x26).getLsbD 15 := by
    unfold restoreAuto grpG
    rw [heardBeat_self]
  by_cases hb : (s.grp[g].hold && decide (2 ≤ heartbeatRun s g)) = true
  · rw [if_pos hb] at hx
    have hr : Raised 95 (BitVec.ofNat 32 g.val) s (leaveHold g (heardBeat g s)) := by
      unfold leaveHold
      dsimp only
      rw [raiseOn_of_on (by exact hon)]
      exact raise_raised 95 _ _ (by decide)
    refine ⟨_, hx, ?_⟩
    rw [leaveHold_self, hauto, heardBeat_self]
    refine ⟨rfl, rfl, fun _ _ _ => ⟨rfl, rfl, hr, rfl⟩, fun hh hne => ?_⟩
    have hrun : heartbeatRun s g = 1 := if_neg hne
    rw [hrun] at hb
    simp at hb
  · rw [if_neg hb] at hx
    refine ⟨_, hx, ?_⟩
    rw [heardBeat_self]
    refine ⟨rfl, rfl, fun hh heq hrun => absurd ?_ hb, fun hh _ => hh⟩
    have hrun1 : heartbeatRun s g = s.grp[g].hbRun + 1 := if_pos heq
    rw [hh, hrun1]
    simpa using hrun

/-! ### The warning of a group's supply (R166) -/

theorem evLpwarn_ne : evLpwarn g ≠ evLogWrap := by
  intro heq
  have hv := congrArg Fin.val heq
  unfold evLpwarn evLogWrap at hv
  have hg := g.isLt
  dsimp only at hv
  omega

theorem lpwarn (ha : alive s g = true) (hw : s.grp[g].lpwarn = false) (hon : coreOn s = true) :
    ∃ t, exec (.lpwarn g mv) s = .next t ∧ t.grp = s.grp.set g { s.grp[g] with lpwarn := true, lplus := mv } ∧
      Raised (evLpwarn g) (mv.setWidth 32) s t := by
  have hx : exec (.lpwarn g mv) s = .next (raise (evLpwarn g) (mv.setWidth 32)
      (modGrp s g fun x => { x with lpwarn := true, lplus := mv })) :=
    congrArg Host.Outcome.next ((if_pos ha).trans ((if_neg (by rw [hw]; exact Bool.false_ne_true)).trans
      (raiseOn_of_on (by exact hon))))
  exact ⟨_, hx, raise_grp, raise_raised _ _ _ evLpwarn_ne⟩

/-- A supply that leaves its range (R167). -/
theorem exec_uvoff (ha : alive s g = true) (hne : s.grp[g].supply ≠ .uvoff) :
    exec (.uvoff g mv) s = .next (supplyFail g .uvoff mv s) :=
  congrArg Host.Outcome.next (if_pos (by rw [ha, decide_eq_true hne]; rfl))

theorem exec_overvoltage (ha : alive s g = true) (hne : s.grp[g].supply ≠ .overvoltage) :
    exec (.overvoltage g mv) s = .next (supplyFail g .overvoltage mv s) :=
  congrArg Host.Outcome.next (if_pos (by rw [ha, decide_eq_true hne]; rfl))

end

/-- Settles O35: the group's supply and HOLD, channel by channel where outputs go off. -/
theorem fieldSupplyAndHold : Obligations.FieldSupplyAndHold := by
  unfold Obligations.FieldSupplyAndHold
  refine ⟨fun s g mv => ⟨lpwarn, fun ha hw => ?_, fun ha hne => ?_, fun ha hne => ?_, fun ha => ?_,
      fun fbs hx => supplyRestored hx⟩,
    fun s g ha => ⟨holdEntry ha, fun hh => ?_, holdTimeout ha, fun hh hc => ?_, heartbeat ha, fun hw => ?_⟩⟩
  · exact congrArg Host.Outcome.next (if_pos (by rw [ha, hw]; rfl))
  · obtain ⟨hsup, hoff, hev⟩ := supplyFail_spec (s := s) (g := g) (st := .uvoff) (mv := mv)
    have hx := exec_uvoff (mv := mv) ha hne
    generalize supplyFail g .uvoff mv s = t at hx hsup hoff hev
    refine ⟨t, hx, hsup, fun p hm => ?_, hev⟩
    obtain ⟨⟨happ, hoff⟩, hsub⟩ := hoff p hm
    exact ⟨happ, hoff, hsub⟩
  · obtain ⟨hsup, hoff, hev⟩ := supplyFail_spec (s := s) (g := g) (st := .overvoltage) (mv := mv)
    have hx := exec_overvoltage (mv := mv) ha hne
    generalize supplyFail g .overvoltage mv s = t at hx hsup hoff hev
    exact ⟨t, hx, hsup, fun p hm => (hoff p hm).1, fun hon => (hev hon).2⟩
  · obtain ⟨t, hx, h1, h2, h3, h4, h5, hother, hcal⟩ := fieldUnpowered ha
    exact ⟨t, hx, h1, h2, h3, h4, h5, hother, fun _ _ => hcal⟩
  · exact congrArg Host.Outcome.next (if_neg (by rw [hh, Bool.and_false]; exact Bool.false_ne_true))
  · exact congrArg Host.Outcome.next (if_neg (by rw [hc, Bool.and_eq_true]; exact fun h => absurd h.2 (by decide)))
  · exact congrArg Host.Outcome.next (if_neg (by simp [hw]))

end Sys2Proof.Machine
end

section
/-! The tasks of the cores: release, start, and the background window (R41 to R43, R227 to R229). -/

open Sys2Proof Sys2Proof.Machine
namespace Sys2Proof.Machine

section
variable {s u : State} {c : CoreId} {slot : BitVec 8}

theorem afterBoot_of_inService {f : State → State} (hin : inService s = true) : afterBoot f s = f s := if_pos hin

/-! ### Foreground tasks (R41, R42, R184) -/

theorem exec_taskRel {x : Task} (hin : inService s = true) (hs : slotIs s slot 3 = true) (hm : fgMode s.sys.mode = true)
    (hx : released s slot = some x) : exec (.taskRel slot) s = .next (modCore (atSlot slot s) x.core fun k =>
      { k with queue := k.queue ++ [(x.index, slot)]
               releases := k.releases.set x.index.toNat (k.releases[x.index.toNat] + 1) }) := by
  refine congrArg Host.Outcome.next ((afterBoot_of_inService hin).trans ((if_pos (by rw [hs, hm]; rfl)).trans ?_))
  rw [hx]

theorem exec_taskRel_outside (hin : inService s = true) (hm : fgMode s.sys.mode = false) : exec (.taskRel slot) s = .next s :=
  congrArg Host.Outcome.next ((afterBoot_of_inService hin).trans (if_neg (by rw [hm, Bool.and_false]; decide)))

theorem exec_taskStart {i : BitVec 4} {rest : List (BitVec 4 × BitVec 8)} {x : Task} (hin : inService s = true)
    (hr : s.core[c].run = .idle) (hq : s.core[c].queue = (i, slot) :: rest) (hx : findTask s c i = some x) :
    exec (.taskStart c) s = .next (modCore s c fun k =>
      { k.begin x (max (slotCycle s slot.toNat) s.core[c].freeAt + 4) with run := .fg i slot, queue := rest }) := by
  refine congrArg Host.Outcome.next ((afterBoot_of_inService hin).trans ?_)
  dsimp only
  rw [hr, hq]
  dsimp only
  rw [hx]

/-- The registers with which a task starts (R184). -/
theorem begin_registers (k : Core) (x : Task) (n : Nat) : (∀ r : Fin 16, (k.begin x n).d[r] = 0) ∧
    (∀ r : Fin 7, (k.begin x n).a[r.val] = 0) ∧ (k.begin x n).a[7] = x.stack ∧ (∀ r : Fin 4, (k.begin x n).m[r] = 0) := by
  refine ⟨fun r => ?_, fun r => ?_, ?_, fun r => ?_⟩
  · exact Vector.getElem_replicate _
  · have hr : (7 : Nat) ≠ r.val := by have := r.isLt; omega
    exact (Vector.getElem_set_ne (by decide) (by have := r.isLt; omega) hr).trans (Vector.getElem_replicate _)
  · exact Vector.getElem_set_self _
  · exact Vector.getElem_replicate _

/-! ### The background window (R43, R228, R229) -/

/-- One core where a window opens: its free-running tasks become ready, and a suspended task goes on. -/
def openCore (slot : BitVec 8) (c : CoreId) (s : State) : State :=
  let s2 := modCore s c (readyFree s c)
  match (s2.core[c]).susp with
  | some x => if coreFree s2 c && decide ((s2.core[c]).run = .idle) && (s2.core[c]).svc.isNone then
      modCore s2 c fun k => k.resume x (slotCycle s slot.toNat) else s2
  | none => s2

theorem openCore_frame : (openCore slot c s).frm = s.frm ∧ (openCore slot c s).sys = s.sys ∧
    ∀ k : CoreId, k ≠ c → (openCore slot c s).core[k] = s.core[k] := by
  unfold openCore
  dsimp only
  split
  · split
    · exact ⟨rfl, rfl, fun k hk => (modCore_other _ _ hk).trans (modCore_other _ _ hk)⟩
    · exact ⟨rfl, rfl, fun k hk => modCore_other _ _ hk⟩
  · exact ⟨rfl, rfl, fun k hk => modCore_other _ _ hk⟩

theorem openCore_resumes {x : BgCtx} (hx : s.core[c].susp = some x) (hr : s.core[c].run = .idle)
    (hv : s.core[c].svc = none) (hf : coreFree s c = true) :
    (openCore slot c s).core[c] = (readyFree s c s.core[c]).resume x (slotCycle s slot.toNat) := by
  have h2 : (modCore s c (readyFree s c)).core[c] = readyFree s c s.core[c] := modCore_self _ _ _
  have hf2 : coreFree (modCore s c (readyFree s c)) c = true := by
    unfold coreFree at hf ⊢
    rw [h2]
    exact hf
  unfold openCore
  dsimp only
  rw [h2, show (readyFree s c s.core[c]).susp = some x from hx]
  dsimp only
  rw [if_pos (by
    rw [hf2, show (readyFree s c s.core[c]).run = .idle from hr, show (readyFree s c s.core[c]).svc = none from hv]
    rfl), modCore_self, h2]

/-- The window is open from the slot on. -/
def windowOpen (slot : BitVec 8) (s : State) : State := { atSlot slot s with frm := { s.frm with bgOpen := true } }

theorem exec_bgOpen (hin : inService s = true) (hs : slotIs s slot 8 = true) : exec (.bgOpen slot) s =
    .next (if !bgMode s.sys.mode then windowOpen slot s
      else each cores (openCore slot) (windowOpen slot s)) :=
  congrArg Host.Outcome.next ((afterBoot_of_inService hin).trans (if_pos hs))

theorem each_openCore_frame : (each cores (openCore slot) s).frm = s.frm :=
  each_congr (π := State.frm) fun _ _ => openCore_frame.1

theorem each_openCore_resumes {x : BgCtx} (hx : s.core[c].susp = some x) (hr : s.core[c].run = .idle)
    (hv : s.core[c].svc = none) (hf : coreFree s c = true) :
    ∃ (k : Core) (n : Nat), (each cores (openCore slot) s).core[c] = k.resume x n := by
  refine each_at (x := c) (P := fun u => u.core[c] = s.core[c] ∧ u.sys = s.sys)
    (Q := fun u => ∃ (k : Core) (n : Nat), u.core[c] = k.resume x n) (fun k hk u hu => ?_) (fun u hu => ?_) (fun k hk u hu => ?_)
    (List.nodup_finRange 4) (List.mem_finRange c) ⟨rfl, rfl⟩
  · obtain ⟨-, hsys, hother⟩ := openCore_frame (slot := slot) (c := k) (s := u)
    exact ⟨(hother c hk.symm).trans hu.1, hsys.trans hu.2⟩
  · obtain ⟨hc, hsys⟩ := hu
    exact ⟨_, _, openCore_resumes (by rw [hc]; exact hx) (by rw [hc]; exact hr) (by rw [hc]; exact hv) (by
      unfold coreFree at hf ⊢
      rw [hc, hsys]
      exact hf)⟩
  · rw [openCore_frame.2.2 c hk.symm]
    exact hu

/-- One core where a window closes. -/
def closeCore (slot : BitVec 8) (c : CoreId) (s : State) : State := modCore s c fun k => k.suspend (slotCycle s slot.toNat)

theorem exec_bgClose (hin : inService s = true) (hs : slotIs s slot 9 = true) : exec (.bgClose slot) s =
    .next (each cores (closeCore slot)
      { atSlot slot s with frm := { s.frm with bgOpen := false } }) :=
  congrArg Host.Outcome.next ((afterBoot_of_inService hin).trans (if_pos hs))

theorem each_closeCore : (each cores (closeCore slot) s).core[c] = s.core[c].suspend (slotCycle s slot.toNat) := by
  refine each_at (x := c) (P := fun u => u.core[c] = s.core[c] ∧ u.cfg = s.cfg)
    (Q := fun u => u.core[c] = s.core[c].suspend (slotCycle s slot.toNat))
    (fun _ hk u hu => ⟨(modCore_other _ _ hk.symm).trans hu.1, hu.2⟩) (fun u hu => ?_)
    (fun _ hk u hu => (modCore_other _ _ hk.symm).trans hu) (List.nodup_finRange 4) (List.mem_finRange c) ⟨rfl, rfl⟩
  obtain ⟨hc, hcfg⟩ := hu
  unfold slotCycle
  rw [modCore_self, hc, hcfg]

theorem suspend_of_bg {k : Core} {i : BitVec 4} {n : Nat} (hr : k.run = .bg i) : (k.suspend n).run = .idle ∧
    (k.suspend n).susp = some
      { task := i, d := k.d, a := k.a, m := k.m, st := k.st, pc := if k.tw = true ∧ n < k.freeAt then k.pc - 4 else k.pc } := by
  unfold Core.suspend
  rw [hr]
  simp

theorem suspend_of_other {k : Core} {n : Nat} (hr : ∀ i, k.run ≠ .bg i) : k.suspend n = k := by
  unfold Core.suspend
  split
  next i hi => exact absurd hi (hr i)
  next => rfl

theorem exec_bgTaskStart {x : Task} (hin : inService s = true) (hw : s.frm.bgOpen = true) (hm : bgMode s.sys.mode = true)
    (hf : coreFree s c = true) (hr : s.core[c].run = .idle) (hq : s.core[c].queue = []) (hsu : s.core[c].susp = none)
    (hx : nextBg s c = some x) : exec (.bgTaskStart c) s = .next (modCore s c fun k =>
      { k.begin x (max k.freeAt (cycleNow s) + 4) with
        run := .bg x.index, bgReady := setBit k.bgReady x.index.toNat false }) := by
  refine congrArg Host.Outcome.next ((afterBoot_of_inService hin).trans ((if_pos ?_).trans ?_))
  · rw [hw, hm, hf, hr, hq, hsu]
    rfl
  · dsimp only
    rw [hx]

end

/-- Settles O31: each command is one change of its core, and a window's ends change every core by itself. -/
theorem tasksAndBackgroundWindows : Obligations.TasksAndBackgroundWindows := by
  unfold Obligations.TasksAndBackgroundWindows
  refine ⟨fun s hin => ⟨fun slot x hs hm hx => ?_, fun slot hm => exec_taskRel_outside hin hm,
    fun c i slot rest x hr hq hx => ?_⟩,
    fun s hin => ⟨fun slot hs => ?_, fun slot hs => ?_, fun c x hw hm hf hr hq hsu hx => ?_⟩⟩
  · refine ⟨_, exec_taskRel hin hs hm hx, ?_⟩
    rw [modCore_self]
    exact ⟨rfl, rfl, rfl⟩
  · refine ⟨_, exec_taskStart hin hr hq hx, ?_⟩
    obtain ⟨hd, ha, hst, hmm⟩ := begin_registers s.core[c] x (max (slotCycle s slot.toNat) s.core[c].freeAt + 4)
    rw [modCore_self]
    exact ⟨⟨rfl, rfl, rfl, rfl, hd, ha, hst, hmm, rfl, rfl, rfl, rfl⟩, rfl, rfl⟩
  · refine ⟨_, exec_bgOpen hin hs, ?_⟩
    split
    next hm => exact ⟨rfl, fun c x hb => absurd hm (by rw [hb]; decide)⟩
    next hm =>
      refine ⟨each_openCore_frame, fun c x _ hx hr hv hf => ?_⟩
      obtain ⟨k, n, hk⟩ := each_openCore_resumes (slot := slot) (s := windowOpen slot s) hx hr hv hf
      rw [hk]
      exact ⟨rfl, rfl, rfl, rfl, rfl, rfl, rfl⟩
  · refine ⟨_, exec_bgClose hin hs, each_congr (π := State.frm) fun _ _ => rfl, fun c => ?_⟩
    rw [each_closeCore]
    refine ⟨fun i hr => ?_, suspend_of_other⟩
    obtain ⟨hrun, hsu⟩ := suspend_of_bg (n := slotCycle s slot.toNat) hr
    exact ⟨hrun, _, hsu, rfl, rfl, rfl, rfl, rfl, rfl⟩
  · refine ⟨_, exec_bgTaskStart hin hw hm hf hr hq hsu hx, ?_⟩
    obtain ⟨hd, ha, hst, hmm⟩ := begin_registers s.core[c] x (max s.core[c].freeAt (cycleNow s) + 4)
    rw [modCore_self]
    exact ⟨rfl, rfl, hst, rfl, hd, rfl, rfl, rfl⟩

end Sys2Proof.Machine
end

section
/-! The exceptions of the Canter cores and the budget (R214 to R217, R46, R48). -/

open Sys2Proof Sys2Proof.Machine
namespace Sys2Proof.Machine

section
variable {s t u : State} {c : CoreId} {cause bus : BitVec 4} {addr : W32} {n : Nat} {i : BitVec 4} {slot : BitVec 8}

/-! ### Taking an exception (R216, R217) -/

/-- The core runs a foreground or a background task. -/
def RunsTask (k : Core) : Prop := (∃ i slot, k.run = .fg i slot) ∨ ∃ i, k.run = .bg i

theorem runsTask_of_canRun (h : canRun s c = true) (hn : s.core[c].run ≠ .nmi) : RunsTask s.core[c] := by
  unfold canRun at h
  rw [Bool.and_eq_true] at h
  obtain ⟨-, h⟩ := h
  split at h
  next i slot hr => exact .inl ⟨i, slot, hr⟩
  next i hr => exact .inr ⟨i, hr⟩
  next hr => exact absurd hr hn
  next => exact absurd h (by decide)

theorem endTask_eq {k : Core} (h : RunsTask k) :
    ∃ r a, k.endTask = { k with run := .idle, bgReady := r, bgAgain := a } := by
  obtain ⟨i, slot, hr⟩ | ⟨i, hr⟩ := h
  · exact ⟨k.bgReady, k.bgAgain, by unfold Core.endTask; rw [hr]⟩
  · exact ⟨_, _, by unfold Core.endTask; rw [hr]⟩

/-- The core is to stop at the next tick where SYS_CXPOL says so (R217). -/
def askStop (c : CoreId) (s : State) : State :=
  if (act s 0x0060).getLsbD c.val then { s with sys := { s.sys with stopReq := setBit s.sys.stopReq c.val true } } else s

theorem askStop_frame : ∃ y, askStop c s = { s with sys := y } ∧ y = { s.sys with stopReq := y.stopReq } := by
  unfold askStop
  split
  · exact ⟨_, rfl, rfl⟩
  · exact ⟨s.sys, rfl, rfl⟩

theorem askStop_parts : (askStop c s).frm = s.frm ∧ (askStop c s).sys.mode = s.sys.mode := by
  unfold askStop
  split <;> exact ⟨rfl, rfl⟩

theorem takeExc_eq (hn : s.core[c].run ≠ .nmi) (h4 : cause ≠ 4) :
    takeExc c cause bus addr n s = askStop c (excTaken c cause bus addr n s) := by
  unfold takeExc
  extract_lets k s1 s2 y s3
  rw [if_neg hn]
  split
  next h => exact absurd rfl h4
  next => rfl

theorem takeExc_budget (hr : s.core[c].run = .fg i slot) : takeExc c 4 0 0 n s =
    frameOverrun 2 (BitVec.ofNat 2 c.val) 0 slot (askStop c (excTaken c 4 0 0 n s)) := by
  unfold takeExc
  extract_lets k s1 s2 y s3
  rw [if_neg (by unfold k; rw [hr]; exact fun h => nomatch h), show k.run = .fg i slot from hr]
  rfl

/-- A core whose task has ended at an exception at cycle `n` is free 4 cycles later. -/
def Core.ended (n : Nat) (k : Core) : Core := { k.endTask with freeAt := n + 4 }

/-- The core of an exception, but for the deliveries of its event. -/
theorem excTaken_delivered : ∃ k1, DeliveryOnly (excRecord cause bus addr (s.frm.no.setWidth 16) s.core[c]) k1 ∧
    (excTaken c cause bus addr n s).core[c] = k1.ended n := by
  have h1 : (modCore s c (excRecord cause bus addr (s.frm.no.setWidth 16))).core[c] =
    excRecord cause bus addr (s.frm.no.setWidth 16) s.core[c] := modCore_self s _ _
  rw [← h1]
  exact ⟨_, (raise_only 69 _ _).2 c, modCore_self _ c (Core.ended n)⟩

theorem excTaken_raises : Raised 69 (BitVec.ofNat 32 (65536 * c.val +
    (excRecord cause bus addr (s.frm.no.setWidth 16) s.core[c]).causeReg.toNat)) s (excTaken c cause bus addr n s) := by
  have h1 : (modCore s c (excRecord cause bus addr (s.frm.no.setWidth 16))).core[c] =
    excRecord cause bus addr (s.frm.no.setWidth 16) s.core[c] := modCore_self s _ _
  rw [← h1]
  exact raise_raised 69 _ (modCore s c (excRecord cause bus addr (s.frm.no.setWidth 16))) (by decide)

theorem excTaken_sys : (excTaken c cause bus addr n s).sys = s.sys := raise_sys _ _

theorem excTaken_frm : (excTaken c cause bus addr n s).frm = s.frm := raise_frm

theorem excTaken_act {a : Nat} : act (excTaken c cause bus addr n s) a = act s a :=
  congrArg (fun x : Cfg => x.active.reg a) raise_cfg

theorem excTaken_takes (hk : RunsTask s.core[c]) (hb : cause ≠ 3 → bus = 0) (ha : cause ≠ 2 → cause ≠ 3 → addr = 0) :
    TakesException s (askStop c (excTaken c cause bus addr n s)) c cause bus addr n := by
  obtain ⟨k1, hd, hc⟩ := excTaken_delivered (s := s) (c := c) (cause := cause) (bus := bus) (addr := addr) (n := n)
  obtain ⟨r, a, he⟩ := endTask_eq (k := k1) (by
    unfold DeliveryOnly at hd
    unfold RunsTask
    rw [hd]
    exact hk)
  have hraise := excTaken_raises (s := s) (c := c) (cause := cause) (bus := bus) (addr := addr) (n := n)
  have hstop : (askStop c (excTaken c cause bus addr n s)).sys.stopReq =
      if (act s 0x0060).getLsbD c.val then setBit s.sys.stopReq c.val true else s.sys.stopReq := by
    unfold askStop
    rw [excTaken_act, excTaken_sys]
    split
    · rfl
    · rw [excTaken_sys]
  obtain ⟨y, hy, -⟩ := askStop_frame (c := c) (s := excTaken c cause bus addr n s)
  have hcore : (askStop c (excTaken c cause bus addr n s)).core[c] = k1.ended n := by rw [hy, hc]
  have hbus : (excRecord cause bus addr (s.frm.no.setWidth 16) s.core[c]).bus = bus := by
    unfold excRecord
    dsimp only
    split
    · rfl
    · exact (hb ‹_›).symm
  have haddr : (excRecord cause bus addr (s.frm.no.setWidth 16) s.core[c]).xaddr = addr := by
    unfold excRecord
    dsimp only
    split
    · rfl
    next h => exact (ha (fun h2 => h (.inl h2)) fun h3 => h (.inr h3)).symm
  unfold TakesException
  dsimp only
  rw [hcore]
  unfold Core.ended
  rw [he]
  unfold DeliveryOnly at hd
  rw [hd]
  refine ⟨rfl, hbus, rfl, rfl, rfl, haddr, rfl, rfl, rfl, rfl, rfl, rfl, rfl, rfl, rfl, rfl, rfl, ?_, hstop⟩
  rw [hy]
  exact hraise

theorem excTaken_exceptionFrame : ExceptionFrame s (askStop c (excTaken c cause bus addr n s)) c := by
  obtain ⟨y, hy, hstop⟩ := askStop_frame (c := c) (s := excTaken c cause bus addr n s)
  rw [excTaken_sys] at hstop
  rw [hy]
  refine ⟨DeliveredOnly.butEvents ?_, hstop⟩
  unfold excTaken
  extract_lets s1
  obtain ⟨h1, h2⟩ := raise_only 69 (BitVec.ofNat 32 (65536 * c.val + (s1.core[c]).causeReg.toNat)) s1
  generalize raise 69 (BitVec.ofNat 32 (65536 * c.val + (s1.core[c]).causeReg.toNat)) s1 = s2 at h1 h2
  have hcore : ∀ k : CoreId, DeliveryOnly s.core[k] ((modCore s2 c (Core.ended n)).core.set c s.core[c])[k] := by
    intro k
    by_cases hk : k = c
    · subst hk
      simp [DeliveryOnly]
    · have hs1 : s1.core[k] = s.core[k] := modCore_other _ _ hk
      rw [vec_set_other _ _ hk, modCore_other _ _ hk, ← hs1]
      exact h2 k
  refine ⟨?_, hcore⟩
  conv_lhs => rw [h1]
  rfl

theorem ButEvents.atNow {m : Nat} (h : ButEvents t u) : ButEvents { t with now := m } { u with now := m } :=
  (congrArg (fun u : State => { u with now := m }) h :)

/-- An exception other than BUDGET, at the cycle at which its instruction issues. -/
theorem takeExc_takes (hk : RunsTask s.core[c]) (hn : s.core[c].run ≠ .nmi) (h4 : cause ≠ 4) (hb : cause ≠ 3 → bus = 0)
    (ha : cause ≠ 2 → cause ≠ 3 → addr = 0) : TakesException s (takeExc c cause bus addr n (atCycle n s)) c cause bus addr n ∧
      ExceptionFrame s (takeExc c cause bus addr n (atCycle n s)) c := by
  rw [takeExc_eq (s := atCycle n s) hn h4]
  obtain ⟨hframe, hsys⟩ := excTaken_exceptionFrame (s := atCycle n s) (c := c) (cause := cause) (bus := bus) (addr := addr) (n := n)
  exact ⟨excTaken_takes (s := atCycle n s) hk hb ha, hframe.atNow, hsys⟩

/-! ### The instructions that take one (R181, R188, R199, R201, R212) -/

theorem trapAt_eq (h : exceeds s c n 1 = false) :
    trapAt c cause bus addr n s = takeExc c cause bus addr n (atCycle n s) := if_neg (by rw [h]; decide)

variable {legal : Bool} {sh : Shape} {eff : Nat → State → Eff}

theorem canter_badFetch (hr : canRun s c = true) (hf : fetchOk s c s.core[c].pc = false) :
    canter c legal sh eff s = trapAt c 3 2 s.core[c].pc s.core[c].freeAt s := by
  unfold canter
  rw [if_neg (by rw [hr]; decide)]
  exact if_pos (by rw [hf]; rfl)

theorem canter_illegal (hr : canRun s c = true) (hf : fetchOk s c s.core[c].pc = true) :
    canter c false sh eff s = trapAt c 1 0 0 s.core[c].freeAt s := by
  unfold canter
  rw [if_neg (by rw [hr]; decide)]
  exact if_neg (by rw [hf]; decide)

theorem canter_trap (hr : canRun s c = true) (hf : fetchOk s c s.core[c].pc = true)
    (he : eff (issueAt s.core[c] sh) (atCycle (issueAt s.core[c] sh) s) = .trap cause bus addr) :
    canter c true sh eff s = trapAt c cause bus addr (issueAt s.core[c] sh) s := by
  unfold canter
  rw [if_neg (by rw [hr]; decide)]
  dsimp only
  rw [if_neg (by rw [hf]; decide), if_neg (by decide), he]

variable {f : MF}

theorem ldEff_misaligned (ha : (mEa s c f).toNat % mSize f ≠ 0) : ldEff c f s = .trap 2 0 (mEa s c f) := if_pos ha

theorem ldEff_faults {b : BitVec 4} (ha : (mEa s c f).toNat % mSize f = 0) (hf : mFault s c f false = some b) :
    ldEff c f s = .trap 3 b (mEa s c f) := by
  unfold ldEff
  dsimp only
  rw [if_neg (not_not.2 ha), hf]

theorem stEff_misaligned (ha : (mEa s c f).toNat % mSize f ≠ 0) : stEff c f n s = .trap 2 0 (mEa s c f) := if_pos ha

theorem stEff_faults {b : BitVec 4} (ha : (mEa s c f).toNat % mSize f = 0) (hf : mFault s c f true = some b) :
    stEff c f n s = .trap 3 b (mEa s c f) := by
  unfold stEff
  dsimp only
  rw [if_neg (not_not.2 ha), hf]

theorem stEff_forbidden (ha : (mEa s c f).toNat % mSize f = 0) (hf : mFault s c f true = none)
    (hr : regForbidden (mEa s c f) (mSize f) = true) : stEff c f n s = .trap 3 3 (mEa s c f) := by
  unfold stEff
  dsimp only
  rw [if_neg (not_not.2 ha), hf]
  exact if_pos hr

theorem execLd_eq_canter (hl : ldWaits s c f = false) :
    execLd c f s = .next (canter c (ldLegal f) (ldShape s c f) (fun _ s => ldEff c f s) s) :=
  congrArg Host.Outcome.next (if_neg (by rw [hl]; decide))

/-! ### BUDGET (R215, R46, R48) -/

theorem exec_budget {b : Nat} (hr : canRun s c = true) (hrun : s.core[c].run = .fg i slot)
    (hb : (findTask s c i).map (·.budget) = some b) : exec (.budget c) s =
      .next (takeExc c 4 0 0 (s.core[c].startAt + b) (atCycle (s.core[c].startAt + b) s)) := by
  have hbud : budgetOf s c = some b := by
    unfold budgetOf
    rw [hrun]
    exact hb
  refine congrArg Host.Outcome.next ((if_pos (by rw [hr, hbud]; rfl)).trans ?_)
  unfold budgetExc
  rw [hbud]
  dsimp only [Option.getD_some]
  rw [Nat.min_self]

/-- What an overrun frame leaves: each core but for deliveries, the stop requests, and the records of other events (R48). -/
structure OverrunKeeps (s t : State) : Prop where
  core : ∀ c : CoreId, DeliveryOnly s.core[c] t.core[c]
  stop : t.sys.stopReq = s.sys.stopReq
  recs : ∀ e : Fin 128, e ≠ 64 → e ≠ evLogWrap → t.evt.recs[e] = s.evt.recs[e]
  pend : ∀ e : Nat, s.evt.pend.getLsbD e = true → t.evt.pend.getLsbD e = true

/-- A raise leaves the record of any other event but LOG_WRAP, and every pending bit (R238). -/
theorem raise_others {e : Fin 128} {p : W32} :
    (∀ x : Fin 128, x ≠ e → x ≠ evLogWrap → (raise e p s).evt.recs[x] = s.evt.recs[x]) ∧
    ∀ x : Nat, s.evt.pend.getLsbD x = true → (raise e p s).evt.pend.getLsbD x = true := by
  obtain ⟨h1, h2⟩ := raiseOne_recs e p s
  obtain ⟨h3, h4⟩ := raiseOne_recs evLogWrap 1 (raiseOne e p s).1
  have hr : raise e p s = if (raiseOne e p s).2 then (raiseOne evLogWrap 1 (raiseOne e p s).1).1 else (raiseOne e p s).1 := rfl
  generalize (raiseOne evLogWrap 1 (raiseOne e p s).1).1 = s2 at h3 h4 hr
  generalize (raiseOne e p s).1 = s1 at h1 h2 h3 h4 hr
  have hs1 : (∀ x : Fin 128, x ≠ e → s1.evt.recs[x] = s.evt.recs[x]) ∧
      ∀ x : Nat, s.evt.pend.getLsbD x = true → s1.evt.pend.getLsbD x = true := by
    rw [h1, h2]
    exact ⟨fun x hx => vec_set_other _ _ hx, fun x hp => setBit_keeps _ _ _ hp⟩
  cases hw : (raiseOne e p s).2 with
  | true =>
    rw [hr, hw, if_pos rfl, h3, h4]
    exact ⟨fun x hx hlw => (vec_set_other _ _ hlw).trans (hs1.1 x hx), fun x hp => setBit_keeps _ _ _ (hs1.2 x hp)⟩
  | false =>
    rw [hr, hw, if_neg Bool.false_ne_true]
    exact ⟨fun x hx _ => hs1.1 x hx, hs1.2⟩

theorem raise_overrunKeeps {p : W32} : OverrunKeeps s (raise 64 p s) :=
  ⟨(raise_only 64 p s).2, by rw [raise_sys], raise_others.1, raise_others.2⟩

/-- The limit of overrun frames reached: the trial reverts, or SAFE is asked for (R48). -/
def atOverrunLimit (s : State) : State :=
  if fld (act s 0x0109) 7 0 ≤ s.frm.run.toNat then (if s.sys.mode = .trial then trialFail 4 s else safeTrigger s) else s

theorem atOverrunLimit_parts : (atOverrunLimit s).core = s.core ∧ (atOverrunLimit s).sys.stopReq = s.sys.stopReq ∧
    (atOverrunLimit s).evt = s.evt ∧ (atOverrunLimit s).frm = s.frm := by
  unfold atOverrunLimit trialFail safeTrigger
  split
  · split <;> split <;> exact ⟨rfl, rfl, rfl, rfl⟩
  · exact ⟨rfl, rfl, rfl, rfl⟩

/-- The frame is marked an overrun frame, with its first cause. -/
def overrunFrm (s : State) (kind : BitVec 2) (info : HWord) : Frm :=
  { s.frm with overrun := true, ovrXfer := decide (kind ≠ 3), ovrCnt := inc16 s.frm.ovrCnt, ovrInfo := info, run := inc8 s.frm.run }

variable {kind k2 : BitVec 2} {g3 : BitVec 3}

theorem frameOverrun_first (hm : fgMode s.sys.mode = true) (ho : s.frm.overrun = false) :
    frameOverrun kind k2 g3 slot s = atOverrunLimit (raise 64 ((kind ++ k2 ++ (0#1) ++ g3 ++ slot : HWord).setWidth 32)
      { s with frm := overrunFrm s kind (kind ++ k2 ++ (0#1) ++ g3 ++ slot) }) := by
  unfold frameOverrun
  rw [if_neg (by rw [hm]; decide), if_neg (by rw [ho]; decide)]
  rfl

theorem frameOverrun_again (hm : fgMode s.sys.mode = true) (ho : s.frm.overrun = true) : frameOverrun kind k2 g3 slot s =
    { s with frm := { s.frm with ovrXfer := s.frm.ovrXfer || decide (kind ≠ 3) } } := by
  unfold frameOverrun
  rw [if_neg (by rw [hm]; decide), if_pos ho]

theorem frameOverrun_outside (hm : fgMode s.sys.mode = false) : frameOverrun kind k2 g3 slot s = s :=
  if_pos (by rw [hm]; rfl)

theorem frameOverrun_keeps : OverrunKeeps s (frameOverrun kind k2 g3 slot s) := by
  have hrefl : ∀ x, OverrunKeeps s { s with frm := x } := fun _ =>
    ⟨fun _ => rfl, rfl, fun _ _ _ => rfl, fun _ h => h⟩
  cases hm : fgMode s.sys.mode with
  | false => rw [frameOverrun_outside hm]; exact hrefl s.frm
  | true =>
    cases ho : s.frm.overrun with
    | true => rw [frameOverrun_again hm ho]; exact hrefl _
    | false =>
      rw [frameOverrun_first hm ho]
      generalize hs1 : ({ s with frm := _ } : State) = s1
      obtain ⟨hc, hst, he, -⟩ := atOverrunLimit_parts
        (s := raise 64 ((kind ++ k2 ++ (0#1) ++ g3 ++ slot : HWord).setWidth 32) s1)
      obtain ⟨h1, h2, h3, h4⟩ := raise_overrunKeeps (s := s1) (p := (kind ++ k2 ++ (0#1) ++ g3 ++ slot : HWord).setWidth 32)
      subst hs1
      exact ⟨fun c => by rw [hc]; exact h1 c, hst.trans h2, fun e hne hw => by rw [he]; exact h3 e hne hw,
        fun e hp => by rw [he]; exact h4 e hp⟩

theorem TakesException.overrun (h : TakesException s t c cause bus addr n) (hk : OverrunKeeps t u) :
    TakesException s u c cause bus addr n := by
  obtain ⟨hcore, hstop, hrecs, hpend⟩ := hk
  have hd := hcore c
  unfold DeliveryOnly at hd
  unfold TakesException at h ⊢
  dsimp only at h ⊢
  rw [hd, hstop]
  obtain ⟨h1, h2, h3, h4, h5, h6, h7, h8, h9, h10, h11, h12, h13, h14, h15, h16, h17, ⟨r1, r2, r3, r4⟩, h19⟩ := h
  have hrec := hrecs 69 (by decide) (by decide)
  exact ⟨h1, h2, h3, h4, h5, h6, h7, h8, h9, h10, h11, h12, h13, h14, h15, h16, h17,
    ⟨by rw [hrec]; exact r1, by rw [hrec]; exact r2, by rw [hrec]; exact r3, hpend 69 r4⟩, h19⟩

/-- A frame that a task's overrun makes an overrun frame (R46, R48). -/
theorem frameOverrun_counts (hm : fgMode s.sys.mode = true) (ho : s.frm.overrun = false) :
    (frameOverrun kind k2 g3 slot s).frm = overrunFrm s kind (kind ++ k2 ++ (0#1) ++ g3 ++ slot) ∧
    (frameOverrun kind k2 g3 slot s).evt.pend.getLsbD 64 = true := by
  rw [frameOverrun_first hm ho]
  obtain ⟨-, -, he, hf⟩ := atOverrunLimit_parts (s := raise 64 ((kind ++ k2 ++ (0#1) ++ g3 ++ slot : HWord).setWidth 32)
    { s with frm := overrunFrm s kind (kind ++ k2 ++ (0#1) ++ g3 ++ slot) })
  rw [he, hf]
  exact ⟨raise_frm, (raise_raised 64 _ _ (by decide)).2.2.2⟩

theorem append_zeros : ∀ x : BitVec 4, x ++ (0#1) ++ (0 : BitVec 3) = x ++ 0#4 := by decide

/-- An overrun of a task names no group (R48). -/
theorem overrunInfo_eq {a b : BitVec 2} : (a ++ b ++ (0#1) ++ (0 : BitVec 3) ++ slot : HWord) = a ++ b ++ 0#4 ++ slot :=
  congrArg (fun x : BitVec 8 => (x ++ slot : HWord)) (append_zeros (a ++ b))

end

/-- Settles O15: an instruction of each kind comes to one `takeExc`, and BUDGET's also marks its frame. -/
theorem exceptionsAndTheBudget : Obligations.ExceptionsAndTheBudget := by
  unfold Obligations.ExceptionsAndTheBudget
  refine ⟨fun s c hn hrun => ?_, fun s c i slot b hrun hfg hb => ?_⟩
  · have hk := runsTask_of_canRun hrun hn
    extract_lets k takes
    have htakes : ∀ {ins : Instr} {cause bus : BitVec 4} {addr : W32} {n : Nat},
        exec ins s = .next (trapAt c cause bus addr n s) → cause ≠ 4 → (cause ≠ 3 → bus = 0) →
        (cause ≠ 2 → cause ≠ 3 → addr = 0) → takes ins cause bus addr n := fun he h4 hb ha hx =>
      ⟨_, he.trans (congrArg _ (trapAt_eq hx)), takeExc_takes hk hn h4 hb ha⟩
    refine ⟨fun hf f => ?_, fun hf => ⟨fun f hl => ?_, fun f hl hm => ?_, fun f hl hw => ⟨fun hm => ?_, fun hm b hb => ?_⟩,
      fun f hl => ⟨fun hm => ?_, fun hm b hb => ?_, fun hm hb hr => ?_⟩, fun f hl hbg => ?_⟩⟩
    · exact htakes (congrArg Host.Outcome.next (canter_badFetch hrun hf)) (by decide) (fun h => absurd rfl h) fun _ h => absurd rfl h
    · refine htakes (congrArg Host.Outcome.next ?_) (by decide) (fun _ => rfl) fun _ _ => rfl
      unfold rrInstr
      rw [hl]
      exact canter_illegal hrun hf
    · refine htakes (congrArg Host.Outcome.next ?_) (by decide) (fun _ => rfl) fun h _ => absurd rfl h
      unfold jrInstr
      rw [hl]
      exact canter_trap hrun hf (if_pos hm)
    · refine htakes ((execLd_eq_canter hw).trans (congrArg Host.Outcome.next ?_)) (by decide) (fun _ => rfl) fun h _ => absurd rfl h
      rw [hl]
      exact canter_trap hrun hf (ldEff_misaligned hm)
    · refine htakes ((execLd_eq_canter hw).trans (congrArg Host.Outcome.next ?_)) (by decide) (fun h => absurd rfl h) fun _ h => absurd rfl h
      rw [hl]
      exact canter_trap hrun hf (ldEff_faults hm hb)
    · refine htakes (congrArg Host.Outcome.next ?_) (by decide) (fun _ => rfl) fun h _ => absurd rfl h
      rw [hl]
      exact canter_trap hrun hf (stEff_misaligned hm)
    · refine htakes (congrArg Host.Outcome.next ?_) (by decide) (fun h => absurd rfl h) fun _ h => absurd rfl h
      rw [hl]
      exact canter_trap hrun hf (stEff_faults hm hb)
    · refine htakes (congrArg Host.Outcome.next ?_) (by decide) (fun h => absurd rfl h) fun _ h => absurd rfl h
      rw [hl]
      exact canter_trap hrun hf (stEff_forbidden hm hb hr)
    · refine htakes (congrArg Host.Outcome.next ?_) (by decide) (fun h => absurd rfl h) fun _ h => absurd rfl h
      unfold svcLong
      rw [hl]
      refine canter_trap hrun hf ((if_neg ?_).trans (if_pos ?_))
      · exact fun h => hn (of_decide_eq_true h)
      · exact congrArg (!·) hbg
  · have ht := excTaken_takes (s := atCycle (s.core[c].startAt + b) s) (n := s.core[c].startAt + b) (cause := 4) (bus := 0)
      (addr := 0) (.inl ⟨i, slot, hfg⟩) (fun _ => rfl) (fun _ _ => rfl)
    refine ⟨_, exec_budget hrun hfg hb, ?_⟩
    rw [takeExc_budget (s := atCycle (s.core[c].startAt + b) s) hfg]
    obtain ⟨hfrm, hmode⟩ := askStop_parts (c := c) (s := excTaken c 4 0 0 (s.core[c].startAt + b) (atCycle (s.core[c].startAt + b) s))
    rw [excTaken_frm] at hfrm
    rw [excTaken_sys] at hmode
    generalize askStop c (excTaken c 4 0 0 (s.core[c].startAt + b) (atCycle (s.core[c].startAt + b) s)) = u at ht hfrm hmode
    refine ⟨ht.overrun frameOverrun_keeps, fun hm ho => ?_, fun hm ho => ?_⟩
    · obtain ⟨hf, hp⟩ := frameOverrun_counts (s := u) (kind := 2) (k2 := BitVec.ofNat 2 c.val) (g3 := 0) (slot := slot)
        (by rw [hmode]; exact hm) (by rw [hfrm]; exact ho)
      rw [hf, overrunInfo_eq]
      unfold overrunFrm
      rw [hfrm]
      exact ⟨rfl, rfl, rfl, rfl, rfl, hp⟩
    · rw [frameOverrun_again (by rw [hmode]; exact hm) (by rw [hfrm]; exact ho), hfrm]
      exact ⟨rfl, by simp⟩

end Sys2Proof.Machine
end

section
/-! What the work of one channel leaves: its requests to the Reins, and the operations that apply a value to it. -/

open Sys2Proof Sys2Proof.Machine
namespace Sys2Proof.Machine

section
variable {s t u : State} {n k : ChanId} {g h : GroupId} {slot : BitVec 8} {i : Fin 96} {op : ReqOp} {w : W32}

/-! ### Requests -/

/-- Requests and events change; no channel and no word of the process image does. -/
structure ReqWork (s t : State) : Prop where
  rest : apartFromChannels t = apartFromChannels s
  ch : t.ch = s.ch
  pi : t.pi = s.pi

theorem ReqWork.refl : ReqWork s s := ⟨rfl, rfl, rfl⟩

theorem ReqWork.trans (h1 : ReqWork s t) (h2 : ReqWork t u) : ReqWork s u :=
  ⟨h2.rest.trans h1.rest, h2.ch.trans h1.ch, h2.pi.trans h1.pi⟩

theorem each_reqWork {α : Type} {f : α → State → State} (h : ∀ y s, ReqWork s (f y s)) {l : List α} : ReqWork s (each l f s) := by
  induction l generalizing s with
  | nil => exact .refl
  | cons y l ih => exact (h y s).trans ih

theorem setPgv_reqWork {p : Pgv} : ReqWork s { s with pgv := p } := ⟨rfl, rfl, rfl⟩

theorem modSlot_reqWork {f : Slot → Slot} : ReqWork s (modSlot s i f) := ⟨rfl, rfl, rfl⟩

theorem openSlot_reqWork {cls : BitVec 2} {gc : Vector Nat 8} {dc frames : Nat} {members : BitVec 64} :
    ReqWork s (openSlot i op cls gc dc frames members s) := by
  unfold openSlot keepLease
  dsimp only
  split <;> exact ⟨rfl, rfl, rfl⟩

theorem askLeave_reqWork : ReqWork s (askLeave n op s) := by
  have halone : ReqWork s (if s.pgv.slots[chSlot n].st ≠ .pending then openOp (chSlot n) op s else s) := by
    split
    · exact openSlot_reqWork
    · exact .refl
  unfold askLeave
  simp only [decide_eq_true_eq]
  split
  · exact halone
  · exact halone
  · split
    · exact modSlot_reqWork
    · split
      · exact openSlot_reqWork
      · exact .refl

theorem endLease_reqWork : ReqWork s (endLease n s) := by
  unfold endLease
  extract_lets mine s1
  refine .trans (each_reqWork (fun i s => ?_)) setPgv_reqWork
  split
  · exact modSlot_reqWork
  · exact .refl

theorem endLease_ch : (endLease n s).ch[k] = s.ch[k] := by
  have h := endLease_reqWork (n := n) (s := s)
  rw [h.ch]

theorem endLease_if_applied {p : Prop} [Decidable p] (h : s.ch[n].out.applied = w) :
    (if p then endLease n s else s).ch[n].out.applied = w := by
  split
  · rw [endLease_ch]
    exact h
  · exact h

/-! ### The output of a channel -/

theorem modOut_out {f : ChDo → ChDo} : (modOut s n f).ch[n].out = f s.ch[n].out := by
  unfold modOut
  rw [modCh_self]

/-- What `setApplied` makes of an output's word, and what it leaves. -/
theorem setApplied_out : (setApplied n w s).ch[n].out.applied = w ∧
    (setApplied n w s).ch[n].out.subst = s.ch[n].out.subst ∧ (setApplied n w s).ch[n].out.armed = s.ch[n].out.armed := by
  have hsuspect : ∀ f : ChFlt → ChFlt, (modFlt s n f).ch[n].out = s.ch[n].out := fun f => by
    unfold modFlt
    rw [modCh_self]
  have hone : ∀ o0 o1 o : ChDo, (o1 = o0 ∨ o1 = endPulse s.now o0) → (o = turnedOn n o1 ∨ o = o1) →
      o.subst = o0.subst ∧ o.armed = o0.armed := by
    rintro o0 o1 o (rfl | rfl) (rfl | rfl) <;> exact ⟨rfl, rfl⟩
  have hstart : ∀ u : State, u.ch[n].out = s.ch[n].out → ∀ g : ChDo → ChDo, (∀ o, (g o).applied = w ∧
      (g o).subst = o.subst ∧ (g o).armed = o.armed) → (modOut u n g).ch[n].out.applied = w ∧
        (modOut u n g).ch[n].out.subst = s.ch[n].out.subst ∧ (modOut u n g).ch[n].out.armed = s.ch[n].out.armed := by
    intro u hu g hg
    rw [modOut_out, ← hu]
    exact hg _
  unfold setApplied
  extract_lets m s1
  refine hstart s1 ?_ _ fun o0 => ?_
  · unfold s1
    split
    · exact hsuspect _
    · rfl
  · extract_lets o1 o
    exact ⟨rfl, hone o0 o1 o (by unfold o1; split <;> simp) (by unfold o; split <;> simp)⟩

/-! ### One channel -/

/-- Of the channels only `n` changes, which waits for its delay as it did, and beside it requests and events. -/
structure ChWork (n : ChanId) (s t : State) : Prop where
  rest : apartFromChannels t = apartFromChannels s
  other : ChOther n s t
  pi : t.pi = s.pi
  armed : t.ch[n].out.armed = s.ch[n].out.armed

theorem ChWork.refl : ChWork n s s := ⟨rfl, fun _ _ => rfl, rfl, rfl⟩

theorem ChWork.trans (h1 : ChWork n s t) (h2 : ChWork n t u) : ChWork n s u :=
  ⟨h2.rest.trans h1.rest, h1.other.trans h2.other, h2.pi.trans h1.pi, h2.armed.trans h1.armed⟩

theorem ReqWork.chWork (h : ReqWork s t) : ChWork n s t := ⟨h.rest, chOther_of_chs h.ch, h.pi, by rw [h.ch]⟩

theorem modCh_chWork {f : Chan → Chan} (hf : ∀ x, (f x).out.armed = x.out.armed) : ChWork n s (modCh s n f) :=
  ⟨rfl, modCh_chOther, rfl, by rw [modCh_self, hf]⟩

theorem modOut_chWork {f : ChDo → ChDo} (hf : ∀ o, (f o).armed = o.armed) : ChWork n s (modOut s n f) :=
  modCh_chWork fun x => hf x.out

theorem modFlt_chWork {f : ChFlt → ChFlt} : ChWork n s (modFlt s n f) := modCh_chWork fun _ => rfl

theorem setApplied_chWork : ChWork n s (setApplied n w s) := by
  have ho : ∀ {u : State} {f : ChDo → ChDo}, ChOther n u (modOut u n f) := modCh_chOther
  refine ⟨?_, ?_, ?_, setApplied_out.2.2⟩ <;> unfold setApplied <;> dsimp only <;> split
  · rfl
  · rfl
  · exact modCh_chOther.trans ho
  · exact ho
  · rfl
  · rfl

theorem startBusy_chWork {b : BitVec 2} : ChWork n s (startBusy n b s) := by
  unfold startBusy
  split
  · exact .refl
  · exact modFlt_chWork

theorem queueReq_chWork {q : QReq} : ChWork n s (queueReq n q s) := by
  unfold queueReq
  exact modFlt_chWork.trans (modOut_chWork fun _ => by rfl)

theorem latchQual_chWork : ChWork n s (latchQual n s) := modOut_chWork fun _ => rfl

theorem askOnce_chWork : ChWork n s (askOnce n op s) := by
  unfold askOnce
  dsimp only
  split
  · exact modOut_chWork fun _ => rfl
  · exact (modOut_chWork fun _ => by rfl).trans askLeave_reqWork.chWork

theorem usePrepared_chWork : ChWork n s (usePrepared i k op s) := by
  unfold usePrepared
  exact modSlot_reqWork.chWork

theorem applyValue_chWork {move : Bool} : ChWork n s (applyValue n w move s) := by
  have hlive : ∀ u : State, ChWork n u (modOut u n fun o => { o with subst := false, held := !move, clamped := false }) :=
    fun _ => modOut_chWork fun _ => rfl
  have hset : ∀ {u v : State} {x : W32}, ChWork n u v → ChWork n u (setApplied n x v) := fun h => h.trans setApplied_chWork
  have hout : ∀ {u v : State} {f : ChDo → ChDo}, ChWork n u v → (∀ o, (f o).armed = o.armed) → ChWork n u (modOut v n f) :=
    fun h hf => h.trans (modOut_chWork hf)
  unfold applyValue
  extract_lets m o live s1 target go
  have hs1 : ChWork n s s1 := (hset (hout (hlive s) fun _ => by rfl)).trans startBusy_chWork
  have hgo : ∀ {v : State} {a : Int}, ChWork n s v → ChWork n s (go a v) := fun h => hout (hset (h.trans (hlive _))) fun _ => by rfl
  split
  · split
    · split
      · exact hset (hlive s)
      · split
        · exact hset (hout (hlive s) fun _ => by rfl)
        · split
          · exact hset (hout (usePrepared_chWork.trans (hlive _)) fun _ => by rfl)
          · exact (hout (hlive s) fun _ => by rfl).trans askOnce_chWork
    · split
      · exact hset (hlive s)
      · split
        · exact hs1.trans endLease_reqWork.chWork
        · exact hs1
  split
  · exact hset (hlive s)
  split
  · exact hset (hlive s)
  split
  · split
    · exact hgo .refl
    · split
      · exact hgo (modOut_chWork fun _ => by rfl)
      · split
        · exact hgo (hout usePrepared_chWork fun _ => by rfl)
        · exact (hout (hlive s) fun _ => by rfl).trans askOnce_chWork
  · exact .refl

theorem valueBehind_chWork : ChWork n s (valueBehind n w s) := by
  unfold valueBehind
  split
  · split
    · exact modFlt_chWork.trans (modOut_chWork fun _ => by rfl)
    · exact .refl
  · exact queueReq_chWork

theorem applyCh_chWork {fresh : Bool} : ChWork n s (applyCh n fresh s) := by
  unfold applyCh
  split
  · refine .trans ?_ latchQual_chWork
    unfold applyAt
    extract_lets x o w move
    split
    · exact .refl
    split
    · split
      · exact valueBehind_chWork
      · exact .refl
    split
    · exact .refl
    · exact applyValue_chWork.trans (modOut_chWork fun _ => by rfl)
  · exact .refl

/-! ### What a channel's output depends on -/

/-- A channel with its group, the active set, the process image, and what of the mode concerns its writer. -/
def outView (n : ChanId) (s : State) : Chan × Grp × Cfg × Pimg × (Mode × BitVec 8 × BitVec 4) :=
  (s.ch[n], s.grp[chGroup n], s.cfg, s.pi, (s.sys.mode, s.sys.degMask, s.sys.stopped))

theorem outView_parts (h : outView n t = outView n s) : t.ch[n] = s.ch[n] ∧ t.grp[chGroup n] = s.grp[chGroup n] ∧
    t.cfg = s.cfg ∧ t.pi = s.pi ∧ t.sys.mode = s.sys.mode ∧ t.sys.degMask = s.sys.degMask ∧ t.sys.stopped = s.sys.stopped := by
  simpa only [outView, Prod.mk.injEq] using h

theorem rest_parts (h : apartFromChannels t = apartFromChannels s) : t.grp = s.grp ∧ t.cfg = s.cfg ∧ t.sys = s.sys ∧
    t.frm = s.frm :=
  ⟨grp_of_channels h, (congrArg State.cfg h :), (congrArg State.sys h :), (congrArg State.frm h :)⟩

theorem ChWork.outView_other (h : ChWork k s t) (hne : n ≠ k) : outView n t = outView n s := by
  obtain ⟨hg, hc, hs, -⟩ := rest_parts h.rest
  unfold outView
  rw [h.other n hne, h.pi, hg, hc, hs]

theorem outQual_of_view (h : outView n t = outView n s) : outQual t n = outQual s n := by
  obtain ⟨hch, hg, hc, hpi, -, -, hst⟩ := outView_parts h
  unfold outQual writerNone writerA modeA chA act
  rw [hch, hg, hc, hpi, hst]

theorem latchQual_qual : (latchQual n s).ch[n].out.qual = outQual s n ∧ outQual (latchQual n s) n = outQual s n := by
  have h : (latchQual n s).ch[n] = { s.ch[n] with out := { s.ch[n].out with qual := outQual s n } } := modCh_self _ _ _
  refine ⟨by rw [h], ?_⟩
  unfold outQual
  rw [h]
  rfl

/-! ### What an apply instant does to a channel that drives its output (R67, R96, R97, R100) -/

/-- The channel's writer drives its output: no shutdown, no safe value and no force is in the way. -/
def Drives (s : State) (n : ChanId) : Prop :=
  groupOff s.grp[chGroup n] = false ∧ s.grp[chGroup n].hold = false ∧ safeInForce s n = false ∧ forced s n = false ∧
    busy s n = false ∧ heldOff s n = false

/-- The output `t` of channel `n` applies the word that had been delivered to it in `s`, as its mode uses it. -/
def Applies (n : ChanId) (s t : State) : Prop :=
  (modeG s n = 4 → t.ch[n].out.applied = s.ch[n].out.xfer &&& 0x80000000 ∧ t.ch[n].out.subst = false) ∧
  (modeG s n = 5 → t.ch[n].out.applied = s.ch[n].out.xfer &&& 0xFFFF0000 ∧ t.ch[n].out.subst = false) ∧
  (modeG s n = 3 → s.ch[n].out.xfer.msb = false → t.ch[n].out.applied = 0) ∧
  (modeG s n = 3 → s.ch[n].out.xfer.msb = true → inrushG s n = 0 → t.ch[n].out.applied = 0x80000000)

theorem startBusy_out {b : BitVec 2} : (startBusy n b s).ch[n].out = s.ch[n].out := by
  unfold startBusy
  split
  · rfl
  · unfold modFlt
    rw [modCh_self]

/-- A value of a digital mode is applied as the mode uses it (R67, R71, R75). -/
theorem applyValue_digital {move : Bool} :
    (modeG s n = 4 → (applyValue n w move s).ch[n].out.applied = w &&& 0x80000000 ∧
      (applyValue n w move s).ch[n].out.subst = false) ∧
    (modeG s n = 5 → (applyValue n w move s).ch[n].out.applied = w &&& 0xFFFF0000 ∧
      (applyValue n w move s).ch[n].out.subst = false) ∧
    (modeG s n = 3 → w.msb = false → (applyValue n w move s).ch[n].out.applied = 0) ∧
    (modeG s n = 3 → w.msb = true → inrushG s n = 0 → (applyValue n w move s).ch[n].out.applied = 0x80000000) := by
  unfold applyValue
  extract_lets m o live s1 target go
  have hlive : (live s).ch[n].out.subst = false := by
    unfold live
    rw [modOut_out]
  refine ⟨fun h => ?_, fun h => ?_, fun h hw => ?_, fun h hw hi => ?_⟩
  · have h3 : ¬ m = 3 := by unfold m; omega
    rw [if_neg h3, if_pos (show m = 4 from h)]
    exact ⟨setApplied_out.1, setApplied_out.2.1.trans hlive⟩
  · have h3 : ¬ m = 3 ∧ ¬ m = 4 := by unfold m; omega
    rw [if_neg h3.1, if_neg h3.2, if_pos (show m = 5 from h)]
    exact ⟨setApplied_out.1, setApplied_out.2.1.trans hlive⟩
  · have h1 : s1.ch[n].out.applied = 0 := by
      unfold s1
      rw [startBusy_out]
      exact setApplied_out.1
    rw [if_pos (show m = 3 from h), if_neg (by simp [hw]), if_neg (by simp [hw])]
    exact endLease_if_applied h1
  · rw [if_pos (show m = 3 from h)]
    by_cases ho : (w.msb && !o.applied.msb) = true
    · rw [if_pos ho, if_pos hi]
      exact setApplied_out.1
    · rw [if_neg ho, if_pos hw]
      exact setApplied_out.1

/-- Without a ramp the mode-10 value is the written one, clamped to the span (R97, R100). -/
theorem applyValue_analog (hm : modeG s n = 10) (hr : fld (chG s n 0x14) 11 0 = 0) :
    (applyValue n w true s).ch[n].out.applied = aoWord (aoClamp 10 (spanG s n) (aoVal w)) := by
  have hstep : ∀ a b : Int, rampStep s n a b = b := fun a b => by
    unfold rampStep
    simp [hr]
  have he : ∀ m : Nat, m = 10 → ¬ m = 3 ∧ ¬ m = 4 ∧ ¬ m = 5 ∧ (m = 10 ∨ m = 11) := by omega
  unfold applyValue
  extract_lets m o live s1 target go
  obtain ⟨h3, h4, h5, h10⟩ := he m hm
  have hgo : ∀ a, (go a s).ch[n].out.applied = aoWord target := fun a => by
    unfold go
    dsimp only
    rw [modOut_out, if_pos rfl, hstep]
    exact setApplied_out.1
  rw [if_neg h3, if_neg h4, if_neg h5, if_pos h10, if_pos (.inl hm), hgo]
  unfold target
  rw [show m = 10 from hm]

theorem latchQual_out : (latchQual n s).ch[n].out.applied = s.ch[n].out.applied ∧
    (latchQual n s).ch[n].out.subst = s.ch[n].out.subst := by
  unfold latchQual
  rw [modOut_out]
  exact ⟨rfl, rfl⟩

theorem noteLast_out : (noteLast n s).ch[n].out.applied = s.ch[n].out.applied ∧
    (noteLast n s).ch[n].out.subst = s.ch[n].out.subst := by
  unfold noteLast
  rw [modOut_out]
  exact ⟨rfl, rfl⟩

/-- A channel that drives its output applies the word that was delivered to it. -/
theorem applyCh_drives {fresh : Bool} (hd : Drives s n) (hm : isOutMode (modeG s n) = true) : applyCh n fresh s =
    latchQual n (noteLast n (applyValue n s.ch[n].out.xfer (fresh && !s.ch[n].out.keep) s)) := by
  obtain ⟨hoff, hhold, hsafe, hforce, hbusy, hheld⟩ := hd
  refine (if_pos hm).trans (congrArg (latchQual n) ?_)
  unfold applyAt
  dsimp only
  rw [if_neg (by rw [hoff, hhold, hsafe]; exact Bool.false_ne_true), if_neg (by simp [hbusy]), if_neg (by simp [hheld]), hforce]
  rfl

theorem isOutMode_eq {m : Nat} : isOutMode m = true ↔ m = 3 ∨ m = 4 ∨ m = 5 ∨ m = 10 ∨ m = 11 := by
  simp [isOutMode, or_assoc]

theorem applyCh_applies {fresh : Bool} (hd : Drives s n) : Applies n s (applyCh n fresh s) := by
  have hm : modeG s n = 3 ∨ modeG s n = 4 ∨ modeG s n = 5 → isOutMode (modeG s n) = true := fun h =>
    isOutMode_eq.2 (by omega)
  have hout : isOutMode (modeG s n) = true → (applyCh n fresh s).ch[n].out.applied =
      (applyValue n s.ch[n].out.xfer (fresh && !s.ch[n].out.keep) s).ch[n].out.applied ∧
      (applyCh n fresh s).ch[n].out.subst =
      (applyValue n s.ch[n].out.xfer (fresh && !s.ch[n].out.keep) s).ch[n].out.subst := fun h => by
    rw [applyCh_drives hd h]
    exact ⟨latchQual_out.1.trans noteLast_out.1, latchQual_out.2.trans noteLast_out.2⟩
  obtain ⟨h4, h5, hoff, hon⟩ := applyValue_digital (s := s) (n := n) (w := s.ch[n].out.xfer)
    (move := fresh && !s.ch[n].out.keep)
  refine ⟨fun h => ?_, fun h => ?_, fun h hw => ?_, fun h hw hi => ?_⟩
  · obtain ⟨ha, hs⟩ := hout (hm (by omega))
    exact ⟨ha.trans (h4 h).1, hs.trans (h4 h).2⟩
  · obtain ⟨ha, hs⟩ := hout (hm (by omega))
    exact ⟨ha.trans (h5 h).1, hs.trans (h5 h).2⟩
  · exact (hout (hm (by omega))).1.trans (hoff h hw)
  · exact (hout (hm (by omega))).1.trans (hon h hw hi)

theorem applyCh_analog (hd : Drives s n) (hm : modeG s n = 10) (hr : fld (chG s n 0x14) 11 0 = 0)
    (hk : s.ch[n].out.keep = false) :
    (applyCh n true s).ch[n].out.applied = aoWord (aoClamp 10 (spanG s n) (aoVal s.ch[n].out.xfer)) := by
  rw [applyCh_drives hd (isOutMode_eq.2 (by omega)), hk]
  exact latchQual_out.1.trans (noteLast_out.1.trans (applyValue_analog hm hr))

theorem applyCh_qual {fresh : Bool} (hm : isOutMode (modeG s n) = true) :
    (applyCh n fresh s).ch[n].out.qual = outQual (applyCh n fresh s) n := by
  unfold applyCh
  rw [if_pos hm]
  exact latchQual_qual.1.trans latchQual_qual.2.symm

/-! ### What an apply instant needs of a channel -/

theorem view_modeG (h : outView n t = outView n s) : modeG t n = modeG s n ∧ (∀ o, chG t n o = chG s n o) := by
  obtain ⟨-, hg, -⟩ := outView_parts h
  unfold modeG chG
  rw [hg]
  exact ⟨rfl, fun _ => rfl⟩

theorem Drives.of_view (h : outView n t = outView n s) (hd : Drives s n) : Drives t n := by
  obtain ⟨hch, hg, hc, -, hm, hdm, hst⟩ := outView_parts h
  unfold Drives safeInForce forced busy heldOff writerNone writerA chA act at hd ⊢
  rw [hch, hg, hc, hm, hdm, hst]
  exact hd

/-! ### The apply slot (R34, R37, R50) -/

/-- An apply slot at one channel: at once, or once its own delay ends. -/
def applyOne (fresh : Bool) (n : ChanId) (s : State) : State :=
  if chG s n 0x0C = 0 then applyCh n fresh s
  else if isOutMode (modeG s n) then
    modOut s n fun o => { o with armed := some fresh, armT := s.now + 8 * (chG s n 0x0C).toNat }
  else s

/-- An apply instant of the group takes up the transfer that has completed for it. -/
def Grp.taken (x : Grp) : Grp := { x with xferNew := x.xferNew && x.xfer.isSome }

/-- The group's transfer is taken up. -/
def takeNew (g : GroupId) (s : State) : State := modGrp s g Grp.taken

theorem takeNew_grp : (takeNew g s).grp[g] = s.grp[g].taken := modGrp_self _ _ _

/-- Whether a transfer has completed for the group since its last apply instant. -/
def freshOf (g : GroupId) (s : State) : Bool := s.grp[g].xferNew && s.grp[g].xfer.isNone

theorem applyGroup_eq : applyGroup g s = each (chansOf g) (applyOne (freshOf g s)) (takeNew g s) := rfl

theorem applyOne_view_other {fresh : Bool} (hne : n ≠ k) : outView n (applyOne fresh k s) = outView n s := by
  have harm : ∀ f : ChDo → ChDo, outView n (modOut s k f) = outView n s := fun f => by
    have hch : (modOut s k f).ch[n] = s.ch[n] := modCh_other _ _ hne
    unfold outView
    rw [hch]
    rfl
  unfold applyOne
  split
  · exact applyCh_chWork.outView_other hne
  · split
    · exact harm _
    · rfl

theorem mem_chansOf_chGroup : n ∈ chansOf (chGroup n) :=
  mem_chansOf.2 ⟨chPos n, Fin.ext (by unfold grpCh chGroup chPos; dsimp only; omega)⟩

theorem not_mem_chansOf (hg : g ≠ chGroup n) : n ∉ chansOf g := fun h => by
  obtain ⟨p, rfl⟩ := mem_chansOf.1 h
  exact hg chGroup_grpCh.symm

theorem takeNew_view_other (hg : g ≠ chGroup n) : outView n (takeNew g s) = outView n s := by
  have h : (takeNew g s).grp[chGroup n] = s.grp[chGroup n] := modGrp_other _ _ (Ne.symm hg)
  unfold outView
  rw [h]
  rfl

theorem takeNew_view (h : outView n t = outView n s) :
    outView n (takeNew (chGroup n) t) = outView n (takeNew (chGroup n) s) ∧ freshOf (chGroup n) t = freshOf (chGroup n) s := by
  obtain ⟨hch, hg, hc, hpi, hm, hdm, hst⟩ := outView_parts h
  have hn : (takeNew (chGroup n) t).grp[chGroup n] = (takeNew (chGroup n) s).grp[chGroup n] := by
    rw [takeNew_grp, takeNew_grp, hg]
  constructor
  · unfold outView
    rw [hn]
    unfold takeNew modGrp
    dsimp only
    rw [hch, hc, hpi, hm, hdm, hst]
  · unfold freshOf
    rw [hg]

/-- Channel `n` of `t` stands as the apply slot at it leaves it, and nothing its output depends on has changed since `s`. -/
def AppliedAt (n : ChanId) (s t : State) : Prop :=
  ∃ v, outView n v = outView n (takeNew (chGroup n) s) ∧ outView n t = outView n (applyOne (freshOf (chGroup n) s) n v)

theorem applyGroup_other (hg : g ≠ chGroup n) : outView n (applyGroup g s) = outView n s := by
  rw [applyGroup_eq]
  exact (each_congr_mem (π := outView n) fun k hk _ =>
    applyOne_view_other fun h => not_mem_chansOf hg (h ▸ hk)).trans (takeNew_view_other hg)

theorem applyGroup_appliedAt (h : outView n t = outView n s) : AppliedAt n s (applyGroup (chGroup n) t) := by
  obtain ⟨htake, hfresh⟩ := takeNew_view h
  rw [applyGroup_eq, hfresh]
  exact each_at (x := n) (P := fun u => outView n u = outView n (takeNew (chGroup n) s)) (Q := AppliedAt n s)
    (fun k hk u hu => (applyOne_view_other hk.symm).trans hu) (fun u hu => ⟨u, hu, rfl⟩)
    (fun k hk u ⟨v, hv, hu⟩ => ⟨v, hv, (applyOne_view_other hk.symm).trans hu⟩) chansOf_nodup mem_chansOf_chGroup htake

theorem each_applyGroup {l : List GroupId} (hn : l.Nodup) (hg : chGroup n ∈ l) (h : outView n t = outView n s) :
    AppliedAt n s (each l applyGroup t) :=
  each_at (P := fun u => outView n u = outView n s) (Q := AppliedAt n s)
    (fun _ hne _ hu => (applyGroup_other hne).trans hu) (fun _ hu => applyGroup_appliedAt hu)
    (fun _ hne _ ⟨v, hv, hu⟩ => ⟨v, hv, (applyGroup_other hne).trans hu⟩) hn hg h

theorem each_applyGroup_other {l : List GroupId} (hg : chGroup n ∉ l) : outView n (each l applyGroup s) = outView n s :=
  each_congr_mem (π := outView n) fun _ hk _ => applyGroup_other fun h => hg (h ▸ hk)

/-- What the apply rules read of a channel does not depend on whether a transfer is taken up. -/
theorem takeNew_reads : modeG (takeNew (chGroup n) s) n = modeG s n ∧
    (∀ o, chG (takeNew (chGroup n) s) n o = chG s n o) ∧ (Drives (takeNew (chGroup n) s) n ↔ Drives s n) := by
  have hch : (takeNew (chGroup n) s).ch = s.ch := rfl
  have hcfg : (takeNew (chGroup n) s).cfg = s.cfg := rfl
  have hsys : (takeNew (chGroup n) s).sys = s.sys := rfl
  refine ⟨?_, fun o => ?_, ?_⟩
  · unfold modeG chG
    rw [takeNew_grp]
    rfl
  · unfold chG
    rw [takeNew_grp]
    rfl
  · unfold Drives safeInForce forced busy heldOff writerNone writerA chA act
    rw [takeNew_grp, hch, hcfg, hsys]
    rfl

/-- What an apply slot reads of channel `n` is what `s` shows, whatever the slot has done to other channels before. -/
theorem reads_of_taken (hv : outView n u = outView n (takeNew (chGroup n) s)) : u.ch[n] = s.ch[n] ∧ modeG u n = modeG s n ∧
    (∀ o, chG u n o = chG s n o) ∧ (Drives s n → Drives u n) := by
  obtain ⟨hm, hc, hd⟩ := takeNew_reads (n := n) (s := s)
  exact ⟨(outView_parts hv).1, (view_modeG hv).1.trans hm, fun o => ((view_modeG hv).2 o).trans (hc o),
    fun h => (hd.2 h).of_view hv⟩

theorem Applies.congr (h : Applies n u t) (hch : u.ch[n] = s.ch[n]) (hm : modeG u n = modeG s n)
    (hc : ∀ o, chG u n o = chG s n o) {v : State} (ht : v.ch[n] = t.ch[n]) : Applies n s v := by
  unfold Applies inrushG at h ⊢
  rw [hch, hm, hc] at h
  rw [ht]
  exact h

theorem AppliedAt.at_once (h : AppliedAt n s t) (hd : Drives s n) (h0 : chG s n 0x0C = 0) : Applies n s t ∧
    (isOutMode (modeG s n) = true → t.ch[n].out.qual = outQual t n) ∧
    (modeG s n = 10 → fld (chG s n 0x14) 11 0 = 0 → freshOf (chGroup n) s = true → s.ch[n].out.keep = false →
      t.ch[n].out.applied = aoWord (aoClamp 10 (spanG s n) (aoVal s.ch[n].out.xfer))) := by
  obtain ⟨v, hv, ht⟩ := h
  obtain ⟨hch, hm, hc, hdv⟩ := reads_of_taken hv
  rw [applyOne, if_pos ((hc _).trans h0)] at ht
  have htch := (outView_parts ht).1
  refine ⟨(applyCh_applies (hdv hd)).congr hch hm hc htch, fun ho => ?_, fun h10 hr hf hk => ?_⟩
  · rw [htch, outQual_of_view ht]
    exact applyCh_qual (by rw [hm]; exact ho)
  · have h := applyCh_analog (hdv hd) (hm.trans h10) (by rw [hc]; exact hr) (by rw [hch]; exact hk)
    rw [htch, hf, h, hch]
    unfold spanG
    rw [hc]

theorem AppliedAt.later (h : AppliedAt n s t) (h0 : chG s n 0x0C ≠ 0) (ho : isOutMode (modeG s n) = true) :
    t.ch[n].out.armed = some (freshOf (chGroup n) s) ∧ t.ch[n].out.applied = s.ch[n].out.applied := by
  obtain ⟨v, hv, ht⟩ := h
  obtain ⟨hch, hm, hc, -⟩ := reads_of_taken hv
  rw [applyOne, if_neg (by rw [hc]; exact h0), if_pos (by rw [hm]; exact ho)] at ht
  rw [(outView_parts ht).1, modOut_out, ← hch]
  exact ⟨rfl, rfl⟩

/-- What an overrun frame leaves of the channels' outputs and their writers (R46, R48). -/
theorem frameOverrun_outputs {kind k2 : BitVec 2} {g3 : BitVec 3} {t : State} (ht : t = frameOverrun kind k2 g3 slot s) :
    (t.ch, t.grp, t.cfg, t.pi, (t.sys.mode, t.sys.degMask, t.sys.stopped)) =
      (s.ch, s.grp, s.cfg, s.pi, (s.sys.mode, s.sys.degMask, s.sys.stopped)) := by
  subst ht
  cases hm : fgMode s.sys.mode with
  | false => rw [frameOverrun_outside hm]
  | true =>
    cases ho : s.frm.overrun with
    | true => rw [frameOverrun_again hm ho]
    | false =>
      rw [frameOverrun_first hm ho]
      generalize hs1 : ({ s with frm := _ } : State) = s1
      have hlim : ∀ u : State, (let t := atOverrunLimit u
          (t.ch, t.grp, t.cfg, t.pi, (t.sys.mode, t.sys.degMask, t.sys.stopped))) =
          (u.ch, u.grp, u.cfg, u.pi, (u.sys.mode, u.sys.degMask, u.sys.stopped)) := fun u => by
        unfold atOverrunLimit trialFail safeTrigger
        dsimp only
        split
        · split <;> split <;> rfl
        · rfl
      refine (hlim _).trans ?_
      rw [raise_ch, raise_grp, raise_cfg, raise_pi, raise_sys]
      subst hs1
      rfl

theorem frameOverrun_view {kind k2 : BitVec 2} {g3 : BitVec 3} :
    outView n (frameOverrun kind k2 g3 slot s) = outView n s := by
  obtain ⟨hch, hg, hc, hpi, hsys⟩ : _ ∧ _ ∧ _ ∧ _ ∧ _ := by
    simpa only [Prod.mk.injEq] using frameOverrun_outputs (s := s) (slot := slot) (kind := kind) (k2 := k2) (g3 := g3) rfl
  unfold outView
  rw [hch, hg, hc, hpi, hsys.1, hsys.2.1, hsys.2.2]

/-- The groups whose outputs an apply slot applies: those that are powered and linked. -/
def appliedGroups (s : State) (slot : BitVec 8) : List GroupId :=
  (slotGroups s slot).filter fun g => alive s g && !(s.grp[g]).link

theorem exec_outApply (hin : inService s = true) (hs : slotIs s slot 5 = true) : ∃ u, (∀ n, outView n u = outView n s) ∧
    exec (.outApply slot) s = .next (each (appliedGroups s slot) applyGroup u) := by
  have he : exec (.outApply slot) s = .next (each (appliedGroups s slot) applyGroup
      (match (appliedGroups s slot).find? fun g => (s.grp[g]).xfer.isSome with
        | some g => frameOverrun 3 0 (BitVec.ofNat 3 g.val) slot (atSlot slot s)
        | none => atSlot slot s)) := congrArg Host.Outcome.next ((if_pos hin).trans (if_pos hs))
  refine ⟨_, fun n => ?_, he⟩
  split
  · exact frameOverrun_view
  · rfl

theorem mem_appliedGroups (hg : g ∈ slotGroups s slot) (ha : alive s g = true) (hl : s.grp[g].link = false) :
    g ∈ appliedGroups s slot := List.mem_filter.2 ⟨hg, by rw [ha, hl]; rfl⟩

theorem appliedGroups_nodup : (appliedGroups s slot).Nodup := slotGroups_nodup.filter _

/-- A channel's own delay ends (R50). -/
theorem exec_channelApply {fresh : Bool} (ha : s.ch[n].out.armed = some fresh) : exec (.channelApply n) s =
    .next (applyCh n fresh (modOut (atTime s.ch[n].out.armT s) n fun o => { o with armed := none })) :=
  congrArg Host.Outcome.next (by rw [ha])

/-! ### The transfer slot (R37, R40, R46, R47) -/

theorem each_eq_self {α : Type} {f : α → State → State} {l : List α} (h : ∀ y ∈ l, f y s = s) : each l f s = s := by
  induction l with
  | nil => rfl
  | cons y l ih =>
    have hy : each (y :: l) f s = each l f (f y s) := rfl
    rw [hy, h y List.mem_cons_self]
    exact ih fun z hz => h z (List.mem_cons_of_mem _ hz)

/-- The task `r` was released at has its deadline at the slot. -/
def dueAt (s : State) (slot r : BitVec 8) : Bool := decide (deadlineOf s r.toNat = some slot.toNat)

/-- The core runs a foreground task whose deadline the slot is. -/
def runsDue (s : State) (slot : BitVec 8) : Run → Bool
  | .fg _ r => dueAt s slot r
  | _ => false

/-- The core's due tasks are taken from it: the running one, where it is due, and those that wait. -/
def dropDue (slot : BitVec 8) (c : CoreId) (running : Bool) (s : State) : State :=
  modCore s c fun k =>
    { k with run := if running then .idle else k.run, queue := k.queue.filter fun q => !dueAt s slot q.2
             freeAt := if running then slotCycle s slot.toNat else k.freeAt }

theorem deadlineCore_eq {c : CoreId} : deadlineCore slot c s =
    if runsDue s slot s.core[c].run || s.core[c].queue.any (fun q => dueAt s slot q.2) then
      frameOverrun 1 (BitVec.ofNat 2 c.val) 0 slot (dropDue slot c (runsDue s slot s.core[c].run) s)
    else dropDue slot c (runsDue s slot s.core[c].run) s := rfl

/-- A core none of whose tasks has its deadline at the slot goes on (R40). -/
theorem deadlineCore_none {c : CoreId} (hr : runsDue s slot s.core[c].run = false)
    (hq : ∀ q ∈ s.core[c].queue, dueAt s slot q.2 = false) : deadlineCore slot c s = s := by
  have hany : (s.core[c].queue.any fun q => dueAt s slot q.2) = false :=
    List.any_eq_false.2 fun q hm => by rw [hq q hm]; exact Bool.false_ne_true
  have hfil : (s.core[c].queue.filter fun q => !dueAt s slot q.2) = s.core[c].queue :=
    List.filter_eq_self.2 fun q hm => by rw [hq q hm]; rfl
  have hsame : dropDue slot c false s = s := by
    unfold dropDue modCore
    dsimp only
    rw [hfil]
    exact congrArg (fun v => { s with core := v }) (Vector.set_getElem_self _)
  rw [deadlineCore_eq, hr, hany, if_neg (by decide), hsame]

/-- What a core's deadline depends on. -/
def dueView (c : CoreId) (s : State) : Run × Cfg × Mode := (s.core[c].run, s.cfg, s.sys.mode)

theorem frameOverrun_run {kind k2 : BitVec 2} {g3 : BitVec 3} {c : CoreId} :
    dueView c (frameOverrun kind k2 g3 slot s) = dueView c s := by
  have hrun : (frameOverrun kind k2 g3 slot s).core[c].run = s.core[c].run := by
    rw [frameOverrun_keeps.core c]
  obtain ⟨-, -, hc, -, hm, -⟩ : _ ∧ _ ∧ _ ∧ _ ∧ _ ∧ _ := by
    simpa only [Prod.mk.injEq] using frameOverrun_outputs (s := s) (slot := slot) (kind := kind) (k2 := k2) (g3 := g3) rfl
  unfold dueView
  rw [hrun, hc, hm]

/-- The frame has been marked as one in which a task overran (R47). -/
def TaskOverran (s : State) : Prop := s.frm.overrun = true ∧ s.frm.ovrXfer = true

theorem frameOverrun_taskOverran {k2 : BitVec 2} {g3 : BitVec 3} (hm : fgMode s.sys.mode = true) :
    TaskOverran (frameOverrun 1 k2 g3 slot s) := by
  cases ho : s.frm.overrun with
  | true =>
    rw [frameOverrun_again hm ho]
    exact ⟨ho, by simp⟩
  | false =>
    have h := (frameOverrun_counts (kind := 1) (k2 := k2) (g3 := g3) (slot := slot) hm ho).1
    unfold TaskOverran
    rw [h]
    exact ⟨rfl, rfl⟩

theorem frameOverrun_still {kind k2 : BitVec 2} {g3 : BitVec 3} (h : TaskOverran s) :
    TaskOverran (frameOverrun kind k2 g3 slot s) := by
  cases hm : fgMode s.sys.mode with
  | false => rwa [frameOverrun_outside hm]
  | true =>
    rw [frameOverrun_again hm h.1]
    exact ⟨h.1, by simp [h.2]⟩

theorem dropDue_other {c d : CoreId} {b : Bool} (hne : c ≠ d) : dueView c (dropDue slot d b s) = dueView c s := by
  have h : (dropDue slot d b s).core[c] = s.core[c] := vec_set_other _ _ hne
  unfold dueView
  rw [h]
  rfl

theorem deadlineCore_other {c d : CoreId} (hne : c ≠ d) : dueView c (deadlineCore slot d s) = dueView c s := by
  rw [deadlineCore_eq]
  split
  · exact frameOverrun_run.trans (dropDue_other hne)
  · exact dropDue_other hne

theorem deadlineCore_still {c : CoreId} (h : TaskOverran s) : TaskOverran (deadlineCore slot c s) := by
  rw [deadlineCore_eq]
  split
  · exact frameOverrun_still h
  · exact h

theorem deadlineCore_grp {c : CoreId} : (deadlineCore slot c s).grp = s.grp := by
  rw [deadlineCore_eq]
  split
  · exact congrArg (fun x => x.2.1) (frameOverrun_outputs rfl)
  · rfl

/-- A task that has not ended by its deadline is stopped, and its frame is an overrun frame (R40, R46). -/
theorem deadlineCore_due {c : CoreId} (hm : fgMode s.sys.mode = true) (hr : runsDue s slot s.core[c].run = true) :
    (deadlineCore slot c s).core[c].run = .idle ∧ TaskOverran (deadlineCore slot c s) := by
  have hidle : (dropDue slot c true s).core[c].run = .idle := by
    unfold dropDue modCore
    dsimp only
    simp
  rw [deadlineCore_eq, hr, if_pos (by simp)]
  exact ⟨(congrArg Prod.fst frameOverrun_run).trans hidle, frameOverrun_taskOverran hm⟩

theorem each_deadline_due {c : CoreId} (hm : fgMode s.sys.mode = true) (hr : runsDue s slot s.core[c].run = true) :
    (each cores (deadlineCore slot) s).core[c].run = .idle ∧ TaskOverran (each cores (deadlineCore slot) s) := by
  refine each_at (x := c) (P := fun u => dueView c u = dueView c s) (Q := fun u => u.core[c].run = .idle ∧ TaskOverran u)
    (fun d hd u hu => (deadlineCore_other hd.symm).trans hu) (fun u hu => ?_)
    (fun d hd u hu => ⟨(congrArg Prod.fst (deadlineCore_other hd.symm)).trans hu.1, deadlineCore_still hu.2⟩)
    (List.nodup_finRange 4) (List.mem_finRange c) rfl
  obtain ⟨hrun, hc, hmode⟩ : _ ∧ _ ∧ _ := by simpa only [dueView, Prod.mk.injEq] using hu
  refine deadlineCore_due (by rw [hmode]; exact hm) ?_
  have hdue : ∀ x : Run, runsDue u slot x = runsDue s slot x := fun x => by
    unfold runsDue dueAt deadlineOf act
    rw [hc]
  rw [hdue, hrun, hr]

/-- The transfer of a group starts: the words of its channels are on their way (R37). -/
def sendGroup (slot : BitVec 8) (g : GroupId) (s : State) : State :=
  if alive s g && !(s.grp[g]).link then each (chansOf g) sendWord (modGrp s g fun x => { x with xfer := some slot }) else s

theorem exec_outXfer (hin : inService s = true) (hs : slotIs s slot 4 = true) : exec (.outXfer slot) s =
    .next (if (each cores (deadlineCore slot) (atSlot slot s)).frm.ovrXfer then each cores (deadlineCore slot) (atSlot slot s)
      else each (slotGroups (each cores (deadlineCore slot) (atSlot slot s)) slot) (sendGroup slot)
        (each cores (deadlineCore slot) (atSlot slot s))) :=
  congrArg Host.Outcome.next ((if_pos hin).trans (if_pos hs))

/-- A step over the channels of a group that changes only the channel it is at. -/
theorem each_chans {f : ChanId → State → State} {Q : Chan → Prop} (hother : ∀ k ≠ n, ∀ v, (f k v).ch[n] = v.ch[n])
    (hpi : ∀ k v, (f k v).pi = v.pi) (hself : ∀ v, v.ch[n] = u.ch[n] → v.pi = u.pi → Q (f n v).ch[n]) (hn : n ∈ chansOf g) :
    Q (each (chansOf g) f u).ch[n] :=
  each_at (P := fun v => v.ch[n] = u.ch[n] ∧ v.pi = u.pi) (Q := fun v => Q v.ch[n])
    (fun k hk v hv => ⟨(hother k hk v).trans hv.1, (hpi k v).trans hv.2⟩) (fun v hv => hself v hv.1 hv.2)
    (fun k hk v hv => by rw [hother k hk v]; exact hv) chansOf_nodup hn ⟨rfl, rfl⟩

/-- Group `g`, its channels and the process image of `u` are those of `s`. -/
structure SameAt (g : GroupId) (s u : State) : Prop where
  grp : u.grp[g] = s.grp[g]
  ch : ∀ p, u.ch[grpCh g p] = s.ch[grpCh g p]
  pi : u.pi = s.pi

theorem SameAt.trans (h1 : SameAt g s t) (h2 : SameAt g t u) : SameAt g s u :=
  ⟨h2.grp.trans h1.grp, fun p => (h2.ch p).trans (h1.ch p), h2.pi.trans h1.pi⟩

/-- A step over groups that changes of the groups only the one it is at. -/
theorem each_groups {F : GroupId → State → State} {Q : Grp → (Fin 8 → Chan) → Prop} {l : List GroupId}
    (hother : ∀ h ≠ g, ∀ u, SameAt g u (F h u))
    (hself : ∀ u, SameAt g s u → Q (F g u).grp[g] fun p => (F g u).ch[grpCh g p]) (hn : l.Nodup) (hg : g ∈ l) :
    Q (each l F s).grp[g] fun p => (each l F s).ch[grpCh g p] :=
  each_at (P := SameAt g s) (Q := fun u => Q u.grp[g] fun p => u.ch[grpCh g p]) (fun h hh u hu => hu.trans (hother h hh u))
    hself (fun h hh u hu => by
      have hs := hother h hh u
      have hc : (fun p => (F h u).ch[grpCh g p]) = fun p => u.ch[grpCh g p] := funext hs.ch
      show Q (F h u).grp[g] fun p => (F h u).ch[grpCh g p]
      rw [hs.grp, hc]
      exact hu) hn hg ⟨rfl, fun _ => rfl, rfl⟩

theorem modOut_ch_other {f : ChDo → ChDo} (hne : n ≠ k) : (modOut s k f).ch[n] = s.ch[n] := modCh_other _ _ hne

/-- A transfer step of one group: it changes that group's record and, of its channels, the output parts. -/
def transferStep (f : ChanId → State → State) (y : Grp → Grp) (g : GroupId) (s : State) : State :=
  each (chansOf g) f (modGrp s g y)

variable {f : ChanId → State → State} {y : Grp → Grp}

theorem transferStep_other (hf : ∀ k v, ∃ z, f k v = modOut v k z) (hne : h ≠ g) : SameAt g s (transferStep f y h s) := by
  refine ⟨?_, fun p => ?_, ?_⟩
  · refine (each_congr_mem (π := fun v => v.grp[g]) fun k _ v => ?_).trans (modGrp_other _ _ hne.symm)
    obtain ⟨z, hz⟩ := hf k v
    rw [hz]
    rfl
  · refine each_congr_mem (π := fun v => v.ch[grpCh g p]) fun k hk v => ?_
    obtain ⟨z, hz⟩ := hf k v
    rw [hz]
    exact modOut_ch_other (chansOf_other hne hk).symm
  · refine each_congr (π := State.pi) fun k v => ?_
    obtain ⟨z, hz⟩ := hf k v
    rw [hz]
    rfl

theorem transferStep_self {Q : Chan → Prop} {p : Fin 8} (hf : ∀ k v, ∃ z, f k v = modOut v k z)
    (hQ : ∀ v, v.ch[grpCh g p] = s.ch[grpCh g p] → v.pi = s.pi → Q (f (grpCh g p) v).ch[grpCh g p]) :
    (transferStep f y g s).grp[g] = y s.grp[g] ∧ Q (transferStep f y g s).ch[grpCh g p] := by
  constructor
  · refine (each_congr (π := fun v => v.grp[g]) fun k v => ?_).trans (modGrp_self _ _ _)
    obtain ⟨z, hz⟩ := hf k v
    rw [hz]
    rfl
  · refine each_chans (Q := Q) (fun k hk v => ?_) (fun k v => ?_) hQ (mem_chansOf.2 ⟨p, rfl⟩)
    · obtain ⟨z, hz⟩ := hf k v
      rw [hz]
      exact modOut_ch_other hk.symm
    · obtain ⟨z, hz⟩ := hf k v
      rw [hz]
      rfl

theorem sendWord_modOut : ∀ k v, ∃ z, sendWord k v = modOut v k z := by
  unfold sendWord
  exact fun _ _ => ⟨_, rfl⟩

theorem takeWord_modOut : ∀ k v, ∃ z, takeWord k v = modOut v k z := fun _ _ => ⟨_, rfl⟩

/-- The word that a transfer carries for a channel (R37, R38). -/
def sentWord (s : State) (n : ChanId) : W32 := if s.ch[n].out.accepted then s.pi.outw[n] else s.ch[n].out.applied

theorem sendWord_next : (sendWord n s).ch[n].out.next = some (sentWord s n) := by
  unfold sendWord
  dsimp only
  rw [modOut_out]
  rfl

theorem takeWord_taken : (takeWord n s).ch[n].out.xfer = s.ch[n].out.next.getD s.ch[n].out.xfer ∧
    (takeWord n s).ch[n].out.applied = s.ch[n].out.applied := by
  unfold takeWord
  rw [modOut_out]
  exact ⟨rfl, rfl⟩

theorem sendGroup_other (hne : h ≠ g) : SameAt g s (sendGroup slot h s) := by
  unfold sendGroup
  split
  · exact transferStep_other sendWord_modOut hne
  · exact ⟨rfl, fun _ => rfl, rfl⟩

theorem SameAt.goes (hu : SameAt g s u) (ha : alive s g = true) (hl : s.grp[g].link = false) :
    (alive u g && !(u.grp[g]).link) = true := by
  unfold alive at ha ⊢
  rw [hu.grp, ha, hl]
  rfl

theorem each_sendGroup {l : List GroupId} (hn : l.Nodup) (hg : g ∈ l) (ha : alive s g = true) (hl : s.grp[g].link = false) :
    (each l (sendGroup slot) s).grp[g].xfer = some slot ∧
    ∀ p : Fin 8, (each l (sendGroup slot) s).ch[grpCh g p].out.next = some (sentWord s (grpCh g p)) := by
  refine each_groups (Q := fun x c => x.xfer = some slot ∧ ∀ p, (c p).out.next = some (sentWord s (grpCh g p)))
    (fun h hh u => sendGroup_other hh) (fun u hu => ?_) hn hg
  have hgo : sendGroup slot g u = transferStep sendWord (fun x => { x with xfer := some slot }) g u := if_pos (hu.goes ha hl)
  have hp := fun p => transferStep_self (s := u) (y := fun x => { x with xfer := some slot }) (p := p)
    (Q := fun c => c.out.next = some (sentWord s (grpCh g p))) sendWord_modOut fun v hch hpi => by
      rw [sendWord_next]
      unfold sentWord
      rw [hch, hpi, hu.ch, hu.pi]
  rw [hgo]
  exact ⟨congrArg Grp.xfer (hp 0).1, fun p => (hp p).2⟩

/-- The transfer of a group has arrived (R37). -/
def takeGroup (slot : BitVec 8) (g : GroupId) (s : State) : State :=
  if decide ((s.grp[g]).xfer = some slot) && alive s g && !(s.grp[g]).link then
    transferStep takeWord (fun x => { x with xfer := none, xferNew := true }) g s
  else s

theorem exec_outXferEnd (hin : inService s = true) : exec (.outXferEnd slot) s = .next (each groups (takeGroup slot) s) :=
  congrArg Host.Outcome.next (if_pos hin)

theorem takeGroup_other (hne : h ≠ g) : SameAt g s (takeGroup slot h s) := by
  unfold takeGroup
  split
  · exact transferStep_other takeWord_modOut hne
  · exact ⟨rfl, fun _ => rfl, rfl⟩

/-- The words on their way to the channels of `g` have been delivered. -/
def WordsTaken (s : State) (g : GroupId) (x : Grp) (c : Fin 8 → Chan) : Prop :=
  x.xfer = none ∧ x.xferNew = true ∧ ∀ p, (c p).out.xfer = s.ch[grpCh g p].out.next.getD s.ch[grpCh g p].out.xfer ∧
    (c p).out.applied = s.ch[grpCh g p].out.applied

theorem each_takeGroup (hx : s.grp[g].xfer = some slot) (ha : alive s g = true) (hl : s.grp[g].link = false) :
    WordsTaken s g (each groups (takeGroup slot) s).grp[g] fun p => (each groups (takeGroup slot) s).ch[grpCh g p] := by
  refine each_groups (fun h hh u => takeGroup_other hh) (fun u hu => ?_) (List.nodup_finRange 8) (List.mem_finRange g)
  have hgo : takeGroup slot g u = transferStep takeWord (fun x => { x with xfer := none, xferNew := true }) g u :=
    if_pos (by rw [Bool.and_assoc, hu.goes ha hl, hu.grp, hx]; simp)
  have hp := fun p => transferStep_self (s := u) (y := fun x => { x with xfer := none, xferNew := true }) (p := p)
    (Q := fun c => c.out.xfer = s.ch[grpCh g p].out.next.getD s.ch[grpCh g p].out.xfer ∧
      c.out.applied = s.ch[grpCh g p].out.applied) takeWord_modOut fun v hch _ => by
      rw [takeWord_taken.1, takeWord_taken.2, hch, hu.ch]
      exact ⟨rfl, rfl⟩
  rw [hgo]
  exact ⟨congrArg Grp.xfer (hp 0).1, congrArg Grp.xferNew (hp 0).1, fun p => (hp p).2⟩

theorem each_takeGroup_pi : (each groups (takeGroup slot) s).pi = s.pi :=
  each_congr (π := State.pi) fun g u => by
    unfold takeGroup
    split
    · exact each_congr (π := State.pi) fun _ _ => rfl
    · rfl

end

/-- Settles O30: transfers step over groups that do not touch each other, and an apply instant at a channel depends only on
what `outView` shows of it. -/
theorem outputTransfersAndApply : Obligations.OutputTransfersAndApply := by
  unfold Obligations.OutputTransfersAndApply
  refine ⟨fun s slot hin hs => ⟨fun hx hdue => ?_, fun c i r hm hr hd => ?_, ?_⟩,
    fun s n => ⟨fun slot hin hs hg ha hl hd h0 => ?_, fun slot hin hs hg ha hl h0 ho => ?_, fun slot hin hs hg => ?_,
      fun fresh ha hd => ?_, fun ha => ?_⟩⟩
  · have hsame : each cores (deadlineCore slot) (atSlot slot s) = atSlot slot s := each_eq_self fun c _ => by
      obtain ⟨hrun, hq⟩ := hdue c
      refine deadlineCore_none ?_ fun q hm => decide_eq_false (hq q hm)
      show runsDue s slot s.core[c].run = false
      cases hc : s.core[c].run with
      | fg i r => exact decide_eq_false (hrun i r hc)
      | idle => rfl
      | bg _ => rfl
      | nmi => rfl
      | halted => rfl
    have he := exec_outXfer hin hs
    rw [hsame, if_neg (by rw [show (atSlot slot s).frm = s.frm from rfl, hx]; decide)] at he
    have hkeep : ∀ g u, (sendGroup slot g u).frm = u.frm ∧ (sendGroup slot g u).evt = u.evt := fun g u => by
      unfold sendGroup
      split
      · exact ⟨each_congr (π := State.frm) fun _ _ => rfl, each_congr (π := State.evt) fun _ _ => rfl⟩
      · exact ⟨rfl, rfl⟩
    refine ⟨_, he, (each_congr (π := State.frm) fun g u => (hkeep g u).1).trans rfl,
      (each_congr (π := State.evt) fun g u => (hkeep g u).2).trans rfl,
      fun g hg ha hl => each_sendGroup (s := atSlot slot s) slotGroups_nodup hg ha hl, fun g hg => ?_⟩
    exact (each_congr_mem (π := fun u => u.grp[g]) fun h hh u =>
      (sendGroup_other fun heq : h = g => hg (heq ▸ hh)).grp).trans rfl
  · have hdue : runsDue (atSlot slot s) slot (atSlot slot s).core[c].run = true := by
      show runsDue s slot s.core[c].run = true
      rw [hr]
      exact decide_eq_true hd
    obtain ⟨hidle, hov, hxf⟩ := each_deadline_due (s := atSlot slot s) hm hdue
    have hgrp : (each cores (deadlineCore slot) (atSlot slot s)).grp = s.grp :=
      (each_congr (π := State.grp) fun _ _ => deadlineCore_grp).trans rfl
    exact ⟨_, (exec_outXfer hin hs).trans (by rw [if_pos hxf]), hov, hxf, hidle, fun g => by rw [hgrp]⟩
  · refine ⟨_, exec_outXferEnd hin, fun g hx ha hl => ?_, each_takeGroup_pi⟩
    obtain ⟨h1, h2, h3⟩ := each_takeGroup hx ha hl
    beta_reduce at h3
    generalize each groups (takeGroup slot) s = t at h1 h2 h3 ⊢
    exact ⟨h1, h2, h3⟩
  · obtain ⟨u, hu, he⟩ := exec_outApply hin hs
    obtain ⟨happ, hq, han⟩ := (each_applyGroup appliedGroups_nodup (mem_appliedGroups hg ha hl) (hu n)).at_once hd h0
    refine ⟨_, he, happ, hq, fun h10 hr hnew hx hk => han h10 hr ?_ hk⟩
    unfold freshOf
    rw [hnew, hx]
    rfl
  · obtain ⟨u, hu, he⟩ := exec_outApply hin hs
    exact ⟨_, he, (each_applyGroup appliedGroups_nodup (mem_appliedGroups hg ha hl) (hu n)).later h0 ho⟩
  · obtain ⟨u, hu, he⟩ := exec_outApply hin hs
    have hg1 : chGroup n ∉ appliedGroups s slot := fun h => hg (List.mem_of_mem_filter h)
    exact ⟨_, he, (outView_parts ((each_applyGroup_other hg1).trans (hu n))).1⟩
  · have hch : (modOut (atTime s.ch[n].out.armT s) n fun o => { o with armed := none }).ch[n] =
        { s.ch[n] with out := { s.ch[n].out with armed := none } } := modCh_self _ _ _
    generalize hv : (modOut (atTime s.ch[n].out.armT s) n fun o => { o with armed := none }) = v at hch
    have hdv : Drives v n := by
      subst hv
      unfold Drives safeInForce forced busy heldOff writerNone writerA chA act
      rw [hch]
      exact hd
    refine ⟨_, (exec_channelApply ha).trans (by rw [hv]), ?_, applyCh_chWork.armed.trans (by rw [hch]), fun ho => applyCh_qual ?_⟩
    · have happ := applyCh_applies (fresh := fresh) hdv
      unfold Applies at happ
      rw [hch] at happ
      subst hv
      exact happ
    · subst hv
      exact ho
  · exact congrArg Host.Outcome.next (by rw [ha])

end Sys2Proof.Machine
end

section
/-! The frame tick (R28 to R32): what each of its parts leaves of the frame, the cores and the digital inputs. -/

open Sys2Proof Sys2Proof.Machine
namespace Sys2Proof.Machine

section
variable {s t u : State} {n k : ChanId} {g h : GroupId} {i : Fin 96} {op : ReqOp} {w : W32} {x : TickIn}

/-! ### What the Reins' work at a tick leaves -/

theorem ReqWork.grp (h : ReqWork s t) : t.grp = s.grp := grp_of_channels h.rest

theorem ReqWork.of_step {f : State → State} (h : ∀ s, ReqWork s (f s)) {p : Prop} [Decidable p] :
    ReqWork s (if p then f s else s) := by
  split
  · exact h s
  · exact .refl

theorem openOp_reqWork : ReqWork s (openOp i op s) := openSlot_reqWork

theorem groomReq_reqWork : ReqWork s (groomReq op s) := by
  rw [groomReq_frame]
  exact setPgv_reqWork

theorem raise_reqWork {e : Fin 128} : ReqWork s (raise e w s) := ⟨raise_apartCh, raise_ch e w, raise_pi⟩

theorem conflict_reqWork {kind : Nat} {x : Option GroupId} : ReqWork s (conflict kind x s) :=
  setPgv_reqWork.trans raise_reqWork

theorem serveWait_reqWork : ReqWork s (serveWait s) := by
  unfold serveWait
  split
  · exact setPgv_reqWork.trans openOp_reqWork
  · exact .refl

theorem dropReq_reqWork : ReqWork s (dropReq op s) := by
  refine .trans (.trans setPgv_reqWork (each_reqWork fun i s => ?_)) serveWait_reqWork
  split
  · exact modSlot_reqWork
  · exact .refl

theorem endOp_reqWork : ReqWork s (endOp op s) :=
  each_reqWork fun i s => by
    split
    · exact modSlot_reqWork
    · exact .refl

theorem chargeLease_reqWork : ReqWork s (chargeLease n s) := by
  unfold chargeLease
  dsimp only
  split
  · exact setPgv_reqWork.trans conflict_reqWork
  split
  · exact setPgv_reqWork.trans conflict_reqWork
  · exact setPgv_reqWork

theorem examine_reqWork {e : Exam} : ReqWork s (examine i (s, e)).1 := by
  unfold examine
  dsimp only
  split
  · dsimp only
    exact modSlot_reqWork
  · dsimp only
    split
    · exact modSlot_reqWork.trans conflict_reqWork
    · exact modSlot_reqWork

theorem examineAll_reqWork {l : List (Fin 96)} {e : Exam} : ReqWork s (l.foldl (fun p i => examine i p) (s, e)).1 := by
  induction l generalizing s e with
  | nil => exact .refl
  | cons i l ih => exact examine_reqWork.trans ih

theorem ageLeases_reqWork : ReqWork s (ageLeases s) := by
  refine .trans (t := ageRest s) setPgv_reqWork (each_reqWork fun i s => ?_)
  dsimp only
  split
  · split <;> exact modSlot_reqWork
  · exact .refl

theorem updateCorr_reqWork : ReqWork s (updateCorr s) := each_reqWork fun _ _ => setPgv_reqWork

theorem overCheck_reqWork : ReqWork s (overCheck s) := by
  unfold overCheck
  extract_lets one s1
  have hone : ∀ (b load bud lease : Nat) (g : Option GroupId) (u : State), ReqWork u (one b load bud lease g u) := by
    intro b load bud lease g u
    unfold one
    split
    · exact setPgv_reqWork
    · split
      · exact setPgv_reqWork.trans conflict_reqWork
      · exact .refl
  exact (each_reqWork fun g u => hone _ _ _ _ _ u).trans (hone _ _ _ _ _ s1)

theorem reinsTick_reqWork : ReqWork s (reinsTick s) :=
  ageLeases_reqWork.trans (updateCorr_reqWork.trans (examineAll_reqWork.trans (overCheck_reqWork.trans setPgv_reqWork)))

theorem dropIdleSets_reqWork : ReqWork s (dropIdleSets s) :=
  each_reqWork fun i s => by
    split
    · split
      · exact modSlot_reqWork
      · exact .refl
    · exact .refl

theorem tickRetry_reqWork : ReqWork s (tickRetry s) := by
  have hfold : ∀ (l : List ReqOp) (u : State), ReqWork u (l.foldl (fun s op => groomReq op s) u) := by
    intro l
    induction l with
    | nil => exact fun _ => .refl
    | cons op l ih => exact fun u => groomReq_reqWork.trans (ih _)
  unfold tickRetry
  dsimp only
  split
  · exact ((setPgv_reqWork.trans (hfold _ _)).trans setPgv_reqWork).trans groomReq_reqWork
  · exact (setPgv_reqWork.trans (hfold _ _)).trans setPgv_reqWork

/-! ### What the tick's work on outputs, groups and requests leaves -/

/-- The state less what outputs, analog inputs, fault flags, groups, requests and events change: the inputs of the channels and
the process image are in it. -/
def besideOutputs (s : State) : State × Pimg × Vector ChDi 64 := (apartFromGroups s, s.pi, s.ch.map Chan.di)

theorem besideOutputs_of (h : apartFromChannels t = apartFromChannels s) (hpi : t.pi = s.pi)
    (hdi : t.ch.map Chan.di = s.ch.map Chan.di) : besideOutputs t = besideOutputs s := by
  unfold besideOutputs
  rw [apartFromGroups_of_channels h, hpi, hdi]

theorem ReqWork.beside (h : ReqWork s t) : besideOutputs t = besideOutputs s := besideOutputs_of h.rest h.pi (by rw [h.ch])

theorem modCh_beside {f : Chan → Chan} (hf : ∀ x, (f x).di = x.di) : besideOutputs (modCh s n f) = besideOutputs s :=
  besideOutputs_of modCh_apartCh rfl (map_modCh (hf _))

theorem modOut_beside {f : ChDo → ChDo} : besideOutputs (modOut s n f) = besideOutputs s := modCh_beside fun _ => rfl

theorem modAi_beside {f : ChAi → ChAi} : besideOutputs (modAi s n f) = besideOutputs s := modCh_beside fun _ => rfl

theorem modFlt_beside {f : ChFlt → ChFlt} : besideOutputs (modFlt s n f) = besideOutputs s := modCh_beside fun _ => rfl

theorem modGrp_beside {f : Grp → Grp} : besideOutputs (modGrp s g f) = besideOutputs s := rfl

theorem onCore_beside {f : State → State} (hf : ∀ u, besideOutputs (f u) = besideOutputs u) :
    besideOutputs (onCore f s) = besideOutputs s := by
  unfold onCore
  split
  · exact hf s
  · rfl

theorem setApplied_beside : besideOutputs (setApplied n w s) = besideOutputs s := by
  unfold setApplied
  dsimp only
  rw [modOut_beside]
  split
  · exact modFlt_beside
  · rfl

theorem startBusy_beside {b : BitVec 2} : besideOutputs (startBusy n b s) = besideOutputs s := by
  unfold startBusy
  split
  · rfl
  · exact modFlt_beside

theorem queueReq_beside {q : QReq} : besideOutputs (queueReq n q s) = besideOutputs s := modOut_beside.trans modFlt_beside

theorem latchQual_beside : besideOutputs (latchQual n s) = besideOutputs s := modOut_beside

theorem endLease_beside : besideOutputs (endLease n s) = besideOutputs s := endLease_reqWork.beside

theorem chargeLease_beside : besideOutputs (chargeLease n s) = besideOutputs s := chargeLease_reqWork.beside

theorem askLeave_beside : besideOutputs (askLeave n op s) = besideOutputs s := askLeave_reqWork.beside

theorem switchOff_beside : besideOutputs (switchOff n s) = besideOutputs s := by
  unfold switchOff
  dsimp only
  split
  · rfl
  · exact latchQual_beside.trans ((onCore_beside fun _ => endLease_beside).trans (startBusy_beside.trans modOut_beside))

theorem putSafe_beside : besideOutputs (putSafe n w s) = besideOutputs s := by
  have hset : besideOutputs (setApplied n w s) = besideOutputs s := setApplied_beside
  have hend : ∀ {b : BitVec 2} {v : W32}, besideOutputs (endLease n (startBusy n b (setApplied n v s))) = besideOutputs s :=
    endLease_beside.trans (startBusy_beside.trans setApplied_beside)
  unfold putSafe
  extract_lets m o sel
  split
  · split
    · exact hend
    · exact setApplied_beside
  split
  · exact modOut_beside.trans hset
  split
  · split
    · exact hset
    · exact chargeLease_beside.trans (modOut_beside.trans hset)
  split
  · split
    · exact hend
    · exact hset
  · exact hset

theorem applySafe_beside : besideOutputs (applySafe n s) = besideOutputs s := by
  unfold applySafe
  split
  · rfl
  extract_lets s1
  have h1 : besideOutputs s1 = besideOutputs s := modOut_beside
  rw [latchQual_beside]
  split
  · exact modOut_beside.trans h1
  split
  · exact queueReq_beside.trans h1
  split
  · exact h1
  · exact putSafe_beside.trans h1

theorem refreshSafe_beside {l : List ChanId} : besideOutputs (refreshSafe l s) = besideOutputs s :=
  each_congr fun n s => by
    split
    · exact applySafe_beside
    · rfl

theorem askOnce_beside : besideOutputs (askOnce n op s) = besideOutputs s := by
  unfold askOnce
  dsimp only
  split
  · exact modOut_beside
  · exact askLeave_beside.trans modOut_beside

theorem askStage_beside : besideOutputs (askStage n s) = besideOutputs s := by
  unfold askStage
  dsimp only
  split
  · exact latchQual_beside.trans (askOnce_beside.trans modOut_beside)
  · rfl

theorem raiseSum_beside : besideOutputs (raiseSum n s) = besideOutputs s := onCore_beside fun _ => raise_reqWork.beside

theorem modRot_beside {f : Rot → Rot} : besideOutputs (modRot s g f) = besideOutputs s := rfl

theorem suspendRot_beside : besideOutputs (suspendRot g s) = besideOutputs s := by
  unfold suspendRot
  extract_lets s1
  have h1 : besideOutputs s1 = besideOutputs s :=
    endOp_reqWork.beside.trans (dropReq_reqWork.beside.trans dropReq_reqWork.beside)
  clear_value s1
  rw [modRot_beside, modGrp_beside, h1]

theorem enterScan_beside : besideOutputs (enterScan g s) = besideOutputs s := by
  unfold enterScan startScan
  rw [modGrp_beside, modGrp_beside, suspendRot_beside]

theorem restartOverlap_beside : besideOutputs (restartOverlap g s) = besideOutputs s := by
  unfold restartOverlap
  dsimp only
  split
  · exact modGrp_beside.trans (modGrp_beside.trans dropReq_reqWork.beside)
  · rfl

/-! ### The parts of a tick -/

theorem tickFault_beside : besideOutputs (tickFault x n s) = besideOutputs s := by
  unfold tickFault
  split
  · rfl
  · exact modFlt_beside

theorem tickCross_beside : besideOutputs (tickCross n s) = besideOutputs s := by
  unfold tickCross
  dsimp only
  split
  · exact modFlt_beside.trans switchOff_beside
  · rfl

theorem tickSummary_beside : besideOutputs (tickSummary n s) = besideOutputs s := by
  unfold tickSummary
  extract_lets b s1 bits s2
  have h2 : besideOutputs s2 = besideOutputs s := modFlt_beside.trans modFlt_beside
  split
  · exact h2
  · exact raiseSum_beside.trans h2

theorem tickGrp_beside : besideOutputs (tickGrp x g s) = besideOutputs s := by
  unfold tickGrp
  split
  · rfl
  extract_lets s1 y s2 s3 s4 s5
  have h1 : besideOutputs s1 = besideOutputs s := modGrp_beside
  have h2 : besideOutputs s2 = besideOutputs s := by
    unfold s2
    split
    · exact modGrp_beside.trans h1
    · exact h1
  have h3 : besideOutputs s3 = besideOutputs s := by
    unfold s3
    split
    · exact enterScan_beside.trans (modGrp_beside.trans (modGrp_beside.trans h2))
    · split
      · exact modGrp_beside.trans h2
      · exact h2
  have h4 : besideOutputs s4 = besideOutputs s := by
    unfold s4
    split
    · exact modGrp_beside.trans h3
    · exact h3
  split
  · exact restartOverlap_beside.trans h4
  split
  · have h5 : besideOutputs s5 = besideOutputs s := modRot_beside.trans h4
    split
    · exact groomReq_reqWork.beside.trans h5
    · exact h5
  · exact h4

theorem tickAsk_beside : besideOutputs (tickAsk n s) = besideOutputs s := by
  unfold tickAsk
  extract_lets y m g op u still s1
  have hu : besideOutputs u = besideOutputs s := askStage_beside
  have h1 : besideOutputs s1 = besideOutputs s := by
    unfold s1
    split
    · split
      · exact askLeave_beside.trans (modOut_beside.trans hu)
      · exact modOut_beside.trans hu
    · exact hu
  split
  · exact askLeave_beside.trans h1
  · exact h1

/-! ### The tick as a whole -/

theorem drainPort_frame {p : PortId} : ∃ n m, drainPort s p = { s with net := n, sent := m } := by
  have hsend : ∀ (l : List (EthFrame × BitVec 12 × Bool)) (u : State),
      ∃ m, l.foldl (fun s w => { s with sent := .ethOut p w.1 w.2.1 w.2.2 :: s.sent }) u = { u with sent := m } := by
    intro l
    induction l with
    | nil => exact fun u => ⟨u.sent, rfl⟩
    | cons w l ih => exact fun u => (ih _).imp fun m hm => hm
  unfold drainPort
  dsimp only
  split
  · exact ⟨s.net, s.sent, rfl⟩
  · obtain ⟨m, hm⟩ := hsend _ _
    exact ⟨_, m, hm⟩

theorem tickGates_frame : ∃ n m, tickGates s = { s with net := n, sent := m } := by
  have hfold : ∀ (l : List PortId) (u : State), ∃ n m, l.foldl drainPort u = { u with net := n, sent := m } := by
    intro l
    induction l with
    | nil => exact fun u => ⟨u.net, u.sent, rfl⟩
    | cons p l ih =>
      intro u
      obtain ⟨n1, m1, h1⟩ := drainPort_frame (s := u) (p := p)
      obtain ⟨n2, m2, h2⟩ := ih { u with net := n1, sent := m1 }
      exact ⟨n2, m2, by rw [List.foldl_cons, h1, h2]⟩
  exact hfold _ _

/-- The tick up to the Reins' work: the frame, the cores, the trigger and the network's account (R31, R48, R183, R217). -/
def tickBegun (x : TickIn) (s : State) : State := tickNet (tickMisc (tickCores x.dt (tickFrm x s)))

theorem tickCores_core {c : CoreId} {dt : Nat} : (tickCores dt s).core[c] = (s.core[c]).rebase (dt / 2) :=
  each_at (x := c) (P := fun u => u.core[c] = s.core[c]) (Q := fun u => u.core[c] = (s.core[c]).rebase (dt / 2))
    (fun _ hd _ hu => (vec_set_other _ _ hd.symm).trans hu)
    (fun u hu => by
      unfold modCore
      dsimp only
      simp [hu])
    (fun _ hd _ hu => (vec_set_other _ _ hd.symm).trans hu) (List.nodup_finRange 4) (List.mem_finRange c) rfl

theorem tickCores_frame {dt : Nat} : ∃ y, tickCores dt s = { s with core := y, sys := { s.sys with
    stopped := s.sys.stopped ||| s.sys.stopReq, stopReq := 0 } } := by
  have hfold : ∀ (l : List CoreId) (u : State), ∃ y, each l (fun c s => modCore s c (Core.rebase (dt / 2))) u =
      { u with core := y } := by
    intro l
    induction l with
    | nil => exact fun u => ⟨u.core, rfl⟩
    | cons c l ih => exact fun u => (ih _).imp fun y hy => hy
  obtain ⟨y, hy⟩ := hfold cores s
  refine ⟨y, ?_⟩
  unfold tickCores
  dsimp only
  rw [hy]

/-- What the start of a tick makes of the state, and what it leaves. -/
theorem tickBegun_frame : ∃ y z n m, tickBegun x s = { tickFrm x s with
    core := y, log := z, net := n, sent := m
    frm := { (tickFrm x s).frm with xiLate := false }
    sys := { s.sys with stopped := s.sys.stopped ||| s.sys.stopReq, stopReq := 0 } } ∧
    ∀ c : CoreId, y[c] = (s.core[c]).rebase (x.dt / 2) := by
  obtain ⟨y, hy⟩ := tickCores_frame (s := tickFrm x s) (dt := x.dt)
  have hcore : ∀ c : CoreId, y[c] = (s.core[c]).rebase (x.dt / 2) := fun c => by
    have h := tickCores_core (s := tickFrm x s) (c := c) (dt := x.dt)
    rw [hy] at h
    exact h
  obtain ⟨n, m, hg⟩ := tickGates_frame (s := { tickCores x.dt (tickFrm x s) with
    log := { (tickCores x.dt (tickFrm x s)).log with trigFrm := (tickCores x.dt (tickFrm x s)).log.trigFrm.map fun k => k - 1 } })
  refine ⟨y, (tickBegun x s).log, (tickBegun x s).net, m, ?_, hcore⟩
  unfold tickBegun tickMisc
  rw [hg, hy]
  rfl

/-- The tick after the channels' windows have closed (R32). -/
def tickRest (x : TickIn) (s : State) : State :=
  tickRetry (each channels tickAsk (each channels tickSummary (refreshSafe channels (each groups (tickGrp x)
    (each channels tickCross (each channels (tickFault x) s))))))

theorem tickRest_beside : besideOutputs (tickRest x s) = besideOutputs s :=
  tickRetry_reqWork.beside.trans <| (each_congr fun _ _ => tickAsk_beside).trans <|
    (each_congr fun _ _ => tickSummary_beside).trans <| refreshSafe_beside.trans <|
    (each_congr fun _ _ => tickGrp_beside).trans <| (each_congr fun _ _ => tickCross_beside).trans <|
    each_congr fun _ _ => tickFault_beside

theorem exec_frameTick (hin : inService s = true) : exec (.frameTick x) s = .next (sysWords s.frm.xiLate s.net.xiDone
    (tickRest x (each channels (tickCh x) (reinsTick (dropIdleSets (tickBegun x s)))))) :=
  congrArg Host.Outcome.next (if_pos hin)

/-- The edge window of a channel is closed, with the edges of `d` shown (R51). -/
def WindowClosed (d e : ChDi) : Prop :=
  e.edges = [] ∧ e.nEdges = 0 ∧ e.snapEdges = BitVec.ofNat 8 (min 255 d.nEdges) ∧ e.snapRecs = recsOf d.edges

theorem tickCh_other (hne : n ≠ k) : (tickCh x k s).ch[n] = s.ch[n] := by
  unfold tickCh
  split
  · rfl
  · exact modCh_other _ _ hne

theorem tickCh_rest : apartFromChannels (tickCh x n s) = apartFromChannels s ∧ (tickCh x n s).pi = s.pi := by
  unfold tickCh
  split <;> exact ⟨rfl, rfl⟩

theorem tickCh_closed (ha : alive s (chGroup n) = true) : WindowClosed s.ch[n].di (tickCh x n s).ch[n].di := by
  unfold tickCh
  rw [if_neg (by rw [ha]; decide)]
  dsimp only
  rw [modCh_self]
  exact ⟨rfl, rfl, rfl, rfl⟩

theorem each_tickCh_closed (ha : alive s (chGroup n) = true) :
    WindowClosed s.ch[n].di (each channels (tickCh x) s).ch[n].di := by
  refine each_at (x := n) (P := fun u => u.ch[n] = s.ch[n] ∧ u.grp = s.grp) (Q := fun u => WindowClosed s.ch[n].di u.ch[n].di)
    (fun k hk u hu => ⟨(tickCh_other hk.symm).trans hu.1, (grp_of_channels tickCh_rest.1).trans hu.2⟩) (fun u hu => ?_)
    (fun k hk u hu => by rw [tickCh_other hk.symm]; exact hu) (List.nodup_finRange 64) (List.mem_finRange n) ⟨rfl, rfl⟩
  have h := tickCh_closed (x := x) (s := u) (n := n) (by unfold alive at ha ⊢; rw [hu.2]; exact ha)
  rw [hu.1] at h
  exact h

/-- The frame number after a tick (R31). -/
theorem nextNo_eq : nextNo s x = if fld (act s 0x0100) 1 0 = 0 ∧ s.frm.srcValid ∧ s.frm.holdover = false ∧
    (s.frm.slew = false ∨ x.onSource) then netFrameNo s.cfg.active x.t else s.frm.no + 1 := by
  unfold nextNo
  refine if_congr ?_ rfl rfl
  simp only [Bool.not_eq_true', srcOf, act]

/-- What the tick leaves of the state `b` that it starts the Reins' work in. -/
theorem frameTick_reads {b u : State} (hu : u = tickRest x (each channels (tickCh x) (reinsTick (dropIdleSets b)))) :
    apartFromGroups u = apartFromGroups b ∧ u.pi = b.pi ∧
    ∀ n : ChanId, alive b (chGroup n) = true → WindowClosed b.ch[n].di u.ch[n].di := by
  have hreq : ReqWork b (reinsTick (dropIdleSets b)) := dropIdleSets_reqWork.trans reinsTick_reqWork
  generalize hv : reinsTick (dropIdleSets b) = v at hreq hu
  have hch : apartFromChannels (each channels (tickCh x) v) = apartFromChannels v := each_apartCh fun _ _ => tickCh_rest.1
  have hpi : (each channels (tickCh x) v).pi = v.pi := each_congr (π := State.pi) fun _ _ => tickCh_rest.2
  obtain ⟨h1, h2, h3⟩ : _ ∧ _ ∧ _ := by
    simpa only [besideOutputs, Prod.mk.injEq] using tickRest_beside (x := x) (s := each channels (tickCh x) v)
  rw [← hu] at h1 h2 h3
  refine ⟨h1.trans ((apartFromGroups_of_channels hch).trans (apartFromGroups_of_channels hreq.rest)),
    h2.trans (hpi.trans hreq.pi), fun n ha => ?_⟩
  have hdi : u.ch[n].di = (each channels (tickCh x) v).ch[n].di := by
    simpa using congrArg (fun y : Vector ChDi 64 => y[n]) h3
  rw [hdi, ← hreq.ch]
  exact each_tickCh_closed (by unfold alive at ha ⊢; rw [hreq.grp]; exact ha)

theorem kept_of_apart (h : apartFromGroups t = apartFromGroups s) :
    t.now = s.now ∧ t.frm = s.frm ∧ t.sys = s.sys ∧ t.cfg = s.cfg ∧ t.pending = s.pending :=
  ⟨(congrArg State.now h :), (congrArg State.frm h :), (congrArg State.sys h :), (congrArg State.cfg h :),
    (congrArg State.pending h :)⟩

/-- The system status words are all that showing them changes; the first is the frame number (R235). -/
theorem sysWords_reads {late ok : Bool} : ∃ y, sysWords late ok s = { s with pi := { s.pi with sys := y } } ∧
    y[0] = s.frm.no.setWidth 32 := ⟨_, rfl, rfl⟩

/-- A core apart from what deliveries change keeps what it computes with. -/
theorem core_of_apart {c : CoreId} (h : apartFromGroups t = apartFromGroups s) :
    t.core[c].freeAt = s.core[c].freeAt ∧ t.core[c].d = s.core[c].d ∧ t.core[c].dmem = s.core[c].dmem := by
  have hc : (t.core.map fun k => { k with dlv := 0, bgReady := 0, bgAgain := 0 })[c] =
      (s.core.map fun k => { k with dlv := 0, bgReady := 0, bgAgain := 0 })[c] :=
    congrArg (fun u : State => u.core[c]) h
  simp only [Fin.getElem_fin, Vector.getElem_map] at hc
  exact ⟨(congrArg Core.freeAt hc :), (congrArg Core.d hc :), (congrArg Core.dmem hc :)⟩

/-- The tick passes through a state in which the frame, the cores and the mode are set, and closes the windows after it. -/
theorem exec_frameTick_passes (hin : inService s = true) : ∃ b u w, tickBegun x s = b ∧
    (apartFromGroups u = apartFromGroups b ∧ u.pi = b.pi ∧
      ∀ n : ChanId, alive b (chGroup n) = true → WindowClosed b.ch[n].di u.ch[n].di) ∧
    w[0] = u.frm.no.setWidth 32 ∧ exec (.frameTick x) s = .next { u with pi := { u.pi with sys := w } } := by
  obtain ⟨w, hw, hw0⟩ := sysWords_reads (s := tickRest x (each channels (tickCh x) (reinsTick (dropIdleSets (tickBegun x s)))))
    (late := s.frm.xiLate) (ok := s.net.xiDone)
  exact ⟨_, _, w, rfl, frameTick_reads rfl, hw0, (exec_frameTick hin).trans (congrArg Host.Outcome.next hw)⟩

end

/-- Settles O22: the frame, the cores and the mode are set before the Reins' work, the windows close after it, and the rest of
the tick leaves both. -/
theorem frameTickAdvancesTheFrame : Obligations.FrameTickAdvancesTheFrame := by
  unfold Obligations.FrameTickAdvancesTheFrame
  intro s x hin
  obtain ⟨b, u, w, hb, ⟨hrest, hpi, hclosed⟩, hw0, he⟩ := exec_frameTick_passes (x := x) hin
  obtain ⟨y, z, n, m, hbegun, hcore⟩ := tickBegun_frame (s := s) (x := x)
  rw [hb] at hbegun
  obtain ⟨hnow, hfrm, hsys, hcfg, hpend⟩ := kept_of_apart hrest
  rw [hbegun] at hnow hfrm hsys hcfg hpend
  refine ⟨_, he, ?_⟩
  refine ⟨(congrArg Frm.tickT hfrm :), hnow, (congrArg Frm.prev hfrm :), (congrArg Frm.no hfrm).trans nextNo_eq,
    (congrArg Frm.overrun hfrm :), (congrArg Frm.ovrCnt hfrm :), (congrArg Frm.run hfrm :), (congrArg Sys.stopped hsys :),
    (congrArg Sys.stopReq hsys :), (congrArg Sys.mode hsys :), hcfg, fun c => ?_, fun n ha => ?_, hw0, ?_, hpend⟩
  · obtain ⟨h1, h2, h3⟩ := core_of_apart (c := c) hrest
    have hc : b.core[c] = (s.core[c]).rebase (x.dt / 2) := by
      rw [hbegun]
      exact hcore c
    rw [hc] at h1 h2 h3
    exact ⟨h1, h2, h3⟩
  · have hch : b.ch = s.ch ∧ b.grp = s.grp := by
      rw [hbegun]
      exact ⟨rfl, rfl⟩
    have hc := hclosed n (by unfold alive at ha ⊢; rw [hch.2]; exact ha)
    rw [hch.1] at hc
    obtain ⟨h1, h2, h3, h4⟩ := hc
    exact ⟨h1, h2, fun _ _ => ⟨h3, h4⟩⟩
  · show u.pi.outw = s.pi.outw
    rw [hpi, hbegun]
    rfl

end Sys2Proof.Machine
end

section
/-! The frame source and network time (R28, R30, R288, R289): each command's step by the cases of the rules. -/

open Sys2Proof Sys2Proof.Machine
namespace Sys2Proof.Machine

section
variable {s : State} {t w : Nat} {r : Bool} {p q : PortId} {ofs corr : Int} {x : SyncHdr} {d : Nat} {a : AnnIn}

/-! ### Edges of SYNC_IN (R28, R30) -/

/-- An edge's instant is taken as that of the latest one. -/
def edgeTaken (t : Nat) (s : State) : State := { s with now := max s.now t, frm := { s.frm with lastEdgeT := some t } }

/-- An edge is accepted as a valid one of the source. -/
def edgeAccepted (t : Nat) (s : State) : State := { s with frm := { s.frm with srcValid := true, validT := t } }

/-- An edge of SYNC_IN that the device watches for. -/
def Watched (s : State) (r : Bool) : Prop :=
  inService s = true ∧ fld (act s 0x0100) 1 0 = 1 ∧ (act s 0x0100).getLsbD 2 ≠ r

theorem exec_edge_short (h : Watched s r) (hw : w < 100) : exec (.syncInEdge t w r) s = .next (syncErr s) := by
  obtain ⟨hin, hsrc, hr⟩ := h
  have hgo : ¬ (srcOf s.cfg.active ≠ 1 || (act s 0x0100).getLsbD 2 = r) = true := by
    rw [show srcOf s.cfg.active = 1 from hsrc]
    simpa only [ne_eq, not_true, decide_false, Bool.false_or, decide_eq_true_eq] using hr
  exact congrArg Host.Outcome.next ((if_pos hin).trans ((if_neg hgo).trans (if_pos hw)))

/-- A long enough edge, by the state of the source (R28, R30). -/
theorem exec_edge (h : Watched s r) (hw : 100 ≤ w) : exec (.syncInEdge t w r) s = .next (
    if s.frm.holdover then
      (if (s.frm.lastEdgeT.map fun u => within u t (period s.cfg.active) (period s.cfg.active / 100)).getD false then
        { edgeTaken t s with frm := { (edgeTaken t s).frm with holdover := false, slew := true, srcValid := true, validT := t } }
       else syncErr (edgeTaken t s))
    else if !s.frm.srcValid then edgeAccepted t (edgeTaken t s)
    else if let some u := s.frm.edgeFrom then
      (if u + period s.cfg.active ≤ t then edgeAccepted t (edgeTaken t s) else syncErr (edgeTaken t s))
    else if within s.frm.tickT t (period s.cfg.active) (period s.cfg.active / 100) ||
        within s.frm.tickT t 0 (period s.cfg.active / 100) then edgeAccepted t (edgeTaken t s)
    else syncErr s) := by
  obtain ⟨hin, hsrc, hr⟩ := h
  have hgo : ¬ (srcOf s.cfg.active ≠ 1 || (act s 0x0100).getLsbD 2 = r) = true := by
    rw [show srcOf s.cfg.active = 1 from hsrc]
    simpa only [ne_eq, not_true, decide_false, Bool.false_or, decide_eq_true_eq] using hr
  exact congrArg Host.Outcome.next ((if_pos hin).trans ((if_neg hgo).trans (if_neg (by omega))))

/-! ### Holdover (R30) -/

/-- Three sync intervals of 2^-k s without a Sync lose network time. -/
theorem sourceLost_network {k : Nat} (h0 : fld (act s 0x0100) 1 0 = 0)
    (hk : s.net.syncLog.getD (-(fld (act s 0x0833) 2 0 : Int)) = -(k : Int)) :
    sourceLost s t = (!s.net.gm && decide (3000000000 ≤ (t - s.frm.validT) * 2 ^ k)) := by
  have hpos : (-(k : Int)).toNat = 0 ∧ (- -(k : Int)).toNat = k := by omega
  unfold sourceLost
  dsimp only
  rw [if_pos (show srcOf s.cfg.active = 0 from h0), hk, hpos.1, hpos.2]
  rfl

theorem sourceLost_edges (h1 : fld (act s 0x0100) 1 0 = 1) (ht : s.frm.validT + 3 * period s.cfg.active ≤ t) :
    sourceLost s t = true := by
  have hsrc : srcOf s.cfg.active = 1 := h1
  unfold sourceLost
  dsimp only
  rw [hsrc, if_neg (by decide)]
  simp only [decide_true, Bool.true_and, decide_eq_true_eq]
  omega

theorem sourceLost_local (h2 : 2 ≤ fld (act s 0x0100) 1 0) : sourceLost s t = false := by
  have hsrc : 2 ≤ srcOf s.cfg.active := h2
  unfold sourceLost
  dsimp only
  rw [if_neg (by omega), decide_eq_false (by omega)]
  rfl

theorem exec_holdoverEntry_none (hin : inService s = true) (h : sourceLost s t = false ∨ s.frm.holdover = true) :
    exec (.holdoverEntry t) s = .next s :=
  congrArg Host.Outcome.next ((if_pos hin).trans (if_neg (by obtain h | h := h <;> simp [h])))

theorem exec_holdoverEntry (hin : inService s = true) (hl : sourceLost s t = true) (hh : s.frm.holdover = false) :
    ∃ u, exec (.holdoverEntry t) s = .next u ∧ u.frm = { s.frm with holdover := true, slew := false, lastEdgeT := none } ∧
      Raised 66 (s.frm.srcAct.setWidth 32) s u := by
  refine ⟨_, congrArg Host.Outcome.next ((if_pos hin).trans (if_pos (by rw [hl, hh]; rfl))), raise_frm, ?_⟩
  exact raise_raised 66 _ _ (by decide)

/-! ### gPTP (R288, R289) -/

/-- Time information that is valid ends a holdover where network time is the source; the rest stays (R30). -/
theorem timeValid_spec : (timeValid s).now = s.now ∧ (timeValid s).net = s.net ∧ (timeValid s).evt = s.evt ∧
    (timeValid s).frm.no = s.frm.no ∧
    (fld (act s 0x0100) 1 0 = 0 → (timeValid s).frm.holdover = false ∧ (timeValid s).frm.srcValid = true) := by
  by_cases h0 : srcOf s.cfg.active = 0
  · unfold timeValid
    rw [if_pos h0]
    dsimp only
    by_cases hv : s.frm.holdover = true ∨ (!s.frm.srcValid) = true
    · rw [if_pos ⟨h0, hv⟩]
      exact ⟨rfl, rfl, rfl, rfl, fun _ => ⟨rfl, rfl⟩⟩
    · rw [if_neg fun h => hv h.2]
      refine ⟨rfl, rfl, rfl, rfl, fun _ => ⟨by simpa using fun h => hv (.inl h), by simp [h0]⟩⟩
  · unfold timeValid
    rw [if_neg h0]
    dsimp only
    rw [if_neg fun h => h0 h.1]
    exact ⟨rfl, rfl, rfl, rfl, fun h => absurd h h0⟩

/-- A Sync of the device's domain on its slave port corrects network time (R289). -/
def syncTaken (t : Nat) (ofs : Int) (x : SyncHdr) (s : State) : State :=
  timeValid { s with now := t, net := { s.net with offset := satOfs ofs, syncLog := some x.logInt, synced := true } }

theorem exec_gptpSyncRx_other (hin : inService s = true)
    (h : portUp s p = false ∨ tapDrops s p = true ∨ x.dom ≠ ptpDom s ∨ portRole s p ≠ 2) :
    ∃ l, exec (.gptpSyncRx p t ofs x) s = .next { s with sent := l } := by
  obtain ⟨l, hl⟩ := tapCopy_eq (s := s) (p := p) (y := .gptp p)
  refine ⟨l, congrArg Host.Outcome.next ((if_pos hin).trans ?_)⟩
  dsimp only
  rw [hl]
  refine if_neg fun hgo => ?_
  have hall : (portUp s p && !tapDrops s p && decide (x.dom = ptpDom s) && decide (portRole s p = 2)) = true := hgo
  simp only [Bool.and_eq_true, Bool.not_eq_true', decide_eq_true_eq] at hall
  obtain ⟨⟨⟨hu, ht⟩, hd⟩, hr⟩ := hall
  obtain h | h | h | h := h
  · rw [hu] at h
    cases h
  · rw [ht] at h
    cases h
  · exact h hd
  · exact h hr

theorem exec_gptpSyncTx (hin : inService s = true) (hu : portUp s p = true) (hr : portRole s p = 1)
    (hi : 1000000000 ≤ (t - s.net.ports[p].syncT) * 2 ^ fld (act s 0x0833) 2 0) : exec (.gptpSyncTx ⟨p, t⟩) s =
      .next (modPort (atTime t { s with
        sent := .gptpFollowUp p (ptpDom s) t :: .gptpSync p (ptpDom s) (-(fld (act s 0x0833) 2 0 : Int)) :: s.sent }) p
        fun x => { x with syncT := t }) :=
  congrArg Host.Outcome.next ((if_pos hin).trans (if_pos (by rw [hu, decide_eq_true hr, decide_eq_true hi]; rfl)))

theorem modPort_other {f : Port → Port} (hne : q ≠ p) : (modPort s p f).net.ports[q] = s.net.ports[q] := vec_set_other _ _ hne

/-- TIME_STEP is raised where a correction is large, and nothing else changes (R289). -/
theorem timeStep_if {c : Prop} [Decidable c] {u : State} (hu : u = if c then timeStep s else s) :
    u.now = s.now ∧ u.net = s.net ∧ u.frm = s.frm ∧ (c → Raised 120 0 s u) ∧ (¬ c → u.evt = s.evt) := by
  subst hu
  by_cases h : c
  · rw [if_pos h]
    exact ⟨raise_now, raise_field (π := State.net) fun _ => rfl, raise_frm, fun _ => raise_raised 120 0 s (by decide),
      fun hn => absurd h hn⟩
  · rw [if_neg h]
    exact ⟨rfl, rfl, rfl, fun hc => absurd hc h, fun _ => rfl⟩

/-- A measured link delay (R289). -/
def delayTaken (p : PortId) (d : Nat) (corr : Int) (s : State) : State :=
  modPort { s with now := ((s.now : Int) + corr).toNat } p fun x => { x with dly := d }

theorem exec_gptpSyncRx_taken (hin : inService s = true) (hu : portUp s p = true) (ht : tapDrops s p = false)
    (hd : x.dom = ptpDom s) (hr : portRole s p = 2) : ∃ v u, v.now = t ∧ v.evt = s.evt ∧ v.frm.no = s.frm.no ∧
      v.net = { s.net with offset := satOfs ofs, syncLog := some x.logInt, synced := true } ∧
      (fld (act s 0x0100) 1 0 = 0 → v.frm.holdover = false ∧ v.frm.srcValid = true) ∧
      (u = if 1000 < ofs.natAbs then timeStep v else v) ∧ exec (.gptpSyncRx p t ofs x) s = .next u := by
  obtain ⟨l, hl⟩ := tapCopy_eq (s := s) (p := p) (y := .gptp p)
  obtain ⟨hnow, hnet, hevt, hno, hfrm⟩ := timeValid_spec (s := { s with
    sent := l, now := t, net := { s.net with offset := satOfs ofs, syncLog := some x.logInt, synced := true } })
  refine ⟨syncTaken t ofs x { s with sent := l }, _, hnow, hevt, hno, hnet, hfrm, rfl,
    congrArg Host.Outcome.next ((if_pos hin).trans ?_)⟩
  dsimp only
  rw [hl]
  refine if_pos ?_
  have hgo : (portUp s p && !tapDrops s p && decide (x.dom = ptpDom s) && decide (portRole s p = 2)) = true := by
    rw [hu, ht, decide_eq_true hd, decide_eq_true hr]
    rfl
  exact hgo

theorem exec_gptpPdelay (hin : inService s = true) (hu : portUp s p = true) (ht : tapDrops s p = false) :
    ∃ v u, v.now = ((s.now : Int) + corr).toNat ∧ v.net.ports[p].dly = d ∧ v.evt = s.evt ∧
      (u = if 1000 < corr.natAbs then timeStep v else v) ∧ exec (.gptpPdelay p d corr) s = .next u := by
  obtain ⟨l, hl⟩ := tapCopy_eq (s := s) (p := p) (y := .gptp p)
  refine ⟨delayTaken p d corr { s with sent := l }, _, rfl, by unfold delayTaken; rw [modPort_self], rfl, rfl,
    congrArg Host.Outcome.next ((if_pos hin).trans ?_)⟩
  dsimp only
  rw [hl]
  refine if_pos ?_
  have hgo : (portUp s p && !tapDrops s p) = true := by
    rw [hu, ht]
    rfl
  exact hgo

/-- DLYOVER is bit 13 of NET_PSTAT (R289). -/
theorem pstatReg_dlyover {hop : HWord} {y : Port} : (pstatReg hop y).getLsbD 13 = decide (hop.toNat < y.dly) := by
  have h : ∀ b0 b1 b2 b3 : Bool, (bit b0 ++ bit b1 ++ bit b2 ++ bit b3 ++ (0#12) : HWord).getLsbD 13 = b2 := by decide
  exact h _ _ _ _

/-! ### The best master (R288) -/

theorem exec_gptpAnnounce (hin : inService s = true) (hu : portUp s p = true) (ht : tapDrops s p = false) (hs : a.steps < 255)
    (ho : a.src.extractLsb' 16 64 ≠ Config.clockId) : ∃ l, exec (.gptpAnnounce p t (ptpDom s) a) s =
      .next (bmca (modPort { atTime t s with sent := l } p (takeAnn a))) := by
  obtain ⟨l, hl⟩ := tapCopy_eq (s := atTime t s) (p := p) (y := .gptp p)
  refine ⟨l, congrArg Host.Outcome.next ((if_pos hin).trans ?_)⟩
  dsimp only
  rw [hl]
  refine if_pos ?_
  have hgo : (portUp s p && !tapDrops s p && decide (ptpDom s = ptpDom s) && decide (a.steps < 255) &&
      decide (a.src.extractLsb' 16 64 ≠ Config.clockId)) = true := by
    rw [hu, ht, decide_eq_true rfl, decide_eq_true hs, decide_eq_true ho]
    rfl
  exact hgo

/-- The only Announce heard is that of one port. -/
def OnlyHears (s : State) (p : PortId) (a : AnnIn) : Prop :=
  heard s p = some (annVec a (a.steps + 1)) ∧ ∀ q : PortId, q ≠ p → heard s q = none

/-- One step of the search for the best port. -/
def betterPort (s : State) (b : Option PortId × List Nat) (p : PortId) : Option PortId × List Nat :=
  match heard s p with
  | some v => if vecLt v b.2 then (some p, v) else b
  | none => b

theorem bestPort_eq : bestPort s = (allPorts.foldl (betterPort s) (none, ownVec s)).1 := rfl

theorem betterPort_silent {b : Option PortId × List Nat} (h : heard s q = none) : betterPort s b q = b := by
  unfold betterPort
  rw [h]

theorem betterPort_heard {b : Option PortId × List Nat} {v : List Nat} (h : heard s p = some v) :
    betterPort s b p = if vecLt v b.2 then (some p, v) else b := by
  unfold betterPort
  rw [h]

/-- The only port that hears a master is best where that master beats the device's own vector. -/
theorem bestPort_only (h : OnlyHears s p a) :
    bestPort s = if vecLt (annVec a (a.steps + 1)) (ownVec s) then some p else none := by
  obtain ⟨hp, hq⟩ := h
  have hfold : allPorts.foldl (betterPort s) (none, ownVec s) = betterPort s (none, ownVec s) p := by
    have h3 : ∀ p : PortId, p = 0 ∨ p = 1 ∨ p = 2 := by decide
    have hsil : ∀ (q : PortId) (b : Option PortId × List Nat), q ≠ p → betterPort s b q = b := fun q b hne =>
      betterPort_silent (hq q hne)
    show betterPort s (betterPort s (betterPort s (none, ownVec s) 0) 1) 2 = _
    obtain rfl | rfl | rfl := h3 p
    · rw [hsil 2 _ (by decide), hsil 1 _ (by decide)]
    · rw [hsil 2 _ (by decide), hsil 0 _ (by decide)]
    · rw [hsil 1 _ (by decide), hsil 0 _ (by decide)]
  rw [bestPort_eq, hfold, betterPort_heard hp]
  split <;> rfl

theorem roleOf_le {best : Option PortId} : roleOf s best q ≤ 3 := by
  unfold roleOf
  split
  · omega
  split
  · omega
  split
  · omega
  · dsimp only
    split <;> omega

/-- The port that hears the best master is a slave (R288). -/
theorem roleOf_best {v : List Nat} (h : heard s p = some v) : roleOf s (some p) p = 2 := by
  have hup : (portUp s p && !tapDrops s p) = true := by
    by_contra hno
    unfold heard at h
    rw [if_neg hno] at h
    cases h
  simp only [Bool.and_eq_true, Bool.not_eq_true'] at hup
  unfold roleOf
  rw [if_neg (by rw [hup.1, hup.2]; decide), if_pos rfl]

/-- The roles' register gives each port its role. -/
theorem role_field (f : PortId → Nat) (hf : ∀ q, f q ≤ 3) :
    (BitVec.ofNat 6 (allPorts.foldl (fun n p => n + f p * 4 ^ p.val) 0)).toNat / 4 ^ p.val % 4 = f p := by
  have h0 := hf 0
  have h1 := hf 1
  have h2 := hf 2
  have h3 : ∀ p : PortId, p = 0 ∨ p = 1 ∨ p = 2 := by decide
  have hsum : allPorts.foldl (fun n p => n + f p * 4 ^ p.val) 0 = f 0 + f 1 * 4 + f 2 * 16 := by
    show 0 + f 0 * 4 ^ 0 + f 1 * 4 ^ 1 + f 2 * 4 ^ 2 = _
    omega
  rw [hsum, BitVec.toNat_ofNat, Nat.mod_eq_of_lt (show f 0 + f 1 * 4 + f 2 * 16 < 2 ^ 6 by omega)]
  obtain rfl | rfl | rfl := h3 p
  · show (f 0 + f 1 * 4 + f 2 * 16) / 1 % 4 = f 0
    omega
  · show (f 0 + f 1 * 4 + f 2 * 16) / 4 % 4 = f 1
    omega
  · show (f 0 + f 1 * 4 + f 2 * 16) / 16 % 4 = f 2
    omega

/-- The grandmaster that the best port, or the device itself, names. -/
def bestGm (s : State) : Option (BitVec 64) :=
  match bestPort s with
  | some p => ((s.net.ports[p]).ann).map fun a => a.gmId
  | none => if gmCap s then some Config.clockId else s.net.gmId

/-- The device is grandmaster itself. -/
def isMaster (s : State) : Bool := (bestPort s).isNone && gmCap s

/-- The best master is known, and the ports have their roles. -/
def masterNamed (s : State) : State :=
  { s with net := { s.net with
    gm := isMaster s, role := BitVec.ofNat 6 (allPorts.foldl (fun n p => n + roleOf s (bestPort s) p * 4 ^ p.val) 0)
    gmId := bestGm s, synced := s.net.synced && !isMaster s } }

/-- A grandmaster has valid time of its own (R30). -/
def masterTime (s : State) : State := if isMaster s || s.net.gm then timeValid (masterNamed s) else masterNamed s

theorem bmca_eq : bmca s = if s.net.gmId.isSome && decide (s.net.gmId ≠ bestGm s) then timeStep (masterTime s) else masterTime s :=
  rfl

theorem bmca_net : (bmca s).net = (masterNamed s).net := by
  have hstep : ∀ u : State, (timeStep u).net = u.net := fun u => raise_field (π := State.net) fun _ => rfl
  have htime : (masterTime s).net = (masterNamed s).net := by
    unfold masterTime
    split
    · exact timeValid_spec.2.1
    · rfl
  rw [bmca_eq]
  split
  · exact (hstep _).trans htime
  · exact htime

/-- A changed grandmaster raises TIME_STEP (R289). -/
theorem bmca_raises {y : BitVec 64} (h : s.net.gmId = some y) (hne : bestGm s ≠ some y) :
    (bmca s).evt.pend.getLsbD 120 = true := by
  rw [bmca_eq, if_pos (by rw [h, decide_eq_true (Ne.symm hne)]; rfl)]
  exact (raise_raised 120 0 _ (by decide)).2.2.2

theorem bmca_role : portRole (bmca s) p = roleOf s (bestPort s) p := by
  unfold portRole
  rw [bmca_net]
  exact role_field _ fun q => roleOf_le

/-- The first Announce heard is the only one (R288). -/
theorem takeAnn_onlyHears (hu : portUp s p = true) (ht : tapDrops s p = false) (hn : ∀ q : PortId, s.net.ports[q].ann = none) :
    (modPort s p (takeAnn a)).net.ports[p].ann = some a ∧ OnlyHears (modPort s p (takeAnn a)) p a := by
  have hself : (modPort s p (takeAnn a)).net.ports[p] = { s.net.ports[p] with ann := some a } := by
    rw [modPort_self]
    unfold takeAnn
    rw [hn p]
  have hup : (portUp (modPort s p (takeAnn a)) p && !tapDrops (modPort s p (takeAnn a)) p) = true := by
    have hdrop : tapDrops (modPort s p (takeAnn a)) p = tapDrops s p := rfl
    have hact : act (modPort s p (takeAnn a)) (0x0800 + p.val) = act s (0x0800 + p.val) := rfl
    rw [hdrop, ht]
    unfold portUp at hu ⊢
    rw [hself, hact, hu]
    rfl
  refine ⟨by rw [hself], ?_, fun q hq => ?_⟩
  · unfold heard
    rw [if_pos hup, hself]
    rfl
  · unfold heard
    rw [modPort_other hq, hn q]
    split <;> rfl

theorem bestGm_heard (h : OnlyHears s p a) (ha : s.net.ports[p].ann = some a)
    (hv : vecLt (annVec a (a.steps + 1)) (ownVec s) = true) : bestGm s = some a.gmId ∧ bestPort s = some p := by
  have hb : bestPort s = some p := (bestPort_only h).trans (if_pos hv)
  refine ⟨?_, hb⟩
  unfold bestGm
  rw [hb]
  dsimp only
  rw [ha]
  rfl

theorem bestGm_self (h : OnlyHears s p a) (hv : vecLt (annVec a (a.steps + 1)) (ownVec s) = false) (hc : gmCap s = true) :
    bestGm s = some Config.clockId ∧ bestPort s = none := by
  have hb : bestPort s = none := (bestPort_only h).trans (if_neg (by rw [hv]; decide))
  refine ⟨?_, hb⟩
  unfold bestGm
  rw [hb]
  exact if_pos hc

end

/-- Settles O23: each command by its cases; the only Announce heard decides the best master. -/
theorem frameSourcesAndTime : Obligations.FrameSourcesAndTime := by
  unfold Obligations.FrameSourcesAndTime
  refine ⟨fun s hin => ⟨fun t0 w r hsrc hr => ?_, fun t0 h => ?_, fun t0 hh h0 hg k hk hlt => ?_, fun t0 hh hor => ?_⟩,
    fun s hin => ⟨fun p t0 ofs x => ⟨fun hu ht hd hr => ?_, fun hor => ?_⟩, fun p t0 hu hr hi => ?_,
      fun p d corr hu ht => ?_, fun p t0 a hu ht hs ho hnone => ?_⟩⟩
  · have hw : Watched s r := ⟨hin, hsrc, hr⟩
    refine ⟨fun h => exec_edge_short hw h, fun h hh hv => ?_, fun h hh hv u hu => ?_, fun h hh hv hu h1 h0 => ?_,
      fun h hh u hu h1 => ?_⟩
    · rw [exec_edge hw h, if_neg (by rw [hh]; decide), if_pos (by rw [hv]; rfl)]
      rfl
    · have he := exec_edge (t := t0) hw h
      rw [if_neg (by rw [hh]; decide), if_neg (by rw [hv]; decide), hu] at he
      intro taken
      rw [he]
      unfold taken
      dsimp only
      split <;> rfl
    · rw [exec_edge hw h, if_neg (by rw [hh]; decide), if_neg (by rw [hv]; decide), hu]
      dsimp only
      rw [if_neg (by rw [h1, h0]; decide)]
      rfl
    · rw [exec_edge hw h, if_pos hh, hu, Option.map_some, Option.getD_some, if_pos h1]
      rfl
  · exact exec_holdoverEntry_none hin (h.imp_left sourceLost_local)
  · refine exec_holdoverEntry_none hin (.inl ?_)
    rw [sourceLost_network h0 hk, decide_eq_false (by omega), Bool.and_false]
  · refine exec_holdoverEntry hin ?_ hh
    obtain ⟨h0, hg, k, hk, hle⟩ | ⟨h1, hle⟩ := hor
    · rw [sourceLost_network h0 hk, hg, decide_eq_true hle]
      rfl
    · exact sourceLost_edges h1 hle
  · obtain ⟨v, u, hnow, hevt, hno, hnet, hfrm, hu, he⟩ := exec_gptpSyncRx_taken (t := t0) (ofs := ofs) hin hu ht hd hr
    obtain ⟨h1, h2, h3, h4, h5⟩ := timeStep_if hu
    refine ⟨u, he, h1.trans hnow, by rw [h2, hnet], by rw [h2, hnet], by rw [h2, hnet], fun h0 => by rw [h3]; exact hfrm h0,
      fun hc => ?_, fun hc => (h5 (by omega)).trans hevt⟩
    have hr := h4 hc
    unfold Raised at hr ⊢
    rwa [hevt, hno] at hr
  · obtain ⟨l, he⟩ := exec_gptpSyncRx_other (t := t0) (ofs := ofs) hin hor
    exact ⟨_, he, rfl⟩
  · refine ⟨_, exec_gptpSyncTx hin hu hr hi, ?_, rfl, rfl⟩
    rw [modPort_self]
  · obtain ⟨v, u, hnow, hdly, hevt, hu, he⟩ := exec_gptpPdelay (d := d) (corr := corr) hin hu ht
    obtain ⟨h1, h2, -, h4, h5⟩ := timeStep_if hu
    refine ⟨u, he, h1.trans hnow, by rw [h2, hdly], fun hop => by rw [pstatReg_dlyover, h2, hdly], fun hc => (h4 hc).2.2.2,
      fun hc => (h5 (by omega)).trans hevt⟩
  · obtain ⟨l, he⟩ := exec_gptpAnnounce (t := t0) hin hu ht hs ho
    have hup : portUp { atTime t0 s with sent := l } p = true := hu
    obtain ⟨hann, honly⟩ := takeAnn_onlyHears (a := a) hup ht hnone
    refine ⟨_, he, ?_⟩
    generalize hm : modPort { atTime t0 s with sent := l } p (takeAnn a) = m at hann honly
    have hact : ownVec m = ownVec s ∧ gmCap m = gmCap s ∧ m.net.gmId = s.net.gmId := by
      subst hm
      exact ⟨rfl, rfl, rfl⟩
    obtain ⟨hown, hcap, hid⟩ := hact
    rw [← hown, ← hcap]
    refine ⟨by rw [bmca_net]; exact hann, fun hv => ?_, fun hv hc => ?_, fun y hy hne => bmca_raises (hid.trans hy) ?_⟩
    · obtain ⟨hgm, hbest⟩ := bestGm_heard honly hann hv
      refine ⟨?_, ?_, ?_⟩
      · rw [bmca_net]
        show isMaster m = false
        rw [isMaster, hbest]
        rfl
      · rw [bmca_net]
        exact hgm
      · rw [bmca_role, hbest]
        exact roleOf_best honly.1
    · obtain ⟨hgm, hbest⟩ := bestGm_self honly hv hc
      have hmast : isMaster m = true := by
        rw [isMaster, hbest, hc]
        rfl
      rw [bmca_net]
      refine ⟨hmast, hgm, ?_⟩
      show (m.net.synced && !isMaster m) = false
      rw [hmast]
      exact Bool.and_false _
    · rwa [bmca_net] at hne

end Sys2Proof.Machine
end

section
/-! Digital inputs, test pulses and PWM (R51 to R79, R158 to R163): what each command changes of its channel. -/

open Sys2Proof Sys2Proof.Machine
namespace Sys2Proof.Machine

section
variable {s t : State} {n k : ChanId} {t0 : Nat} {r rise light : Bool} {d : ChDi} {m edge te ma : Nat}

/-! ### Inputs -/

theorem modDi_self {f : ChDi → ChDi} : (modDi s n f).ch[n].di = f s.ch[n].di := by
  unfold modDi
  rw [modCh_self]

/-- Of the state only the digital-input part of channel `n` changes, at the instant `t0`. -/
def OnlyInput (s : State) (n : ChanId) (t0 : Nat) (t : State) : Prop :=
  t = { s with now := max s.now t0, ch := s.ch.set n { s.ch[n] with di := t.ch[n].di } }

theorem modDi_onlyInput {f : ChDi → ChDi} : OnlyInput s n t0 (modDi (atTime t0 s) n f) := by
  unfold OnlyInput
  rw [modDi_self]
  rfl

theorem exec_diRawChange (ha : alive s (chGroup n) = true) (hr : s.ch[n].di.raw ≠ r) : exec (.diRawChange n r t0) s =
    .next (modDi (atTime t0 s) n fun d =>
      if isDigMode (modeG s n) then { d with raw := r, tRaw := t0, tPh := t0, fcnt := fcntAt s n t0 }
      else { d with raw := r, tRaw := t0 }) :=
  congrArg Host.Outcome.next (if_pos (by rw [ha, decide_eq_true hr]; rfl))

theorem exec_diFilterChange (hm : isDigMode (modeG s n) = true) (ha : alive s (chGroup n) = true)
    (hr : s.ch[n].di.raw ≠ s.ch[n].di.state) (ht : edgeTime s n ≤ t0) : exec (.diFilterChange n t0) s =
    .next (modDi (atTime t0 s) n fun d =>
      inputEdge (modeG s n) (fld (chG s n 7) 15 14) (d.raw != invG s n) (edgeTime s n)
        { d with state := d.raw, fcnt := if d.raw then topG s n else 0, tPh := edgeTime s n }) :=
  congrArg Host.Outcome.next (if_pos (by rw [hm, ha, decide_eq_true hr, decide_eq_true ht]; rfl))

/-- A counted edge: of the polarity that the channel counts (R62). -/
abbrev Counted (m edge : Nat) (rise : Bool) : Prop := m = 2 ∧ (edge = 2 ∨ (edge = 0 ∧ rise = true) ∨ (edge = 1 ∧ rise = false))

/-- What an edge of the reported state leaves of an input: all but the edge records, the counter and the measurement. -/
theorem inputEdge_keeps : (inputEdge m edge rise te d).state = d.state ∧ (inputEdge m edge rise te d).raw = d.raw ∧
    (inputEdge m edge rise te d).fcnt = d.fcnt := by
  unfold inputEdge
  split
  · exact ⟨rfl, rfl, rfl⟩
  split
  · dsimp only
    split <;> split <;> exact ⟨rfl, rfl, rfl⟩
  · exact ⟨rfl, rfl, rfl⟩

/-- An edge of an input mode is recorded, the first four of the window with their timestamp (R51). -/
theorem inputEdge_records (hm : m = 1 ∨ m = 2) : (inputEdge m edge rise te d).nEdges = d.nEdges + 1 ∧
    (inputEdge m edge rise te d).edges =
      if d.edges.length < 4 then d.edges ++ [bit rise ++ BitVec.ofNat 63 te] else d.edges := by
  unfold inputEdge
  obtain rfl | rfl := hm
  · exact ⟨rfl, rfl⟩
  · rw [if_neg (by decide), if_pos rfl]
    dsimp only
    split <;> split <;> exact ⟨rfl, rfl⟩

/-- A counted edge adds one, modulo 2^32, and the wrap sets WRAP (R62). -/
theorem inputEdge_counts :
    (inputEdge m edge rise te d).count = (if Counted m edge rise then d.count + 1 else d.count) ∧
    (inputEdge m edge rise te d).wrap = (d.wrap || decide (Counted m edge rise ∧ d.count = 0xFFFFFFFF)) := by
  have hcond : (edge = 2 || (edge = 0 && rise) || (edge = 1 && !rise)) = true ↔
      edge = 2 ∨ (edge = 0 ∧ rise = true) ∨ (edge = 1 ∧ rise = false) := by
    simp only [Bool.or_eq_true, Bool.and_eq_true, decide_eq_true_eq, Bool.not_eq_true', or_assoc]
  by_cases hc : Counted m edge rise
  · have hwrap : decide (Counted m edge rise ∧ d.count = 0xFFFFFFFF) = decide (d.count = 0xFFFFFFFF) :=
      decide_eq_decide.2 (and_iff_right hc)
    obtain ⟨h2, he⟩ := id hc
    rw [if_pos hc, hwrap]
    unfold inputEdge
    rw [if_neg (by omega), if_pos h2]
    dsimp only
    rw [if_pos (hcond.2 he)]
    split <;> exact ⟨rfl, rfl⟩
  · have hwrap : decide (Counted m edge rise ∧ d.count = 0xFFFFFFFF) = false := decide_eq_false fun h => hc h.1
    rw [if_neg hc, hwrap, Bool.or_false]
    unfold inputEdge
    split
    · exact ⟨rfl, rfl⟩
    split
    · next h2 =>
      dsimp only
      rw [if_neg fun h => hc ⟨h2, hcond.1 h⟩]
      split <;> exact ⟨rfl, rfl⟩
    · exact ⟨rfl, rfl⟩

theorem exec_freqGateEnd (hm : modeG s n = 2) (ha : alive s (chGroup n) = true)
    (hf : s.frm.no.toNat % 2 ^ fld (chG s n 7) 7 4 = 0) : ∃ t, exec (.freqGateEnd n) s = .next t ∧
      t.ch[n].di.freq = (if s.ch[n].di.gateOn then some (gateFreq s.ch[n].di) else s.ch[n].di.freq) ∧
      t.ch[n].di.gateOn = true ∧ t.ch[n].di.gateM = 0 ∧ t.ch[n].di.gateFirst = none ∧
      t.ch[n].di.count = s.ch[n].di.count := by
  refine ⟨_, congrArg Host.Outcome.next (if_pos ?_), ?_⟩
  · rw [decide_eq_true hm, ha, decide_eq_true hf]
    rfl
  · rw [modDi_self]
    dsimp only
    split <;> exact ⟨rfl, rfl, rfl, rfl, rfl⟩

/-! ### Test pulses -/

theorem exec_testPulseStart (hm : modeG s n = 3) (hs : s.grp[chGroup n].supply = .normal)
    (he : (chG s n 0x10).getLsbD (if light then 14 else 15) = true) (hn : noPulse s n = false)
    (hp : pulseIn s (chGroup n) = false) (ho : s.ch[n].out.applied.msb ≠ light) :
    exec (.testPulseStart n light) s = .next (modOut s n fun o => { o with pulse := some light }) :=
  congrArg Host.Outcome.next (if_pos (by
    rw [decide_eq_true hm, decide_eq_true hs, he, hn, hp, decide_eq_true ho]
    rfl))

/-- The pulse has ended at `t0`. -/
def pulseOver (s : State) (n : ChanId) (t0 : Nat) : State :=
  modOut (atTime t0 s) n fun o => { o with pulse := none, pulseT := t0 }

theorem pulseOver_ch : (pulseOver s n t0).ch[n] = { s.ch[n] with out := { s.ch[n].out with pulse := none, pulseT := t0 } } :=
  modCh_self _ _ _

/-- Ending the Farrier's lapse changes its account alone. -/
theorem onCore_jobDone {code : Nat} : ∃ y, onCore (jobDone code) s = { s with far := y } := by
  unfold onCore
  split
  · exact ⟨_, rfl⟩
  · exact ⟨s.far, rfl⟩

/-- What the pulse has found (R158, R162, R163). -/
def pulseVerdict (s : State) (n : ChanId) (light : Bool) (ma t0 : Nat) : State :=
  if light then modFlt (pulseOver s n t0) n fun f => { f with opn := decide (ma < 2) }
  else if s.ch[n].di.raw then setStuck n (darkSeen n (pulseOver s n t0)) else darkSeen n (pulseOver s n t0)

theorem exec_testPulseEnd (hp : s.ch[n].out.pulse = some light) :
    ∃ y, exec (.testPulseEnd n ma t0) s = .next { pulseVerdict s n light ma t0 with far := y } := by
  obtain ⟨y, hy⟩ := onCore_jobDone (code := 4) (s := pulseVerdict s n light ma t0)
  refine ⟨y, (congrArg Host.Outcome.next ?_).trans (congrArg Host.Outcome.next hy)⟩
  rw [hp]
  rfl

/-- The fault flags of a channel when a suspect of its group no longer waits for channel `n`. -/
def notWaiting (n : ChanId) (f : ChFlt) : ChFlt := { f with darkWait := setBit f.darkWait (chPos n).val false }

theorem modFlt_ch {f : ChFlt → ChFlt} : (modFlt s n f).ch[n] = { s.ch[n] with flt := f s.ch[n].flt } := modCh_self _ _ _

/-- A channel of the group no longer waits for channel `n`. -/
def Chan.released (n : ChanId) (x : Chan) : Chan := { x with flt := notWaiting n x.flt }

theorem darkSeen_eq : darkSeen n s = each (chansOf (chGroup n)) (fun b s => modFlt s b (notWaiting n)) s := rfl

/-- Every suspect of the group stops waiting for the channel (R162). -/
theorem darkSeen_ch (hk : k ∈ chansOf (chGroup n)) : (darkSeen n s).ch[k] = s.ch[k].released n := by
  rw [darkSeen_eq]
  refine each_at (x := k) (P := fun u => u.ch[k] = s.ch[k]) (Q := fun u => u.ch[k] = s.ch[k].released n)
    (fun b hb u hu => ?_) (fun u hu => ?_) (fun b hb u hu => ?_) chansOf_nodup hk rfl
  · exact (modCh_other _ _ hb.symm).trans hu
  · rw [modFlt_ch, hu]
    rfl
  · exact (modCh_other _ _ hb.symm).trans hu

theorem darkSeen_evt : (darkSeen n s).evt = s.evt ∧ coreOn (darkSeen n s) = coreOn s ∧ (darkSeen n s).frm = s.frm :=
  ⟨each_congr (π := State.evt) fun _ _ => rfl, each_congr (π := coreOn) fun _ _ => rfl,
    each_congr (π := State.frm) fun _ _ => rfl⟩

theorem setBit_cleared : ∀ (v : BitVec 8) (i : Fin 8), (setBit v i.val false).getLsbD i.val = false := by
  intro v i
  unfold setBit
  simp

/-- STUCK is set on the channel, and the others keep all but what a raise changes (R163). -/
theorem setStuck_ch : (setStuck n s).ch = (modFlt s n fun f => { f with stuck := true, suspect := false }).ch := by
  unfold setStuck
  dsimp only
  split
  · rfl
  · exact raiseOn_ch

theorem setStuck_raises (hs : s.ch[n].flt.stuck = false) (hon : coreOn s = true) :
    Raised 93 (BitVec.ofNat 32 n.val) s (setStuck n s) := by
  have hraise : setStuck n s = raise 93 (BitVec.ofNat 32 n.val) (modFlt s n fun f => { f with stuck := true, suspect := false }) :=
    (if_neg (by rw [hs]; decide)).trans (if_pos hon)
  rw [hraise]
  exact raise_raised 93 _ _ (by decide)

theorem notWaiting_bit {f : ChFlt} : (notWaiting n f).darkWait.getLsbD (chPos n).val = false := setBit_cleared _ _

theorem pulseVerdict_light : (pulseVerdict s n true ma t0).ch[n].out = { s.ch[n].out with pulse := none, pulseT := t0 } ∧
    (pulseVerdict s n true ma t0).ch[n].flt = { s.ch[n].flt with opn := decide (ma < 2) } ∧
    (pulseVerdict s n true ma t0).evt = s.evt := by
  have hv : pulseVerdict s n true ma t0 = modFlt (pulseOver s n t0) n fun f => { f with opn := decide (ma < 2) } := if_pos rfl
  rw [hv, modFlt_ch, pulseOver_ch]
  exact ⟨rfl, rfl, rfl⟩

/-- What a dark pulse leaves of a channel of the group. -/
theorem pulseVerdict_dark (hk : k ∈ chansOf (chGroup n)) : (pulseVerdict s n false ma t0).ch[k] =
    if s.ch[n].di.raw ∧ k = n then { (darkSeen n (pulseOver s n t0)).ch[k] with
      flt := { notWaiting n (pulseOver s n t0).ch[k].flt with stuck := true, suspect := false } }
    else (darkSeen n (pulseOver s n t0)).ch[k] := by
  unfold pulseVerdict
  rw [if_neg (by decide)]
  by_cases hr : s.ch[n].di.raw = true
  · rw [if_pos hr, setStuck_ch]
    by_cases hkn : k = n
    · subst hkn
      rw [if_pos ⟨hr, rfl⟩, modFlt_ch, darkSeen_ch hk]
      rfl
    · rw [if_neg fun h => hkn h.2]
      exact modCh_other _ _ hkn
  · rw [if_neg hr, if_neg fun h => hr h.1]

theorem pulseVerdict_released (hk : k ∈ chansOf (chGroup n)) :
    (pulseVerdict s n false ma t0).ch[k].flt.darkWait.getLsbD (chPos n).val = false := by
  rw [pulseVerdict_dark hk]
  split
  · exact notWaiting_bit
  · rw [darkSeen_ch hk]
    exact notWaiting_bit

theorem pulseVerdict_self : (pulseVerdict s n false ma t0).ch[n].out = { s.ch[n].out with pulse := none, pulseT := t0 } ∧
    (pulseVerdict s n false ma t0).ch[n].flt.stuck = (s.ch[n].flt.stuck || s.ch[n].di.raw) := by
  rw [pulseVerdict_dark mem_chansOf_chGroup, darkSeen_ch mem_chansOf_chGroup, pulseOver_ch]
  cases hr : s.ch[n].di.raw with
  | true =>
    rw [if_pos ⟨rfl, rfl⟩]
    exact ⟨rfl, (Bool.or_true _).symm⟩
  | false =>
    rw [if_neg fun h => Bool.false_ne_true h.1]
    exact ⟨rfl, (Bool.or_false _).symm⟩

theorem pulseVerdict_raises (hr : s.ch[n].di.raw = true) (hs : s.ch[n].flt.stuck = false) (hon : coreOn s = true) :
    Raised 93 (BitVec.ofNat 32 n.val) s (pulseVerdict s n false ma t0) := by
  have hv : pulseVerdict s n false ma t0 = setStuck n (darkSeen n (pulseOver s n t0)) := (if_neg (by decide)).trans (if_pos hr)
  obtain ⟨hevt, hcore, hfrm⟩ := darkSeen_evt (s := pulseOver s n t0) (n := n)
  have h := setStuck_raises (s := darkSeen n (pulseOver s n t0)) (n := n)
    (by rw [darkSeen_ch mem_chansOf_chGroup, pulseOver_ch]; exact hs) (hcore.trans hon)
  rw [hv]
  unfold Raised at h ⊢
  rw [hevt, hfrm] at h
  exact h

theorem exec_pwmTransition (hm : modeG s n = 5) (hst : s.ch[n].out.started = true) (ho : s.ch[n].out.off = false) :
    exec (.pwmTransition n) s = .next (if s.ch[n].out.pwmHigh then modOut s n fun o => { o with pwmHigh := decide (o.pwmLow = 0) }
      else modOut s n fun o => { o with pwmHigh := decide (0 < pwmHighOf s n (o.applied.toNat / 65536)) }) :=
  congrArg Host.Outcome.next (if_pos (by
    rw [decide_eq_true hm, hst, ho]
    rfl))

/-- The next phase of a PWM output (R75, R76). -/
def nextPhase (s : State) (n : ChanId) : Bool :=
  if s.ch[n].out.pwmHigh then decide (s.ch[n].out.pwmLow = 0)
  else decide (0 < pwmHighOf s n (s.ch[n].out.applied.toNat / 65536))

theorem exec_pwmTransition_phase (hm : modeG s n = 5) (hst : s.ch[n].out.started = true) (ho : s.ch[n].out.off = false) :
    exec (.pwmTransition n) s = .next (modOut s n fun o => { o with pwmHigh := nextPhase s n }) := by
  rw [exec_pwmTransition hm hst ho]
  unfold nextPhase
  split <;> rfl

end

/-- Settles O32: each command changes its channel as its rule says; a dark pulse's end also releases the suspects of its group. -/
theorem digitalInputsAndPulses : Obligations.DigitalInputsAndPulses := by
  unfold Obligations.DigitalInputsAndPulses
  refine ⟨fun s n t0 => ⟨fun r hm ha hr => ?_, fun r hm ha hr => ?_, fun hm ha hr ht => ?_, fun hm ha hf => ?_, fun hc => ?_⟩,
    fun s n => ⟨fun light hm hs he hn hp ho => ?_, fun ma t0 light hp => ?_, fun hi => ?_, fun hm hst ho => ?_⟩⟩
  · exact ⟨_, exec_diRawChange ha hr, modDi_onlyInput, modDi_self.trans (if_pos hm)⟩
  · exact ⟨_, exec_diRawChange ha hr, modDi_onlyInput, modDi_self.trans (if_neg (by rw [hm]; decide))⟩
  · refine ⟨_, exec_diFilterChange hm ha hr ht, modDi_onlyInput, ?_⟩
    rw [modDi_self]
    exact ⟨inputEdge_keeps.1, inputEdge_keeps.2.1, inputEdge_keeps.2.2, inputEdge_records, inputEdge_counts.1,
      inputEdge_counts.2⟩
  · exact exec_freqGateEnd hm ha hf
  · exact congrArg Host.Outcome.next (if_pos hc)
  · exact exec_testPulseStart hm hs he hn hp ho
  · obtain ⟨y, he⟩ := exec_testPulseEnd (ma := ma) (t0 := t0) hp
    refine ⟨_, he, ?_⟩
    cases light with
    | true =>
      obtain ⟨h1, h2, h3⟩ := pulseVerdict_light (s := s) (n := n) (ma := ma) (t0 := t0)
      exact ⟨h1, fun _ => ⟨h2, h3⟩, fun h => absurd h (by decide), fun h => absurd h (by decide)⟩
    | false =>
      obtain ⟨h1, h2⟩ := pulseVerdict_self (s := s) (n := n) (ma := ma) (t0 := t0)
      exact ⟨h1, fun h => absurd h (by decide), fun _ => ⟨h2, fun k hk => pulseVerdict_released hk⟩,
        fun _ hr hs hon => pulseVerdict_raises hr hs hon⟩
  · exact congrArg Host.Outcome.next (if_pos hi)
  · refine ⟨_, exec_pwmTransition_phase hm hst ho, ?_⟩
    rw [modOut_out]
    exact ⟨rfl, rfl, rfl⟩

end Sys2Proof.Machine
end

section
/-! What the commands of one channel do to it (R67 to R79, R156 to R164, R179): each completes with its effect. -/

open Sys2Proof Sys2Proof.Machine
namespace Sys2Proof.Machine

section
variable {s t u : State} {n k b : ChanId} {g : GroupId} {light still below above : Bool} {w : W32} {acc : Access}

/-- A command that answers `t`, of which `p` holds, completes with `p`. -/
theorem CompletesWith.intro {i : Instr} {p : State → Prop} (he : exec i s = .next t) (h : p t) : CompletesWith i s p := ⟨t, he, h⟩

/-! ### Fault flags -/

theorem setStuck_flt : (setStuck n s).ch[n].flt = { s.ch[n].flt with stuck := true, suspect := false } := by
  rw [setStuck_ch, modFlt_ch]

theorem modFlt_other {f : ChFlt → ChFlt} (hne : k ≠ n) : (modFlt s n f).ch[k] = s.ch[k] := modCh_other _ _ hne

/-- The mark of a cross-connection on one channel. -/
def markCross (f : ChFlt) : ChFlt := { f with cross := true, crossSeen := true, suspect := false }

theorem setCross_ch : (setCross n b s).ch = (modFlt (modFlt s n markCross) b markCross).ch := by
  unfold setCross
  dsimp only
  split
  · rfl
  · exact raiseOn_ch

theorem setCross_marks : (setCross n b s).ch[b].flt.cross = true := by
  rw [setCross_ch, modFlt_ch]
  rfl

theorem markCross_keeps (h : s.ch[k].flt.cross = true) : (modFlt s n markCross).ch[k].flt.cross = true := by
  by_cases hk : k = n
  · subst hk
    rw [modFlt_ch]
    rfl
  · rw [modFlt_other hk]
    exact h

theorem setCross_keeps (h : s.ch[k].flt.cross = true) : (setCross n b s).ch[k].flt.cross = true := by
  rw [setCross_ch]
  exact markCross_keeps (markCross_keeps h)

theorem offMates_nodup : (offMates s n).Nodup := chansOf_nodup.filter _

/-- CROSS_SAMPLE (R164). -/
theorem crossSample {before after : BitVec 64} (hm : modeG s n = 3) (ha : alive s (chGroup n) = true) :
    CompletesWith (.crossSample n light before after) s fun t => ∀ b : ChanId, b ∈ offMates s n →
      before.getLsbD b.val = light → after.getLsbD b.val = (!light) → t.ch[b].flt.cross = true := by
  refine .intro (congrArg Host.Outcome.next (if_pos (by rw [decide_eq_true hm, ha]; rfl))) fun b hb h1 h2 => ?_
  refine each_at (x := b) (P := fun _ => True) (Q := fun u => u.ch[b].flt.cross = true) (fun _ _ _ _ => trivial)
    (fun u _ => ?_) (fun y _ u hu => ?_) offMates_nodup hb trivial
  · rw [if_pos (by rw [h1, h2]; simp)]
    exact setCross_marks
  · split
    · exact setCross_keeps hu
    · exact hu

theorem suspect (hm : modeG s n = 3) (ha : alive s (chGroup n) = true) (ho : s.ch[n].out.applied.msb = false)
    (hb : s.ch[n].flt.busy = 0) (hr : s.ch[n].di.raw = true) : CompletesWith (.suspect n) s fun t => t.ch[n].flt.suspect = true := by
  have hgo : (decide (modeG s n = 3) && alive s (chGroup n) && !s.ch[n].out.applied.msb && decide (s.ch[n].flt.busy = 0) &&
      s.ch[n].di.raw) = true := by
    rw [decide_eq_true hm, ha, ho, decide_eq_true hb, hr]
    rfl
  cases hs : s.ch[n].flt.suspect with
  | true => exact .intro (congrArg Host.Outcome.next (if_neg (by rw [hs]; simp))) hs
  | false =>
    refine .intro (congrArg Host.Outcome.next (if_pos (by rw [hgo, hs]; rfl))) ?_
    rw [modFlt_ch]

theorem stuckTestEnd (hs : s.ch[n].flt.suspect = true) (hd : darkOwed s n = false) :
    CompletesWith (.stuckTestEnd n still) s fun t => t.ch[n].flt.suspect = false ∧ (still = true → t.ch[n].flt.stuck = true) := by
  refine .intro (congrArg Host.Outcome.next (if_neg (by rw [hs, hd]; decide))) ?_
  cases still with
  | true =>
    rw [if_pos rfl, setStuck_flt]
    exact ⟨rfl, fun _ => rfl⟩
  | false =>
    rw [if_neg Bool.false_ne_true, modFlt_ch]
    exact ⟨rfl, fun h => absurd h Bool.false_ne_true⟩

theorem openLoad (ha : alive s (chGroup n) = true) (hm : modeG s n = 3) (he : (chG s n 0x19).getLsbD 14 = true)
    (ho : s.ch[n].out.applied.msb = true) (hi : s.ch[n].out.iload < 2) :
    CompletesWith (.openLoad n) s fun t => t.ch[n].flt.opn = true := by
  refine .intro (congrArg Host.Outcome.next (if_pos (by rw [decide_eq_true hm, he, ha, ho, decide_eq_true hi]; rfl))) ?_
  rw [modFlt_ch]

theorem wireBreak (ha : alive s (chGroup n) = true) (hw : wbEnabled s n = true) :
    CompletesWith (.wireBreak n) s fun t => t.ch[n].flt.opn = true := by
  refine .intro (congrArg Host.Outcome.next (if_pos (by rw [hw, ha]; rfl))) ?_
  rw [modFlt_ch]

theorem wireBreakClear (ha : alive s (chGroup n) = true) (hw : s.ch[n].flt.wbOpen = true) :
    CompletesWith (.wireBreakClear n) s fun t => t.ch[n].flt.opn = false := by
  refine .intro (congrArg Host.Outcome.next (if_pos (by rw [hw, ha]; rfl))) ?_
  rw [modFlt_ch]

/-! ### Protection of an output -/

theorem protectCh_flt : (protectCh n s).ch[n].flt = s.ch[n].flt := by
  have h1 : (onCore (protectConflict n) s).ch = s.ch := onCore_chs fun _ => protectConflict_chs
  unfold protectCh modOut
  rw [modCh_self, h1]

theorem currentLimit {l ma : Nat} (ha : alive s (chGroup n) = true) (hl : limitMa s n = some l) (hle : l ≤ ma) :
    CompletesWith (.currentLimit ⟨n, ma⟩) s fun t => t.ch[n].flt.limit = true := by
  refine .intro (congrArg Host.Outcome.next (if_pos ?_)) ?_
  · dsimp only
    rw [hl, Option.map_some, Option.getD_some, decide_eq_true hle, ha]
    rfl
  · dsimp only
    rw [protectCh_flt, modFlt_ch]

/-- A thermal shutdown marks the channel, and what it switches off stays off. -/
theorem thermOff_spec {d : Bool} : (thermOff n d s).ch[n].flt.therm = true ∧
    (isOutMode (modeG s n) = true → (thermOff n d s).ch[n].out.off = true) := by
  unfold thermOff
  dsimp only
  rw [modFlt_ch]
  refine ⟨rfl, fun hm => ?_⟩
  have hp : modeG (protectCh n s) n = modeG s n := modeG_of_grp protectCh_grp
  exact (switchOff_isOff (by rw [hp]; exact hm)).2

theorem thermalShutdown {d : Bool} (ha : alive s (chGroup n) = true) (hm : modeG s n = 3 ∨ modeG s n = 4 ∨ modeG s n = 5) :
    CompletesWith (.thermalShutdown n d) s fun t => t.ch[n].flt.therm = true := by
  refine .intro (congrArg Host.Outcome.next (if_pos ?_)) thermOff_spec.1
  rw [ha, Bool.and_true]
  simpa only [Bool.or_eq_true, decide_eq_true_eq, or_assoc] using hm

theorem setApplied_off : (setApplied n w s).ch[n].out.off = false := by
  unfold setApplied
  dsimp only
  rw [modOut_out]

theorem thermalRetry (ht : s.ch[n].flt.therm = true) (ho : s.ch[n].out.off = true) (hr : fld (chG s n 0x19) 10 8 ≠ 0)
    (hb : busy s n = false) (htr : s.ch[n].flt.tripped = false) (hg : groupOff s.grp[chGroup n] = false)
    (hh : holdOff s (chGroup n) = false) (hw : outBits (modeG s n) (wanted s n) ≠ 0) :
    CompletesWith (.thermalRetry n) s fun t => t.ch[n].out.off = false := by
  refine .intro (congrArg Host.Outcome.next (if_pos ?_)) ?_
  · rw [ht, ho, decide_eq_true hr, hb, htr, hg, hh, decide_eq_true hw]
    rfl
  · have hoff : ∀ f : ChDo → ChDo, (∀ o, (f o).off = o.off) →
        (modOut (setApplied n (outBits (modeG s n) (wanted s n)) s) n f).ch[n].out.off = false := fun f hf => by
      rw [modOut_out, hf, setApplied_off]
    have hcharge : ∀ (p : Prop) [Decidable p] (v : State), (if p then onCore (chargeLease n) v else v).ch = v.ch := fun p _ v => by
      split
      · exact onCore_chs fun _ => chargeLease_reqWork.ch
      · rfl
    dsimp only
    rw [hcharge]
    exact hoff _ fun _ => rfl

theorem thermClear (ht : s.ch[n].flt.therm = true) (ho : s.ch[n].out.off = false) (hr : fld (chG s n 0x19) 10 8 ≠ 0) :
    CompletesWith (.thermClear n) s fun t => t.ch[n].flt.therm = false := by
  refine .intro (congrArg Host.Outcome.next (if_pos (by rw [ht, ho, decide_eq_true hr]; rfl))) ?_
  rw [modFlt_ch]

/-- One step of the search for the highest current (R161). -/
def higher (ma : List Nat) (b : Option (Fin 8)) (p : Fin 8) : Option (Fin 8) :=
  match b with
  | none => some p
  | some q => if ma.getD q.val 0 < ma.getD p.val 0 then some p else some q

theorem foldl_higher_mem {ma : List Nat} {l : List (Fin 8)} {b : Option (Fin 8)} {q : Fin 8}
    (h : l.foldl (higher ma) b = some q) : q ∈ l ∨ b = some q := by
  induction l generalizing b with
  | nil => exact .inr h
  | cons p l ih =>
    obtain hq | hq := ih h
    · exact .inl (List.mem_cons_of_mem _ hq)
    · cases b with
      | none => exact .inl (by cases hq; exact List.mem_cons_self)
      | some r =>
        unfold higher at hq
        dsimp only at hq
        split at hq
        · exact .inl (by cases hq; exact List.mem_cons_self)
        · exact .inr hq

/-- The output with the highest current is one that is on (R161). -/
theorem highest_isOut {ma : List Nat} (h : highest s g ma = some n) : isOutMode (modeG s n) = true := by
  obtain ⟨q, hq, rfl⟩ := Option.map_eq_some_iff.1 h
  obtain hm | hno := foldl_higher_mem (ma := ma) hq
  · have hf := (List.mem_filter.1 hm).2
    exact (Bool.and_eq_true_iff.1 hf).1
  · cases hno

theorem groupOvercurrent {ma : List Nat} (ha : alive s g = true) (hs : 6000 < (ma.take 8).sum) (hh : highest s g ma = some n) :
    CompletesWith (.groupOvercurrent g ma) s fun t => t.ch[n].out.off = true := by
  refine .intro (t := thermOff n (decide (1 ≤ ma.getD (chPos n).val 0)) s)
    (congrArg Host.Outcome.next ((if_pos (by rw [ha, decide_eq_true hs]; rfl)).trans ?_)) (thermOff_spec.2 (highest_isOut hh))
  rw [hh]

theorem ovc (ha : alive s g = true) : CompletesWith (.ovc g above) s fun t => t.grp[g].ovc = above := by
  refine .intro (congrArg Host.Outcome.next (if_pos ha)) ?_
  rw [modGrp_self]

/-! ### Shutdowns that end (R179) -/

theorem endBusy_ends {c : BitVec 2} (hb : s.ch[n].flt.busy = c) : (endBusy n c s).ch[n].flt.busy = 0 := by
  unfold endBusy
  rw [if_pos hb, modFlt_ch]

theorem aoRampdownEnd (hb : s.ch[n].flt.busy = 2) : CompletesWith (.aoRampdownEnd n) s fun t => t.ch[n].out.stageOn = false := by
  refine .intro (congrArg Host.Outcome.next (if_pos hb)) ?_
  rw [modOut_out]

theorem setApplied_queued : (setApplied n w s).ch[n].flt.queued = s.ch[n].flt.queued := by
  have hsuspect : ∀ (p : Prop) [Decidable p], (if p then modFlt s n fun f => { f with suspect := false } else s).ch[n].flt.queued =
      s.ch[n].flt.queued := fun p _ => by
    by_cases hp : p
    · rw [if_pos hp, modFlt_ch]
    · rw [if_neg hp]
  unfold setApplied modOut
  dsimp only
  rw [modCh_self]
  exact hsuspect _

/-- A value in mode 4 is applied at once. -/
theorem applyValue_plc {move : Bool} (hm : modeG s n = 4) : applyValue n w move s = setApplied n (w &&& 0x80000000)
    (modOut s n fun o => { o with subst := false, held := !move, clamped := false }) := by
  unfold applyValue
  dsimp only
  rw [if_neg (by omega), if_pos hm]

/-- A queued value of mode 4 is applied once the shutdown has ended. -/
theorem queuedRequestApply (hb : s.ch[n].flt.busy = 0) (hq : s.ch[n].flt.queued = some (.value w)) (hm : modeG s n = 4)
    (hg : groupOff s.grp[chGroup n] = false) (hh : s.grp[chGroup n].hold = false) (hs : safeInForce s n = false)
    (ho : heldOff s n = false) : CompletesWith (.queuedRequestApply n) s fun t =>
      t.ch[n].flt.queued = none ∧ t.ch[n].out.applied = w &&& 0x80000000 := by
  have hfree : busy s n = false := by
    unfold busy
    rw [hb]
    decide
  let s1 := modOut (modFlt s n fun f => { f with queued := none }) n fun o => { o with held := false }
  have hch : s1.ch[n] = { s.ch[n] with
      flt := { s.ch[n].flt with queued := none }, out := { s.ch[n].out with held := false } } := by
    unfold s1 modOut
    rw [modCh_self, modFlt_ch]
  have hpass : ¬ (groupOff s1.grp[chGroup n] || (s1.grp[chGroup n]).hold || safeInForce s1 n || heldOff s1 n) = true := by
    have h1 : safeInForce s1 n = safeInForce s n := by
      unfold safeInForce writerNone writerA forced chA act
      rw [hch]
      rfl
    have h2 : heldOff s1 n = heldOff s n := by
      unfold heldOff
      rw [hch]
    have h3 : s1.grp = s.grp := rfl
    rw [h1, h2, h3, hg, hh, hs, ho]
    exact Bool.false_ne_true
  have he : exec (.queuedRequestApply n) s = .next (applyValue n w true s1) := by
    refine congrArg Host.Outcome.next ((if_neg (by rw [hfree]; exact Bool.false_ne_true)).trans ?_)
    rw [hq]
    exact if_neg hpass
  have hm1 : modeG s1 n = 4 := hm
  refine .intro he ⟨?_, (applyValue_digital.1 hm1).1⟩
  rw [applyValue_plc hm1, setApplied_queued]
  unfold modOut
  rw [modCh_self, hch]

/-! ### The sense path of mode 7 (R89) -/

theorem modAi_ch {f : ChAi → ChAi} : (modAi s n f).ch[n] = { s.ch[n] with ai := f s.ch[n].ai } := modCh_self _ _ _

theorem openPath_opens : (openPath n s).ch[n].ai.senseOpen = true := by
  unfold openPath
  rw [raiseSum_ch, modAi_ch]

theorem sensePathOpen (ha : alive s (chGroup n) = true) (hm : modeG s n = 7) (ho : s.ch[n].ai.senseOpen = false) :
    CompletesWith (.sensePathOpen n) s fun t => t.ch[n].ai.senseOpen = true :=
  .intro (congrArg Host.Outcome.next (if_pos (by rw [decide_eq_true hm, ha, ho]; rfl))) openPath_opens

theorem sensePathReclose (ha : alive s (chGroup n) = true) (ho : s.ch[n].ai.senseOpen = true) :
    CompletesWith (.sensePathReclose n) s fun t => t.ch[n].ai.senseTrial = true := by
  refine .intro (congrArg Host.Outcome.next (if_pos (by rw [ha, ho]; rfl))) ?_
  rw [modAi_ch]

theorem sensePathCheck (ha : alive s (chGroup n) = true) (ht : s.ch[n].ai.senseTrial = true) :
    CompletesWith (.sensePathCheck n below) s fun t => t.ch[n].ai.senseOpen = !below := by
  refine .intro (congrArg Host.Outcome.next (if_pos (by rw [ha, ht]; rfl))) ?_
  cases below with
  | true =>
    rw [if_pos rfl, modAi_ch]
    rfl
  | false => exact openPath_opens

/-! ### The channel's fault clear (R156) -/

theorem chFltclr (hacc : acc ≠ .groom) (hw : WriteAllowed s acc (chAddr n.val 0x1B) 0x4B1D) :
    CompletesWith (.chFltclr acc n 0x4B1D) s fun t => t.ch[n].flt.clrReq = true := by
  refine .intro (congrArg Host.Outcome.next (guarded_of_allowed hw)) ?_
  unfold storeChFltclr
  rw [if_pos ⟨rfl, hacc⟩, modFlt_ch]

end
end Sys2Proof.Machine
end

section
/-! What the commands of one group do to it (R118 to R128, R144 to R151, R166 to R177): each completes with its effect. -/

open Sys2Proof Sys2Proof.Machine
namespace Sys2Proof.Machine

section
variable {s t u : State} {g : GroupId} {n : ChanId} {r : Role} {e : Fin 16} {a : Nat} {acc : Access} {mv : HWord}

/-! ### The read of a result (R118) -/

theorem noteMiss_grp {q : Fin 7} {base : Nat} {miss : Bool} : (noteMiss q base miss s).grp = s.grp := by
  unfold noteMiss
  split
  · rfl
  · split
    · rfl
    · rfl

theorem readSnap_grp {base len : Nat} : (readSnap acc base len a s).2.grp = s.grp := by
  unfold readSnap
  dsimp only
  split
  · rfl
  · split
    · exact noteMiss_grp
    · exact noteMiss_grp

/-- A read changes the groups by its side effect alone. -/
theorem readReg_effect : ∃ u, u.grp = s.grp ∧ (readReg acc a s).2 = readEffect acc a u := by
  unfold readReg
  dsimp only
  split
  · exact ⟨_, readSnap_grp, rfl⟩
  · exact ⟨_, rfl, rfl⟩

theorem grpOf_resAddr : ∀ (g : GroupId) (r : Role) (e : Fin 16), grpOf (resAddr g r e) = g := by
  intro g r e
  have hg := g.isLt
  have he := e.isLt
  have hr := (roleIx r).isLt
  refine Fin.ext ?_
  unfold grpOf resAddr grpAddr
  dsimp only
  omega

theorem resAddr_low : resAddr g r e % 0x100 = 0x40 + 0x40 * (roleIx r).val + 0x10 + 2 * e.val := by
  have he := e.isLt
  have hr := (roleIx r).isLt
  unfold resAddr grpAddr
  omega

theorem lanePart_res : lanePart (0x40 + 0x40 * (roleIx r).val + 0x10 + 2 * e.val) = (roleIx r, 0x10 + 2 * e.val) := by
  have he := e.isLt
  unfold lanePart
  cases r with
  | a =>
    rw [if_pos (by simp only [roleIx]; omega)]
    exact Prod.ext rfl (by simp only [roleIx]; omega)
  | b =>
    rw [if_neg (by simp only [roleIx]; omega), if_pos (by simp only [roleIx]; omega)]
    exact Prod.ext rfl (by simp only [roleIx]; omega)
  | s =>
    rw [if_neg (by simp only [roleIx]; omega), if_neg (by simp only [roleIx]; omega)]
    exact Prod.ext rfl (by simp only [roleIx]; omega)

theorem resAt_resAddr : resAt (resAddr g r e) = (g, roleIx r, e) := by
  have he := e.isLt
  have hp : lanePart (resAddr g r e % 0x100) = (roleIx r, 0x10 + 2 * e.val) := by rw [resAddr_low, lanePart_res]
  refine Prod.ext (grpOf_resAddr g r e) (Prod.ext (congrArg Prod.fst hp :) (Fin.ext ?_))
  have h2 : (lanePart (resAddr g r e % 0x100)).2 = 0x10 + 2 * e.val := congrArg Prod.snd hp
  unfold resAt
  dsimp only
  omega

theorem isRes_resAddr : isRes (resAddr g r e) = true := by
  have he := e.isLt
  have hg := g.isLt
  have hr := (roleIx r).isLt
  unfold isRes
  rw [resAddr_low, lanePart_res]
  unfold inBlock resAddr grpAddr
  simp only [Bool.and_eq_true, decide_eq_true_eq]
  omega

theorem resAddr_even : resAddr g r e % 2 = 0 := by
  unfold resAddr grpAddr
  omega

theorem isRes_odd (ha : a % 2 = 0) (h : isRes a = true) : isRes (a + 1) = true := by
  have hl : (a + 1) % 0x100 = a % 0x100 + 1 := by omega
  unfold isRes at h ⊢
  unfold inBlock at h ⊢
  rw [hl]
  have hp : ∀ o, o % 2 = 0 → 0x40 ≤ o → (lanePart (o + 1)).2 = (lanePart o).2 + 1 ∧ (lanePart o).2 % 2 = 0 := fun o h2 h40 => by
    unfold lanePart
    split_ifs <;> dsimp only <;> omega
  simp only [Bool.and_eq_true, decide_eq_true_eq] at h ⊢
  obtain ⟨⟨⟨h1, h2⟩, h3⟩, h4, h5⟩ := h
  obtain ⟨hp1, hp2⟩ := hp (a % 0x100) (by omega) h3
  rw [hp1]
  omega

/-- The read of RES_LO clears the entry's NEW. -/
theorem readReg_clearsNew : (((readReg acc (resAddr g r e) s).2.grp[g]).lanes[roleIx r]).new.getLsbD e.val = false := by
  obtain ⟨u, -, hu⟩ := readReg_effect (acc := acc) (a := resAddr g r e) (s := s)
  rw [hu]
  unfold readEffect
  dsimp only
  rw [if_pos isRes_resAddr, if_pos resAddr_even, resAt_resAddr]
  dsimp only
  rw [modGrp_self]
  simp [setBit]

/-- The read of RES_HI changes no group. -/
theorem readReg_odd_grp (h : isRes (a + 1) = true) (ha : a % 2 = 0) : (readReg acc (a + 1) s).2.grp = s.grp := by
  obtain ⟨u, hg, hu⟩ := readReg_effect (acc := acc) (a := a + 1) (s := s)
  rw [hu]
  unfold readEffect
  dsimp only
  rw [if_pos h, if_neg (by omega)]
  exact hg

theorem cnvResRead_clearsNew {wide : Bool} (h : ReadAllowed s acc (resAddr g r e)) :
    CompletesWith (.cnvResRead acc g r e wide) s fun t => (t.grp[g].lanes[roleIx r]).new.getLsbD e.val = false := by
  obtain ⟨hon, hc⟩ := h
  have he : exec (.cnvResRead acc g r e wide) s =
      .next (readRegs acc (if wide then [resAddr g r e, resAddr g r e + 1] else [resAddr g r e]) s).2 := by
    refine congrArg Host.Outcome.next ((onCore_of_on hon).trans ?_)
    rw [hc]
  refine .intro he ?_
  cases wide with
  | false => exact readReg_clearsNew
  | true =>
    have hg : (readRegs acc [resAddr g r e, resAddr g r e + 1] s).2.grp = (readReg acc (resAddr g r e) s).2.grp :=
      readReg_odd_grp (isRes_odd resAddr_even isRes_resAddr) resAddr_even
    rw [if_pos rfl, hg]
    exact readReg_clearsNew

/-! ### The rotation (R144 to R151) -/

theorem modRot_self {f : Rot → Rot} : (modRot s g f).grp[g] = { s.grp[g] with rot := f s.grp[g].rot } := modGrp_self _ _ _

theorem sweepEnd_overlaps {corr : List W32} (hon : coreOn s = true) (hs : s.grp[g].rot.step = 2) :
    CompletesWith (.sweepEnd g corr) s fun t => t.grp[g].rot.step = 3 := by
  refine .intro (congrArg Host.Outcome.next (if_pos (by rw [decide_eq_true hs, hon]; rfl))) ?_
  unfold beginOverlap
  rw [modGrp_self]

/-- The stop of the rotation leaves the mismatch count. -/
theorem laneFault_misCnt {c : BitVec 2} : (laneFault g c s).grp[g].rot.misCnt = s.grp[g].rot.misCnt := by
  unfold laneFault
  rw [raiseOn_grp, modRot_self, modGrp_self]

/-- The next sweep leaves the mismatch count and the request to leave the scan mode. -/
theorem askSweep_keeps : (askSweep g s).grp[g].rot.misCnt = s.grp[g].rot.misCnt ∧
    (askSweep g s).grp[g].exitReq = s.grp[g].exitReq := by
  have hg : ∀ u : State, (onCore (groomReq (.sweep g)) u).grp = u.grp := fun u =>
    grp_of_channels (onCore_apartCh fun _ => groomReq_apartCh)
  unfold askSweep
  rw [hg, modRot_self, modGrp_self]
  exact ⟨rfl, rfl⟩

theorem overlapEnd_counts (hon : coreOn s = true) (hs : s.grp[g].rot.step = 3) (hr : s.grp[g].rot.restart = false)
    (hf : fld (act s 0x3006) 9 0 ≤ s.grp[g].rot.frames) (hp : s.grp[g].rot.pairs ≠ 0) (hm : matchOk s s.grp[g].rot = false) :
    CompletesWith (.overlapEnd g) s fun t => t.grp[g].rot.misCnt = inc16 s.grp[g].rot.misCnt := by
  have hno : ¬ (s.grp[g].rot.pairs = 0 ∨ matchOk s s.grp[g].rot = true) := by
    rw [hm]
    exact fun h => h.elim hp Bool.false_ne_true
  refine .intro (congrArg Host.Outcome.next ((if_pos (by rw [decide_eq_true hs, hr, decide_eq_true hf, hon]; rfl)).trans
    (if_neg hno))) ?_
  dsimp only
  rw [if_neg hp]
  split
  · rw [laneFault_misCnt, modRot_self, modRot_self]
  · rw [askSweep_keeps.1, modRot_self, modRot_self, modRot_self]

/-! ### Scans and interleave (R123 to R128, R169) -/

theorem startScan_entry {i : Fin 3} : ((startScan g s).grp[g].lanes[i]).entry = 0 := by
  unfold startScan
  rw [modGrp_self]
  simp [startLane]

theorem scanEnd_restarts (ha : alive s g = true) (hs : s.grp[g].scan = true) (hl : 0 < laneLen s g .a)
    (hr : ∀ i : Fin 3, s.grp[g].lanes[i].running = false) :
    CompletesWith (.scanEnd g) s fun t => ∀ i : Fin 3, t.grp[g].lanes[i].entry = 0 := by
  have hall : s.grp[g].lanes.toList.all (fun l => !l.running) = true := by
    refine List.all_eq_true.2 fun l hl => ?_
    obtain ⟨i, hi, rfl⟩ := Vector.mem_iff_getElem.1 (Vector.mem_toList_iff.1 hl)
    exact congrArg not (hr ⟨i, hi⟩)
  exact .intro (congrArg Host.Outcome.next (if_pos (by rw [ha, hs, decide_eq_true hl, hall]; rfl))) fun i => startScan_entry

theorem endRecovery_exit : (endRecovery g s).grp[g].exitReq = s.grp[g].exitReq := by
  have hask : ∀ (k : ChanId) (v : State), (if modeG v k = 8 then askLeave k (.excite k)
      (modAi v k fun a => { a with excLeave := true, has := false, shown := false }) else askStage k v).grp = v.grp := fun k v => by
    split
    · exact askLeave_reqWork.grp
    · exact grp_of_channels askStage_apartCh
  have hsafe : ∀ v : State, (refreshSafe (chansOf g) v).grp = v.grp := fun v => grp_of_channels refreshSafe_apartCh
  unfold endRecovery
  dsimp only
  rw [each_congr (π := State.grp) hask, hsafe, modGrp_self]

theorem leaveScan_exit : (leaveScan g s).grp[g].exitReq = false := by
  have hrot : ∀ v : State, (startRot g v).grp[g].exitReq = v.grp[g].exitReq := fun v => by
    unfold startRot
    by_cases h : v.grp[g].rot.step = 5
    · rw [if_pos h]
    · rw [if_neg h, askSweep_keeps.2]
  unfold leaveScan
  rw [hrot, modGrp_self]

theorem scanModeExit_clears (ha : alive s g = true) (hon : coreOn s = true) (hx : s.grp[g].exitReq = true) :
    CompletesWith (.scanModeExit g) s fun t => t.grp[g].exitReq = false := by
  refine .intro (congrArg Host.Outcome.next ((onCore_of_on hon).trans (if_pos (by rw [ha, hx]; rfl)))) ?_
  have h1 : (modGrp s g fun x => { x with exitReq := false }).grp[g].exitReq = false := by rw [modGrp_self]
  have h2 : ∀ (p : Prop) [Decidable p] (v : State), v.grp[g].exitReq = false →
      (if p then endRecovery g v else v).grp[g].exitReq = false := fun p _ v hv => by
    split
    · rw [endRecovery_exit, hv]
    · exact hv
  dsimp only
  split
  · exact h2 _ _ h1
  · exact leaveScan_exit

theorem interleaveSample_has {i : ConvIn} (ha : alive s g = true) (hi : s.grp[g].ilv = true) (hs : s.grp[g].supply = .normal)
    (hp : 0 < period s.cfg.active) :
    CompletesWith (.interleaveSample g 0 i) s fun t => t.ch[chanAt g (fld (grpG s g 0x11) 2 0)].ai.has = true := by
  refine .intro (congrArg Host.Outcome.next ((if_pos (by
    rw [ha, hi, decide_eq_true hs, decide_eq_true (by omega)]; rfl)).trans (if_pos rfl))) ?_
  rw [modAi_ch]

/-! ### The field supply and the links (R166 to R177) -/

theorem lpwarn_sets (ha : alive s g = true) : CompletesWith (.lpwarn g mv) s fun t => t.grp[g].lpwarn = true := by
  refine .intro (congrArg Host.Outcome.next (if_pos ha)) ?_
  dsimp only
  by_cases hw : s.grp[g].lpwarn = true
  · rw [if_pos hw, modGrp_self]
  · rw [if_neg hw, raiseOn_grp, modGrp_self]

theorem lpwarnEnd_clears (ha : alive s g = true) (hw : s.grp[g].lpwarn = true) :
    CompletesWith (.lpwarnEnd g mv) s fun t => t.grp[g].lpwarn = false := by
  refine .intro (congrArg Host.Outcome.next (if_pos (by rw [ha, hw]; rfl))) ?_
  rw [modGrp_self]

theorem uvoff_supply (ha : alive s g = true) : CompletesWith (.uvoff g mv) s fun t => t.grp[g].supply = .uvoff := by
  by_cases hs : s.grp[g].supply = .uvoff
  · exact .intro (congrArg Host.Outcome.next (if_neg fun h => absurd hs (of_decide_eq_true (Bool.and_eq_true_iff.1 h).2))) hs
  · exact .intro (exec_uvoff ha hs) supplyFail_spec.1

theorem overvoltage_supply (ha : alive s g = true) :
    CompletesWith (.overvoltage g mv) s fun t => t.grp[g].supply = .overvoltage := by
  by_cases hs : s.grp[g].supply = .overvoltage
  · exact .intro (congrArg Host.Outcome.next (if_neg fun h => absurd hs (of_decide_eq_true (Bool.and_eq_true_iff.1 h).2))) hs
  · exact .intro (exec_overvoltage ha hs) supplyFail_spec.1

theorem fieldUnpowered_supply (ha : alive s g = true) :
    CompletesWith (.fieldUnpowered g) s fun t => t.grp[g].supply = .unpowered := by
  obtain ⟨t, ht, hs, -⟩ := fieldUnpowered ha
  exact ⟨t, ht, hs⟩

theorem holdEntry_holds (ha : alive s g = true) (hh : s.grp[g].heard = true) :
    CompletesWith (.holdEntry g) s fun t => t.grp[g].hold = true := by
  cases hn : s.grp[g].hold with
  | true => exact .intro (congrArg Host.Outcome.next (if_neg (by rw [hn, Bool.and_comm]; exact Bool.false_ne_true))) hn
  | false =>
    obtain ⟨t, ht, hs, -⟩ := holdEntry ha hh hn
    exact ⟨t, ht, hs⟩

theorem holdTimeout_done (ha : alive s g = true) (hh : s.grp[g].hold = true) (hc : 1 ≤ holdCode s.grp[g] g) :
    CompletesWith (.holdTimeout g) s fun t => t.grp[g].holdDone = true := by
  cases hn : s.grp[g].holdDone with
  | true => exact .intro (congrArg Host.Outcome.next (if_neg (by rw [hn, hh, ha]; exact Bool.false_ne_true))) hn
  | false =>
    obtain ⟨t, ht, hs, -⟩ := holdTimeout ha hh hn hc
    exact ⟨t, ht, hs⟩

theorem heartbeat_frame (ha : alive s g = true) (hon : coreOn s = true) (hl : s.grp[g].link = false)
    (hw : s.wdt.fired = false) : CompletesWith (.heartbeat g) s fun t => t.grp[g].hbFrm = some s.frm.no := by
  by_cases hf : s.grp[g].hbFrm = some s.frm.no
  · exact .intro (congrArg Host.Outcome.next (if_neg fun h => absurd hf (of_decide_eq_true (Bool.and_eq_true_iff.1 h).2))) hf
  · obtain ⟨t, ht, -, hs, -⟩ := heartbeat ha hon hl hw hf
    exact ⟨t, ht, hs⟩

theorem linkLoss_link (ha : alive s g = true) (hon : coreOn s = true) :
    CompletesWith (.linkLoss g) s fun t => t.grp[g].link = true := by
  refine .intro (congrArg Host.Outcome.next ((onCore_of_on hon).trans (if_pos ha))) ?_
  rw [modGrp_self]

theorem suspendRot_link : (suspendRot g s).grp[g].link = s.grp[g].link := by
  have h1 : (endOp (.sweep g) (dropReq (.handover g) (dropReq (.sweep g) s))).grp = s.grp :=
    (endOp_reqWork.grp).trans (dropReq_reqWork.grp.trans dropReq_reqWork.grp)
  unfold suspendRot
  dsimp only
  rw [modRot_self, modGrp_self, h1]

theorem ihlileLinkUp_link {minor : Nat} {ok : Bool} (ha : alive s g = true) (hon : coreOn s = true) :
    CompletesWith (.ihlileLinkUp g minor ok) s fun t => t.grp[g].link = false := by
  have hoff : ∀ v : State, (each (chansOf g) supplyOff v).grp = v.grp := fun v =>
    each_congr (π := State.grp) fun _ _ => supplyOff_grp
  refine .intro (congrArg Host.Outcome.next ((onCore_of_on hon).trans (if_pos ha))) ?_
  dsimp only
  split
  · rw [modGrp_self]
  · rw [modGrp_self, hoff, stopLanes, modGrp_self, suspendRot_link, modGrp_self]

theorem groupFwLoaded_ok (ha : alive s g = true) (hon : coreOn s = true) :
    CompletesWith (.groupFwLoaded g) s fun t => t.grp[g].bankOk = true := by
  cases hb : s.grp[g].bankOk with
  | true => exact .intro (congrArg Host.Outcome.next ((onCore_of_on hon).trans (if_neg (by rw [hb, ha]; exact Bool.false_ne_true)))) hb
  | false =>
    refine .intro (congrArg Host.Outcome.next ((onCore_of_on hon).trans (if_pos (by rw [ha, hb]; rfl)))) ?_
    unfold givePortion
    rw [modGrp_self, modGrp_self]

theorem supplyRestored_lplus {fbs : Option Nat}
    (hx : s.grp[g].supply = .unpowered ∨ s.grp[g].supply = .uvoff ∨ s.grp[g].supply = .overvoltage) :
    CompletesWith (.supplyRestored g fbs mv) s fun t => t.grp[g].lplus = mv := by
  obtain ⟨t, ht, -, hs, -⟩ := supplyRestored (mv := mv) (fbs := fbs) hx
  exact ⟨t, ht, hs⟩

/-! ### Fault clears (R156) -/

theorem grpFltclr_sets (hacc : acc ≠ .groom) (hw : WriteAllowed s acc (grpAddr g.val 0x29) 0x4B2D) :
    CompletesWith (.grpFltclr acc g 0x4B2D) s fun t => t.grp[g].fltClr = true := by
  have hg : ∀ v : State, (each (chansOf g) (fun n s => modFlt s n fun f => { f with clrReq := true }) v).grp = v.grp := fun v =>
    each_congr (π := State.grp) fun _ _ => rfl
  refine .intro (congrArg Host.Outcome.next (guarded_of_allowed hw)) ?_
  unfold storeGrpFltclr
  rw [if_pos ⟨rfl, hacc⟩, hg, modGrp_self]

theorem clearGrp_clears : (clearGrp g s).grp[g].fltClr = false := by
  unfold clearGrp
  rw [modGrp_self]

/-- FAULT_CLEAR_APPLY clears the request of every group. -/
theorem faultClearApply_clears (hon : coreOn s = true) :
    CompletesWith .faultClearApply s fun t => t.grp[g].fltClr = false := by
  have hstage : ∀ v : State, (each channels askStage v).grp = v.grp := fun v =>
    each_congr (π := State.grp) fun _ _ => grp_of_channels askStage_apartCh
  have hsafe : ∀ v : State, (refreshSafe channels v).grp = v.grp := fun v => grp_of_channels refreshSafe_apartCh
  refine .intro (congrArg Host.Outcome.next (onCore_of_on hon)) ?_
  dsimp only
  rw [hstage, hsafe]
  refine each_at (x := g) (P := fun _ => True) (Q := fun u => u.grp[g].fltClr = false) (fun _ _ _ _ => trivial)
    (fun u _ => ?_) (fun k hk u hu => ?_) (List.nodup_finRange 8) (List.mem_finRange g) trivial
  · split
    · exact clearGrp_clears
    · exact Bool.eq_false_iff.2 ‹_›
  · split
    · unfold clearGrp
      rw [modGrp_other _ _ hk.symm]
      exact hu
    · exact hu

end
end Sys2Proof.Machine
end

section
/-! What the Reins answer (R248 to R250), and where the commands of channels and groups complete. -/

open Sys2Proof Sys2Proof.Machine
namespace Sys2Proof.Machine

section
variable {s t u : State} {i k : Fin 96} {g : GroupId} {n : ChanId} {op : ReqOp}

/-- The work of the Reins that follows a grant or a denial of slot `i`: the slot stays granted where it is, and the count of
denials stays. -/
structure SlotWork (i : Fin 96) (s t : State) : Prop where
  granted : s.pgv.slots[i].st = .granted → t.pgv.slots[i].st = .granted
  denyCnt : t.pgv.denyCnt = s.pgv.denyCnt

theorem SlotWork.trans (h1 : SlotWork i s t) (h2 : SlotWork i t u) : SlotWork i s u :=
  ⟨fun h => h2.granted (h1.granted h), h2.denyCnt.trans h1.denyCnt⟩

theorem SlotWork.after (h2 : SlotWork i t u) (h1 : SlotWork i s t) : SlotWork i s u := h1.trans h2

theorem slotWork_of_pgv (h : t.pgv = s.pgv) : SlotWork i s t := by
  constructor
  · rw [h]
    exact id
  · rw [h]

theorem SlotWork.refl : SlotWork i s s := slotWork_of_pgv rfl

theorem each_slotWork {α : Type} {f : α → State → State} (h : ∀ y s, SlotWork i s (f y s)) {l : List α} :
    SlotWork i s (each l f s) := by
  induction l generalizing s with
  | nil => exact SlotWork.refl
  | cons y l ih => exact (h y s).trans ih

theorem onCore_slotWork {f : State → State} (h : ∀ s, SlotWork i s (f s)) : SlotWork i s (onCore f s) := by
  unfold onCore
  split
  · exact h s
  · exact SlotWork.refl

theorem freeShared_spec (h : freeShared s = some k) : slotBusy s.pgv.slots[k] = false := by
  have := List.find?_some h
  simpa only [Bool.not_eq_true'] using this

theorem keepLease_pgv : (keepLease k s).pgv.slots = s.pgv.slots ∧ (keepLease k s).pgv.denyCnt = s.pgv.denyCnt := by
  unfold keepLease
  split
  · exact ⟨rfl, rfl⟩
  · exact ⟨rfl, rfl⟩

/-- A request that takes a free slot leaves the granted ones. -/
theorem openOp_slotWork (hf : slotBusy s.pgv.slots[k] = false) : SlotWork i s (openOp k op s) := by
  obtain ⟨hs, hd⟩ := keepLease_pgv (k := k) (s := s)
  constructor
  · intro hi
    have hne : i ≠ k := by
      rintro rfl
      unfold slotBusy at hf
      rw [hi] at hf
      exact absurd hf (by decide)
    unfold openOp openSlot
    dsimp only
    rw [modSlot_other _ _ hne, hs]
    exact hi
  · exact hd

theorem setWait_slotWork {l : List ReqOp} : SlotWork i s { s with pgv := { s.pgv with wait := l } } := ⟨id, rfl⟩

theorem groomReq_slotWork : SlotWork i s (groomReq op s) := by
  unfold groomReq
  split
  · exact openOp_slotWork (freeShared_spec ‹_›)
  · exact setWait_slotWork

theorem serveWait_slotWork : SlotWork i s (serveWait s) := by
  unfold serveWait
  split
  · exact setWait_slotWork.trans (openOp_slotWork (freeShared_spec ‹freeShared s = some _›))
  · exact SlotWork.refl

theorem dropReq_slotWork : SlotWork i s (dropReq op s) := by
  unfold dropReq
  refine setWait_slotWork.trans ((each_slotWork fun k s => ?_).trans serveWait_slotWork)
  split
  · rename_i hk
    refine ⟨fun hi => ?_, rfl⟩
    have hne : i ≠ k := by
      rintro rfl
      rw [hi] at hk
      exact absurd hk.1 (by decide)
    rw [modSlot_other _ _ hne]
    exact hi
  · exact SlotWork.refl

theorem beginOverlap_slotWork : SlotWork i s (beginOverlap g s) := slotWork_of_pgv rfl

theorem modRot_slotWork {f : Rot → Rot} : SlotWork i s (modRot s g f) := slotWork_of_pgv rfl

theorem restartOverlap_slotWork : SlotWork i s (restartOverlap g s) := by
  unfold restartOverlap
  dsimp only
  split
  · exact .after beginOverlap_slotWork (.after modRot_slotWork dropReq_slotWork)
  · exact SlotWork.refl

theorem askSweep_slotWork : SlotWork i s (askSweep g s) :=
  .after (onCore_slotWork fun _ => groomReq_slotWork) (slotWork_of_pgv rfl)

theorem handover_slotWork : SlotWork i s (handover g s) := .after askSweep_slotWork (slotWork_of_pgv rfl)

theorem raise_slotWork {e : Fin 128} {v : W32} : SlotWork i s (raise e v s) := slotWork_of_pgv raise_pgv

/-! ### Replies -/

theorem reply_slotWork {m : MsgCtx} {sid : Option (Fin 16)} {v : HWord} {body : List Byte} :
    SlotWork i s (reply m sid v body s) := slotWork_of_pgv (congrArg State.pgv reply_apart :)

theorem refuse_slotWork {j : Fin 4} {c : Byte} : SlotWork i s (refuse j c s) :=
  slotWork_of_pgv (congrArg State.pgv refuse_apart :)

theorem bumpSend_slotWork {sid : Option (Fin 16)} : SlotWork i s (bumpSend sid s) :=
  slotWork_of_pgv (congrArg State.pgv bumpSend_apart :)

theorem refuseMsg_slotWork {m : MsgCtx} {sid : Option (Fin 16)} {c : Byte} : SlotWork i s (refuseMsg m sid c s) := by
  refine (refuse_slotWork (j := ifCode m.iface) (c := c)).trans ?_
  unfold refuseMsg
  dsimp only
  split
  · exact slotWork_of_pgv rfl
  · split
    · exact .after bumpSend_slotWork (slotWork_of_pgv rfl)
    · split
      · exact slotWork_of_pgv rfl
      · exact slotWork_of_pgv rfl

theorem serveBytes_slotWork {b : Nat} : SlotWork i s (serveBytes b s) := by
  unfold serveBytes
  dsimp only
  split
  · exact slotWork_of_pgv rfl
  · exact .after groomReq_slotWork (slotWork_of_pgv rfl)

theorem eccServed_slotWork {b : Fin 5} : SlotWork i s (eccServed b s) :=
  .after raise_slotWork (slotWork_of_pgv rfl)

theorem serveRead_slotWork {w : LogWait} : SlotWork i s (serveRead w s) := by
  unfold serveRead
  dsimp only
  refine .after serveBytes_slotWork (.after reply_slotWork ?_)
  split
  · exact eccServed_slotWork
  · exact SlotWork.refl

theorem freeReads_slotWork : SlotWork i s (freeReads s) := by
  unfold freeReads
  have hask : ∀ w s, SlotWork i s (askRead w s) := fun w s => by
    unfold askRead
    split
    · exact slotWork_of_pgv rfl
    · exact serveRead_slotWork
  exact .after (each_slotWork (f := askRead) hask) (slotWork_of_pgv rfl)

theorem certDone_slotWork {m : MsgCtx} {c : List Byte} {ok : Bool} : SlotWork i s (certDone m c ok s) := by
  unfold certDone
  split
  · exact refuseMsg_slotWork
  · split
    · exact refuseMsg_slotWork
    · dsimp only
      refine .after reply_slotWork ?_
      split
      · exact slotWork_of_pgv rfl
      · exact .after raise_slotWork (slotWork_of_pgv rfl)

theorem verifying_slotWork {maint : Bool} {f : State → State} (h : ∀ s, SlotWork i s (f s)) :
    SlotWork i s (verifying maint f s) := by
  have hask : ∀ op, SlotWork i s (if reqPending s op then s else groomReq op s) := fun op => by
    split
    · exact SlotWork.refl
    · exact groomReq_slotWork
  unfold verifying
  dsimp only
  split
  · exact hask _
  · exact .after (h _) (slotWork_of_pgv rfl)

theorem drainFrom_slotWork {l : List QItem} : SlotWork i s (drainFrom l s) := by
  induction l generalizing s with
  | nil => exact SlotWork.refl
  | cons q l ih =>
    cases q with
    | cert m c ok => exact verifying_slotWork fun s => .after ih (.after certDone_slotWork (slotWork_of_pgv rfl))
    | _ => exact SlotWork.refl

/-! ### Grants, ends and denials (R248 to R250) -/

/-- What a grant starts leaves its slot granted. -/
theorem startOp_slotWork {members : BitVec 64} : SlotWork i s (startOp op members s) := by
  have hif : ∀ (p : Prop) [Decidable p] (v : State), v.pgv = s.pgv → SlotWork i s (if p then v else s) := fun p _ v hv => by
    split
    · exact slotWork_of_pgv hv
    · exact SlotWork.refl
  cases op with
  | turnOn n => exact hif _ _ rfl
  | aoEnable n => exact hif _ _ rfl
  | excite n => exact hif _ _ rfl
  | atomSet l =>
    refine each_slotWork fun n s => ?_
    unfold grantMember
    split
    · exact slotWork_of_pgv rfl
    · exact SlotWork.refl
  | sweep g => exact hif _ _ rfl
  | handover g =>
    unfold startOp
    dsimp only
    split
    · exact handover_slotWork
    · exact SlotWork.refl
  | readOut => exact freeReads_slotWork
  | burst => exact drainFrom_slotWork
  | nvWrite c => exact slotWork_of_pgv rfl
  | refresh => exact slotWork_of_pgv rfl
  | record => exact slotWork_of_pgv rfl
  | chunk => exact slotWork_of_pgv rfl
  | burstMaint => exact SlotWork.refl
  | reserve => exact SlotWork.refl
  | progChannel n => exact SlotWork.refl
  | progSet n => exact SlotWork.refl
  | charge n => exact SlotWork.refl

/-- What a denial leaves to do counts no further denial. -/
theorem denied_slotWork : SlotWork i s (denied op s) := by
  cases op with
  | sweep g =>
    unfold denied
    dsimp only
    split
    · exact slotWork_of_pgv rfl
    · exact SlotWork.refl
  | handover g => exact restartOverlap_slotWork
  | record => exact ⟨id, rfl⟩
  | nvWrite c => exact slotWork_of_pgv rfl
  | burst => exact ⟨id, rfl⟩
  | burstMaint => exact ⟨id, rfl⟩
  | readOut => exact ⟨id, rfl⟩
  | chunk => exact ⟨id, rfl⟩
  | refresh => exact ⟨id, rfl⟩
  | turnOn n => exact SlotWork.refl
  | aoEnable n => exact SlotWork.refl
  | excite n => exact SlotWork.refl
  | atomSet l => exact SlotWork.refl
  | reserve => exact SlotWork.refl
  | progChannel n => exact SlotWork.refl
  | progSet n => exact SlotWork.refl
  | charge n => exact SlotWork.refl

theorem leaveGrant_grants (hon : coreOn s = true) (hp : s.pgv.slots[i].st = .pending) (hg : s.pgv.slots[i].grantable = true) :
    CompletesWith (.leaveGrant i) s fun t => t.pgv.slots[i].st = .granted := by
  refine .intro (congrArg Host.Outcome.next ((onCore_of_on hon).trans (if_pos (by
    unfold canGrant; rw [decide_eq_true hp, hg]; rfl)))) (startOp_slotWork.granted ?_)
  unfold grantSlot loadRegs
  dsimp only
  rw [modSlot_self]

theorem leaseEnd_ends (hon : coreOn s = true) (hg : s.pgv.slots[i].st = .granted) (hd : s.pgv.slots[i].due = true)
    (hw : s.pgv.wait = []) : CompletesWith (.leaseEnd i) s fun t => t.pgv.slots[i].st = .ended := by
  have hwait : ∀ v : State, v.pgv.wait = [] → serveWait v = v := fun v hv => by
    unfold serveWait
    rw [hv]
  refine .intro (congrArg Host.Outcome.next ((onCore_of_on hon).trans ((if_pos (by
    unfold canEnd; rw [decide_eq_true hg, hd]; rfl)).trans (hwait (endSlot i s) hw)))) ?_
  unfold endSlot
  rw [modSlot_self]

theorem reinsDeny_counts (hon : coreOn s = true) (hp : s.pgv.slots[i].st = .pending) (hd : s.pgv.slots[i].deny = true) :
    CompletesWith (.reinsDeny i) s fun t => t.pgv.denyCnt = inc16 s.pgv.denyCnt := by
  refine .intro (congrArg Host.Outcome.next ((onCore_of_on hon).trans (if_pos (by
    unfold canDeny; rw [decide_eq_true hp, hd]; rfl)))) ?_
  exact ((raise_slotWork (i := i)).trans (denied_slotWork.trans serveWait_slotWork)).denyCnt.trans rfl

end

/-- Settles O57: every command of channels, groups and the Reins completes with its effect. -/
theorem channelAndGroupCommandsComplete : Obligations.ChannelAndGroupCommandsComplete := by
  unfold Obligations.ChannelAndGroupCommandsComplete
  refine ⟨fun s n ha => ?_, fun s g mv => ?_, fun s i hon => ?_⟩
  · refine ⟨fun hm _ _ _ => crossSample hm ha, fun hm ho hb hr => suspect hm ha ho hb hr, fun hs hd _ => stuckTestEnd hs hd,
      fun hm he ho hi => openLoad ha hm he ho hi, wireBreak ha, wireBreakClear ha, fun k ma hl hle => currentLimit ha hl hle,
      fun hm _ => thermalShutdown ha hm, thermalRetry, thermClear, fun ma hs hh => groupOvercurrent ha hs hh, fun _ => ovc ha,
      fun hb => .intro rfl (endBusy_ends hb), aoRampdownEnd, fun hb => .intro rfl (endBusy_ends hb),
      fun w hb hq hm hg hh hs ho => queuedRequestApply hb hq hm hg hh hs ho, sensePathOpen ha, sensePathReclose ha,
      fun ht _ => sensePathCheck ha ht, fun hi => ?_, fun hm hs ho hp => ?_, fun acc hacc hw => chFltclr hacc hw⟩
    · refine .intro (congrArg Host.Outcome.next (if_pos hi)) ?_
      rw [modOut_out]
    · refine .intro (exec_pwmTransition_phase hm hs ho) ?_
      rw [modOut_out]
      exact if_pos hp
  · refine ⟨fun acc r e wide h => cnvResRead_clearsNew h, fun hon hs corr => sweepEnd_overlaps hon hs,
      fun hon hs hr hf hp hm => overlapEnd_counts hon hs hr hf hp hm, fun ha => ?_, fun hx fbs => supplyRestored_lplus hx,
      fun acc hacc hw => grpFltclr_sets hacc hw, fun hon => faultClearApply_clears hon⟩
    exact ⟨fun hs _ hl hr => scanEnd_restarts ha hs hl hr, fun hon hx => scanModeExit_clears ha hon hx,
      fun hi hs hp i => interleaveSample_has ha hi hs hp, lpwarn_sets ha, lpwarnEnd_clears ha, uvoff_supply ha,
      overvoltage_supply ha, fieldUnpowered_supply ha, holdEntry_holds ha, holdTimeout_done ha,
      fun hon hl hw => heartbeat_frame ha hon hl hw, fun hon => ⟨linkLoss_link ha hon, fun _ _ => ihlileLinkUp_link ha hon,
        groupFwLoaded_ok ha hon⟩⟩
  · exact ⟨leaveGrant_grants hon, leaseEnd_ends hon, reinsDeny_counts hon⟩

end Sys2Proof.Machine
end

section
/-! The device's own segment (R38, R273, R291 to R297): prepared at XI_SEND, verified, put into the outputs at XI_DEADLINE. -/

open Sys2Proof Sys2Proof.Machine
namespace Sys2Proof.Machine

section
variable {s t u : State} {n : ChanId} {k : BitVec 8} {g : SegIn} {d : Bool} {t0 len : Nat} {rest : List (SegIn × Bool)} {i : Fin 16}

/-! ### XI_SEND -/

/-- What XI_SEND prepares and counts. -/
def segmentPrepared (k : BitVec 8) (len : Nat) (s : State) : State :=
  { atSlot k s with
    net := { s.net with xiSent := true, repl := some (replSeg s len) }
    sec := if s.sec.bound.isSome then { s.sec with cycSend := s.sec.cycSend + 1 } else s.sec }

theorem exec_xiSend (hin : inService s = true) (hk : slotIs s k 6 = true) (hl : ownLen s s.cfg.active = some len) :
    exec (.xiSend k) s = .next (segmentPrepared k len s) := by
  refine congrArg Host.Outcome.next ((afterBoot_of_inService hin).trans ((if_pos hk).trans ?_))
  rw [hl]
  unfold segmentPrepared
  by_cases hb : s.sec.bound.isSome = true
  · rw [if_pos hb]
    exact if_pos hb
  · rw [if_neg hb]
    exact if_neg hb

/-- The replacement segment is addressed to the device's own position. -/
theorem replSeg_head : (replSeg s len).addr = s.sys.addr.setWidth 8 ∧ (replSeg s len).len = BitVec.ofNat 16 len ∧
    (replSeg s len).res = 0 := by
  unfold replSeg
  dsimp only
  split
  · exact ⟨rfl, rfl, rfl⟩
  · exact ⟨rfl, rfl, rfl⟩

theorem replSeg_nobind (hb : s.sec.bound = none) : (replSeg s len).flags = 5 ∧ (replSeg s len).seq = 0 ∧
    (replSeg s len).data = List.replicate len 0 ∧ (replSeg s len).tag = 0 := by
  unfold replSeg
  rw [hb]
  exact ⟨rfl, rfl, rfl, rfl⟩

theorem replSeg_sealed (hb : s.sec.bound = some i) : (replSeg s len).flags = 1 ∧ (replSeg s len).seq = s.sec.cycSend ∧
    (replSeg s len).tag = segTag s.sec.sess[i] 3 (replSeg s len) ∧ (replSeg s len).data =
      gcmText (sessKey s.sec.sess[i] 3) (nonceOf (sessIv s.sec.sess[i] 3) s.sec.cycSend) (inPlain s len) := by
  unfold replSeg
  rw [hb]
  exact ⟨rfl, rfl, rfl, rfl⟩

/-! ### XI_DEADLINE -/

/-- The frame misses its segment (R291). -/
def segmentLate (k : BitVec 8) (s : State) : State :=
  { atSlot k s with frm := { s.frm with xiLate := true, xiHeld := true }, net := { s.net with xiPast := true } }

theorem xiDeadline_late (hin : inService s = true) (hk : slotIs s k 7 = true) (hr : 0 < ringN s.cfg.active)
    (hv : s.net.verified = none) : ∃ t, exec (.xiDeadline k) s = .next t ∧
      t.frm = { s.frm with xiLate := true, xiHeld := true } ∧ Raised 65 0 s t ∧ t.pi = s.pi := by
  refine ⟨raise 65 0 (segmentLate k s), congrArg Host.Outcome.next ((afterBoot_of_inService hin).trans
    ((if_pos (by rw [hk, decide_eq_true hr]; rfl)).trans ?_)), raise_frm, raise_raised 65 0 (segmentLate k s) (by decide), raise_pi⟩
  rw [hv]
  rfl

/-- The step of `putSegment` for one channel and its word. -/
def putSegWord (s : State) (x : ChanId × W32) : State := if writerA s x.1 = 5 then putOut x.1 x.2 s else outOwner x.1 5 s

/-- A word that is put leaves what the frame and the network are and every other channel's output word. -/
theorem putSegWord_spec {x : ChanId × W32} : (putSegWord s x).cfg = s.cfg ∧ (putSegWord s x).net = s.net ∧
    (putSegWord s x).frm = s.frm ∧
    (∀ m, m ≠ x.1 → (putSegWord s x).pi.outw[m] = s.pi.outw[m]) ∧
    (putSegWord s x).pi.outw[x.1] = if writerA s x.1 = 5 then x.2 &&& 0xFFFFFF00 else s.pi.outw[x.1] := by
  unfold putSegWord
  by_cases hw : writerA s x.1 = 5
  · rw [if_pos hw, if_pos hw]
    exact ⟨rfl, rfl, rfl, fun m hm => Vector.getElem_set_ne x.1.isLt m.isLt fun h => hm (Fin.ext h.symm), Vector.getElem_set_self _⟩
  · rw [if_neg hw, if_neg hw]
    unfold outOwner
    rw [raise_pi]
    exact ⟨raise_cfg, raise_field fun _ => rfl, raise_frm, fun _ _ => rfl, rfl⟩

/-- The word that a channel's output has after a list of words has been put. -/
theorem foldl_putSegWord {l : List (ChanId × W32)} (hn : (l.map (·.1)).Nodup) :
    (l.foldl putSegWord s).net = s.net ∧ (l.foldl putSegWord s).frm = s.frm ∧ ∀ m, (l.foldl putSegWord s).pi.outw[m] =
      match l.find? fun x => decide (x.1 = m) with
      | some x => if writerA s m = 5 then x.2 &&& 0xFFFFFF00 else s.pi.outw[m]
      | none => s.pi.outw[m] := by
  induction l generalizing s with
  | nil => exact ⟨rfl, rfl, fun _ => rfl⟩
  | cons x l ih =>
    obtain ⟨hx, hl⟩ := List.nodup_cons.1 hn
    obtain ⟨hcfg, hnet, hfrm, hother, hself⟩ := putSegWord_spec (s := s) (x := x)
    obtain ⟨ihnet, ihfrm, ihw⟩ := ih (s := putSegWord s x) hl
    have hw : ∀ m, writerA (putSegWord s x) m = writerA s m := fun m => by
      unfold writerA chA act
      rw [hcfg]
    refine ⟨ihnet.trans hnet, ihfrm.trans hfrm, fun m => (ihw m).trans ?_⟩
    rw [hw]
    by_cases hm : x.1 = m
    · have hrest : (l.find? fun y => decide (y.1 = m)) = none := List.find?_eq_none.2 fun y hy => fun hd =>
        hx (List.mem_map.2 ⟨y, hy, (of_decide_eq_true hd).trans hm.symm⟩)
      rw [hrest, List.find?_cons_of_pos (by simpa using hm)]
      subst hm
      exact hself
    · rw [List.find?_cons_of_neg (by simpa using hm), hother m (Ne.symm hm)]

theorem mapped_nodup {c : CfgSet} {base : Nat} : (mapped c base).Nodup := (List.nodup_finRange 64).filter _

/-- The verified words go to their channels (R38). -/
def segmentDue (k : BitVec 8) (s : State) : State :=
  { atSlot k s with frm := { s.frm with xiHeld := false }, net := { s.net with verified := none, xiPast := true } }

theorem xiDeadline_puts {fr : BitVec 48} {words : List W32} (hin : inService s = true) (hk : slotIs s k 7 = true)
    (hr : 0 < ringN s.cfg.active) (hv : s.net.verified = some (fr, words))
    (hlen : words.length = (mapped s.cfg.active 0x0814).length) :
    ∃ t, exec (.xiDeadline k) s = .next t ∧ t.net = { s.net with verified := none, xiPast := true } ∧
      t.frm = { s.frm with xiHeld := false } ∧
      ∀ n : ChanId, t.pi.outw[n] = (match ((mapped s.cfg.active 0x0814).zip words).find? fun x => decide (x.1 = n) with
        | some x => if writerA s n = 5 then x.2 &&& 0xFFFFFF00 else s.pi.outw[n]
        | none => s.pi.outw[n]) := by
  have hn : (((mapped s.cfg.active 0x0814).zip words).map (·.1)).Nodup := by
    rw [List.map_fst_zip (by omega)]
    exact mapped_nodup
  obtain ⟨hnet, hfrm, hw⟩ := foldl_putSegWord (s := segmentDue k s) hn
  refine ⟨((mapped s.cfg.active 0x0814).zip words).foldl putSegWord (segmentDue k s), congrArg Host.Outcome.next
    ((afterBoot_of_inService hin).trans ((if_pos (by rw [hk, decide_eq_true hr]; rfl)).trans ?_)), hnet, hfrm, fun m => ?_⟩
  · rw [hv]
    rfl
  · rw [hw]
    rfl

/-! ### Verification (R295) -/

/-- The segment that waits first is taken. -/
def segmentTaken (t0 : Nat) (rest : List (SegIn × Bool)) (s : State) : State :=
  { s with now := max s.now t0, net := { s.net with verifyQ := rest } }

theorem exec_segmentVerified_other (hin : inService s = true) (hq : s.net.verifyQ.head? ≠ some (g, d)) :
    exec (.segmentVerified g d t0) s = .next s := by
  refine congrArg Host.Outcome.next ((afterBoot_of_inService hin).trans ?_)
  cases hv : s.net.verifyQ with
  | nil => rfl
  | cons x rest =>
    refine if_neg ?_
    rintro rfl
    exact hq (by rw [hv]; rfl)

theorem exec_segmentVerified (hin : inService s = true) (hq : s.net.verifyQ = (g, d) :: rest) :
    exec (.segmentVerified g d t0) s = .next (verifySeg g d (segmentTaken t0 rest s)) := by
  refine congrArg Host.Outcome.next ((afterBoot_of_inService hin).trans ?_)
  rw [hq]
  exact if_pos rfl

/-- A refused segment leaves the queue and changes what a refusal changes. -/
theorem refuse_taken {c : Byte} : (refuse ifSeg c (segmentTaken t0 rest s)).net = { s.net with verifyQ := rest } ∧
    RefusalOnly s { refuse ifSeg c (segmentTaken t0 rest s) with net := s.net } ifSeg c := by
  have ha : apartFromRefusals (refuse ifSeg c (segmentTaken t0 rest s)) = apartFromRefusals (segmentTaken t0 rest s) :=
    refuse_apart
  have hr : Refused (segmentTaken t0 rest s) (refuse ifSeg c (segmentTaken t0 rest s)) ifSeg c := refuse_refused
  generalize refuse ifSeg c (segmentTaken t0 rest s) = v at ha hr
  exact ⟨(congrArg State.net ha :), refusalOnly_of_apart hr (congrArg (fun x : State => { x with net := s.net }) ha :)⟩

/-- A segment that passes gives its words and its number to the running frame. -/
def segmentPassed (g : SegIn) (d : Bool) (i : Fin 16) (s : State) : State :=
  modSess { s with
    sec := { s.sec with boundSeq := some g.seq }
    net := { s.net with
      xiDone := true, dir := if s.net.xiDone then s.net.dir else d
      verified := some (s.frm.no, plainWords (mapped s.cfg.active 0x0814).length
        (gcmText (sessKey s.sec.sess[i] 2) (nonceOf (sessIv s.sec.sess[i] 2) g.seq) g.data)) } } i fun k => { k with lastT := s.now }

section
variable (hr : 0 < ringN s.cfg.active) (hp : s.net.xiPast = false)
include hr hp

theorem ringOpen_notPast : ¬ (decide (ringN s.cfg.active = 0) || s.net.xiPast) = true := by
  rw [hp, decide_eq_false (Nat.pos_iff_ne_zero.1 hr)]
  exact Bool.false_ne_true

theorem verifySeg_unbound (hb : s.sec.bound = none) : verifySeg g d s = refuse ifSeg cTag s := by
  unfold verifySeg
  rw [if_neg (ringOpen_notPast hr hp), hb]

theorem verifySeg_wrongTag (hb : s.sec.bound = some i) (ht : g.tag ≠ segTag s.sec.sess[i] 2 g) :
    verifySeg g d s = refuse ifSeg cTag s := by
  unfold verifySeg
  rw [if_neg (ringOpen_notPast hr hp), hb]
  exact if_pos ht

theorem verifySeg_copy (hb : s.sec.bound = some i) (ht : g.tag = segTag s.sec.sess[i] 2 g) (hd : s.net.xiDone = true)
    (hs : s.sec.boundSeq = some g.seq) : verifySeg g d s = s := by
  unfold verifySeg
  rw [if_neg (ringOpen_notPast hr hp), hb]
  exact (if_neg (fun h => h ht)).trans (if_pos (by rw [hd, hs]; simp))

theorem verifySeg_replay {h : BitVec 64} (hb : s.sec.bound = some i) (ht : g.tag = segTag s.sec.sess[i] 2 g)
    (hs : s.sec.boundSeq = some h) (hle : g.seq ≤ h) (hn : s.net.xiDone = false ∨ g.seq ≠ h) :
    verifySeg g d s = refuse ifSeg cReplay s := by
  unfold verifySeg
  rw [if_neg (ringOpen_notPast hr hp), hb]
  refine (if_neg (fun h => h ht)).trans ((if_neg ?_).trans (if_pos ?_))
  · rw [hs]
    simp only [Bool.and_eq_true, decide_eq_true_eq, Option.some.injEq, not_and]
    exact fun hd he => hn.elim (fun hf => by rw [hf] at hd; cases hd) (fun hne => hne he.symm)
  · rw [hs]
    exact decide_eq_true hle

theorem verifySeg_passes (hb : s.sec.bound = some i) (ht : g.tag = segTag s.sec.sess[i] 2 g)
    (hs : ∀ h, s.sec.boundSeq = some h → h < g.seq) : verifySeg g d s = segmentPassed g d i s := by
  unfold verifySeg
  rw [if_neg (ringOpen_notPast hr hp), hb]
  refine (if_neg (fun h => h ht)).trans ((if_neg ?_).trans (if_neg ?_))
  · simp only [Bool.and_eq_true, decide_eq_true_eq, not_and]
    exact fun _ he => absurd (hs _ he) (BitVec.lt_irrefl _)
  · cases hq : s.sec.boundSeq with
    | none => exact Bool.false_ne_true
    | some h =>
      have := hs h hq
      simpa using this

end

theorem verifySeg_past (h : ringN s.cfg.active = 0 ∨ s.net.xiPast = true) : verifySeg g d s = s := by
  refine if_pos ?_
  simpa only [Bool.or_eq_true, decide_eq_true_eq] using h

theorem plainWords_length {m : Nat} {l : List Byte} : (plainWords m l).length = m := by
  induction m generalizing l with
  | zero => rfl
  | succ m ih => exact congrArg (· + 1) ih

theorem plainWords_getElem? {m j : Nat} {l : List Byte} (h : j < m) :
    (plainWords m l)[j]? = some (BitVec.ofNat 32 (ofBe ((l.drop (4 * j)).take 4))) := by
  induction m generalizing l j with
  | zero => omega
  | succ m ih =>
    cases j with
    | zero => rfl
    | succ j =>
      have := ih (l := l.drop 4) (Nat.lt_of_succ_lt_succ h)
      rw [List.drop_drop, show 4 + 4 * j = 4 * (j + 1) by omega] at this
      exact this

end
end Sys2Proof.Machine
end

section
/-! The summation train (R290, R292, R295, R296, R298 to R300): carriages of the ring, the feed, the launch, the return, the
opening and the closing of the ring. -/

open Sys2Proof Sys2Proof.Machine
namespace Sys2Proof.Machine

section
variable {s t u : State} {p q : PortId} {x y : Carriage} {g r : SegIn} {k t0 : Nat} {c : CfgSet} {dir2 : Bool} {l : List Carriage}
  {fr : BitVec 48}

theorem tapCopy_of_off {b : Tapped} (ht : tapOn s = false) : tapCopy p b s = s := by
  unfold tapCopy
  rw [ht]
  rfl

/-! ### A carriage on the ring (R295, R296, R299) -/

/-- A carriage of the ring, and its own segment, are what the ring table gives for the device. -/
def CarriageFits (s : State) (x : Carriage) : Prop :=
  ringMatch s.cfg.active x = true ∧ ∀ k, ownIdx s s.cfg.active x = some k →
    ∃ g, x.segs[k]? = some g ∧ segFits s s.cfg.active g = true

theorem substitute_own (hf : CarriageFits s x) (hk : ownIdx s s.cfg.active x = some k) (hg : x.segs[k]? = some g) :
    substitute s s.cfg.active x =
      some (match s.net.repl with | some r => { x with segs := x.segs.set k r } | none => x, some g) := by
  obtain ⟨hm, hall⟩ := hf
  obtain ⟨g', hg', hfit⟩ := hall k hk
  cases hg.symm.trans hg'
  unfold substitute
  simp only [hm, hk, hg, hfit, Bool.not_true, Bool.false_eq_true, if_false] <;> rfl

theorem substitute_none_own (hf : CarriageFits s x) (hk : ownIdx s s.cfg.active x = none) :
    substitute s s.cfg.active x = some (x, none) := by
  unfold substitute
  rw [hf.1, hk]
  rfl

theorem substitute_misfit (hf : ¬ CarriageFits s x) : substitute s s.cfg.active x = none := by
  unfold substitute
  cases hm : ringMatch s.cfg.active x with
  | false => rfl
  | true =>
    rw [Bool.not_true, if_neg Bool.false_ne_true]
    cases hk : ownIdx s s.cfg.active x with
    | none => exact absurd ⟨hm, fun k h => by rw [hk] at h; cases h⟩ hf
    | some k =>
      dsimp only
      cases hg : x.segs[k]? with
      | none => rfl
      | some g =>
        refine if_pos ?_
        cases hs : segFits s s.cfg.active g with
        | false => rw [Bool.not_false]
        | true => exact absurd ⟨hm, fun j h => by rw [hk] at h; cases h; exact ⟨g, hg, hs⟩⟩ hf

/-- What fits is substituted. -/
theorem substitute_fits (hf : CarriageFits s x) : ∃ y h, substitute s s.cfg.active x = some (y, h) := by
  cases hk : ownIdx s s.cfg.active x with
  | none => exact ⟨_, _, substitute_none_own hf hk⟩
  | some k =>
    obtain ⟨g, hg, -⟩ := hf.2 k hk
    exact ⟨_, _, substitute_own hf hk hg⟩

theorem ringSet_running (h : x.frm = s.frm.no) : ringSet s x = some s.cfg.active := if_pos h

theorem ringSet_other (h1 : x.frm ≠ s.frm.no) (h2 : x.frm ≠ s.frm.prev) : ringSet s x = none := (if_neg h1).trans (if_neg h2)

theorem passOn_other (hpq : (p = 0 ∧ q = 1) ∨ (p = 1 ∧ q = 0)) (hq : portUp s q = true) (hfcs : x.fcsOk = true) :
    passOn p c x s = { s with sent := .carriage q (carriageBytes x) true :: s.sent } := by
  have hsend : sendCar q x s = { s with sent := .carriage q (carriageBytes x) true :: s.sent } := by
    unfold sendCar
    rw [hfcs]
  obtain ⟨rfl, rfl⟩ | ⟨rfl, rfl⟩ := hpq
  · exact (if_pos hq).trans hsend
  · exact (if_pos hq).trans hsend

/-- What the device does with a carriage of an intact ring: the ring table's answer decides. -/
def carriageHandled (p : PortId) (x : Carriage) (s : State) : State :=
  let c := (ringSet s x).getD s.cfg.active
  match (ringSet s x).bind fun c => substitute s c x with
  | none => passOn p c x (segError s)
  | some (y, g) => if ringOrig c then comeBack x (ownSeg c x g s) else passOn p c y (ownSeg c x g s)

theorem exec_carriageRx (hin : inService s = true) (hnet : netUp s = true) (ht : tapOn s = false)
    (hp : p = 0 ∨ p = 1) (hup : portUp s p = true) (hc : isCarriage s x = true) (hfl : x.flags &&& 6 = 0) (hfcs : x.fcsOk = true)
    (hr : ringN ((ringSet s x).getD s.cfg.active) ≠ 0) : exec (.carriageRx p x false) s = .next (carriageHandled p x s) := by
  have h2 : p ≠ 2 := by
    obtain rfl | rfl := hp
    · decide
    · decide
  refine congrArg Host.Outcome.next ((afterBoot_of_inService hin).trans ((if_neg ?_).trans ?_))
  · rintro (h | h | h | h | h | h)
    · exact h2 h
    · rw [hup] at h; cases h
    · rw [hnet] at h; cases h
    · exact hr h
    · rw [hc] at h; cases h
    · exact h hfl
  · dsimp only
    rw [if_neg Bool.false_ne_true, tapCopy_of_off ht, if_pos hfcs]
    rfl

section
variable (hin : inService s = true) (hnet : netUp s = true) (hn : 0 < ringN s.cfg.active) (ht : tapOn s = false)
  (hpq : (p = 0 ∧ q = 1) ∨ (p = 1 ∧ q = 0)) (hp : portUp s p = true) (hq : portUp s q = true) (hc : isCarriage s x = true)
  (hfl : x.flags &&& 6 = 0) (hfcs : x.fcsOk = true)
include hin hnet hn ht hpq hp hc hfl hfcs

theorem carriageRx_running (hf : x.frm = s.frm.no) : exec (.carriageRx p x false) s = .next (carriageHandled p x s) :=
  exec_carriageRx hin hnet ht (hpq.imp And.left And.left) hp hc hfl hfcs (by rw [ringSet_running hf]; exact hn.ne')

include hq

theorem carriageRx_replaces (ho : ringOrig s.cfg.active = false) (hf : x.frm = s.frm.no) (hfit : CarriageFits s x)
    (hk : ownIdx s s.cfg.active x = some k) (hg : x.segs[k]? = some g) (hr : s.net.repl = some r) :
    exec (.carriageRx p x false) s = .next { s with
      sent := .carriage q (carriageBytes { x with segs := x.segs.set k r }) true :: s.sent
      net := { s.net with verifyQ := s.net.verifyQ ++ (if g.flags.getLsbD 1 then [] else [(g, x.flags.getLsbD 0)]) } } := by
  rw [carriageRx_running hin hnet hn ht hpq hp hc hfl hfcs hf]
  refine congrArg Host.Outcome.next ?_
  have hsub := substitute_own hfit hk hg
  rw [hr] at hsub
  unfold carriageHandled
  rw [ringSet_running hf]
  dsimp only [Option.bind_some, Option.getD_some]
  rw [hsub]
  dsimp only
  rw [ho, if_neg Bool.false_ne_true]
  have hown : ownSeg s.cfg.active x (some g) s = { s with
      net := { s.net with verifyQ := s.net.verifyQ ++ (if g.flags.getLsbD 1 then [] else [(g, x.flags.getLsbD 0)]) } } := by
    unfold ownSeg
    dsimp only
    rw [if_pos hfcs, ho, Bool.false_or]
    by_cases hnull : g.flags.getLsbD 1 = true
    · rw [if_pos hnull, if_pos hnull, List.append_nil]
    · rw [if_neg hnull, if_neg hnull]
  rw [hown]
  exact passOn_other hpq hq hfcs

theorem carriageRx_passes (ho : ringOrig s.cfg.active = false) (hf : x.frm = s.frm.no) (hfit : CarriageFits s x)
    (hk : ownIdx s s.cfg.active x = none) :
    exec (.carriageRx p x false) s = .next { s with sent := .carriage q (carriageBytes x) true :: s.sent } := by
  rw [carriageRx_running hin hnet hn ht hpq hp hc hfl hfcs hf]
  refine congrArg Host.Outcome.next ?_
  unfold carriageHandled
  rw [ringSet_running hf]
  dsimp only [Option.bind_some, Option.getD_some]
  rw [substitute_none_own hfit hk]
  dsimp only
  rw [ho, if_neg Bool.false_ne_true]
  exact passOn_other hpq hq hfcs

theorem carriageRx_counts (h : (x.frm ≠ s.frm.no ∧ x.frm ≠ s.frm.prev) ∨ (x.frm = s.frm.no ∧ ¬ CarriageFits s x)) :
    exec (.carriageRx p x false) s =
      .next { s with net := { s.net with segErr := inc16 s.net.segErr }, sent := .carriage q (carriageBytes x) true :: s.sent } := by
  have hset : (ringSet s x).getD s.cfg.active = s.cfg.active ∧ ((ringSet s x).bind fun c => substitute s c x) = none := by
    obtain ⟨h1, h2⟩ | ⟨h1, h2⟩ := h
    · rw [ringSet_other h1 h2]
      exact ⟨rfl, rfl⟩
    · rw [ringSet_running h1]
      exact ⟨rfl, substitute_misfit h2⟩
  obtain ⟨hc1, hc2⟩ := hset
  rw [exec_carriageRx hin hnet ht (hpq.imp And.left And.left) hp hc hfl hfcs (by rw [hc1]; exact hn.ne')]
  refine congrArg Host.Outcome.next ?_
  unfold carriageHandled
  rw [hc2]
  exact passOn_other (s := segError s) hpq hq hfcs

omit hq

theorem carriageRx_comesBack (ho : ringOrig s.cfg.active = true) (hf : x.frm = s.frm.no) (hfit : CarriageFits s x)
    (hout : s.net.out = true) (hl : s.net.launched.map (·.1) = some x.frm) :
    exec (.carriageRx p x false) s = .next { s with net := { s.net with ret := s.net.ret ++ [x] } } := by
  rw [carriageRx_running hin hnet hn ht hpq hp hc hfl hfcs hf]
  refine congrArg Host.Outcome.next ?_
  obtain ⟨y, h, hsub⟩ := substitute_fits hfit
  have hown : ownSeg s.cfg.active x h s = s := by
    unfold ownSeg
    cases h with
    | none => rfl
    | some g =>
      dsimp only
      rw [if_pos hfcs, ho, Bool.true_or, if_pos rfl]
  unfold carriageHandled
  rw [ringSet_running hf]
  dsimp only [Option.bind_some, Option.getD_some]
  rw [hsub]
  dsimp only
  rw [ho, if_pos rfl, hown]
  exact if_pos (by rw [hfcs, hout, decide_eq_true hl]; rfl)

end

/-! ### The feed (R298) -/

/-- A feed carriage as the originator takes it. -/
def feedTaken (p : PortId) (x : Carriage) (s : State) : State :=
  if !feedFits s s.cfg.active x then segError s
  else if s.net.feed.any (fun y => y.frm = x.frm && y.cidx = x.cidx) ||
      !((x.frm = s.frm.no && !s.net.xiSent) || x.frm = s.frm.no + 1) then
    { s with net := { s.net with feedLate := true } }
  else { s with net := { s.net with
    feed := x :: s.net.feed, feedFrm := some s.frm.no, feedMac := x.sa, feedPort := p
    verifyQ := s.net.verifyQ ++ (if x.frm = s.frm.no then feedSegs x else []) } }

section
variable (hin : inService s = true) (hnet : netUp s = true) (hn : 0 < ringN s.cfg.active) (ht : tapOn s = false)
  (hp : portUp s p = true) (ho : ringOrig s.cfg.active = true) (hf : x.flags.getLsbD 1 = true) (hc : isCarriage s x = true)
  (hda : x.da = s.net.mac) (hfcs : x.fcsOk = true)
include hin hnet hn ht hp ho hf hc hda hfcs

theorem exec_feedRx : exec (.feedRx p x) s = .next (feedTaken p x s) := by
  have hdrop : tapDrops s p = false := by
    unfold tapDrops
    rw [ht, Bool.and_false]
  refine congrArg Host.Outcome.next ((afterBoot_of_inService hin).trans ((if_neg ?_).trans ?_))
  · rw [hnet, hp, hdrop]
    decide
  · dsimp only
    rw [tapCopy_of_off ht]
    refine (if_neg ?_).trans ((if_neg (by rw [hfcs]; exact Bool.false_ne_true)).trans rfl)
    rw [ho, hf, hc]
    rintro (h | h | h | h | h)
    · cases h
    · exact hn.ne' h
    · cases h
    · cases h
    · exact h hda

end

theorem feedTaken_misfit (h : feedFits s s.cfg.active x = false) :
    feedTaken p x s = { s with net := { s.net with segErr := inc16 s.net.segErr } } := by
  unfold feedTaken
  rw [h]
  rfl

/-- Whether a feed carriage is late or a repetition, as the model decides it. -/
theorem feedRefused_iff : (s.net.feed.any (fun y => y.frm = x.frm && y.cidx = x.cidx) ||
      !((x.frm = s.frm.no && !s.net.xiSent) || x.frm = s.frm.no + 1)) = true ↔
    ¬ ((x.frm = s.frm.no ∧ s.net.xiSent = false) ∨ x.frm = s.frm.no + 1) ∨
      ∃ y ∈ s.net.feed, y.frm = x.frm ∧ y.cidx = x.cidx := by
  rw [Bool.or_eq_true, Bool.not_eq_true', ← Bool.not_eq_true, Bool.or_eq_true, or_comm]
  simp only [Bool.and_eq_true, decide_eq_true_eq, Bool.not_eq_true', List.any_eq_true]

theorem feedTaken_accepts (hfit : feedFits s s.cfg.active x = true)
    (ht : (x.frm = s.frm.no ∧ s.net.xiSent = false) ∨ x.frm = s.frm.no + 1)
    (ha : ¬ ∃ y ∈ s.net.feed, y.frm = x.frm ∧ y.cidx = x.cidx) : feedTaken p x s = { s with net := { s.net with
      feed := x :: s.net.feed, feedFrm := some s.frm.no, feedMac := x.sa, feedPort := p
      verifyQ := s.net.verifyQ ++ (if x.frm = s.frm.no then feedSegs x else []) } } :=
  (if_neg (by rw [hfit]; exact Bool.false_ne_true)).trans (if_neg fun h => (feedRefused_iff.1 h).elim (fun h => h ht) ha)

theorem feedTaken_late (hfit : feedFits s s.cfg.active x = true)
    (h : ¬ ((x.frm = s.frm.no ∧ s.net.xiSent = false) ∨ x.frm = s.frm.no + 1) ∨
      ∃ y ∈ s.net.feed, y.frm = x.frm ∧ y.cidx = x.cidx) :
    feedTaken p x s = { s with net := { s.net with feedLate := true } } :=
  (if_neg (by rw [hfit]; exact Bool.false_ne_true)).trans (if_pos (feedRefused_iff.2 h))

/-! ### The launch and the return (R298, R300) -/

/-- Carriages that leave by a port leave in order. -/
theorem sendCars_eq {port : State → PortId} (hp : ∀ s m, port { s with sent := m } = port s) :
    l.foldl (fun s x => sendCar (port s) x s) s =
      { s with sent := (l.reverse.map fun x => Sent.carriage (port s) (carriageBytes x) x.fcsOk) ++ s.sent } := by
  induction l generalizing s with
  | nil => rfl
  | cons x l ih =>
    have hx : port (sendCar (port s) x s) = port s := hp _ _
    rw [List.foldl_cons, ih, hx, List.reverse_cons, List.map_append, List.append_assoc]
    rfl

/-- The return changes what is sent alone; without a recent feed it sends nothing. -/
theorem sendBack_eq : ∃ m, sendBack l s = { s with sent := m } ∧ (fedLately s = false → m = s.sent) := by
  unfold sendBack
  cases hf : fedLately s with
  | false => exact ⟨s.sent, rfl, fun _ => rfl⟩
  | true => exact ⟨_, (if_pos rfl).trans (sendCars_eq (port := fun s => s.net.feedPort) fun _ _ => rfl), fun h => nomatch h⟩

/-- The copy of the train in one direction, with its port, the latest sent first. -/
def trainCopy (dir2 : Bool) (s : State) : List (PortId × Carriage) :=
  (trainCars s dir2).reverse.map fun x => (if dir2 then 1 else 0, x)

/-- A carriage of a train, as it is sent. -/
def sentCar (c : PortId × Carriage) : Sent := .carriage c.1 (carriageBytes c.2) true

theorem mem_trainCopy {c : PortId × Carriage} (h : c ∈ trainCopy dir2 s) :
    ∃ k l, c = (if dir2 then 1 else 0, launchCar s dir2 k l) := by
  obtain ⟨x, hx, rfl⟩ := List.mem_map.1 h
  obtain ⟨k, -, rfl⟩ := List.mem_map.1 (List.mem_reverse.1 hx)
  exact ⟨_, _, rfl⟩

theorem trainCopy_length : (trainCopy dir2 s).length = (carriages s.cfg.active).length := by
  unfold trainCopy trainCars
  rw [List.length_map, List.length_reverse, List.length_map, List.length_range]

theorem sendTrain_eq : sendTrain dir2 s = { s with sent := (trainCopy dir2 s).map sentCar ++ s.sent } := by
  refine (sendCars_eq (port := fun _ => if dir2 then 1 else 0) fun _ _ => rfl).trans ?_
  have hmap : ((trainCars s dir2).reverse.map fun x => Sent.carriage (if dir2 then 1 else 0) (carriageBytes x) x.fcsOk) =
      (trainCopy dir2 s).map sentCar := by
    unfold trainCopy
    rw [List.map_map]
    refine List.map_congr_left fun x hx => ?_
    obtain ⟨k, -, rfl⟩ := List.mem_map.1 (List.mem_reverse.1 hx)
    rfl
  rw [hmap]

/-- The carriages that a launch sends round the ring. -/
def ringCars (s : State) : List (PortId × Carriage) :=
  if 2 ≤ ringN s.cfg.active then (if ringRed s.cfg.active then trainCopy true s else []) ++ trainCopy false s else []

theorem ringCars_length : (ringCars s).length =
    if 2 ≤ ringN s.cfg.active then (carriages s.cfg.active).length * (if ringRed s.cfg.active then 2 else 1) else 0 := by
  unfold ringCars
  split
  · rw [List.length_append, trainCopy_length]
    split
    · rw [trainCopy_length]
      omega
    · simp
  · rfl

/-- Every carriage of the train names the running frame and its own ring. -/
theorem ringCars_spec {c : PortId × Carriage} (h : c ∈ ringCars s) :
    ∃ d k l, c = (if d then 1 else 0, launchCar s d k l) ∧ (d = true → ringRed s.cfg.active = true) := by
  unfold ringCars at h
  split at h
  · obtain h | h := List.mem_append.1 h
    · split at h
      · obtain ⟨k, l, rfl⟩ := mem_trainCopy h
        exact ⟨true, k, l, rfl, fun _ => ‹_›⟩
      · cases h
    · obtain ⟨k, l, rfl⟩ := mem_trainCopy h
      exact ⟨false, k, l, rfl, fun hd => nomatch hd⟩
  · cases h

/-- Without a feed and without a segment of its own the originator launches NULL segments. -/
theorem launchCar_null {l : List Nat} (hfeed : s.net.feed = []) (hr : s.net.repl = none) (hg : g ∈ (launchCar s dir2 k l).segs) :
    g.flags = 2 := by
  unfold launchCar at hg
  rw [hfeed, hr] at hg
  obtain ⟨p, -, rfl⟩ := List.mem_map.1 hg
  rfl

/-- The originator's state once the train of the running frame is out. -/
def trainOut (s : State) : State :=
  { s with net := { s.net with
    launched := some (s.frm.no, trainCars s false), ret := [], out := decide (2 ≤ ringN s.cfg.active)
    launchRed := ringRed s.cfg.active, clearT := s.frm.tickT + ringClearNs s.cfg.active } }

theorem exec_trainLaunch (hin : inService s = true) (hnet : netUp s = true) (hn : 0 < ringN s.cfg.active)
    (ho : ringOrig s.cfg.active = true) (hl : s.net.launched.map (·.1) ≠ some s.frm.no) (hx : s.net.xiSent = true) :
    ∃ m, exec .trainLaunch s = .next { trainOut s with sent := m } ∧
      (2 ≤ ringN s.cfg.active ∨ fedLately s = false → m = (ringCars s).map sentCar ++ s.sent) := by
  have hgo : exec .trainLaunch s = .next (if ringN s.cfg.active = 1 then sendBack (trainCars s false) (trainOut s)
      else if ringRed s.cfg.active then sendTrain true (sendTrain false (trainOut s)) else sendTrain false (trainOut s)) := by
    refine congrArg Host.Outcome.next ((afterBoot_of_inService hin).trans (if_neg ?_))
    rw [hnet, ho, hx]
    rintro (h | h | h | h | h)
    · cases h
    · cases h
    · exact hn.ne' h
    · exact hl h
    · cases h
  have hfalse : sendTrain false (trainOut s) =
      { trainOut s with sent := (trainCopy false s).map sentCar ++ s.sent } := sendTrain_eq
  have htrue : sendTrain true { trainOut s with sent := (trainCopy false s).map sentCar ++ s.sent } =
      { trainOut s with sent := (trainCopy true s).map sentCar ++ ((trainCopy false s).map sentCar ++ s.sent) } := sendTrain_eq
  rw [hgo]
  by_cases h1 : ringN s.cfg.active = 1
  · obtain ⟨m, hm, hsent⟩ := sendBack_eq (l := trainCars s false) (s := trainOut s)
    refine ⟨m, congrArg _ ((if_pos h1).trans hm), fun h => ?_⟩
    unfold ringCars
    rw [if_neg (by omega)]
    exact hsent (h.resolve_left (by omega))
  · rw [if_neg h1]
    have hcars : ringCars s = (if ringRed s.cfg.active then trainCopy true s else []) ++ trainCopy false s := if_pos (by omega)
    rw [hcars, hfalse, htrue]
    cases hred : ringRed s.cfg.active with
    | true => exact ⟨_, congrArg _ (if_pos rfl), fun _ => by rw [if_pos rfl, List.map_append, List.append_assoc]⟩
    | false => exact ⟨_, congrArg _ (if_neg Bool.false_ne_true), fun _ => by rw [if_neg Bool.false_ne_true, List.nil_append]⟩

/-! ### The return, and the ring's opening and closing (R298, R299) -/

theorem exec_trainReturn_waits (hin : inService s = true) (hl : s.net.launched = some (fr, l))
    (h : s.net.out = false ∨ ((missing s false l.length || (s.net.launchRed && missing s true l.length)) = true ∧
      t0 < s.net.clearT)) : exec (.trainReturn t0) s = .next s := by
  refine congrArg Host.Outcome.next ((afterBoot_of_inService hin).trans ?_)
  rw [hl]
  refine if_pos ?_
  obtain h | ⟨h1, h2⟩ := h
  · rw [h]
    rfl
  · rw [h1, decide_eq_true h2, Bool.and_self, Bool.or_true]

theorem exec_trainReturn (hin : inService s = true) (hl : s.net.launched = some (fr, l)) (hout : s.net.out = true)
    (h : (missing s false l.length || (s.net.launchRed && missing s true l.length)) = false ∨ s.net.clearT ≤ t0) :
    ∃ m, (fedLately s = false → m = s.sent) ∧ exec (.trainReturn t0) s = .next { s with
      now := max s.now t0, sent := m, net := { s.net with
        out := false, ret := []
        missPort := if missing s false l.length then 0
          else if s.net.launchRed && missing s true l.length then 1 else s.net.missPort
        missRun := if missing s false l.length || (s.net.launchRed && missing s true l.length) then s.net.missRun + 1 else 0
        backRun := if missing s false l.length || (s.net.launchRed && missing s true l.length) then 0
          else s.net.backRun + 1 } } := by
  obtain ⟨m, hm, hsent⟩ := sendBack_eq (l := l) (s := atTime t0 s)
  refine ⟨m, hsent, congrArg Host.Outcome.next ((afterBoot_of_inService hin).trans ?_)⟩
  rw [hl]
  refine (if_neg ?_).trans ?_
  · rw [hout]
    obtain h | h := h
    · rw [h]
      exact Bool.false_ne_true
    · rw [decide_eq_false (Nat.not_lt.2 h), Bool.and_false]
      exact Bool.false_ne_true
  · dsimp only
    rw [hm]
    rfl

theorem ringOpen_opens (hin : inService s = true) (ho : ringOrig s.cfg.active = true) (hm : 3 ≤ s.net.missRun)
    (hr : s.net.noReturn = false) : ∃ t, exec (.ringOpen s.net.missPort) s = .next t ∧
      t.net = { s.net with noReturn := true, table := [] } ∧ Raised 119 (BitVec.ofNat 32 s.net.missPort.val) s t :=
  ⟨_, congrArg Host.Outcome.next ((afterBoot_of_inService hin).trans (if_pos (by
    rw [ho, decide_eq_true hm, hr, decide_eq_true rfl]; rfl))), raise_field fun _ => rfl, raise_raised 119 _ _ (by decide)⟩

theorem exec_ringOpen_other (hin : inService s = true) (h : s.net.missRun < 3 ∨ p ≠ s.net.missPort) :
    exec (.ringOpen p) s = .next s := by
  refine congrArg Host.Outcome.next ((afterBoot_of_inService hin).trans (if_neg ?_))
  simp only [Bool.and_eq_true, decide_eq_true_eq]
  rintro ⟨⟨⟨-, hm⟩, -⟩, hp⟩
  exact h.elim (fun h => Nat.not_le.2 h hm) (fun h => h hp)

theorem exec_ringClose (hin : inService s = true) (hb : 3 ≤ s.net.backRun) (hr : s.net.noReturn = true) :
    exec .ringClose s = .next { s with net := { s.net with noReturn := false } } :=
  congrArg Host.Outcome.next ((afterBoot_of_inService hin).trans (if_pos (by rw [decide_eq_true hb, hr]; rfl)))

theorem exec_ringClose_early (hin : inService s = true) (hb : s.net.backRun < 3) : exec .ringClose s = .next s :=
  congrArg Host.Outcome.next ((afterBoot_of_inService hin).trans (if_neg fun h =>
    absurd (of_decide_eq_true (Bool.and_eq_true_iff.1 h).1) (Nat.not_le.2 hb)))

end
end Sys2Proof.Machine
end

section
/-! The device's own segment and the summation train, as one statement. -/

open Sys2Proof Sys2Proof.Machine
namespace Sys2Proof.Machine

section
variable {s : State} {g : SegIn} {d : Bool} {t0 : Nat} {rest : List (SegIn × Bool)} {i : Fin 16} {h : BitVec 64}

/-- A segment is refused: it leaves the queue, and the refusal changes nothing else. -/
theorem segmentVerified_refuses {c : Byte} (hin : inService s = true) (hq : s.net.verifyQ = (g, d) :: rest)
    (hv : verifySeg g d (segmentTaken t0 rest s) = refuse ifSeg c (segmentTaken t0 rest s)) :
    ∃ t, exec (.segmentVerified g d t0) s = .next t ∧ t.net = { s.net with verifyQ := rest } ∧
      RefusalOnly s { t with net := s.net } ifSeg c := by
  obtain ⟨hnet, honly⟩ := refuse_taken (s := s) (t0 := t0) (rest := rest) (c := c)
  exact ⟨_, (exec_segmentVerified hin hq).trans (congrArg _ hv), hnet, honly⟩

/-- A segment that passes its tag with a new number (R273, R295). -/
theorem segmentVerified_passes (hin : inService s = true) (hq : s.net.verifyQ = (g, d) :: rest) (hr : 0 < ringN s.cfg.active)
    (hp : s.net.xiPast = false) (hb : s.sec.bound = some i) (ht : g.tag = segTag s.sec.sess[i] 2 g)
    (hs : ∀ h, s.sec.boundSeq = some h → h < g.seq) :
    ∃ t fr words, exec (.segmentVerified g d t0) s = .next t ∧ t.sec.boundSeq = some g.seq ∧ t.net.xiDone = true ∧
      t.net.verified = some (fr, words) ∧ fr = s.frm.no ∧ words.length = (mapped s.cfg.active 0x0814).length ∧
      (∀ k, k < words.length → words[k]? = some (BitVec.ofNat 32 (ofBe (((gcmText (sessKey s.sec.sess[i] 2)
        (nonceOf (sessIv s.sec.sess[i] 2) g.seq) g.data).drop (4 * k)).take 4)))) ∧
      t.sec.sess[i].lastT = max s.now t0 ∧ t.pi = s.pi ∧ t.evt = s.evt := by
  refine ⟨segmentPassed g d i (segmentTaken t0 rest s), s.frm.no, _, (exec_segmentVerified hin hq).trans
    (congrArg _ (verifySeg_passes hr hp hb ht hs)), rfl, rfl, rfl, rfl, plainWords_length,
    fun k hk => plainWords_getElem? (by rwa [plainWords_length] at hk), ?_, rfl, rfl⟩
  unfold segmentPassed
  rw [modSess_self]
  rfl

end

/-- Settles O53: the own segment in its three steps, and every command of the train. -/
theorem ownSegmentAndSummationTrain : Obligations.OwnSegmentAndSummationTrain := by
  unfold Obligations.OwnSegmentAndSummationTrain
  refine ⟨fun s k hin => ⟨fun hk len hl => ?_, fun hk hr => ⟨xiDeadline_late hin hk hr, fun fr words => xiDeadline_puts hin hk hr⟩,
    fun g d t0 => exec_segmentVerified_other hin, fun g d rest t0 hq => ⟨fun hp => ?_, fun hr hp => ⟨fun hb => ?_, fun i hb =>
      ⟨fun ht => ?_, fun ht hd hs => ?_, fun ht h hs hle hn => ?_, fun ht hs => ?_⟩⟩⟩⟩,
    fun s hin hnet hn ht => ⟨fun p q x hpq hp hq hc hfl hfcs => ⟨fun ho => ⟨?_, ?_⟩, ?_, ?_⟩, fun p x hp ho hf hc hda hfcs => ?_,
      fun ho hl hx => ?_, fun t0 fr l hl => ⟨exec_trainReturn_waits hin hl, fun hout h => ?_⟩,
      fun ho => ⟨ringOpen_opens hin ho, fun p => exec_ringOpen_other hin⟩, exec_ringClose hin, exec_ringClose_early hin⟩⟩
  · obtain ⟨h1, h2, h3⟩ := replSeg_head (s := s) (len := len)
    refine ⟨segmentPrepared k len s, replSeg s len, exec_xiSend hin hk hl, rfl, h1, h2, h3, fun hb => ?_, fun i hb => ?_⟩
    · obtain ⟨h4, h5, h6, h7⟩ := replSeg_nobind (len := len) hb
      exact ⟨h4, h5, h6, h7, if_neg (by rw [hb]; exact Bool.false_ne_true)⟩
    · obtain ⟨h4, h5, h6, h7⟩ := replSeg_sealed (len := len) hb
      exact ⟨h4, h5, h6, h7, if_pos (by rw [hb]; rfl)⟩
  · exact (exec_segmentVerified hin hq).trans (congrArg _ (verifySeg_past hp))
  · exact segmentVerified_refuses hin hq (verifySeg_unbound hr hp hb)
  · exact segmentVerified_refuses hin hq (verifySeg_wrongTag hr hp hb ht)
  · exact (exec_segmentVerified hin hq).trans (congrArg _ (verifySeg_copy hr hp hb ht hd hs))
  · exact segmentVerified_refuses hin hq (verifySeg_replay hr hp hb ht hs hle hn)
  · exact segmentVerified_passes hin hq hr hp hb ht hs
  · exact fun k g r hf hfit hk hg hr => carriageRx_replaces hin hnet hn ht hpq hp hq hc hfl hfcs ho hf hfit hk hg hr
  · exact fun hf hfit hk => carriageRx_passes hin hnet hn ht hpq hp hq hc hfl hfcs ho hf hfit hk
  · exact carriageRx_counts hin hnet hn ht hpq hp hq hc hfl hfcs
  · exact carriageRx_comesBack hin hnet hn ht hpq hp hc hfl hfcs
  · have he := exec_feedRx hin hnet hn ht hp ho hf hc hda hfcs
    exact ⟨fun h => he.trans (congrArg _ (feedTaken_misfit h)), fun hfit h1 h2 => he.trans (congrArg _ (feedTaken_accepts hfit h1 h2)),
      fun hfit h => he.trans (congrArg _ (feedTaken_late hfit h))⟩
  · obtain ⟨m, he, hsent⟩ := exec_trainLaunch hin hnet hn ho hl hx
    refine ⟨_, ringCars s, he, rfl, rfl, hsent, ringCars_length, fun c hc => ?_, fun hf hr c hc g hg => ?_⟩
    · obtain ⟨d, k, l, rfl, hd⟩ := ringCars_spec hc
      refine ⟨rfl, rfl, rfl, rfl, rfl, rfl, ?_⟩
      cases d with
      | false => exact .inl ⟨rfl, rfl⟩
      | true => exact .inr ⟨rfl, rfl, hd rfl⟩
    · obtain ⟨d, k, l, rfl, -⟩ := ringCars_spec hc
      exact launchCar_null hf hr hg
  · obtain ⟨m, hm, he⟩ := exec_trainReturn hin hl hout h
    exact ⟨_, he, hm, rfl⟩

end Sys2Proof.Machine
end
